-- ==== Sys2Proof/Word.lean ====
section
/-!
DEFINITION. The word types of the manual (bits of a register, of a field, of memory) and the shape of a sparse
table. Bit 0 is the least significant bit (R5); a word of n bits is `BitVec n`. Counts, identifiers, addresses
used as keys and exact integers are `Nat` or `Int`.
-/

namespace Sys2Proof

/-- One byte of memory, of the mailbox window or of a packet. -/
abbrev Byte := BitVec 8

/-- A 16-bit word: an S16 scale (R40), an int16 table entry (R32), an SID (R257). -/
abbrev W16 := BitVec 16

/-- A 32-bit word: a scalar, a vector lane, a slot word, a mailbox register. -/
abbrev W32 := BitVec 32

/-- A 64-bit word: a tile's code bits, a memory word, a sync object, a stream-queue word. -/
abbrev W64 := BitVec 64

/-- A sparse table of numbered things: strictly rising numbers, and no entry equal to what an unlisted number
holds (each table's own default, named where it is read and written). -/
abbrev Tab (α : Type) := List (Nat × α)

end Sys2Proof
end

