-- ==== Sys2Proof/Config.lean ====
section
/-!
DEFINITION. What the manual fixes for a module, what it leaves open (uninterpreted constants with no body), and the
plain data an event brings from outside the module (a frame on a wire, an arriving operation, a sensor's reading).
-/

namespace Sys2Proof

/-! ### What the manual leaves open: no body, so nothing can be proved of a value -/

/-- The labels of the three keys derived from the device secret (R408). -/
inductive KeyLabel where
  | identity | hss | rpmb
deriving DecidableEq, Repr

namespace Config

/-- A value the manual calls undefined, or for which it states no result: the model applies it to the free-value
counter of `State`, which every use advances (notes/assumptions/8). -/
opaque freeValue : Nat → BitVec 64

/-- The t of R29 where the gap between the two neighbouring grid values rounds to zero, so that p has no floor and the manual
states no t: a function of what R29 names, the compared value and the two neighbours (each as a + b√2, over a common
denominator), so that the same inputs choose the same code (R133; notes/assumptions/27). -/
opaque stochasticT : Nat → Int × Int → Int × Int → Int × Int → Nat

/-- The module's serial number, written at manufacture (Table 11-5 SERIAL: "Fixed"); the manual names no value
(notes/assumptions/13). -/
opaque serial : BitVec 64

/-- SHA-384 (R403, R411, R413) of a byte string, 48 bytes as a number: the manual names the standard and states no
bytes (notes/assumptions/10). -/
opaque sha384 : List Byte → BitVec 384

/-- SHA-256 (R413) of a byte string (notes/assumptions/10). -/
opaque sha256 : List Byte → BitVec 256

/-- Whether (r, s) verifies a digest under the public key (X, Y) on P-384 (R404, FIPS 186-5; notes/assumptions/10). -/
opaque p384Verify : Nat × Nat → BitVec 384 → Nat × Nat → Bool

/-- The public key (X, Y) of a private scalar on P-384 (R404, R408; notes/assumptions/10). -/
opaque p384Public : Nat → Nat × Nat

/-- The signature (r, s) of a digest under a private scalar: its nonce follows RFC 6979, so it is a function of the two (R408). -/
opaque p384Sign : Nat → BitVec 384 → Nat × Nat

/-- Whether one LMS signature verifies a message under the identifier and root of a tree (R404, RFC 8554): I, T[1], the leaf q,
the LM-OTS part C, y and the path (notes/assumptions/10). -/
opaque lmsVerify : List Byte → Nat → List Byte → List Byte → List Byte → Bool

/-- The identifier I and root T[1] of an LMS tree (48 bytes), from the HSS seed: the level and the tree's number in it (R408). -/
opaque lmsTree : List Byte → Nat → Nat → List Byte

/-- What an LMS leaf signs a message with (R410): from the HSS seed, the level, the tree, the leaf and the message; the LM-OTS
part C, y (2,176 bytes) and the path (320 bytes). Its randomiser comes from the device secret, so it is a function of them. -/
opaque lmsSign : List Byte → Nat → Nat → Nat → List Byte → List Byte × List Byte

/-- The helper data of the silicon PUF, written to eMMC at manufacture (R408), and the device secret it reconstructs. -/
opaque helperData : List Byte
opaque pufSecret : List Byte → BitVec 256

/-- HKDF-SHA-384 of the device secret under a label (R408): so many bytes. The spec gives no label's bytes. -/
opaque hkdf : BitVec 256 → KeyLabel → Nat → List Byte

/-- The tag that an authenticated RPMB write carries under a key (R406). -/
opaque rpmbTag : List Byte → List Byte → List Byte

/-- The Kazrik firmware keys the boot ROM holds (R403): a P-384 public key, and an HSS public key of 60 bytes. -/
opaque firmwareEcdsa : Nat × Nat
opaque firmwareHss : List Byte

/-- What a certificate of an index holds that only its issuer and the manufacture settle (R409, Table 20-5): NOT_BEFORE, the
subject's keys (156 bytes), and the issuer's two signatures of its first 256 bytes (5,172 bytes). -/
opaque certNotBefore : Nat → Nat
opaque certKeys : Nat → List Byte
opaque certSignatures : Nat → List Byte → List Byte

/-- The entropy decoding and inverse transform of one restart interval of a JPEG scan (Table 9-2 names the JPEG standard,
which fixes no exact inverse transform; notes/assumptions/11). From the quantisation tables, the Huffman tables (DC 0 and 1,
AC 2 and 3), each component's sampling factors and table numbers, the MCUs the interval holds and its bytes: the MCUs decoded
before the first error, each a list of blocks of 64 samples. -/
opaque jpegBlocks : List (Nat × List Byte) → List (Nat × List Byte) → List ((Nat × Nat × Nat) × (Nat × Nat)) → Nat →
  List Byte → List (List (List Byte))

/-- Whether the JPEG stream of a number has three channels, not one (Table 9-1: "1 or 3"): R204 and R206 need the count
before a frame's header is parsed, and Table 9-6 has no field for it (notes/assumptions/11). -/
opaque jpegThree : Nat → Bool

/-- The 64-bit signature the golden tile leaves on an engine without a fault (R377): the manual gives no value. -/
opaque goldenSignature : Nat → BitVec 64

/-- How long a write of the ageing log takes in eMMC (2⁻⁶⁴ ns), which the spec does not say (R354, notes/assumptions/83). -/
opaque logWriteTime : Nat

/-- The check code of a CSI-2 packet header (R327: "as the standard requires"; notes/assumptions/79): the PHY, virtual channel,
data type and word count. -/
opaque csiHeaderCheck : Nat → Nat → Nat → Nat → Nat

/-- The highest interface minor version Gragor offers (Table 11-5 MAX_MINOR: "0 or above"). -/
opaque maxMinor : BitVec 8

/-- The fixed set points, in mV, of the domains that are neither a core's nor a store quadrant's (R357): the manual names
no values. -/
opaque setPoint : Nat → BitVec 16

/-- The IDENT.PART codes of Table 11-5. -/
def part2048 : Nat := 0x01
/-- The IDENT.PART code of a CY-1536M. -/
def part1536 : Nat := 0x02

/-- The version this interface has (Table 11-5 IF_VERSION.MAJOR). -/
def ifMajor : Nat := 1

end Config

/-! ### Plain data that an event brings from outside -/

/-- The four slots of a bundle (R77). -/
inductive Slot where
  | control | move | mac | vector
deriving DecidableEq, Repr

/-- The path a write to the mailbox window takes (R241). -/
inductive Path where
  | pcie | i3c
deriving DecidableEq, Repr

/-- A remote operation that arrives from a peer module through a runner (R124, R332). -/
structure PeerOp where
  runner : Nat
  module : Nat
  context : Nat
  window : Nat
  offset : Nat
  kind : Nat
  aop : Nat
  length : Nat
  rsync : Nat
  amount : BitVec 64
  operand : BitVec 64
  compare : BitVec 64
  data : List Byte
  /-- One flag for each 8-byte word of `data`: the word is poisoned. -/
  poison : List Bool
deriving DecidableEq, Repr

/-- A packet at a CSI-2 receive port (R191 to R193). -/
structure CsiPacket where
  /-- 0 good, 1 one header bit in error (corrected), 2 uncorrectable header -/
  ecc : Nat
  /-- VCX × 4 + VC -/
  vc : Nat
  dtype : Nat
  /-- a long packet (a payload) or a short one -/
  long : Bool
  crcOk : Bool
  payload : List Byte
  /-- the line buffer had no room for this line (R194) -/
  overflow : Bool
deriving DecidableEq, Repr

/-- What ends a group of a core's data mover: the status, the data and the poison that a peer returned (R69, R122). -/
structure GroupReport where
  /-- The core. -/
  core : Fin 32
  /-- The status of Table 5-8. -/
  status : Nat
  /-- The bytes of the responses. -/
  data : List Byte
  /-- The poison bit of each of their words. -/
  poison : List Bool
  deriving DecidableEq, Repr

/-- What the host writes when it unmasks a vector: the vector, and the message of its table entry (R317). -/
structure MsixEntry where
  /-- The vector. -/
  vector : Nat
  /-- The address of its message. -/
  addr : W64
  /-- The data of its message. -/
  data : W32
  deriving DecidableEq, Repr

/-- A frame on a CAN bus (Table 14-5), as it becomes valid (R305), with how long ago it began (R311). -/
structure CanFrame where
  id : BitVec 29
  ide : Bool
  fdf : Bool
  brs : Bool
  esi : Bool
  remote : Bool
  data : List Byte
  /-- time since its start-of-frame edge on RXD, in units of 0.5 ns -/
  age : Nat
  /-- an overload condition of ISO 11898-1 follows it on the bus, which this controller detects (Table 14-2) -/
  overload : Bool := false
deriving DecidableEq, Repr

/-- A frame received at an Ethernet port, without its FCS (R292, R296). -/
structure EthFrame where
  bytes : List Byte
  /-- the frame check sequence that follows them -/
  fcs : BitVec 32
  /-- time since the end of its start-of-frame delimiter, in units of 0.5 ns -/
  age : Nat
deriving DecidableEq, Repr

/-- What the selected timing profile makes of a received message or of an interval (R287 defers the best master
clock algorithm, the port states and the delay computations to the profile): the outcome, brought by the event. -/
structure PtpOutcome where
  /-- an offsetFromMaster measurement, before the port's delayAsymmetry: the offset and the interval since the last, in
  2⁻⁶⁴ ns -/
  offset : Option (Int × Nat)
  /-- the port states afterwards: 0 disabled, 1 master, 2 slave, 3 passive -/
  roles : List Nat
  /-- the grandmaster clockIdentity afterwards -/
  gm : BitVec 64
  /-- the timing messages the instance now sends, each with its port -/
  send : List (Nat × List Byte)
deriving DecidableEq, Repr

/-- A packet of another module at a runner ingress or in transit: where it goes and how many runners it has crossed (R332). -/
structure TransitPacket where
  dest : Nat
  crossed : Nat
  /-- the operation it carries; none for a response -/
  op : Option PeerOp
deriving DecidableEq, Repr

/-- A packet of an operation of this module, or of a mover's row, for another module (R126, R332): the number of its operation or
group, which of its packets it is, where it goes, how many runners it has crossed with the one it leaves on, and what it
carries: the operation's fields, and in `data` and `poison` this packet's part of its bytes. -/
structure OutPacket where
  op : Nat
  part : Nat
  dest : Nat
  crossed : Nat
  body : PeerOp
deriving DecidableEq, Repr

/-- A packet on a runner (R331, R332, R395, R126): every kind is numbered, kept for the replay and sent again alike. -/
inductive LinkPacket where
  /-- of this module's own operations and mover rows -/
  | own (p : OutPacket)
  /-- in transit, with its new count -/
  | transit (p : TransitPacket)
  /-- the response to a peer's operation: its destination and count, status, data and the poison of each word -/
  | reply (dest crossed status : Nat) (data : List Byte) (poison : List Bool)
  /-- a fabric-abort notice -/
  | notice (origin g seq : Nat)
  /-- the reply to one, with its origin as destination, its count, and the notice's number -/
  | noticeReply (dest crossed seq : Nat)
  /-- credits that return to the peer: the context, 64 for Gragor's own, and how many -/
  | credit (ctx n : Nat)
deriving DecidableEq, Repr

/-- The CRC of a runner packet with its sequence number (R331 names no polynomial). -/
opaque Config.linkCrc : Nat → LinkPacket → BitVec 32

/-- A packet as it arrives at a runner (R331, R332): its sequence number, whether its CRC is right, what it is, and whether it
stays in its ingress for now because its way on inside the module does not move (R388). -/
structure LinkArrival where
  seq : Nat
  crcOk : Bool
  packet : TransitPacket
  waits : Bool := false
deriving DecidableEq, Repr

/-- A failure the sender learns of (R331): the packet of a sequence number failed its CRC, or (silent) its acknowledgement is
missing after 1 µs. -/
structure LinkRetry where
  seq : Nat
  silent : Bool
deriving DecidableEq, Repr

/-- A packet that waits at a partition bridge, or is inside a partition (R388, R393): of an operation, by its number; of the
mover of a core; one in the transit buffers of a runner's ingress, by its place; of the stream-queue manager. -/
inductive FabricPacket where
  | op (id : Nat)
  | mover (core : Nat)
  | transit (runner i : Nat)
  | sqm
deriving DecidableEq, Repr

/-- What a context reset's drain finds (R390): its context, and the partitions at or in which operations of it are held or lost. -/
structure DrainCheck where
  ctx : Nat
  into : List Nat
deriving DecidableEq, Repr

/-- What a start-up meets outside the module's state (R401, R426): the straps as they are sampled, and the check of Table 20-4
that fails for what the module does not hold, if one does (0 none, 1 the eMMC image cannot be read, 7 RPMB, 8 PUF). -/
structure BootInput where
  profile : Nat
  bootSrc : Nat
  moduleId : Nat
  fail : Nat
deriving DecidableEq, Repr

end Sys2Proof
end

