-- ==== Sys2Proof/Syntax.lean ====
section
/-!
DEFINITION. The commands of the module: one constructor for each row of spec/opcode_table.json, named after its
mnemonic. An engine's slot rows carry the core, the engine and the 32-bit slot word (chapter 4); a mailbox command
carries the mailbox whose REQUEST holds it (Table 11-3); an event carries the unit it happens to and what it brings
from outside.
-/

namespace Sys2Proof

/-- The commands, in the order of the table. -/
inductive Instr where
  /-- NOP (R80): A slot word with opcode 0x00 issues in its bundle and does nothing. -/
  | nop (slot : Slot) (c : Fin 32) (e : Fin 64)
  /-- BR (R81): Branch to the target when the condition holds on Sa and Sb, otherwise continue at the next bundle. -/
  | br (c : Fin 32) (e : Fin 64) (w : W32)
  /-- DJNZ (R80): Decrement Sd and branch when the new value is not zero. -/
  | djnz (c : Fin 32) (e : Fin 64) (w : W32)
  /-- SADDI (R80): Sd takes Sa plus the sign-extended immediate. -/
  | saddi (c : Fin 32) (e : Fin 64) (w : W32)
  /-- SLUI (R80): Sd takes the immediate shifted into the upper half. -/
  | slui (c : Fin 32) (e : Fin 64) (w : W32)
  /-- SORI (R80): Sd takes Sa ORed with the zero-extended immediate. -/
  | sori (c : Fin 32) (e : Fin 64) (w : W32)
  /-- SADD (R81): Scalar two's-complement add modulo 2^32. -/
  | sadd (c : Fin 32) (e : Fin 64) (w : W32)
  /-- SSUB (R81): Scalar two's-complement subtract modulo 2^32. -/
  | ssub (c : Fin 32) (e : Fin 64) (w : W32)
  /-- SMUL (R81): Sd takes the low 32 bits of Sa times Sb. -/
  | smul (c : Fin 32) (e : Fin 64) (w : W32)
  /-- SAND (R80): Bitwise AND of two scalars. -/
  | sand (c : Fin 32) (e : Fin 64) (w : W32)
  /-- SOR (R80): Bitwise OR of two scalars. -/
  | sor (c : Fin 32) (e : Fin 64) (w : W32)
  /-- SXOR (R80): Bitwise XOR of two scalars. -/
  | sxor (c : Fin 32) (e : Fin 64) (w : W32)
  /-- SSHL (R80): Shift Sa left by Sb[4:0]. -/
  | sshl (c : Fin 32) (e : Fin 64) (w : W32)
  /-- SSHR (R80): Shift Sa right logically by Sb[4:0]. -/
  | sshr (c : Fin 32) (e : Fin 64) (w : W32)
  /-- SSRA (R80): Shift Sa right arithmetically by Sb[4:0]. -/
  | ssra (c : Fin 32) (e : Fin 64) (w : W32)
  /-- SYNCWAIT (R82): The bundle presents and waits until the sync object reaches the 64-bit threshold. -/
  | syncwait (c : Fin 32) (e : Fin 64) (w : W32)
  /-- SYNCWAIT_RELEASE (R113): A held SYNCWAIT is released, and its bundle issues, once an access brings its object to the threshold. -/
  | syncwaitRelease (c : Fin 32) (e : Fin 64)
  /-- FENCE (R98): The bundle holds until the engine has no occupied in-flight slot. -/
  | fence (c : Fin 32) (e : Fin 64) (w : W32)
  /-- YIELD (R99): A yield point, at which the engine parks while a park request is pending. -/
  | yield (c : Fin 32) (e : Fin 64) (w : W32)
  /-- HALT (R100): Stop this engine after the other slots of its bundle and after its writes, slots and reduction drain. -/
  | halt (c : Fin 32) (e : Fin 64) (w : W32)
  /-- ENGINE_STOP (R100): A halting engine stops once its writes, in-flight slots and reduction have drained. -/
  | engineStop (c : Fin 32) (e : Fin 64)
  /-- LDT2 (R84): Load two tiles through ports A and B, with optional transpose and post-increment. -/
  | ldt2 (c : Fin 32) (e : Fin 64) (w : W32)
  /-- LDT (R64): Load one tile, contiguous or strided, with optional transpose. -/
  | ldt (c : Fin 32) (e : Fin 64) (w : W32)
  /-- STT (R46): Store a tile register to 8 scratchpad bytes, carrying its poison bit. -/
  | stt (c : Fin 32) (e : Fin 64) (w : W32)
  /-- LDV (R85): Load a 64-byte row into a V register; a poisoned word gives NaN lanes. -/
  | ldv (c : Fin 32) (e : Fin 64) (w : W32)
  /-- STV (R85): Store a V register to a 64-byte row with poison clear. -/
  | stv (c : Fin 32) (e : Fin 64) (w : W32)
  /-- LDS (R85): Load a 32-bit word into an S register; a poisoned word faults with kind 0x05. -/
  | lds (c : Fin 32) (e : Fin 64) (w : W32)
  /-- STS (R85): Store an S register as 4 bytes with poison clear. -/
  | sts (c : Fin 32) (e : Fin 64) (w : W32)
  /-- LDQ (R86): Load 32 S16 scale entries into Q. -/
  | ldq (c : Fin 32) (e : Fin 64) (w : W32)
  /-- LDP (R87): Load a 528-byte product-table image into P0 or P1. -/
  | ldp (c : Fin 32) (e : Fin 64) (w : W32)
  /-- SRR (R52): Read a special register into Sd. -/
  | srr (c : Fin 32) (e : Fin 64) (w : W32)
  /-- MOVD (R68): Check a mover descriptor and hand it to the core's data mover. -/
  | movd (c : Fin 32) (e : Fin 64) (w : W32)
  /-- RMO (R115): Check a remote-operation descriptor and issue it to the fabric. -/
  | rmo (c : Fin 32) (e : Fin 64) (w : W32)
  /-- SIG (R97): Issue a release-class increment of a local sync object. -/
  | sig (c : Fin 32) (e : Fin 64) (w : W32)
  /-- SQPUSH (R88): Push one tile word with its tag into a stream queue. -/
  | sqpush (c : Fin 32) (e : Fin 64) (w : W32)
  /-- SQPOP (R88): Pop one word if valid, or return a zero tag for an empty queue. -/
  | sqpop (c : Fin 32) (e : Fin 64) (w : W32)
  /-- SQPOPW (R88): Pop one word, holding until the word at the read position is valid. -/
  | sqpopw (c : Fin 32) (e : Fin 64) (w : W32)
  /-- SQPUSHV (R88): Push a V register as eight consecutive words. -/
  | sqpushv (c : Fin 32) (e : Fin 64) (w : W32)
  /-- SQPOPV (R88): Pop eight words into a V register, holding until eight are valid. -/
  | sqpopv (c : Fin 32) (e : Fin 64) (w : W32)
  /-- SQMARK (R181): Set MARK_POS to READ_POS. -/
  | sqmark (c : Fin 32) (e : Fin 64) (w : W32)
  /-- SQREWIND (R181): Return READ_POS to MARK_POS and discard the head. -/
  | sqrewind (c : Fin 32) (e : Fin 64) (w : W32)
  /-- SQRELEASE (R181): Set RELEASE_POS and MARK_POS to READ_POS, freeing the slots before it. -/
  | sqrelease (c : Fin 32) (e : Fin 64) (w : W32)
  /-- LDT2S (R84): Load two 2-bit tiles, as LDT2 with the 2-bit transposes. -/
  | ldt2s (c : Fin 32) (e : Fin 64) (w : W32)
  /-- LDTSL (R64): Load one 2-bit tile, transposed into the 4 x 8 layout when TR is set. -/
  | ldtsl (c : Fin 32) (e : Fin 64) (w : W32)
  /-- LDTSR (R64): Load one 2-bit tile, transposed into the 8 x 4 layout when TR is set. -/
  | ldtsr (c : Fin 32) (e : Fin 64) (w : W32)
  /-- MAC (R90): Accumulate product-table lookups of two tiles into an accumulator block, in normal or split mode. -/
  | mac (c : Fin 32) (e : Fin 64) (w : W32)
  /-- ACLR (R90): Clear an accumulator block and its flags. -/
  | aclr (c : Fin 32) (e : Fin 64) (w : W32)
  /-- PCOMB (R48): Combine two bit-plane accumulators as 16 x Ah + Al. -/
  | pcomb (c : Fin 32) (e : Fin 64) (w : W32)
  /-- CVT (R91): Convert an accumulator block to binary32 lanes using Q scales and TEXP. -/
  | cvt (c : Fin 32) (e : Fin 64) (w : W32)
  /-- REDI (R92): Contribute an accumulator block to an int32 reduction over a group of engines. -/
  | redi (c : Fin 32) (e : Fin 64) (w : W32)
  /-- REDF (R92): Contribute a vector register to a binary32 reduction over a group of engines. -/
  | redf (c : Fin 32) (e : Fin 64) (w : W32)
  /-- REDUCTION_FIRE (R74): A reduction instance fires once all members have contributed, and its result is written to every member. -/
  | reductionFire (c : Fin 32) (base : Nat) (idx : Nat)
  /-- VADD (R93): Binary32 add on vector lanes or on scalars. -/
  | vadd (c : Fin 32) (e : Fin 64) (w : W32)
  /-- VSUB (R93): Binary32 subtract. -/
  | vsub (c : Fin 32) (e : Fin 64) (w : W32)
  /-- VMUL (R93): Binary32 multiply. -/
  | vmul (c : Fin 32) (e : Fin 64) (w : W32)
  /-- VFMA (R93): Fused multiply-add, rounded once. -/
  | vfma (c : Fin 32) (e : Fin 64) (w : W32)
  /-- VMIN (R94): Lesser of two values, with NaN and signed-zero rules. -/
  | vmin (c : Fin 32) (e : Fin 64) (w : W32)
  /-- VMAX (R94): Greater of two values, with NaN and signed-zero rules. -/
  | vmax (c : Fin 32) (e : Fin 64) (w : W32)
  /-- VNEG (R94): Invert the sign. -/
  | vneg (c : Fin 32) (e : Fin 64) (w : W32)
  /-- VABS (R94): Clear the sign. -/
  | vabs (c : Fin 32) (e : Fin 64) (w : W32)
  /-- VRSQRT (R94): Reciprocal square root, rounded once. -/
  | vrsqrt (c : Fin 32) (e : Fin 64) (w : W32)
  /-- VRCP (R94): Reciprocal, rounded once. -/
  | vrcp (c : Fin 32) (e : Fin 64) (w : W32)
  /-- VI2F (R94): Convert int32 to binary32, ties to even. -/
  | vi2f (c : Fin 32) (e : Fin 64) (w : W32)
  /-- VF2I (R94): Convert binary32 to int32, ties to even and saturating. -/
  | vf2i (c : Fin 32) (e : Fin 64) (w : W32)
  /-- VIADD (R93): int32 add modulo 2^32. -/
  | viadd (c : Fin 32) (e : Fin 64) (w : W32)
  /-- VBC (R93): Broadcast a scalar to every lane. -/
  | vbc (c : Fin 32) (e : Fin 64) (w : W32)
  /-- VGET (R93): Copy one lane into a scalar. -/
  | vget (c : Fin 32) (e : Fin 64) (w : W32)
  /-- QNT (R95): Quantise vector lanes into a tile, round-to-nearest or stochastic. -/
  | qnt (c : Fin 32) (e : Fin 64) (w : W32)
  /-- DEQ (R96): Dequantise a tile's codes into binary32 lanes. -/
  | deq (c : Fin 32) (e : Fin 64) (w : W32)
  /-- MOVER_DESCRIPTOR_START (R71): The data mover takes the next queued descriptor into service. -/
  | moverDescriptorStart (c : Fin 32)
  /-- MOVER_GROUP_COMPLETE (R69): A group's rows and scale line are visible, and the group signal is made. -/
  | moverGroupComplete (c : GroupReport)
  /-- MOVER_DESCRIPTOR_COMPLETE (R69): The whole descriptor completes, signals when so set, and frees its in-flight slot. -/
  | moverDescriptorComplete (c : Fin 32)
  /-- REMOTE_OP_TAKE_EFFECT (R116): A put, get, atomic or signal takes effect at its target. -/
  | remoteOpTakeEffect (id : Nat)
  /-- WINDOW_CHECK (R124): The window unit checks an arriving operation against the window's state, permissions, range and sync range. -/
  | windowCheck (id : Nat)
  /-- RMO_COMPLETE (R117): A remote operation completes at its issuer, frees its slot and increments LSYNC when asked. -/
  | rmoComplete (id : Nat) (status : Nat) (data : List Byte) (poison : List Bool)
  /-- CREDIT_RETURN (R126): A runner credit returns when the receiver moves the packet out of its ingress buffer. -/
  | creditReturn (runner : Nat) (ctx : Nat)
  /-- DDR_REFRESH (R108): A channel refreshes all banks and patrol-scrubs one line. -/
  | ddrRefresh (ch : Nat)
  /-- DDR_TEMP_SAMPLE (R108): The DDR4 device temperatures are sampled, setting the refresh interval. -/
  | ddrTempSample (temps : List Int)
  /-- MEM_STATUS (R132): Return the memory error and scrub counters, optionally clearing them. -/
  | memStatus (m : Nat)
  /-- SYNC_ALLOC (R129): Allocate a range of sync objects to a context. -/
  | syncAlloc (m : Nat)
  /-- SYNC_FREE (R129): Free a sync range exactly as allocated. -/
  | syncFree (m : Nat)
  /-- SYNC_ACCESS (R129): Read or set one sync object. -/
  | syncAccess (m : Nat)
  /-- WINDOW_OPEN (R130): Open a window with its base, size, sync range and permissions. -/
  | windowOpen (m : Nat)
  /-- WINDOW_CLOSE (R125): Set a window's close point; this deferred command completes later. -/
  | windowClose (m : Nat)
  /-- WINDOW_CLOSED (R125): The last operation before the close point has completed, so the window closes and the completion is posted. -/
  | windowClosed (w : Nat)
  /-- CREDIT_RESERVE (R131): Set a context's credit reservation on one runner. -/
  | creditReserve (m : Nat)
  /-- REPRO_STATUS (R146): Return a context's seed, step, mode and record count. -/
  | reproStatus (m : Nat)
  /-- SEED_SET (R147): Set the context seed. -/
  | seedSet (m : Nat)
  /-- STEP_SET (R147): Set the step counter and step mode. -/
  | stepSet (m : Nat)
  /-- KZCB_EVAL (R147): Return the step key and one KZ-CB block for a given seed, step and counter. -/
  | kzcbEval (m : Nat)
  /-- JOB_RECORD (R145): Return one of the context's last 16 job records. -/
  | jobRecord (m : Nat)
  /-- KV_POOL_CREATE (R169): Create a KV pool and zero its page lists and length table. -/
  | kvPoolCreate (m : Nat)
  /-- KV_POOL_DESTROY (R168): Free every sequence and region of a pool. -/
  | kvPoolDestroy (m : Nat)
  /-- KV_STAGE (R170): Append entries to a pool's staged list. -/
  | kvStage (m : Nat)
  /-- KV_COMMIT (R155): Check the staged list and accept the commit, or refuse it. -/
  | kvCommit (m : Nat)
  /-- KV_COMMIT_START (R156): A waiting commit starts, deciding its release, admit, extend and pre-empt stages. -/
  | kvCommitStart
  /-- KV_COMMIT_COMPLETE (R160): The swaps and writes of a commit are done, so the new states apply and the completion is posted. -/
  | kvCommitComplete (ep : List Nat)
  /-- KV_SWAP_FAILED (R160): A failed PCIe swap transfer ends the commit with FAULTED and restores the pool. -/
  | kvSwapFailed (pagesIn : Nat)
  /-- KV_RESULT (R170): Return outcomes of the last completed commit. -/
  | kvResult (m : Nat)
  /-- KV_SEQ_STATUS (R168): Return the state of one sequence. -/
  | kvSeqStatus (m : Nat)
  /-- KV_POOL_STATUS (R171): Return a pool's counts and cumulative counters. -/
  | kvPoolStatus (m : Nat)
  /-- SQ_PUSH_ACCEPT (R176): The SQM accepts a waiting push once the free count allows it. -/
  | sqPushAccept (q : Nat)
  /-- SQ_REFILL (R175): A refill read returns eight words to the head, releasing waiting pops. -/
  | sqRefill (q : Nat)
  /-- SQ_CREATE (R190): Create and bind a stream queue, testing its comparator. -/
  | sqCreate (m : Nat)
  /-- SQ_DESTROY (R190): Unbind a queue and return it to FREE. -/
  | sqDestroy (m : Nat)
  /-- SQ_RESET (R190): Discard a queue's words and set every position to WRITE_POS. -/
  | sqReset (m : Nat)
  /-- SQ_STATUS (R189): Return a queue's control block and counters. -/
  | sqStatus (m : Nat)
  /-- SQ_LEVEL (R183): Set the LEVEL of an L queue. -/
  | sqLevel (m : Nat)
  /-- SQ_TEST (R186): Repeat the comparator test on a queue. -/
  | sqTest (m : Nat)
  /-- CSI2_RX_PACKET (R193): A CSI-2 packet arrives at a receive port and is checked, matched and buffered. -/
  | csi2RxPacket (port : Nat) (p : CsiPacket)
  /-- FRAME_START (R206): A Frame Start admits the sample or makes the frame an overrun. -/
  | frameStart (st : Nat) (num : Nat)
  /-- FRAME_END (R204): The frame closes, is concealed, augmented and converted, and its sample packet is pushed. -/
  | frameEnd (st : Nat)
  /-- FRAME_CLOSE_TIMEOUT (R195): A frame with no Frame End closes 1.5 x FRAME_US after its Frame Start. -/
  | frameCloseTimeout (st : Nat)
  /-- MISSING_DEADLINE (R196): A missed Frame Start deadline produces a MISSING sample, or sets STALLED. -/
  | missingDeadline (st : Nat)
  /-- LOW_WATER_CHECK (R207): The intake evaluates its prepared batches, after each EOP and every 10 us. -/
  | lowWaterCheck (st : Nat)
  /-- INTAKE_REMAINDER_PUSH (R209): When a frozen queue returns ACTIVE or FAULTED, the sieve pushes or discards the sample remainder. -/
  | intakeRemainderPush (st : Nat)
  /-- INTAKE_PORT (R210): Configure a CSI-2 receive port. -/
  | intakePort (m : Nat)
  /-- INTAKE_CONFIG (R211): Configure an intake stream. -/
  | intakeConfig (m : Nat)
  /-- INTAKE_LUT (R211): Load a stream's 256-entry code table. -/
  | intakeLut (m : Nat)
  /-- INTAKE_START (R209): Start a READY stream. -/
  | intakeStart (m : Nat)
  /-- INTAKE_STOP (R209): Request a stream stop; this deferred command completes later. -/
  | intakeStop (m : Nat)
  /-- INTAKE_STOP_COMPLETE (R209): The sample in progress is pushed, so the stream is READY and the stop completes. -/
  | intakeStopComplete (st : Nat)
  /-- INTAKE_STATUS (R212): Return a stream's state and counters. -/
  | intakeStatus (m : Nat)
  /-- TRELLIS_TICK (R217): On each microsecond of network time, Trellis snapshots its tables for the loops that are due. -/
  | trellisTick
  /-- LOOP_EVALUATION (R220): A due loop is supervised, its stage law runs, and its command is handed over for launch. -/
  | loopEvaluation
  /-- POLICY_WORD_READ (R215): Trellis reads a policy-queue word, committing or discarding packets. -/
  | policyWordRead
  /-- TRL_CONFIG (R236): Bind the policy and status queues. -/
  | trlConfig (m : Nat)
  /-- TRL_INPUT_MAP (R213): Set or clear an input map from a CAN object to a signal. -/
  | trlInputMap (m : Nat)
  /-- TRL_LOOP_CONFIG (R236): Configure a loop and zero its table. -/
  | trlLoopConfig (m : Nat)
  /-- TRL_LOOP_START (R226): Put a loop into ARMED with its first-use state. -/
  | trlLoopStart (m : Nat)
  /-- TRL_LOOP_STOP (R225): Put a loop into OFF at once. -/
  | trlLoopStop (m : Nat)
  /-- TRL_RC_LOAD (R224): Write repetitive-controller table entries. -/
  | trlRcLoad (m : Nat)
  /-- TRL_RC_READ (R224): Return repetitive-controller table entries. -/
  | trlRcRead (m : Nat)
  /-- TRL_SIGNAL_SET (R213): Set an unmapped signal. -/
  | trlSignalSet (m : Nat)
  /-- TRL_TEMPLATE (R231): Load an Ethernet frame template. -/
  | trlTemplate (m : Nat)
  /-- TRL_TRACE_CONFIG (R235): Arm the trace, or trigger it now. -/
  | trlTraceConfig (m : Nat)
  /-- TRL_TRACE_READ (R236): Return trace records. -/
  | trlTraceRead (m : Nat)
  /-- TRL_STATUS (R237): Return a loop's state and counters. -/
  | trlStatus (m : Nat)
  /-- GO (R242): A write to GO hands over a command, or is a repeat or a sequence error. -/
  | go (path : Path) (m : Nat) (v : W32)
  /-- CTRL (R240): A write to CTRL clears WRB bits written as 1. -/
  | ctrl (path : Path) (m : Nat) (v : W32)
  /-- EVT_TAIL (R249): The host advances the event tail, freeing room for backlogged records. -/
  | evtTail (path : Path) (v : W32)
  /-- MBX_PATH (R241): A write sets the mailbox path limits and the lock. -/
  | mbxPath (path : Path) (v : W32)
  /-- REGISTER_WRITE (R239): A write to a window location with no row of its own, such as REQUEST bytes. -/
  | registerWrite (path : Path) (off : Nat) (bs : List Byte)
  /-- MAILBOX_TAKE (R248): Gragor takes the next pending hand-over and checks the command in order. -/
  | mailboxTake
  /-- ECHO (R255): Return the parameters unchanged. -/
  | echo (m : Nat)
  /-- IF_OPEN (R253): Open the client at a granted interface version. -/
  | ifOpen (m : Nat)
  /-- MODULE_INFO (R255): Return identity and client information. -/
  | moduleInfo (m : Nat)
  /-- MBX_STATUS (R256): Return the calling mailbox's counters. -/
  | mbxStatus (m : Nat)
  /-- EVENT_STATUS (R255): Return the event ring counts. -/
  | eventStatus (m : Nat)
  /-- HEARTBEAT_TICK (R251): HEARTBEAT is incremented once per millisecond while READY. -/
  | heartbeatTick
  /-- CTX_CREATE (R257): Create a context with its cloche and save region. -/
  | ctxCreate (m : Nat)
  /-- CTX_DESTROY (R280): Tear down and destroy a context; completes when its windows are closed. -/
  | ctxDestroy (m : Nat)
  /-- IMG_LOAD (R260): Start copying a program image into the image store. -/
  | imgLoad (m : Nat)
  /-- IMG_LOAD_COMPLETE (R260): An image copy is checked and its completion is posted. -/
  | imgLoadComplete (ctx : Nat) (slot : Nat) (ok : Bool) (ep : List Nat)
  /-- IMG_DROP (R280): Empty an image slot. -/
  | imgDrop (m : Nat)
  /-- JOB_SUBMIT (R261): Accept a job, or return BUSY at the admission bound. -/
  | jobSubmit (m : Nat)
  /-- JOB_ADMISSION (R263): A queued job is admitted once its context is free of an admitted job and a KV commit. -/
  | jobAdmission (ctx : Nat)
  /-- SCHEDULING_DECISION (R267): Gragor orders jobs by effective priority and assigns cores. -/
  | schedulingDecision
  /-- SHARE_PERIOD_BOUNDARY (R268): A 100 ms share period ends and shares restart. -/
  | sharePeriodBoundary
  /-- JOB_DISPATCH (R266): A job is loaded or restored on all its cores and its engines start together. -/
  | jobDispatch (job : Nat)
  /-- ENGINE_PARK (R99): An engine at a yield point drains and reports itself parked. -/
  | enginePark (c : Fin 32) (e : Fin 64)
  /-- JOB_PARKED (R269): Every engine of the job has parked, so the needed save slots are written. -/
  | jobParked (job : Nat)
  /-- FORCED_PREEMPTION (R270): YIELD_WAIT_US expires, so the unparked engines are stopped and saved. -/
  | forcedPreemption (job : Nat)
  /-- JOB_COMPLETE (R275): Every engine has stopped, so the job's outcome is completed and its record and completion follow. -/
  | jobComplete (job : Nat)
  /-- JOB_ABORT (R276): Abort a job by TAG or JOB_ID. -/
  | jobAbort (m : Nat)
  /-- RUN_LIMIT_TIMEOUT (R277): The run limit is reached, so the job ends with TIMEOUT. -/
  | runLimitTimeout (job : Nat)
  /-- JOB_FAULT (R278): Gragor handles an engine fault or failed operation: stops the job, records the fault and tears down. -/
  | jobFault (job : Nat)
  /-- INHERITANCE_REPORT (R272): A SYNCWAIT held 20 us on a bound object is reported, and its holder inherits priority. -/
  | inheritanceReport (c : Fin 32) (e : Fin 64)
  /-- INHERIT_SLICE_END (R273): A reserved inheritance slice ends at release, at its time or at the holder's outcome. -/
  | inheritSliceEnd (job : Nat)
  /-- CTX_STATUS (R280): Return a context's state and fault record. -/
  | ctxStatus (m : Nat)
  /-- SCHED_CLIENT (R264): Set a client's admission bound and share. -/
  | schedClient (m : Nat)
  /-- SCHED_STATUS (R281): Return a client's scheduling counters. -/
  | schedStatus (m : Nat)
  /-- SEM_BIND (R272): Bind or remove a semaphore binding to a holder context. -/
  | semBind (m : Nat)
  /-- TIME_STATUS (R297): Return the time counter and servo state. -/
  | timeStatus (m : Nat)
  /-- TIME_STEP (R284): Step the time counter once while the step is open. -/
  | timeStep (m : Nat)
  /-- TIME_CLOSE_STEP (R284): Close the step without stepping. -/
  | timeCloseStep (m : Nat)
  /-- TIME_RATE (R283): Write RATE in HOST mode. -/
  | timeRate (m : Nat)
  /-- TIME_SERVO (R286): Select the servo mode and gains. -/
  | timeServo (m : Nat)
  /-- PTP_CONFIG (R287): Configure the timing protocol instance. -/
  | ptpConfig (m : Nat)
  /-- PPS_CONFIG (R290): Configure PPS_IN capture and PPS_OUT. -/
  | ppsConfig (m : Nat)
  /-- ETH_PORT (R297): Configure an Ethernet port. -/
  | ethPort (m : Nat)
  /-- ETH_QUEUE (R295): Set a launch-time queue's late policy. -/
  | ethQueue (m : Nat)
  /-- ETH_RX_BIND (R296): Bind or clear a receive filter and ring. -/
  | ethRxBind (m : Nat)
  /-- ETH_STATUS (R298): Return a port's counters. -/
  | ethStatus (m : Nat)
  /-- PTP_FRAME_RECEIVE (R287): A timing frame is received by Gragor's protocol instance. -/
  | ptpFrameReceive (port : Nat) (f : EthFrame) (o : PtpOutcome)
  /-- SERVO_TIMEOUT (R286): No measurement for 3 s returns the servo to FREE. -/
  | servoTimeout
  /-- PPS_IN_EDGE (R289): A selected PPS_IN edge is captured and given to the servo. -/
  | ppsInEdge (rising : Bool) (age : Nat)
  /-- PPS_OUT_EDGE (R290): PPS_OUT rises at its offset or falls after its width. -/
  | ppsOutEdge
  /-- ETH_TX_START (R294): A free port begins the due launch frame of the highest queue, or a timing frame. -/
  | ethTxStart (port : Nat)
  /-- LAUNCH_FRAME_LATE (R295): A launch frame becomes late and is dropped or marked to send late. -/
  | launchFrameLate (port : Nat) (queue : Nat)
  /-- ETH_RX_FRAME (R296): A received frame is filtered into a ring or discarded. -/
  | ethRxFrame (port : Nat) (f : EthFrame)
  /-- ETH_LINK_CHANGE (R295): A port's link changes state and posts event 0x0913. -/
  | ethLinkChange (port : Nat) (speed : Nat)
  /-- CAN_CONFIG (R301): Configure a CAN FD controller's bit timing and readers. -/
  | canConfig (m : Nat)
  /-- CAN_MODE (R300): Request a controller mode change; this deferred command completes later. -/
  | canMode (m : Nat)
  /-- CAN_MODE_EFFECT (R300): The mode change takes effect at frame end or at once, and the completion is posted. -/
  | canModeEffect (k : Nat)
  /-- CAN_BUS_INTEGRATED (R300): A controller leaving OFF takes part after 11 recessive bits. -/
  | canBusIntegrated (k : Nat)
  /-- CAN_OBJ_CONFIG (R304): Configure a message object. -/
  | canObjConfig (m : Nat)
  /-- CAN_OBJ_SEND (R306): Hand over a frame to a client-owned TX object. -/
  | canObjSend (m : Nat)
  /-- CAN_OBJ_READ (R314): Return an object's state and last frame. -/
  | canObjRead (m : Nat)
  /-- CAN_FILTER (R310): Set a receive filter. -/
  | canFilter (m : Nat)
  /-- CAN_RX_READ (R310): Pop frames from a receive queue. -/
  | canRxRead (m : Nat)
  /-- CAN_RECOVER (R313): Start recovery from bus-off. -/
  | canRecover (m : Nat)
  /-- CAN_STATUS (R315): Return a controller's state and counters. -/
  | canStatus (m : Nat)
  /-- CAN_RX_FRAME (R305): A valid received frame is stored in an RX object or routed through filters. -/
  | canRxFrame (k : Nat) (f : CanFrame)
  /-- CAN_TX_START (R307): At a SOF opportunity, the due pending frame with the lowest key starts. -/
  | canTxStart (k : Nat) (tdcMeas : Nat)
  /-- CAN_TX_END (R306): A transmitted frame ends in success, lost arbitration or error. -/
  | canTxEnd (k : Nat) (outcome : Nat)
  /-- CAN_FRAME_LATE (R309): A pending frame is late and is dropped or kept. -/
  | canFrameLate (k : Nat) (obj : Nat)
  /-- CAN_BUSOFF_RECOVERY (R313): After 128 occurrences of 11 recessive bits, the controller is error active again. -/
  | canBusoffRecovery (k : Nat)
  /-- HL_STATUS (R334): Return host-link state and counters. -/
  | hlStatus (m : Nat)
  /-- PCIE_GRANT (R319): Set a cold-frame grant. -/
  | pcieGrant (m : Nat)
  /-- PCIE_UNGRANT (R320): Start withdrawing a grant. -/
  | pcieUngrant (m : Nat)
  /-- PCIE_UNGRANT_COMPLETE (R320): Requests to the range have drained, so the withdrawal completes. -/
  | pcieUngrantComplete (g : Nat)
  /-- CSI_TX_CONFIG (R327): Configure a CSI-2 transmit port. -/
  | csiTxConfig (m : Nat)
  /-- CSI_TX_RUN (R333): Start a transmit port, or request its stop. -/
  | csiTxRun (m : Nat)
  /-- CSI_TX_STOP_COMPLETE (R333): The frame in progress ends, so the stop completes. -/
  | csiTxStopComplete (port : Nat)
  /-- CSI_TX_FRAME (R329): A transmit port sends one frame for a complete packet, or pops a malformed one. -/
  | csiTxFrame (port : Nat)
  /-- RUNNER_UP (R330): Start training a runner. -/
  | runnerUp (m : Nat)
  /-- RUNNER_TRAINED (R330): Training ends, the IDs are exchanged, and the runner is up or stays down. -/
  | runnerTrained (r : Nat) (width : Nat) (peer : Nat)
  /-- RUNNER_DOWN (R333): Take a runner down. -/
  | runnerDown (m : Nat)
  /-- RUNNER_ROUTE (R332): Set the route table. -/
  | runnerRoute (m : Nat)
  /-- RUNNER_PACKET_RECEIVE (R332): A packet arrives at a runner ingress, for local checking or for transit. -/
  | runnerPacketReceive (r : Nat) (p : LinkArrival)
  /-- RUNNER_RETRY (R331): A CRC failure or a missing acknowledgement replays packets from the replay buffer. -/
  | runnerRetry (r : Nat) (f : LinkRetry)
  /-- RUNNER_RETRAIN (R331): Eight retries of one packet cause a retrain, and three failed retrains take the runner down. -/
  | runnerRetrain (r : Nat) (ok : Bool)
  /-- HL_ID_SCAN (R325): Start reading the attached identity memories. -/
  | hlIdScan (m : Nat)
  /-- HL_ID_SCAN_COMPLETE (R413): The scan ends, the build is compared and the completion is posted. -/
  | hlIdScanComplete (recs : List (Option (List Byte)))
  /-- HL_ID_READ (R333): Return the last scanned identity record at one address. -/
  | hlIdRead (m : Nat)
  /-- PCIE_LINK_CHANGE (R318): The PCIe link changes state and posts event 0x0E10. -/
  | pcieLinkChange (speed : Nat) (width : Nat)
  /-- COLD_FRAME_TIMEOUT (R321): A cold-frame transfer fails on a 50 ms completion timeout. -/
  | coldFrameTimeout (what : Nat)
  /-- MSIX_UNMASK (R317): Unmasking a vector sends its pending message. -/
  | msixUnmask (v : MsixEntry)
  /-- I3C_PRIVATE_WRITE (R323): An I3C private write sets the offset and writes window bytes. -/
  | i3cPrivateWrite (off : Nat) (bs : List Byte)
  /-- I3C_PRIVATE_READ (R323): An I3C private read returns window bytes and advances the offset. -/
  | i3cPrivateRead (n : Nat)
  /-- I3C_ADDRESS_ASSIGN (R322): ENTDAA or SETDASA assigns the target's dynamic address. -/
  | i3cAddressAssign (addr : Nat) (static : Option Nat)
  /-- PWR_STATUS (R351): Return the power state and counters. -/
  | pwrStatus (m : Nat)
  /-- PWR_STATE (R339): Request a device state, refused or accepted. -/
  | pwrState (m : Nat)
  /-- POWER_ENTRY_REQUEST (R339): An internal request for Hold from the health policy or safety block is asked of the units. -/
  | powerEntryRequest (fromSafety : Bool)
  /-- POWER_ENTRY_COMPLETE (R340): Parking is done, so domains are switched off and the entry completes. -/
  | powerEntryComplete
  /-- POWER_ENTRY_ABORT (R341): A wake, quiesce timeout or power-good failure aborts an entry. -/
  | powerEntryAbort (reason : Nat) (unit : Nat) (off : Nat) (failed : List (Nat × Nat))
  /-- OFF_CUTOFF (R340): Ten ms after an Off completion, PD_CP and PD_AON are switched off. -/
  | offCutoff
  /-- PWR_DOMAIN (R350): Request switching one domain on or off. -/
  | pwrDomain (m : Nat)
  /-- PWR_DOMAIN_COMPLETE (R350): The domain reaches its state, so the command completes. -/
  | pwrDomainComplete (d : Nat) (failed : List Nat)
  /-- PWR_WAKE_CONFIG (R343): Set the wake mask, target and WAKE_AT. -/
  | pwrWakeConfig (m : Nat)
  /-- CLK_STATUS (R349): Return the clock frequencies. -/
  | clkStatus (m : Nat)
  /-- WAKE_PIN (R343): WAKE# asserted for 10 us starts a wake, or a power-on from Off. -/
  | wakePin (lowUs : Nat) (b : BootInput)
  /-- WAKE_AT (R343): Network time reaches WAKE_AT and starts a wake. -/
  | wakeAt
  /-- WAKE_SEQUENCE (R344): Gragor wakes in order, restoring state and releasing the latches. -/
  | wakeSequence (failed : List (Nat × Nat))
  /-- JUNCTION_TEMP_SAMPLE (R362): A junction sensor is sampled and the thermal responses act. -/
  | junctionTempSample (i : Nat) (t : Int)
  /-- THERMAL_HOLD_RETRY (R362): Every 10 ms at HOT, Gragor repeats its Hold request. -/
  | thermalHoldRetry
  /-- CORE_THERMAL_RETURN (R362): After 100 ms below HOT - 10 C, a thermally held core returns. -/
  | coreThermalReturn (c : Fin 32) (failed : List Nat)
  /-- VOLTAGE_EXCURSION (R353): A supply reading outside 5 % for 2 us is counted and posts event 0x0111. -/
  | voltageExcursion (d : Nat) (mv : Nat)
  /-- PROCESS_SAMPLE (R358): A process monitor reading triggers a new plan. -/
  | processSample (i : Nat) (cls : Nat)
  /-- AGEING_READING (R356): Ageing pairs are read, D is updated and logged, and the core is planned again. -/
  | ageingReading (c : Fin 32) (ratios : List Nat)
  /-- VSET_LOWER (R358): A pending lowering of V_SET is applied when no job is dispatched on the core. -/
  | vsetLower (c : Fin 32)
  /-- BIN_CHANGE (R361): After consent, the ENG and SPAD divider changes when no job is dispatched. -/
  | binChange (failed : List (Nat × Nat))
  /-- BIN_CHANGE_FORCE (R361): One second after consent without a gap, Gragor parks every job to make one. -/
  | binChangeForce
  /-- BASELINE_TAKE (R355): Gragor takes a core's ageing baseline before its first dispatch. -/
  | baselineTake (c : Fin 32) (readings : List (List Nat))
  /-- HLTH_STATUS (R368): Return health state and counters. -/
  | hlthStatus (m : Nat)
  /-- HLTH_SENSORS (R367): Return sensor readings. -/
  | hlthSensors (m : Nat)
  /-- HLTH_PLAN (R357): Return a core's voltage plan. -/
  | hlthPlan (m : Nat)
  /-- HLTH_BIN (R361): Give consent to a bin change, or request a return to bin 0. -/
  | hlthBin (m : Nat)
  /-- HLTH_LOG_READ (R367): Return ageing log records. -/
  | hlthLogRead (m : Nat)
  /-- PROFILE_READ (R367): Return a stored profile. -/
  | profileRead (m : Nat)
  /-- PROFILE_WRITE (R365): Check a profile and start writing it to eMMC. -/
  | profileWrite (m : Nat)
  /-- PROFILE_WRITE_COMPLETE (R367): Both eMMC copies are written, and the completion is posted. -/
  | profileWriteComplete
  /-- PROFILE_SELECT (R367): Store the profile override for the next power-on. -/
  | profileSelect (m : Nat)
  /-- HLTH_ENGINES (R54): Return a core's failed engines and graft table. -/
  | hlthEngines (m : Nat)
  /-- SAFE_STATUS (R386): Return safety state and counters. -/
  | safeStatus (m : Nat)
  /-- SAFE_REGION (R370): Set or clear a firewall region entry. -/
  | safeRegion (m : Nat)
  /-- SAFE_WDOG (R374): Configure, arm or turn off a window watchdog. -/
  | safeWdog (m : Nat)
  /-- SAFE_KICK (R373): Kick a source 5 watchdog. -/
  | safeKick (m : Nat)
  /-- SAFE_GOLDEN (R375): Configure the golden-tile schedule. -/
  | safeGolden (m : Nat)
  /-- SAFE_CHECK (R378): Configure a checker channel. -/
  | safeCheck (m : Nat)
  /-- SAFE_CLEAR (R381): Release SAFE_FAULT# and clear LATCHED when no cause is present. -/
  | safeClear (m : Nat)
  /-- SAFE_ASSERT (R381): Raise the HOST cause. -/
  | safeAssert (m : Nat)
  /-- WDOG_EXPIRY (R374): A watchdog's FIRST_US or MAX_US passes without a kick, so it trips. -/
  | wdogExpiry (k : Nat)
  /-- GOLDEN_SLOT (R375): At a golden instant, the chosen cores are displaced and run the golden tile. -/
  | goldenSlot
  /-- GOLDEN_VERDICT (R377): Signatures are compared, retested, and judged transient or permanent. -/
  | goldenVerdict (c : Fin 32) (sigs : List (BitVec 64)) (retest : List (BitVec 64))
  /-- GOLDEN_LATE_LIMIT (R377): No verdict by the late limit raises the GOLDEN cause. -/
  | goldenLateLimit
  /-- CHECKER_PAIR_TIMEOUT (R378): A partner missing after PAIR_US makes the pair disagree. -/
  | checkerPairTimeout (ch : Nat)
  /-- CLOCK_MONITOR_FAULT (R381): A clock outside 2 % for 10 us raises the CLOCK cause. -/
  | clockMonitorFault
  /-- LOCKSTEP_MISMATCH (R390): A control-processor pair mismatch raises LOCKSTEP and restarts Gragor. -/
  | lockstepMismatch
  /-- QUIESCE_TIMEOUT (R387): An engine not drained 1 ms after its forced stop is a QUIESCE hang. -/
  | quiesceTimeout (c : Fin 32) (e : Fin 64) (into : Option Nat)
  /-- BRIDGE_STALL (R388): A bridge-queue head waiting BRIDGE_MS makes a BRIDGE hang. -/
  | bridgeStall (n : Nat) (held : List FabricPacket)
  /-- FABRIC_ERROR (R387): A router or bridge buffer error makes a FABRIC hang. -/
  | fabricError (n : Nat)
  /-- CONTEXT_RESET (R391): A context reset stops, freezes, captures and drains the context. -/
  | contextReset (ctx : Nat)
  /-- CONTEXT_RESET_DRAIN (R391): The drain ends or times out at 1 ms, so the reset tears down, clears and completes. -/
  | contextResetDrain (d : DrainCheck)
  /-- PARTITION_RESET (R393): A partition reset closes its bridges, resets the partition and completes held packets. -/
  | partitionReset (n : Nat) (held : List FabricPacket) (lost : List FabricPacket) (responses : List FabricPacket)
  /-- PARTITION_RESET_COMPLETE (R393): The quadrant is zeroed, cores tested, bridges reopened and event 0x0C11 posted. -/
  | partitionResetComplete (n : Nat) (failed : List (Nat × Nat))
  /-- RCV_STATUS (R399): Return recovery state and counters. -/
  | rcvStatus (m : Nat)
  /-- RCV_POLICY (R398): Set the recovery policy. -/
  | rcvPolicy (m : Nat)
  /-- CTX_RESET (R391): Request a context reset. -/
  | ctxReset (m : Nat)
  /-- PART_RESET (R393): Request a partition reset. -/
  | partReset (m : Nat)
  /-- RCV_CAPTURE_READ (R392): Return bytes of a kept capture record. -/
  | rcvCaptureRead (m : Nat)
  /-- FABRIC_GROUP (R395): Set a context's fabric group and AUTO flag. -/
  | fabricGroup (m : Nat)
  /-- FABRIC_ABORT (R395): Abort a group's local jobs and send notices. -/
  | fabricAbort (m : Nat)
  /-- FABRIC_ABORT_NOTICE (R395): A received notice aborts local jobs, is forwarded, and posts event 0x0C12. -/
  | fabricAbortNotice (runner : Nat) (origin : Nat) (g : Nat) (seq : Nat)
  /-- FABRIC_ABORT_COMPLETE (R395): All modules have replied or 10 ms have passed, so the abort completes. -/
  | fabricAbortComplete (replied : BitVec 16)
  /-- GRAGOR_RESTART (R396): Restart Gragor, discarding contexts and peripheral endpoints. -/
  | gragorRestart (m : Nat)
  /-- GRAGOR_READY (R252): Gragor reaches READY, resets the mailboxes and events and posts READY. -/
  | gragorReady (failed : List (Nat × Nat)) (recs : List (Option (List Byte)))
  /-- POWER_ON (R401): Input power becomes valid and the boot ROM sequence starts. -/
  | powerOn (b : BootInput)
  /-- INPUT_POWER_LOSS (R425): The input stays out of range for 20 us, so every rail switches off. -/
  | inputPowerLoss
  /-- RESET_ASSERT (R427): RESET# is recognised low: domains off, latches reset, fields reset. -/
  | resetAssert (lowUs : Nat)
  /-- RESET_RELEASE (R427): The release of RESET# starts the power-on sequence. -/
  | resetRelease (b : BootInput)
  /-- PERST_ASSERT (R429): PERST# holds the PCIe endpoint in reset. -/
  | perstAssert
  /-- PERST_RELEASE (R429): The release of PERST# lets the endpoint train. -/
  | perstRelease
  /-- TAP_INSTRUCTION (R430): A TAP instruction is taken under IEEE 1149.1 within the offered set. -/
  | tapInstruction (ir : Nat)
  /-- BOOT_STATUS (R415): Return the boot state and RPMB values. -/
  | bootStatus (m : Nat)
  /-- IMAGE_WRITE (R415): Write bytes into staging. -/
  | imageWrite (m : Nat)
  /-- IMAGE_FETCH (R415): Copy an image into staging from host or cold-frame memory. -/
  | imageFetch (m : Nat) (ok : Bool)
  /-- IMAGE_FETCH_COMPLETE (R415): A deferred fetch under Gragor finishes and posts its completion. -/
  | imageFetchComplete (ok : Bool)
  /-- IMAGE_RUN (R403): Verify the staged image and start it. -/
  | imageRun (m : Nat)
  /-- FW_INSTALL (R407): Start installing the staged image into eMMC. -/
  | fwInstall (m : Nat)
  /-- FW_INSTALL_COMPLETE (R407): The image is written, read back and verified, so the install completes. -/
  | fwInstallComplete (readBackOk : Bool)
  /-- SVN_COMMIT (R406): Raise FW_SVN in RPMB to the running image's SVN. -/
  | svnCommit (m : Nat) (ok : Bool)
  /-- CERT_READ (R409): Return bytes of a stored certificate. -/
  | certRead (m : Nat)
  /-- ATTEST (R411): Accept an attestation request. -/
  | attest (m : Nat)
  /-- ATTEST_COMPLETE (R410): The report is built and signed on a burnt leaf, and the completion is posted. -/
  | attestComplete (rpmbOk : Bool)
  /-- ATTEST_READ (R415): Return bytes of a kept report. -/
  | attestRead (m : Nat)
  /-- BUILD_STATUS (R413): Return slot states, masks and BUILD_DIGEST. -/
  | buildStatus (m : Nat)
  /-- BUILD_ACCEPT (R414): Store the last scan as the accepted build. -/
  | buildAccept (m : Nat) (ok : Bool)
  /-- CAN_BUS_ERROR (R312): A bus error detected while the controller receives, or watches another node's frame, changes the ISO error counters and may change the error state with event 0x0A10. -/
  | canBusError (k : Nat) (after : Bool) (flag : Bool) (exc : Bool)
  /-- ANNOUNCE_RECEIPT_TIMEOUT (R287): The Announce receipt timeout of a timing port runs out, and the best master clock algorithm changes port state. -/
  | announceReceiptTimeout (port : Nat) (o : PtpOutcome)
  /-- PTP_INTERVAL_EXPIRY (R287): A configured Sync, delay request or Announce interval runs out, and Gragor's timing instance sends its message on the timing queue. -/
  | ptpIntervalExpiry (port : Nat) (o : PtpOutcome)
  /-- GRAGOR_DEADLINE_MISS (R390): A missed Gragor deadline is cleared only by a Gragor restart. -/
  | gragorDeadlineMiss
  /-- SAFETY_BLOCK_DISAGREEMENT (R381): A comparator disagreement or failed self-test in the safety block raises the SELF cause and asserts SAFE_FAULT#. -/
  | safetyBlockDisagreement (what : Nat)
  /-- I3C_ENEC (R324): The host's ENEC or DISEC command enables or disables in-band interrupts on the I3C target port. -/
  | i3cEnec (enable : Bool)
  /-- I3C_IBI_ACCEPTED (R324): The host controller accepts a raised IBI, clearing that source's pending IBI so that the next pending source may be raised. -/
  | i3cIbiAccepted (n : Nat)
deriving DecidableEq, Repr

end Sys2Proof
end

