-- ==== Sys2Proof/Machine/State.lean ====
section
/-!
DEFINITION. The state of the module, all of it as plain data, and what it is after reset. A field's line gives its
width, the rules of spec/ that name it and its reset value; `DC n` marks a reset value the manual does not give, named
in notes/assumptions/n.md. A structure's own reset value is `{}`: every field at its default.
-/

namespace Sys2Proof.Machine

/-! ### Engines and cores (chapters 3 and 4) -/

/-- A code tile (T0–T15 of Table 3-1). -/
structure Tile where
  /-- 64; R25 R50; reset 0 DC 1: the code bits, row-major -/
  code : W64 := 0
  /-- 1; R26 R50; reset 0 DC 1: the tile poison bit -/
  poison : Bool := false
deriving DecidableEq, Repr

/-- One element of an accumulator block (A0–A3 of Table 3-1). -/
structure Acc where
  /-- 32; R36 R50; reset 0 DC 1: the int32 value -/
  val : W32 := 0
  /-- 1; R36; reset 0 DC 1: sticky overflow flag -/
  ovf : Bool := false
  /-- 1; R37; reset 0 DC 1: sticky poison flag -/
  poi : Bool := false
deriving DecidableEq, Repr

/-- A product table (P0, P1 of Table 3-1). -/
structure PTab where
  /-- 256 × 16; R32 R33; reset 0 DC 1: entry (a, w) at number 16a + w -/
  ent : Tab W16 := []
  /-- 8; R32; reset 0 DC 1: TEXP, int8 -/
  texp : BitVec 8 := 0
  /-- 4; R33; reset 0 DC 1: FLAGS -/
  flags : BitVec 4 := 0
deriving DecidableEq, Repr

/-- An engine's programmable registers. -/
structure Regs where
  /-- 16 × 65; R50; reset 0 DC 1: T0–T15 -/
  t : Tab Tile := []
  /-- 4 × 16 × 34; R50; reset 0 DC 1: A0–A3, element (i, j) of block k at number 16k + 4i + j -/
  a : Tab Acc := []
  /-- 8 × 16 × 32; R50; reset 0 DC 1: V0–V7, lane l of register k at number 16k + l -/
  v : Tab W32 := []
  /-- 16 × 32; R50; reset 0 DC 1: S0–S15 -/
  s : Tab W32 := []
  /-- 256 × 16; R50 R86; reset 0 DC 1: the scale buffer Q -/
  q : Tab W16 := []
  /-- 256 × 16 + 12; R50 R87; reset 0 DC 1: P0 -/
  p0 : PTab := {}
  /-- 256 × 16 + 12; R50 R87; reset 0 DC 1: P1 -/
  p1 : PTab := {}
deriving DecidableEq, Repr

/-- An engine's fault record (R101, R122). -/
structure EFault where
  /-- 8; R101 Table 4-5; reset 0: fault kind -/
  kind : Nat := 0
  /-- 12; R101 R122; reset 0: PC of the faulting (or next) bundle -/
  pc : Nat := 0
  /-- 32; R122; reset 0xFFFFFFFF: scratchpad offset of the failed descriptor -/
  desc : Nat := 0xFFFFFFFF
  /-- 8; R122 Table 5-7; reset 0: remote-operation status -/
  status : Nat := 0
deriving DecidableEq, Repr

/-- Why a bundle that presents does not issue (R82, R88, R97, R98, R71, R75). -/
inductive Hold where
  | free
  /-- SYNCWAIT on an object below its threshold, since an elapsed time, and whether it has been released (R113) -/
  | sync (obj : Nat) (thr : Nat) (since : Nat) (released : Bool)
  /-- FENCE with occupied in-flight slots -/
  | fence
  /-- all 16 in-flight slots occupied, or the mover's queue full -/
  | slots
  /-- SQPOPW or SQPOPV on queue q -/
  | pop (q : Nat)
  /-- SQPUSH or SQPUSHV on queue q -/
  | push (q : Nat)
  /-- SQPOP, SQMARK, SQREWIND or SQRELEASE on queue q, which is not ACTIVE or whose head is being refilled (R175, R185) -/
  | queue (q : Nat)
  /-- a second reduction while one is outstanding -/
  | reduction
deriving DecidableEq, Repr

/-- Whether an engine issues (R99, R100, R101, R270). -/
inductive Run where
  /-- outside any job -/
  | off
  | issuing
  /-- HALT has taken effect, the drain is not done -/
  | halting
  /-- stopped after HALT -/
  | halted
  /-- parked at a yield point -/
  | parked
  /-- stopped by Gragor before its next bundle -/
  | forced
  | faulted
deriving DecidableEq, Repr

/-- A logical engine. -/
structure Engine where
  /-- R77: the registers as they stand in the issue cycle of the open bundle: what its slots read -/
  src : Regs := {}
  /-- R50 R77: the registers with the writes of the open bundle -/
  nxt : Regs := {}
  /-- 12; R50; reset 0 DC 1: index of the next bundle to issue -/
  pc : BitVec 12 := 0
  /-- 12; R101; reset 0 DC 1: index of the open bundle -/
  bpc : BitVec 12 := 0
  /-- 1; R77; reset 0: the open bundle's Move word has not issued yet -/
  mvLeft : Bool := false
  /-- 1; R77; reset 0: the open bundle's MAC word has not issued yet -/
  mcLeft : Bool := false
  /-- 1; R77; reset 0: the open bundle's Vector word has not issued yet -/
  vcLeft : Bool := false
  /-- 1; R81; reset 0: the open bundle ran off the image's end -/
  offEnd : Bool := false
  /-- R99 R100 R101; reset off: whether the engine issues -/
  run : Run := .off
  /-- R82 R88 R97 R98; reset free: what holds the bundle that presents -/
  hold : Hold := .free
  /-- 32; R52; reset 0: ENGID -/
  engid : W32 := 0
  /-- 32; R52; reset 0: CORID -/
  corid : W32 := 0
  /-- 32; R52; reset 0: CTXID -/
  ctxid : W32 := 0
  /-- 64; R52; reset 0: STEP_LO and STEP_HI -/
  step : W64 := 0
  /-- 64; R52; reset 0: SEEDBASE_LO and SEEDBASE_HI -/
  seedBase : W64 := 0
  /-- 1; R91; reset 0 DC 1: sticky conversion-poison bit -/
  convPoison : Bool := false
  /-- 1; R91; reset 0 DC 1: sticky conversion-overflow bit -/
  convOvf : Bool := false
  /-- R75; reset 0 DC 1: reductions joined since the job's first dispatch -/
  joined : Nat := 0
  /-- 1; R75; reset 0: a reduction is outstanding -/
  redOut : Bool := false
  /-- 5; R97 R121; reset 0: occupied in-flight slots, 0 to 16 -/
  inflight : Nat := 0
  /-- R119; reset 0: program order of the next remote operation -/
  opSeq : Nat := 0
  /-- R101; reset none: the fault, until Gragor handles it -/
  fault : Option EFault := none
  /-- 1; R387; reset 0: a QUIESCE hang has been reported since its forced stop began -/
  told : Bool := false
  /-- 1; R55 R101; reset 0: a parity error is present in its registers or product-table replicas -/
  parity : Bool := false
deriving DecidableEq, Repr

/-- One member's contribution to a reduction instance (R73, R74). -/
structure RedPart where
  eng : Nat
  /-- 4; R92: number of the destination block or register -/
  dest : Nat
  /-- 16 elements: accumulator elements, or binary32 lanes in `val` -/
  vals : List Acc
deriving DecidableEq, Repr

/-- A reduction instance pending in a core's network (R74, R75). -/
structure RedInst where
  /-- R75: k, counted from the job's first dispatch -/
  idx : Nat
  /-- R92: first engine of the group -/
  base : Nat
  /-- 3; R92: g, log2 of the group size -/
  g : Nat
  /-- 1; R73: binary32 (true) or int32 -/
  float : Bool
  parts : List RedPart
deriving DecidableEq, Repr

/-- A mover descriptor in a core's mover (Table 3-3) and how far it is. -/
structure MoverJob where
  eng : Nat
  ctx : Nat
  /-- 12; R101 R122: PC of the bundle that handed it over -/
  pc : Nat
  /-- 19; R67 R122: its scratchpad offset -/
  off : Nat
  src : W64
  dst : W64
  rowBytes : Nat
  rows : Nat
  srcStride : Nat
  dstStride : Nat
  scaleSrc : W64
  scaleLines : Nat
  qBase : Nat
  groupRows : Nat
  /-- 3; Table 3-3 FLAGS -/
  flags : BitVec 3
  engMask : W64
  sync : Nat
  /-- R71: taken into service -/
  started : Bool
  /-- R69: groups completed -/
  done : Nat
  /-- R67 R124: device address of the source in this module, once in service; the runner to a peer's window -/
  srcAt : Nat
  dstAt : Nat
  srcPeer : Option Nat
  dstPeer : Option Nat
  /-- R126: number of the packets by which its present group crosses a runner, once they have been handed to it -/
  tag : Option Nat
  /-- R124 R125: windows of this module it passed -/
  wins : List Nat
  /-- R393; a packet of it was lost inside a partition under reset: it never completes -/
  lost : Bool := false
  /-- R388: elapsed time since which its present group is on its way -/
  since : Nat := 0
deriving DecidableEq, Repr

/-- A user grid in a core's grid table (R27, Table 2-3). -/
structure UserGrid where
  /-- 2; Table 2-3 WIDTH: 0 4-bit, 1 2-bit, 2 1-bit -/
  width : Nat
  /-- 1; Table 2-3 FLAGS bit 0 -/
  hole : Bool
  /-- 8; Table 2-3 E, int8 -/
  exp : Int
  /-- 16 × 32; Table 2-3 VALUE -/
  vals : List W32
deriving DecidableEq, Repr

/-- A core, named by its logical ID. -/
structure Core where
  /-- R266; reset none: the job whose engines the core holds (its JOB_ID) -/
  job : Option Nat := none
  /-- R266; reset none: the context of that job -/
  ctx : Option Nat := none
  /-- 13; R79 R102; reset 0: bundle count of the core's image -/
  bundles : Nat := 0
  /-- 64; R100 R102; reset 0: ENGINE_MASK of the core's image -/
  mask : W64 := 0
  /-- 1; R99 R269; reset 0: the park request -/
  parkReq : Bool := false
  /-- 1; R270 R278; reset 0: a forced stop is under way: no engine of the core opens another bundle -/
  stopReq : Bool := false
  /-- 16 descriptors; R71; reset empty: the mover's queue, the one in service first -/
  mover : List MoverJob := []
  /-- R74 R270; reset empty: pending reduction instances -/
  red : List RedInst := []
  /-- R75 R92; reset empty: the instances that have fired since the job's first dispatch, without their contributions -/
  fired : List RedInst := []
  /-- 16; R79 R102; reset empty: grid table, user grid IDs 16 to 31 -/
  grids : Tab (Option UserGrid) := []
  /-- 64 × 7; R54; reset identity (R54 step 1): graft table -/
  graft : List Nat := List.range 64
  /-- 68; R54 R55; reset empty: failed physical engines -/
  failed : List Nat := []
  /-- 1; R56; reset 0: withdrawn -/
  withdrawn : Bool := false
  /-- 1; R54 R337; reset 0: the self-test of R54 has run since the core was switched on -/
  tested : Bool := false
  /-- 32; R59; reset 0: the core's error counter -/
  corrected : Nat := 0
  /-- 32; R66; reset 0: program-store errors counted against the core in the health log -/
  progErrors : Nat := 0
  /-- 1; R360 R362; reset 0: held out of service by a margin hold -/
  marginHeld : Bool := false
  /-- 1; R362; reset 0: held out of service by a thermal hold -/
  thermalHeld : Bool := false
deriving DecidableEq, Repr

/-- A core whose engines are to park or to stop: a bundle that is held issues no more (R99, R270). -/
def Core.stopping (k : Core) : Bool := k.parkReq || k.stopReq

/-! ### Memory, sync objects, remote operations, windows (chapters 3 and 5) -/

/-- Memory: DDR4, chip store, scratchpads and program stores at their device addresses (Table 1-4). -/
structure Mem where
  /-- 48-bit addresses; R14; reset nothing listed, an unlisted byte reads 0 DC 2: bytes in canonical form -/
  bytes : List Host.Cell := []
  /-- 3 copies an 8-byte word; R59 R105 R110; reset 0 DC 2: poison copies, by word number (address / 8); memories with one poison bit hold 0 or 7 -/
  poison : Tab (BitVec 3) := []
  /-- R59 R66 R106 R110; reset 0: bit errors present in an 8-byte word (a 16-byte unit of DDR4 under its first word): 0 none, 1 correctable, 2 uncorrectable -/
  err : Tab Nat := []
  /-- 8 × 32; R132; reset 0: DDR_CORR -/
  ddrCorr : Tab Nat := []
  /-- 8 × 32; R132; reset 0: DDR_UNCORR -/
  ddrUncorr : Tab Nat := []
  /-- 8 × 32; R132; reset 0: SCRUB_PASSES -/
  scrubPasses : Tab Nat := []
  /-- 8 × 27; R108; reset 0 DC 1: next 64-byte line each channel scrubs -/
  scrubPos : Tab Nat := []
  /-- 8 × 1; R108 R132; reset 0: REFRESH_3U9, the interval each channel refreshes at -/
  refresh39 : Tab Bool := []
  /-- 8; R108; reset 0 DC 70: elapsed time (2⁻⁶⁴ ns) from which each channel's next interval, and its offset, count -/
  refreshAt : Tab Nat := []
  /-- 4 × 32; R132; reset 0: STORE_CORR -/
  storeCorr : Tab Nat := []
  /-- 4 × 32; R132; reset 0: STORE_UNCORR -/
  storeUncorr : Tab Nat := []
  /-- 32 × 8; R108 R352; reset 0 DC 1: DDR4 device temperatures, °C -/
  ddrTemp : List Int := []
  /-- 1; R340; reset 0: DDR4 in self-refresh -/
  selfRefresh : Bool := false
  /-- 4; R393; reset 0: partition n's two channels in self-refresh, by a reset of it -/
  partRefresh : BitVec 4 := 0
deriving DecidableEq, Repr

/-- A remote operation in flight (R114 to R122). -/
structure ROp where
  id : Nat
  core : Nat
  eng : Nat
  /-- 12; R122: PC of the bundle that issued it -/
  pc : Nat
  /-- R122: descriptor offset; 0xFFFFFFFF for SIG -/
  desc : Nat
  ctx : Nat
  /-- 16; R257: the SID its transfers carry -/
  sid : W16
  kind : Nat
  cls : Nat
  aop : Nat
  lsyncOn : Bool
  loc : Nat
  remote : W64
  len : Nat
  lsync : Nat
  rsync : Nat
  amount : W64
  /-- R119: program order within the engine -/
  seq : Nat
  /-- device address of the target inside this module, once known -/
  target : Nat
  /-- 0 a window check is awaited, 1 may proceed, 2 effect taken (to a peer: handed to the runner), 3 failed, 4 lost in a
  partition reset (R393) -/
  phase : Nat
  /-- R388: elapsed time since which it waits to reach its target -/
  since : Nat := 0
  /-- 8; Table 5-7 -/
  status : Nat
  /-- R124: the window it passed, of this module -/
  window : Option Nat
  /-- R332: the runner it leaves on -/
  runner : Option Nat
  /-- R124: the operation as a peer sent it -/
  peer : Option PeerOp
deriving DecidableEq, Repr

/-- A permission entry of a window (Table 5-10 PERM). -/
structure Perm where
  module : Nat
  ctx : Nat
  rights : BitVec 4
deriving DecidableEq, Repr

/-- A window (R123). -/
structure Window where
  /-- R125 R130; reset 0: 0 closed, 1 open, 2 closing -/
  state : Nat := 0
  /-- 6; R123; reset 0: owning context -/
  ctx : Nat := 0
  /-- 6; R123; reset 0: LOG2_SIZE -/
  log2 : Nat := 0
  /-- 48; R123; reset 0: BASE -/
  base : Nat := 0
  /-- 16; R123; reset 0: SYNC_BASE -/
  syncBase : Nat := 0
  /-- 16; R123; reset 0: SYNC_COUNT -/
  syncCount : Nat := 0
  /-- 1 to 16 entries; R123; reset empty -/
  perms : List Perm := []
  /-- R125; reset 0: operations checked before the close point and not completed -/
  pending : Nat := 0
deriving DecidableEq, Repr

/-- One context's credits on one runner (R126). -/
structure Credit where
  /-- 11; R126; reset 0: reservation -/
  reserved : Nat := 0
  /-- 11; R126; reset 0: credits in use -/
  inUse : Nat := 0
  /-- R126; reset empty: packets waiting, oldest first -/
  waiting : List OutPacket := []
deriving DecidableEq, Repr

/-- Gragor's own credits on one runner, of 64 (R126). -/
structure OwnCredit where
  /-- 7; R126; reset 0: credits in use -/
  inUse : Nat := 0
  /-- R126 R395; reset empty: notices waiting, oldest first -/
  waiting : List LinkPacket := []
deriving DecidableEq, Repr

/-- Remote operations, sync objects, windows and credits. -/
structure Fabric where
  /-- R114; reset empty: operations in flight, oldest first -/
  ops : List ROp := []
  /-- reset 0: number of the next operation (the model's own name for it) -/
  nextOp : Nat := 0
  /-- 65,536 × 64; R112; reset 0 DC 1: sync objects -/
  sync : Tab W64 := []
  /-- 256; R123; reset closed: windows -/
  windows : Tab Window := []
  /-- 4 × 64; R126; reset 0: credits of context c on runner r at number 64r + c -/
  credits : Tab Credit := []
  /-- 4; R126; reset 0: Gragor's own credits on runner r -/
  own : Tab OwnCredit := []
  /-- 4 × 1; R393; reset 0: partition n's bridges are closed -/
  bridgeClosed : Tab Bool := []
deriving DecidableEq, Repr

/-! ### Contexts, jobs and scheduling (chapters 6 and 12) -/

/-- A job record (Table 6-2). -/
structure JobRecord where
  jobId : Nat
  /-- 16; R276: the TAG JOB_ABORT may name it by -/
  tag : Nat
  ctx : Nat
  outcome : Nat
  mode : Nat
  step : W64
  seed : W64
  imageCrc : W32
  coreMask : W32
  args : List W32
  preemptions : Nat
  retries : Nat
  runFab : Nat
deriving DecidableEq, Repr

/-- An image in a context's image store (R260). -/
structure Image where
  base : Nat
  bytes : Nat
  crc : W32
  /-- the copy is complete and checked -/
  loaded : Bool
  /-- source address, while the copy runs -/
  srcAddr : Nat
  /-- R321; elapsed time at which the copy began -/
  startAt : Nat := 0
deriving DecidableEq, Repr

/-- A semaphore binding (R272). -/
structure SemBind where
  base : Nat
  count : Nat
  holder : Nat
deriving DecidableEq, Repr

/-- The fault a context records (R278, Table 12-6). -/
structure CtxFault where
  /-- 32; reset 0: FAULT_JOB -/
  job : Nat := 0
  /-- 8; reset 0xFF: FAULT_CORE -/
  core : Nat := 0xFF
  /-- 8; reset 0: FAULT_ENGINE -/
  eng : Nat := 0
  /-- 8; reset 0: FAULT_KIND -/
  kind : Nat := 0
  /-- 8; reset 0: RMO_STATUS -/
  status : Nat := 0
  /-- 16; reset 0: FAULT_PC -/
  pc : Nat := 0
  /-- 32; reset 0xFFFFFFFF: DESC_OFF -/
  desc : Nat := 0xFFFFFFFF
deriving DecidableEq, Repr

/-- A context (R257). -/
structure Ctx where
  /-- 2; R257; reset 0 FREE: 0 FREE, 1 ACTIVE, 2 TORN_DOWN -/
  state : Nat := 0
  /-- 4; R257; reset 0: owning client -/
  client : Nat := 0
  /-- 4; R258; reset 0: cloche -/
  cloche : Nat := 0
  /-- 3; R261; reset 0: MAX_PRIORITY -/
  maxPrio : Nat := 0
  /-- 9; R270; reset 0: YIELD_WAIT_US -/
  yieldWait : Nat := 0
  /-- 14; R273; reset 0: INHERIT_SLICE_US -/
  inheritSlice : Nat := 0
  /-- 48; R259; reset 0: SAVE_BASE -/
  saveBase : Nat := 0
  /-- 64; R259; reset 0: SAVE_BYTES -/
  saveBytes : Nat := 0
  /-- 16; R260; reset empty: image slots -/
  images : Tab (Option Image) := []
  /-- 16 ranges; R129; reset empty: allocated sync ranges, (BASE, COUNT) -/
  ranges : List (Nat × Nat) := []
  /-- 16; R272; reset empty: semaphore bindings -/
  binds : List SemBind := []
  /-- 64; R144; reset 0: seed -/
  seed : W64 := 0
  /-- 64; R143 R144; reset 0: step counter -/
  step : W64 := 0
  /-- 1; R143 R144; reset 0: step mode, 0 advance, 1 hold -/
  mode : Nat := 0
  /-- 16; R145; reset empty: job records, most recent first -/
  records : List JobRecord := []
  /-- R278; reset none: recorded fault -/
  fault : CtxFault := {}
  /-- 8; R278; reset 0: EXTRA_FAULTS -/
  extraFaults : Nat := 0
  /-- 8; R185 R15; reset 0: kind of a fault that a unit other than an engine brings on the context, until handled -/
  hwFault : Nat := 0
  /-- 16; R395; reset 0: fabric group -/
  group : Nat := 0
  /-- 1; R395; reset 0: AUTO flag of the fabric group -/
  groupAuto : Bool := false
  /-- R280; reset 0: CTX_DESTROY accepted, waiting for the last window (its client + 1, else 0) -/
  destroying : Bool := false
deriving DecidableEq, Repr

/-- The states of a job before its outcome (Table 12-1). -/
inductive JobState where
  | queued | ready | dispatched | parked
deriving DecidableEq, Repr

/-- What is saved of one core of a parked job (R259, R269, R270): what a save slot holds. -/
structure CoreSave where
  core : Nat
  bundles : Nat
  mask : W64
  engines : List (Nat × Engine)
  red : List RedInst
  fired : List RedInst
  grids : Tab (Option UserGrid)
  /-- the core's scratchpad and program store, and their poison -/
  bytes : List Host.Cell
  poison : Tab (BitVec 3)
deriving DecidableEq, Repr

/-- An accepted job (R261, Table 12-5). -/
structure Job where
  id : Nat
  ctx : Nat
  client : Nat
  tag : Nat
  prio : Nat
  mask : W32
  runLimit : Nat
  args : List W32
  /-- image slot of each core -/
  slots : List Nat
  state : JobState
  /-- order of admission; 0 while queued -/
  admitted : Nat
  seed : W64
  step : W64
  mode : Nat
  /-- elapsed time of acceptance and of first dispatch (2⁻⁶⁴ ns) -/
  acceptedAt : Nat
  firstDispatch : Option Nat
  /-- elapsed time of the present dispatch -/
  dispatchedAt : Nat
  /-- DISPATCHED time before the present dispatch -/
  dispatched : Nat
  /-- R145: the count of `Time.cycles` at its first dispatch -/
  cycleAt : Nat := 0
  preemptions : Nat
  retries : Nat
  /-- R272: inherited priority, 0 for none -/
  inherited : Nat
  /-- R273: the wait this job's slice serves: the waiter's JOB_ID, the sync object, its threshold -/
  sliceFor : Option (Nat × Nat × Nat)
  /-- R273: DISPATCHED time at which the reserved slice began -/
  sliceStart : Nat
  /-- R273: the slice's time has been DISPATCHED; the next one begins at the next decision, if its wait is still held -/
  lapsed : Bool := false
  /-- R273: the wait of the slice has been released -/
  waitDone : Bool := false
  /-- R269: elapsed time of the park request, when one is pending -/
  parkAt : Option Nat
  /-- R270 R278 R387: elapsed time at which a forced stop of its engines began -/
  forcedAt : Option Nat := none
  /-- R267: it has been given its cores and waits for its dispatch -/
  granted : Bool
  /-- cores that hold the parked state in place -/
  inPlace : List Nat
  saves : List CoreSave
  /-- JOB_DISPATCH has loaded the images once (R266) -/
  loaded : Bool
deriving DecidableEq, Repr

/-- A client's scheduling state (R264, R268, R281). -/
structure Client where
  /-- 6; R264; reset 8: QB -/
  qb : Nat := 8
  /-- 10; R268 R281; reset 0: SHARE, permille -/
  share : Nat := 0
  /-- R268; reset 0: DISPATCHED time of its jobs in this share period before the present dispatches (2⁻⁶⁴ ns) -/
  used : Nat := 0
  /-- R281; reset 0: elapsed time of the last clear of the counters -/
  clearedAt : Nat := 0
  /-- 14 counters; R281; reset 0: the counters of Table 12-7 in its order, from ACCEPTED at 0 (OUTSTANDING is derived) -/
  ctr : Tab Nat := []
deriving DecidableEq, Repr

/-- Contexts, jobs and Gragor's scheduler. -/
structure Sched where
  /-- 64; R257; reset FREE: contexts -/
  ctxs : Tab Ctx := []
  /-- R262; reset empty: jobs without an outcome, in acceptance order -/
  jobs : List Job := []
  /-- 32; R261; reset 1: next JOB_ID -/
  nextJob : Nat := 1
  /-- reset 1: next admission order -/
  nextAdmit : Nat := 1
  /-- 15; R264; reset QB 8 share 0: clients -/
  clients : Tab Client := []
  /-- 64; R268 R285; reset 0: network time at which the share period began, in units of 100 ms -/
  period : Nat := 0
  /-- R285; reset 0: elapsed time at which the share period began -/
  periodStart : Nat := 0
  /-- R268 R285; reset 100 ms: the share period's length (2⁻⁶⁴ ns) -/
  periodLen : Nat := 100000000 * 2 ^ 64
  /-- R267; reset 0: a decision point has arisen and no decision has been made since -/
  due : Bool := false
  /-- R267; reset 0: the millisecond of network time of the last decision -/
  lastMs : Nat := 0
deriving DecidableEq, Repr

/-! ### KV pages (chapter 7) -/

/-- A staged entry (Table 7-4). -/
structure Staged where
  seq : Nat
  action : Nat
  attr : Nat
  new : Nat
deriving DecidableEq, Repr

/-- A sequence (R150, Table 7-11). -/
structure Seq where
  /-- 2; R150; reset 0 FREE: 0 FREE, 1 RESIDENT, 2 SWAPPED, 3 DROPPED -/
  state : Nat := 0
  /-- 5; R150; reset 0: its pool -/
  pool : Nat := 0
  /-- 4; R150; reset 0: ATTR, [2:0] priority, [3] kind DROP -/
  attr : Nat := 0
  /-- 10; R151; reset 0: slot, when RESIDENT -/
  slot : Nat := 0
  /-- 32; R150; reset 0: LEN -/
  len : Nat := 0
  /-- R149; reset empty: its pages in page-list order -/
  pages : List Nat := []
  /-- R150; reset empty: its cold slots in page-list order -/
  cold : List Nat := []
  /-- 64; R157; reset 0: JOIN_COMMIT -/
  joinCommit : Nat := 0
deriving DecidableEq, Repr

/-- One outcome of a commit (Table 7-10 RECORD). -/
structure KvOutcome where
  seq : Nat
  code : Nat
  state : Nat
  pages : Nat
deriving DecidableEq, Repr

/-- A KV pool (R148). -/
structure Pool where
  /-- 1; R148; reset 0: it exists -/
  live : Bool := false
  /-- 6; R148; reset 0: owning context -/
  ctx : Nat := 0
  log2Page : Nat := 0
  log2Token : Nat := 0
  seqSlots : Nat := 0
  numPages : Nat := 0
  maxPages : Nat := 0
  pageBase : Nat := 0
  plBase : Nat := 0
  ltBase : Nat := 0
  coldSlots : Nat := 0
  coldBase : Nat := 0
  coldMap : Nat := 0
  /-- 1,024 entries; R154; reset empty: staged list -/
  staged : List Staged := []
  /-- 64; R152; reset 0: successful commits -/
  commits : Nat := 0
  /-- 16; R170 Table 7-9; reset 0: PLACED, the entries of the length table -/
  placed : Nat := 0
  /-- R170; reset none: outcomes of the last completed commit -/
  outcomes : Option (List KvOutcome) := none
  /-- 5 × 32; R171; reset 0: PREEMPTIONS, DEFERRALS, NOT_PLACED, PAGES_OUT, PAGES_IN -/
  ctr : Tab Nat := []
deriving DecidableEq, Repr

/-- What a commit in progress has decided (R156 to R160). -/
structure Plan where
  pool : Nat
  /-- the sequences as they will stand -/
  seqs : Tab Seq
  /-- swap-outs in the order of the victims, page by page: page, cold slot -/
  outs : List (Nat × Nat)
  /-- swap-ins in placement order, page by page: page, cold slot -/
  ins : List (Nat × Nat)
  /-- the length table: (SEQ, SLOT, LEN, NEW) in ascending sequence -/
  table : List (Nat × Nat × Nat × Nat)
  outcomes : List KvOutcome
  preempted : Nat
  deferrals : Nat
  notPlaced : Nat
  /-- R321: elapsed time at which its transfers began -/
  startAt : Nat := 0
deriving DecidableEq, Repr

/-- KV pools, sequences and commits. -/
structure Kv where
  /-- 32; R148; reset none: pools -/
  pools : Tab Pool := []
  /-- 1,024; R150; reset FREE: sequences -/
  seqs : Tab Seq := []
  /-- R166; reset empty: pools whose accepted commit waits, oldest first -/
  waiting : List Nat := []
  /-- R160; reset none: the commit in progress -/
  plan : Option Plan := none
  /-- R166; reset empty: completions of commits offered and not yet posted: the owning context, and the EVT_HEAD at which the record
  is posted -/
  owed : List (Nat × W32) := []
deriving DecidableEq, Repr

/-! ### Stream queues (chapter 8) -/

/-- A word in the SQM (R172). -/
structure SqWord where
  /-- 64: data bits -/
  data : W64
  /-- 8; Table 8-1: tag -/
  tag : BitVec 8
  /-- 1; R184: a parity error is present in the buffer that holds it -/
  perr : Bool
deriving DecidableEq, Repr

/-- Who waits to push (R176, R177). -/
inductive Producer where
  | engine (core : Nat) (eng : Nat)
  | intake (st : Nat)
  | trellis
deriving DecidableEq, Repr

/-- A push that has presented and is not accepted (R176). -/
structure WaitPush where
  who : Producer
  sid : W16
  words : List SqWord
deriving DecidableEq, Repr

/-- A set of positions (R173). -/
structure Positions where
  /-- 64; R173; reset 0: WRITE_POS -/
  wp : Nat := 0
  /-- 64; R173; reset 0: READ_POS -/
  rp : Nat := 0
  /-- 64; R173; reset 0: MARK_POS -/
  mp : Nat := 0
  /-- 64; R173; reset 0: RELEASE_POS -/
  lp : Nat := 0
deriving DecidableEq, Repr

/-- A stream queue (R173, Table 8-4, Table 8-6). -/
structure Queue where
  /-- 2; R188; reset 0 FREE: 0 FREE, 1 ACTIVE, 2 FROZEN, 3 FAULTED -/
  state : Nat := 0
  /-- 2; R188; reset 0: 0 S, 1 M, 2 L -/
  form : Nat := 0
  /-- 1; R180 R188; reset 0: automatic release -/
  auto : Bool := false
  /-- 1; R182; reset 0: notices on -/
  notices : Bool := false
  /-- 5; R174; reset 0: LOG2_SPILL -/
  log2 : Nat := 0
  /-- 6; R190; reset 0: owning context -/
  owner : Nat := 0
  prodKind : Nat := 0
  prodId : Nat := 0
  consKind : Nat := 0
  consId : Nat := 0
  /-- 16; R182; reset 0: NOTICE_SYNC -/
  noticeSync : Nat := 0
  /-- 32; R183 R188; reset 0: LEVEL -/
  level : Nat := 0
  /-- 48; R174; reset 0: spill region -/
  spillBase : Nat := 0
  /-- 48; R174; reset 0: tag region -/
  tagBase : Nat := 0
  /-- R173 R185; reset 0: main copy -/
  main : Positions := {}
  /-- R185; reset 0: shadow copy, in PD_SAFE -/
  shadow : Positions := {}
  /-- 64; R188; reset 0: PACKETS -/
  packets : Nat := 0
  /-- 1; R185 R188; reset 0: PTR_MISMATCH -/
  mismatch : Bool := false
  /-- 1; R184 R188; reset 0: PARITY_SEEN -/
  paritySeen : Bool := false
  /-- 16 words; R175; reset empty: the head, words from READ_POS onward -/
  head : List SqWord := []
  /-- 16 words; R175; reset empty: the tail, the words accepted most recently -/
  tail : List SqWord := []
  /-- R176; reset empty: pushes that wait -/
  waiting : List WaitPush := []
  /-- R328; reset empty: of a queue that a transmit port consumes, each EOP word not yet popped: its position and the
  network time of its acceptance (2⁻⁶⁴ ns) -/
  eops : List (Nat × Nat) := []
  /-- 4 × 32; R189; reset 0: parity errors, spill uncorrectable errors, push holds, level crossings -/
  ctr : Tab Nat := []
deriving DecidableEq, Repr

/-! ### Sensor intake (chapter 9) -/

/-- A CSI-2 receive port (R191, R210). -/
structure RxPort where
  /-- 1; R211; reset 0: configured -/
  live : Bool := false
  phy : Nat := 0
  lanes : Nat := 0
  rate : Nat := 0
  /-- 5 × 32; R212; reset 0: HDR_CORR, HDR_UNCORR, CRC_ERRORS, UNMATCHED, BUF_OVERFLOW -/
  ctr : Tab Nat := []
deriving DecidableEq, Repr

/-- The configuration of a stream (Table 9-6). -/
structure StreamCfg where
  port : Nat := 0
  vc : Nat := 0
  dtype : Nat := 0
  format : Nat := 0
  mode : Nat := 0
  conceal : Nat := 0
  fill : Byte := 0
  wIn : Nat := 0
  hIn : Nat := 0
  outW : Nat := 0
  outH : Nat := 0
  cropX0 : Nat := 0
  cropY0 : Nat := 0
  rangeX : Nat := 0
  rangeY : Nat := 0
  flags : BitVec 5 := 0
  brightRange : Nat := 0
  refAge : Nat := 0
  queue : Nat := 0
  batch : Nat := 0
  frameUs : Nat := 0
  lowWater : Nat := 0
  missMax : Nat := 0
  refBase : Nat := 0
deriving DecidableEq, Repr

/-- A frame a stream is receiving (R195, R206). -/
structure Frame where
  /-- 16; R193: CSI-2 frame number -/
  num : Nat
  /-- R206: admitted as a sample -/
  admitted : Bool
  /-- the lines received, in order; `none` is a damaged line -/
  lines : List (Option (List Byte))
  /-- R194 R195: the payload of a JPEG frame; `none` where a packet's bytes were lost -/
  jpeg : List (Option Byte)
  /-- elapsed time of its Frame Start -/
  startAt : Nat
deriving DecidableEq, Repr

/-- An intake stream (R209, Table 9-7). -/
structure Stream where
  /-- 2; R209; reset 0: 0 UNCONFIGURED, 1 READY, 2 RUNNING -/
  state : Nat := 0
  /-- Table 9-6; reset 0 -/
  cfg : StreamCfg := {}
  /-- 128 bytes; R202; reset none: LUT -/
  lut : Option (List Byte) := none
  /-- 64; R200; reset 0: SEED -/
  seed : W64 := 0
  /-- 64; R200; reset 0: EPOCH -/
  epoch : W64 := 0
  /-- 64; R205; reset 0: SAMPLE_BASE -/
  base : Nat := 0
  /-- 64; R212; reset 0: next sample index -/
  next : Nat := 0
  /-- 1; R196; reset 0: STALLED -/
  stalled : Bool := false
  /-- R196; reset 0: consecutive MISSING samples -/
  missing : Nat := 0
  /-- R199; reset none: samples since the last one with an undamaged line; none before the first sample -/
  refAge : Option Nat := none
  /-- 1; R207; reset 0: the number of prepared batches is below LOW_WATER -/
  below : Bool := false
  /-- R207; reset 0: the number last stood at LOW_WATER or above -/
  armed : Bool := false
  /-- R207; reset 0: elapsed time of the last periodic evaluation of the prepared batches -/
  lowAt : Nat := 0
  /-- R196 R285; reset none: elapsed time of the next missing deadline -/
  deadline : Option Nat := none
  /-- R195; reset none: the frame being received -/
  frame : Option Frame := none
  /-- R194; reset 0: the JPEG decoder it is assigned to -/
  decoder : Nat := 0
  /-- R209; reset 0: a stop is requested -/
  stopping : Bool := false
  /-- R209; reset empty: words of the admitted sample held while the queue is FROZEN -/
  remainder : List SqWord := []
  /-- 8 × 32; R212; reset 0: SAMPLES, DAMAGED, REFUSED, MISSING, OVERRUNS, LINES_CONCEALED, EXTRA_LINES, TRUNCATED -/
  ctr : Tab Nat := []
deriving DecidableEq, Repr

/-! ### Trellis (chapter 10) -/

/-- A signal (R213). -/
structure Signal where
  /-- 32; R213; reset 0 DC 1: value, binary32 -/
  val : W32 := 0
  /-- R213; reset 0 DC 1: network time of the last update (2⁻⁶⁴ ns) -/
  time : Nat := 0
deriving DecidableEq, Repr

/-- An input map (R213). -/
structure InMap where
  controller : Nat
  object : Nat
  byte : Nat
  format : Nat
  signal : Nat
  scale : W32
  offset : W32
deriving DecidableEq, Repr

/-- The configuration of a stage (Table 10-5). -/
structure StageCfg where
  meas : Nat := 0
  ffIndex : Nat := 0
  kp : W32 := 0
  kit : W32 := 0
  kdt : W32 := 0
  kff : W32 := 0
  imin : W32 := 0
  imax : W32 := 0
  umin : W32 := 0
  umax : W32 := 0
  iInit : W32 := 0
deriving DecidableEq, Repr

/-- The configuration of a loop (Table 10-4). -/
structure LoopCfg where
  stages : Nat := 0
  rcStage : Nat := 0xFF
  flags : BitVec 4 := 0
  periodUs : Nat := 0
  phaseUs : Nat := 0
  launchUs : Nat := 0
  refIndex : Nat := 0
  staleSamples : Nat := 0
  refConst : W32 := 0
  rampStep : W32 := 0
  safeValue : W32 := 0
  faultAction : Nat := 0
  measMiss : Nat := 0
  resCount : Nat := 0
  supStage : Nat := 0
  modelA : W32 := 0
  modelB : W32 := 0
  modelC : W32 := 0
  resMax : W32 := 0
  rcLen : Nat := 0
  rcLead : Nat := 0
  rcGain : W32 := 0
  rcForget : W32 := 0
  rcLimit : W32 := 0
  outKind : Nat := 0
  outUnit : Nat := 0
  outObj : Nat := 0
  outFormat : Nat := 0
  outByte : Nat := 0
  outTemplate : Nat := 0
  outScale : W32 := 0
  stage : List StageCfg := []
deriving DecidableEq, Repr

/-- The state of a stage (R220). -/
structure StageSt where
  /-- 32; R220; reset 0: i -/
  i : W32 := 0
  /-- R220; reset 0: sat, +1, 0 or −1 -/
  sat : Int := 0
  /-- 32; R220; reset 0: yprev -/
  yprev : W32 := 0
deriving DecidableEq, Repr

/-- A loop's state (Table 10-1). -/
inductive LoopState where
  | off | armed | ramp | run | fault
deriving DecidableEq, Repr

/-- A control loop (R225, Table 10-6). -/
structure Loop where
  /-- R225; reset OFF -/
  state : LoopState := .off
  /-- R236; reset none: the client that last configured it -/
  client : Option Nat := none
  cfg : LoopCfg := {}
  /-- R220; reset empty: stage state -/
  stage : List StageSt := []
  /-- 4,096 × 32; R223; reset 0: repetitive-controller table -/
  table : Tab W32 := []
  /-- 32; R227; reset 0: ramped reference q -/
  q : W32 := 0
  /-- R226; reset none: hold value -/
  holdVal : Option W32 := none
  /-- R221 R226; reset 0: network time of the start -/
  startAt : Nat := 0
  /-- R228; reset 0: network time of the last sample in RAMP or RUN, or of the start -/
  sampleAt : Nat := 0
  /-- 1; R220; reset 0: no sample evaluated since the start -/
  first : Bool := true
  /-- R228; reset 0: miss count (in ARMED, instants without a first sample) -/
  missCnt : Nat := 0
  /-- R228; reset 0: staleness count -/
  staleCnt : Nat := 0
  /-- R229; reset 0: residual count -/
  resCnt : Nat := 0
  /-- R229; reset none: previous measurement yp and command up of the model check -/
  hist : Option (W32 × W32) := none
  /-- R226 R228; reset 0: network time of the previous instant (or of the start) -/
  prevAt : Nat := 0
  /-- 1; R230; reset 0: a command has been written since the start -/
  wrote : Bool := false
  /-- 1; R230; reset 0: a parity error stands in its parameters, state or table (no command makes one) -/
  parity : Bool := false
  /-- 8; R230; reset 0: CAUSE -/
  cause : Nat := 0
  /-- 64; R237; reset 0: LAST_N -/
  lastN : Nat := 0
  /-- 32; R237; reset 0: LAST_U -/
  lastU : W32 := 0
  /-- 6 × 32; R237; reset 0: SAMPLES, MISSES, FAULTS, SUPPRESSED, ARMED_WAITS, FAULT_INSTANTS -/
  ctr : Tab Nat := []
deriving DecidableEq, Repr

/-- The packet Trellis is reading (R215). -/
structure OpenPacket where
  kind : Nat
  words : List W64
  bad : Bool
deriving DecidableEq, Repr

/-- A trace record (R234). -/
structure TraceRec where
  sec : W32
  ns : W32
  value : W32
  probe : Nat
  state : Nat
deriving DecidableEq, Repr

/-- A probe (R234): loop, stage, quantity. -/
structure Probe where
  loop : Nat := 0
  stage : Nat := 0
  quantity : Nat := 0
deriving DecidableEq, Repr

/-- The trace (R234, R235). -/
structure Trace where
  /-- 16; R235; reset 0: PROBE_EN -/
  en : W16 := 0
  probes : List Probe := []
  trigProbe : Nat := 0
  cond : Nat := 0
  trigLoop : Nat := 0
  post : Nat := 0
  level : W32 := 0
  /-- R235; reset 0: recording -/
  armed : Bool := false
  /-- R235; reset none: the trigger record index, once triggered, and the records still to take -/
  trig : Option (Nat × Nat) := none
  /-- R235; reset 0: the ring is frozen -/
  frozen : Bool := false
  /-- R235; reset empty: loops that entered FAULT since the trace was armed -/
  faults : List Nat := []
  /-- 16,384 records; R234; reset empty: the ring, oldest first -/
  ring : List TraceRec := []
deriving DecidableEq, Repr

/-- The tables a tick snapshots for the loops that are due (R217). -/
structure Snapshot where
  /-- R217: whole microseconds of network time -/
  us : Nat := 0
  signals : Tab Signal := []
  policy : Tab W32 := []
  banks : Tab Nat := []
  /-- R218: loops due and not yet evaluated, ascending -/
  due : List Nat := []
  /-- R232: bytes each loop wrote for this instant: loop, bytes -/
  wrote : List (Nat × List Byte) := []
  /-- R232: loops that wrote nothing for this instant -/
  silent : List Nat := []
deriving DecidableEq, Repr

/-- Trellis. -/
structure Trellis where
  /-- 256; R213; reset 0 DC 1 -/
  signals : Tab Signal := []
  /-- 128; R213; reset none: input maps -/
  maps : Tab (Option InMap) := []
  /-- 512 × 32; R214; reset 0 DC 1: the policy vector -/
  policy : Tab W32 := []
  /-- 8; R214; reset 0: commit time of each bank plus one (2⁻⁶⁴ ns); 0 never committed -/
  banks : Tab Nat := []
  /-- 9; R214 R236; reset none: POLICY_Q -/
  policyQ : Option Nat := none
  /-- 9; R233 R236; reset none: STATUS_Q -/
  statusQ : Option Nat := none
  /-- R215; reset none: the open packet -/
  packet : Option OpenPacket := none
  /-- 64; R217; reset OFF: loops -/
  loops : Tab Loop := []
  /-- 64 × 128 bytes; R231; reset empty: frame templates -/
  templates : Tab (List Byte) := []
  /-- R217; reset none: the last base tick, in whole microseconds of network time -/
  lastUs : Nat := 0
  /-- R217 R218; reset empty: ticks with loops not yet evaluated or launched, oldest first -/
  snaps : List Snapshot := []
  trace : Trace := {}
  /-- 3 × 32; R237; reset 0: COMMITTED, DISCARDED, STATUS_DROPPED -/
  ctr : Tab Nat := []
deriving DecidableEq, Repr

/-! ### Mailboxes and events (chapter 11) -/

/-- A client mailbox (Table 11-2). -/
structure Mbx where
  /-- 1; R242; reset 0: OWNER -/
  owner : Bool := false
  /-- 3; R242; reset 0: STATE, 0 IDLE, 1 PENDING, 2 RUNNING, 3 DONE, 4 SEQERR, 5 RESTARTED -/
  state : Nat := 0
  /-- 1; R240; reset 0: WRB -/
  wrb : Bool := false
  /-- 2; R242; reset 0: PATH -/
  path : Nat := 0
  /-- 8; R242; reset 0: SEQ of the last accepted hand-over -/
  seq : Nat := 0
  /-- 8; R242; reset none: the last accepted value L -/
  last : Option Nat := none
  /-- 1; R242; reset 0: a response for L is held -/
  held : Bool := false
  /-- 2; R242; reset 0: what the hand-over that is pending is: 0 new, 1 repeat, 2 sequence error -/
  pend : Nat := 0
  /-- 512 bytes; R239; reset 0 DC 1: REQUEST -/
  req : Tab Byte := []
  /-- 512 bytes; R243; reset 0 DC 1: RESPONSE -/
  resp : List Byte := []
  /-- 8; R253; reset none: the minor version granted, when the client is open -/
  minor : Option Nat := none
  /-- 5 × 32; R256; reset 0: COMMANDS, REPEATS, SEQERRS, IGNORED, BUSY_RETURNS -/
  ctr : Tab Nat := []
deriving DecidableEq, Repr

/-- An event record (Table 11-6). -/
structure EventRec where
  code : Nat := 0
  result : Nat := 0
  source : Nat := 0
  unsolicited : Bool := false
  tag : Nat := 0
  payload : List Byte := []
deriving DecidableEq, Repr

/-- A deferred command accepted and not completed (R246). -/
structure Deferred where
  client : Nat
  tag : Nat
  code : Nat
  /-- the object the command names -/
  key : Nat
deriving DecidableEq, Repr

/-- Mailboxes, the event mailbox and the host status registers. -/
structure Mailboxes where
  /-- 15; R238; reset IDLE: client mailboxes -/
  mbx : Tab Mbx := []
  /-- R248; reset 13: the last ordinary mailbox served -/
  lastServed : Nat := 13
  /-- R246; reset empty: deferred commands outstanding -/
  deferred : List Deferred := []
  /-- 32; R249; reset 0: EVT_HEAD -/
  evtHead : W32 := 0
  /-- 32; R249; reset 0: EVT_TAIL -/
  evtTail : W32 := 0
  /-- 32; R249 R250; reset 0: EVT_LOST -/
  evtLost : Nat := 0
  /-- R250; reset 0: events lost since the last EVENTS_LOST record -/
  lostSince : Nat := 0
  /-- 1,024 records; R250; reset empty: the backlog -/
  backlog : List EventRec := []
  /-- R250; reset empty: completions held while the backlog is full -/
  held : List EventRec := []
  /-- 16 × 32 bytes; R249; reset 0 DC 1: the ring -/
  ring : Tab EventRec := []
  /-- 32; R251; fixed: IDENT, part, grade, stepping (DC 13) -/
  part : Nat := Config.part2048
  /-- 8; R251; fixed (DC 13): 0 -C, 1 -X -/
  grade : Nat := 0
  /-- 8; R251; fixed (DC 13): 0xA1 or 0xB0 -/
  stepping : Nat := 0xB0
  /-- 32; R251; fixed (DC 13): CORE_ENABLE -/
  coreEnable : W32 := 0xFFFFFFFF
  /-- 64; R251; fixed (DC 13): SERIAL -/
  serialNo : W64 := Config.serial
  /-- 32; R251; reset 0: FW_VERSION -/
  fwVersion : W32 := 0
  /-- 16; R251; reset 0: IF_VERSION -/
  ifVersion : Nat := 0
  /-- 3; R251; reset 0 BOOT_ROM: GRAGOR_STATE.STATE -/
  gState : Nat := 0
  /-- 16; R251; reset 0: RESTARTS -/
  restarts : Nat := 0
  /-- 32; R251; reset 0: HEARTBEAT -/
  heartbeat : W32 := 0
  /-- R251 R285; reset 0: elapsed milliseconds already counted -/
  lastMs : Nat := 0
  /-- 4; R251 R426; reset 0 (open pins): STRAPS.MODULE_ID -/
  moduleId : Nat := 0
  /-- 2; R251 R426; reset 0: STRAPS.BOOT_SRC -/
  bootSrc : Nat := 0
  /-- 2; R251 R426; reset 0: STRAPS.PROFILE -/
  profileStrap : Nat := 0
  /-- 30; R241 R251; reset 0: MBX_PATH.PATHn -/
  mbxPath : BitVec 30 := 0
  /-- 1; R251; reset 0: MBX_PATH.LOCK -/
  mbxLock : Bool := false
  /-- 1; R317; reset 0: MSI-X enabled -/
  msixOn : Bool := false
  /-- 16; R317; reset 0xFFFF PRESUMED 16: vectors masked -/
  msixMask : W16 := 0xFFFF
  /-- 16; R317; reset 0: pending-bit array -/
  msixPba : W16 := 0
  /-- 16 × (64 + 32); R316; reset 0 DC 1: message address and data of the MSI-X table -/
  msixTab : Tab (W64 × W32) := []
  /-- 1; R324; reset 0: in-band interrupts enabled -/
  ibiOn : Bool := false
  /-- 16; R324; reset 0: sources whose IBI is pending -/
  ibiPend : W16 := 0
  /-- R324; reset none: the IBI raised and not yet accepted -/
  ibiRaised : Option Nat := none
  /-- 16; R323; reset 0 DC 1: offset of the I3C target port -/
  i3cOff : Nat := 0
  /-- 7; R322; reset none: dynamic address -/
  i3cAddr : Option Nat := none
  /-- reset 0: why READY is next reached: 0 power-on, 1 RESET#, 2 Gragor restart (Table 11-13 READY) -/
  readyReason : Nat := 0
  /-- 15 × 8; R246 R252; reset 0: deferred commands ended by the restart, by client -/
  ended : Tab Nat := []
deriving DecidableEq, Repr

/-! ### Network time and Ethernet (chapter 13) -/

/-- A frame in a launch-time queue (R293). -/
structure LaunchFrame where
  bytes : List Byte
  /-- launch time L (2⁻⁶⁴ ns) -/
  at_ : Nat
  /-- already counted late under SEND -/
  late : Bool
deriving DecidableEq, Repr

/-- A launch-time queue (R293, R295). -/
structure LaunchQueue where
  frames : List LaunchFrame := []
  /-- 1; R295; reset 0 DC 1: POLICY -/
  policy : Nat := 0
  /-- 20; R295; reset 0 DC 1: LATE_NS -/
  lateNs : Nat := 0
  /-- 1; R295; reset 0: event 0x0912 has been posted since configuration or clear -/
  told : Bool := false
deriving DecidableEq, Repr

/-- A receive filter and its ring (R296). -/
structure EthFilter where
  ctx : Nat
  ethertype : Nat
  mac : List Byte
  slots : Nat
  base : Nat
  sync : Nat
  /-- frames delivered: the n of R296 -/
  n : Nat
deriving DecidableEq, Repr

/-- An Ethernet port. -/
structure EthPort where
  /-- 1; R297; reset 0 DC 1: ENABLE -/
  enable : Bool := false
  /-- 48; R297; reset 0 DC 1 -/
  mac : List Byte := []
  /-- 32; R288; reset 0 DC 1: TX_LAT -/
  txLat : Nat := 0
  /-- 32; R288; reset 0 DC 1: RX_LAT -/
  rxLat : Nat := 0
  /-- 32; R287; reset 0 DC 1: ASYM -/
  asym : Int := 0
  /-- 1; R292; reset 0: link up -/
  link : Bool := false
  /-- 8; R293; reset empty -/
  queues : Tab LaunchQueue := []
  /-- R292; reset empty: the timing queue -/
  timing : List (List Byte) := []
  /-- R294; reset 0: elapsed time at which its line is idle and its inter-frame gap complete -/
  freeAt : Nat := 0
  /-- 16; R296; reset none -/
  filters : Tab (Option EthFilter) := []
  /-- 9 × 32; R298; reset 0: TX_FRAMES … PTP_IGNORED in the order of Table 13-6 -/
  ctr : Tab Nat := []
deriving DecidableEq, Repr

/-- The time counter, its servo, the timing instance and PPS. -/
structure Time where
  /-- 64 + 30 + 16 + 48 bits; R282 R283; reset 0: the counter in units of 2⁻⁶⁴ ns (SEC, NS, FRAC and the 48 bits below) -/
  now : Nat := 0
  /-- R285; reset 0: the counter's advance since power-on, steps left out -/
  elapsed : Nat := 0
  /-- R145 R347; reset 0: TSC cycles, which RATE does not scale, in which the FAB clock ran -/
  cycles : Nat := 0
  /-- 49, signed; R283; reset 0 DC 1: RATE -/
  rate : Int := 0
  /-- 1; R284; reset 0: step closed -/
  stepClosed : Bool := false
  /-- 1; R284 R297; reset 0: stepped -/
  stepped : Bool := false
  /-- 2; R286; reset 0 HOST DC 1: servo mode -/
  mode : Nat := 0
  /-- 1; R286; reset 0 DC 1 -/
  autoStep : Bool := false
  lockNs : Nat := 0
  stepMinNs : Nat := 0
  /-- 32; R286; reset 0 DC 1: GP -/
  gp : W32 := 0
  /-- 32; R286; reset 0 DC 1: GI -/
  gi : W32 := 0
  /-- 32; R286; reset 0: acc -/
  acc : W32 := 0
  /-- 2; R286; reset 0 FREE: 0 FREE, 1 ACQUIRING, 2 LOCKED -/
  servo : Nat := 0
  /-- R286; reset 0: consecutive measurements within LOCK_NS -/
  inLock : Nat := 0
  /-- R286; reset 0: consecutive measurements above LOCK_NS -/
  outLock : Nat := 0
  /-- R286; reset none: elapsed time of the last measurement -/
  lastMeas : Option Nat := none
  /-- 32; R297; reset 0: OFFSET_NS -/
  offsetNs : Int := 0
  /-- R286; reset 0: the first PTP measurement decides the step -/
  firstMeas : Bool := true
  /-- 96 bits; R287; reset 0 DC 1: the parameters of Table 13-5 -/
  ptp : List Byte := []
  /-- R287; reset 0: elapsed time of a port's last Sync, delay request and Announce sent and Announce received, at 4 × port + kind -/
  ptpTimers : Tab Nat := []
  /-- 8; R287 R297; reset 0 disabled: port roles -/
  roles : List Nat := []
  /-- 64; R297; reset 0: GM_IDENTITY -/
  gm : W64 := 0
  /-- 1; R290; reset 0: OUT_EN -/
  ppsOutEn : Bool := false
  /-- 2; R289; reset 0 DC 1: IN_EDGE -/
  ppsInEdge : Nat := 0
  ppsWidthMs : Nat := 0
  ppsOffsetNs : Nat := 0
  /-- 1; R290; reset 0 low: level the block drives on PPS_OUT -/
  ppsOut : Bool := false
  /-- R290; reset none: the second of the last rise -/
  ppsLastSec : Option Nat := none
  /-- R290; reset 0: elapsed time at which PPS_OUT falls -/
  ppsFallAt : Nat := 0
  /-- 32; R289 R297; reset 0: PPS_CAPTURE_NS -/
  ppsCaptureNs : Nat := 0
  /-- R289; reset none: elapsed time of the last edge captured -/
  ppsLastEdge : Option Nat := none
  /-- R289; reset 0: edges captured -/
  ppsCount : Nat := 0
  /-- 4; chapter 13; reset disabled: Ethernet ports -/
  ports : Tab EthPort := []
deriving DecidableEq, Repr

/-! ### CAN FD (chapter 14) -/

/-- A frame as Table 14-5 records it. -/
structure CanRec where
  time : Nat := 0
  len : Nat := 0
  flags : BitVec 4 := 0
  id : BitVec 29 := 0
  data : List Byte := []
deriving DecidableEq, Repr

/-- A frame handed over (R306). -/
structure CanPend where
  at_ : Nat
  data : List Byte
  /-- handed over by Trellis -/
  trellis : Bool
  /-- already late under SEND -/
  late : Bool
deriving DecidableEq, Repr

/-- A message object (R304). -/
structure CanObj where
  /-- 2; R304; reset 0 OFF: 0 OFF, 1 RX, 2 TX -/
  dir : Nat := 0
  /-- 4; R304; reset 0: client, or 15 Trellis -/
  owner : Nat := 0
  ide : Bool := false
  fdf : Bool := false
  brs : Bool := false
  copy : Bool := false
  lateSend : Bool := false
  len : Nat := 0
  id : BitVec 29 := 0
  mask : BitVec 29 := 0
  lateNs : Nat := 0
  /-- 64 bytes; R304; reset 0 DC 1: payload -/
  data : List Byte := List.replicate 64 0
  /-- R306; reset none: the pending frame -/
  pending : Option CanPend := none
  /-- R306; reset none: the frame on the bus -/
  onBus : Option CanPend := none
  /-- R311; reset 0: its transmit time-stamp (2⁻⁶⁴ ns) -/
  sof : Nat := 0
  /-- R306; reset none: a hand-over that waits for the frame on the bus -/
  newer : Option CanPend := none
  /-- 3; R314; reset 0: LAST -/
  last : Nat := 0
  /-- 32; R314; reset 0: COUNT -/
  count : Nat := 0
  /-- R305 R314; reset 0 DC 1: the last frame -/
  lastFrame : CanRec := {}
deriving DecidableEq, Repr

/-- A receive filter (R310). -/
structure CanFilter where
  action : Nat := 0
  ide : Bool := false
  id : BitVec 29 := 0
  mask : BitVec 29 := 0
deriving DecidableEq, Repr

/-- A CAN FD controller. -/
structure CanCtl where
  /-- 2; R300; reset 0 OFF: Table 14-2 -/
  mode : Nat := 0
  /-- R314; reset empty: the modes requested and not yet in effect, oldest first -/
  modeReq : List Nat := []
  /-- 1; R300; reset 0: integrated on the bus -/
  integrated : Bool := false
  /-- 1; R314; reset 0: CAN_CONFIG has been issued -/
  configured : Bool := false
  /-- 22 bytes; R314; reset 0 DC 1: the parameters of Table 14-7 -/
  cfg : List Byte := []
  /-- R304; reset OFF: 128 objects -/
  objs : Tab CanObj := []
  /-- 64; R310; reset disabled -/
  filters : Tab CanFilter := []
  /-- 2 × 32 frames; R310; reset empty -/
  q0 : List CanRec := []
  /-- 32 frames; R310; reset empty -/
  q1 : List CanRec := []
  /-- 9; R312; reset 0: transmit error counter -/
  tec : Nat := 0
  /-- 8; R312; reset 0: receive error counter -/
  recc : Nat := 0
  /-- 2; R312; reset 0 active: 0 active, 1 passive, 2 bus-off -/
  err : Nat := 0
  /-- 1; R313; reset 0: recovery from bus-off is under way -/
  recovering : Bool := false
  /-- 8; R303; reset 0: TDC_MEAS -/
  tdcMeas : Nat := 0
  /-- 1; R309; reset 0: event 0x0A12 has been posted since CAN_CONFIG or clear -/
  told : Bool := false
  /-- 1; R312; reset 0: the error flag it has sent last, after which no frame has begun, is a transmitter's -/
  flagTx : Bool := false
  /-- 17 × 32; R315; reset 0: the counters of Table 14-9 in its order -/
  ctr : Tab Nat := []
deriving DecidableEq, Repr

/-! ### Host links and runners (chapter 15) -/

/-- A cold-frame grant (R319). -/
structure Grant where
  coldBase : Nat
  log2 : Nat
  hostAddr : Nat
  /-- R320: withdrawal under way -/
  closing : Bool
deriving DecidableEq, Repr

/-- A CSI-2 packet the module sends (R327): virtual channel, data type, the word count (a short packet's frame number), the
header's check code, and a long packet's payload with its CRC. -/
structure CsiOut where
  vc : Nat
  dtype : Nat
  count : Nat
  check : Nat
  payload : Option (List Byte × BitVec 16)
deriving DecidableEq, Repr

/-- A CSI-2 transmit port (R327). -/
structure TxPort where
  /-- R333 R397; reset 0: configured -/
  live : Bool := false
  /-- 1; R333; reset 0: running -/
  running : Bool := false
  /-- 1; R333; reset 0: a stop is requested -/
  stopping : Bool := false
  phy : Nat := 0
  lanes : Nat := 0
  vc : Nat := 0
  dtype : Nat := 0
  queue : Nat := 0
  rate : Nat := 0
  lineBytes : Nat := 0
  metaLines : Nat := 0
  dataLines : Nat := 0
  /-- 16; R328; reset 1: next frame number -/
  num : Nat := 1
  /-- 1; R329; reset 0: event 0x0E12 posted since CSI_TX_CONFIG -/
  told : Bool := false
  /-- R327 R397; reset none: the Frame End of the frame in progress, and the elapsed time at which it is due -/
  frame : Option (CsiOut × Nat) := none
deriving DecidableEq, Repr

/-- A packet in a replay buffer (R331): its sequence number, the elapsed time at which it was sent last, and itself. -/
structure Sent where
  seq : Nat
  at_ : Nat
  packet : LinkPacket
deriving DecidableEq, Repr

/-- A runner (R330). -/
structure Runner where
  /-- 2; R330; reset 0 down: 0 down, 1 training, 2 up -/
  state : Nat := 0
  /-- 4; R330; reset 0: lanes up -/
  width : Nat := 0
  /-- 4; R330; reset none: peer MODULE_ID -/
  peer : Option Nat := none
  /-- R331; reset 0: consecutive retries of one packet -/
  retryRun : Nat := 0
  /-- R331; reset 0: retrains in a row that failed -/
  failRun : Nat := 0
  /-- R331; reset 0: sequence number of the next packet -/
  seq : Nat := 0
  /-- 64 packets; R331; reset empty: the replay buffer, oldest first -/
  replay : List Sent := []
  /-- R331 R121; reset empty: packets that wait for a retrain to end, oldest first -/
  queue : List LinkPacket := []
  /-- R331; reset none: sequence number of the packet retried last -/
  retrySeq : Option Nat := none
  /-- R331; reset 0: what it receives: the sequence number after the last packet taken -/
  rx : Nat := 0
  /-- R331; reset none: the lowest sequence number that came with a wrong CRC and has not been repeated -/
  rxBad : Option Nat := none
  /-- 3 × 64 packets; R332 R388; reset empty: the transit buffers of this ingress, oldest first, with the elapsed time since which
  each waits -/
  transit : List (TransitPacket × Nat) := []
deriving DecidableEq, Repr

/-- Host links and runners. -/
structure Links where
  /-- 4; R318 R334; reset 0 down: PCIe speed -/
  pcieSpeed : Nat := 0
  /-- 4; R334; reset 0: PCIe width -/
  pcieWidth : Nat := 0
  /-- 1; R429; reset 1 DC 15: PERST# asserted -/
  perst : Bool := true
  /-- 64; R319; reset none: grants -/
  grants : Tab (Option Grant) := []
  /-- 2; R327; reset stopped: transmit ports -/
  tx : Tab TxPort := []
  /-- 4; R330; reset down: runners -/
  runners : Tab Runner := []
  /-- 16; R332; reset none DC 1: route table -/
  route : List Nat := List.replicate 16 0xFF
  /-- 16 slots; R325 R413; reset absent: identity records of the last scan -/
  ids : List (Option (List Byte)) := []
  /-- 14 × 32; R334; reset 0: CPL_TIMEOUTS, RETRIES ×4, RETRAINS ×4, NO_ROUTE, TX_FRAMES ×2, TX_MALFORMED ×2 -/
  ctr : Tab Nat := []
deriving DecidableEq, Repr

/-! ### Power (chapter 16) -/

/-- Power domains, device states and clocks. -/
structure Power where
  /-- 3; R335; reset 0 Run DC 15: 0 Run, 2 Hold, 3 Sleep, 4 Off; Idle is derived -/
  state : Nat := 0
  /-- 50; R335 R351; reset PD_CP, PD_LS, PD_SAFE, PD_AON DC 15: domains on -/
  on : W64 := 0x0003802000000000
  /-- 50; R344 R350; reset 0: domains switched off by PWR_DOMAIN -/
  offByCmd : W64 := 0
  /-- R340; reset none: target of the entry running -/
  entry : Option Nat := none
  /-- 8; R338 R351; reset 0x20: the unit that asked for it -/
  entryUnit : Nat := 0x20
  /-- R341; reset none: the unit of a wake source that fired while the entry runs -/
  abortDue : Option Nat := none
  /-- R351; reset 0: jobs parked by this entry -/
  parked : Nat := 0
  /-- R338; reset empty: internal requests that wait for the entry to end (1 health, 2 safety) -/
  waiting : List Nat := []
  /-- 8; R351; reset 0xFF: WAKE_CAUSE -/
  wakeCause : Nat := 0xFF
  /-- R344; reset none: the state a wake under way leads to -/
  waking : Option Nat := none
  /-- 8; R351; reset 0xFF: LAST_REFUSER -/
  lastRefuser : Nat := 0xFF
  /-- 8; R351; reset 0: LAST_REASON -/
  lastReason : Nat := 0
  /-- 16; R351; reset 0: LAST_OBJECT -/
  lastObject : Nat := 0
  /-- 8; R351; reset 0xFF: LAST_ABORTER -/
  lastAborter : Nat := 0xFF
  /-- 8; R351; reset 0: ABORT_REASON -/
  abortReason : Nat := 0
  /-- 45 × 16; R351; reset 0: REFUSED_BY -/
  refusedBy : Tab Nat := []
  /-- 45 × 16; R351; reset 0: ABORTED_BY -/
  abortedBy : Tab Nat := []
  /-- 6; R343; reset 0: wake mask -/
  wakeMask : BitVec 6 := 0
  /-- 2; R343; reset 0: wake target -/
  wakeTo : Nat := 0
  /-- R343; reset none: WAKE_AT (2⁻⁶⁴ ns) -/
  wakeAt : Option Nat := none
  /-- 1; R348; reset 1: CP and AON on FIO -/
  onFio : Bool := true
  /-- 1; R348; reset 0: the root PLL has locked since power-on -/
  locked : Bool := false
  /-- 1; R359; reset 0: frequency bin -/
  bin : Nat := 0
  /-- 6; R345; reset all held: hold latches, bit 0 SAFE_FAULT#, bits 1 to 4 CANc_TXD, bit 5 PPS_OUT -/
  latches : BitVec 6 := 0x3F
  /-- 6; R345 R346; reset low, high ×4, low: level each latch drives -/
  levels : BitVec 6 := 0x1E
  /-- R350; reset empty: PWR_DOMAIN switches under way, oldest first: domain, on -/
  domainReq : List (Nat × Bool) := []
  /-- 1; R425; reset 1 DC 15: input power in range -/
  input : Bool := true
  /-- 1; R427; reset 0: RESET# is recognised low -/
  resetLow : Bool := false
  /-- 1; R363; reset 0: switched off by the thermal trip -/
  tripped : Bool := false
  /-- R340; reset none: elapsed time of an Off completion -/
  offAt : Option Nat := none
deriving DecidableEq, Repr

/-! ### Health (chapter 17) -/

/-- A record of the ageing log (Table 17-2). -/
structure LogRec where
  type : Nat
  unit : Nat
  seq : Nat
  time : Nat
  data : List Byte
deriving DecidableEq, Repr

/-- What the margin planner knows of one core domain (R357). -/
structure Plan17 where
  /-- 10; R357; reset 0 DC 1: V_SET, mV -/
  vset : Nat := 0
  /-- 2; R352; reset 0 DC 1: process class -/
  cls : Nat := 0
  /-- R355; reset none: R0 of the four pairs -/
  base : Option (List Nat) := none
  /-- 4 × 32; R352; reset 0 DC 1: the last four ratios -/
  ratios : List Nat := []
  /-- 32; R356; reset 0: D, ppm -/
  d : Nat := 0
  /-- 1; R358; reset 0: a lowering of V_SET is pending -/
  lower : Bool := false
  /-- R362; reset none: elapsed time since which the reading is below HOT − 10 °C -/
  coolSince : Option Nat := none
deriving DecidableEq, Repr

/-- One copy of a region of the ageing log (R354). -/
structure LogCopy where
  /-- R354; reset 0: the copy's sequence number -/
  seq : Nat := 0
  /-- R354; reset 1: its CRC-32C matches, as it does unless a power loss cut its write -/
  crcOk : Bool := true
  /-- R354; reset empty: its records, oldest first -/
  recs : List LogRec := []
deriving DecidableEq, Repr

/-- A region of the ageing log, in eMMC (R354). -/
structure LogRegion where
  /-- R354; reset empty: the two copies -/
  a : LogCopy := {}
  b : LogCopy := {}
  /-- R354; reset none: elapsed time at which the last write of this power-on began -/
  at_ : Option Nat := none
deriving DecidableEq, Repr

/-- Health, ageing and profiles. -/
structure Health where
  /-- 48 × 8; R352; reset absent: junction temperatures, °C -/
  temps : Tab (Option Int) := []
  /-- 48 × 8; R358 R362; reset none: the reading of each sensor that Gragor last responded to -/
  answered : Tab (Option Int) := []
  /-- 50 × 16; R352; reset 0: voltage readings, mV -/
  volts : Tab Nat := []
  /-- 36 × 2; R352; reset absent: process classes -/
  classes : Tab (Option Nat) := []
  /-- 32; R357; reset 0 DC 1: plan of each logical core; store quadrants at 32 to 35 -/
  plans : Tab Plan17 := []
  /-- 2 copies; R354; reset empty (eMMC, as it leaves manufacture): the fixed region -/
  logFixed : LogRegion := {}
  /-- 2 copies of 65,536 records; R354; reset empty: the ring, oldest first -/
  logRing : LogRegion := {}
  /-- 32; R354; reset 0: next SEQ -/
  logSeq : Nat := 0
  /-- Table 17-2; reset 0 (eMMC): powered time before this power-on (2⁻⁶⁴ ns) -/
  poweredBefore : Nat := 0
  /-- Table 17-2; reset none (eMMC): powered time of the first record -/
  logFirst : Option Nat := none
  /-- 4 × 128 bytes; R365; reset empty (eMMC) DC 1: stored profiles -/
  profiles : Tab (List Byte) := []
  /-- R366; reset none (eMMC): stored override -/
  override : Option Nat := none
  /-- R366 R368; reset none: profile in use; none is the default -/
  profile : Option (Nat × List Byte) := none
  /-- 2; R368; reset 2: SOURCE, 0 pins, 1 override, 2 default -/
  source : Nat := 2
  /-- 2; R361; reset 0: BIN_PENDING -/
  binPending : Nat := 0
  /-- R361; reset 0: the bin consented to -/
  binTarget : Nat := 0
  /-- R361; reset none: elapsed time of consent -/
  consentAt : Option Nat := none
  /-- 1; R361; reset 0: every job is parked to make a moment for the change -/
  binForce : Bool := false
  /-- 1; R361; reset 0: the bin the log records for the next power-on -/
  binLog : Nat := 0
  /-- R362; reset none: a Hold request is repeated for this sensor since an elapsed time -/
  holdRetry : Option Nat := none
  /-- R363; reset 0: consecutive samples at TRIP, by sensor -/
  tripRun : Tab Nat := []
  /-- R363; reset none: the sensor and reading kept in PD_AON -/
  tripRec : Option (Nat × Int) := none
  /-- 1; R366; reset 0: DEBUG_LOCK in force -/
  debugLock : Bool := false
  /-- 1; R366 R430; reset 0: debug access is open -/
  debugOpen : Bool := false
  /-- R367; reset empty: profile writes under way, oldest first: index, bytes -/
  writing : List (Nat × List Byte) := []
  /-- 4 × 32; R368; reset 0: WARN_EVENTS, HOT_EVENTS, EXCURSIONS, HEALTH_EVENTS -/
  ctr : Tab Nat := []
deriving DecidableEq, Repr

/-! ### Safety (chapter 18) -/

/-- A region entry of the firewall (R370). -/
structure Region where
  base : Nat := 0
  pages : Nat := 0
  cloche : Nat := 0
  ctx : Nat := 0
  /-- 3; R370; reset 0, cleared: RIGHTS, bit 0 read, 1 write, 2 atomic -/
  rights : BitVec 3 := 0
  share : W16 := 0
deriving DecidableEq, Repr

/-- A window watchdog (R373, R374). -/
structure Wdog where
  /-- 2; R374; reset 0 OFF: 0 OFF, 1 ARMED, 2 RUNNING, 3 TRIPPED -/
  state : Nat := 0
  source : Nat := 0
  action : BitVec 3 := 0
  ctx : Nat := 0xFF
  srcId : Nat := 0
  minUs : Nat := 0
  maxUs : Nat := 0
  firstUs : Nat := 0
  /-- R374; reset 0: elapsed time of the arming or of the previous kick -/
  since : Nat := 0
deriving DecidableEq, Repr

/-- A packet a checker channel has copied (R378). -/
structure ChkPacket where
  /-- data and tag of each word -/
  words : List (W64 × BitVec 8)
  done : Bool
  /-- elapsed time of its EOP -/
  at_ : Nat
deriving DecidableEq, Repr

/-- A checker channel (R378). -/
structure Checker where
  /-- 1; R378; reset 0: enabled -/
  enable : Bool := false
  /-- 1; R380; reset 0: TRIPPED -/
  tripped : Bool := false
  action : BitVec 2 := 0
  runMax : Nat := 0
  winMax : Nat := 0
  primary : Nat := 0
  check : Nat := 0
  absTol : W32 := 0
  relTol : W32 := 0
  pairUs : Nat := 0
  /-- 16 packets of 32 words a side; R378; reset empty -/
  bufP : List ChkPacket := []
  /-- R378; reset empty -/
  bufC : List ChkPacket := []
  /-- R378; reset 0: partners still to come that are to be discarded, of the primary and of the check queue -/
  lateP : Nat := 0
  /-- R378; reset 0 -/
  lateC : Nat := 0
  /-- 32; R380; reset 0: pairs judged since enabling -/
  pairs : Nat := 0
  /-- 8; R380; reset 0: RUN -/
  run : Nat := 0
  /-- 64 × 1; R380; reset empty: verdicts of the last 64 pairs, newest first (true disagrees) -/
  last64 : List Bool := []
deriving DecidableEq, Repr

/-- The safety block. -/
structure Safety where
  /-- 1,024; R370; reset cleared: region table -/
  regions : Tab Region := []
  /-- 1,024; R372; reset cleared: the second copy of the region table, for the second comparator -/
  regionsB : Tab Region := []
  /-- 64; R373; reset OFF: watchdogs -/
  wdogs : Tab Wdog := []
  /-- 8; R378; reset disabled: checker channels -/
  checkers : Tab Checker := []
  /-- 13; R381; reset POWER_ON: LATCHED -/
  latched : BitVec 13 := 0x1000
  /-- 13; R381; reset 0: causes raised that are present until power-on or RESET# (THERMAL, FIREWALL, LOCKSTEP, CLOCK, SELF) -/
  sticky : BitVec 13 := 0
  /-- 50; R353 R381; reset 0: domains whose reading is below −10 % -/
  lowVolt : W64 := 0
  /-- 512; R186; reset working: the comparator of queue q's two copies detects no mismatch -/
  cmpDead : Tab Bool := []
  /-- 1; R381; reset 1: SAFE_FAULT# asserted by the block -/
  asserted : Bool := true
  /-- 2; R381 R386; reset 0 not run: power-on self-test -/
  selfTest : Nat := 0
  /-- R375; reset 0: golden tile enabled -/
  gtOn : Bool := false
  gtCores : Nat := 0
  gtAction : BitVec 2 := 0
  /-- 2; R385; reset 0: ACTION of the slot that runs, as it stood at its instant -/
  gtRun : BitVec 2 := 0
  gtPeriod : Nat := 0
  gtPhase : Nat := 0
  /-- 5; R375; reset 0: next logical core of the rotation -/
  gtNext : Nat := 0
  /-- R375; reset none: instant of the last slot, in microseconds of network time -/
  gtLast : Option Nat := none
  /-- R376; reset empty: cores of the slot that have no verdict yet -/
  gtPending : List Nat := []
  /-- 1; R377 R396; reset 0: no verdict can come for the slot: Gragor did not run at its instant, or a restart cut it -/
  gtLost : Bool := false
  /-- R376 R377; reset empty: jobs the slot displaced: core, JOB_ID -/
  gtJobs : List (Nat × Nat) := []
  /-- R377; reset 0: elapsed time of the slot's instant -/
  gtAt : Nat := 0
  /-- 1; R377; reset 0: the slot's late limit has raised its cause -/
  gtLate : Bool := false
  /-- R377; reset 0: slots begun, the periods R377 counts -/
  gtCount : Nat := 0
  /-- R377; reset empty: slots at which each core had a transient: (core, slot) -/
  gtTrans : List (Nat × Nat) := []
  /-- R372; reset 0: FW_REFUSALS at 0, WDOG_TRIPS, GT_RUNS, GT_TRANSIENT, GT_PERMANENT, GT_SKIPPED, CHECK_DISAGREE ×8, LATE_PARTNER, ASSERTIONS (R386) -/
  ctr : Tab Nat := []
deriving DecidableEq, Repr

/-! ### Recovery (chapter 19) and boot (chapter 20) -/

/-- A capture (R392): its ID and bytes. -/
structure Capture where
  id : Nat
  bytes : List Byte
deriving DecidableEq, Repr

/-- A recovery that is due (R389): its object, the capture and cause of the detection, the command it completes. -/
structure RecItem where
  part : Bool
  obj : Nat
  capture : Nat
  cause : Nat
  by_ : Option (Nat × Nat)
deriving DecidableEq, Repr

/-- A context reset under way (R391). -/
structure CtxRst where
  ctx : Nat
  capture : Nat
  /-- elapsed time of step 4 -/
  since : Nat
  /-- R390: it has escalated to a partition, and waits for what that releases -/
  escalated : Bool := false
  /-- the command it completes, client and tag -/
  by_ : Option (Nat × Nat)
deriving DecidableEq, Repr

/-- A partition reset under way (R393). -/
structure PartRst where
  part : Nat
  capture : Nat
  by_ : Option (Nat × Nat)
  /-- contexts with a core in the partition -/
  ctxs : W64
  /-- contexts faulted by step 5 -/
  hit : List Nat
  /-- of `ctxs`, those that step 6 has still to reset -/
  left : W64 := 0
deriving DecidableEq, Repr

/-- Hangs, resets and recovery. -/
structure Recovery where
  /-- 1; R398; reset 1: CTX_ACTION -/
  ctxAction : Nat := 1
  /-- 1; R398; reset 0: PART_ACTION -/
  partAction : Nat := 0
  /-- 10; R398; reset 10: BRIDGE_MS -/
  bridgeMs : Nat := 10
  /-- 64; R399; reset 0: CTX_WAITING -/
  ctxWaiting : W64 := 0
  /-- 4; R399; reset 0: WAITING -/
  partWaiting : BitVec 4 := 0
  /-- 64 × 8; R387; reset 0: cause of the hang each waiting context has -/
  ctxCause : Tab Nat := []
  /-- 4 × 8; R387; reset 0: cause of the hang each waiting partition has -/
  partCause : Tab Nat := []
  /-- R389; reset empty: recoveries due, in order -/
  queue : List RecItem := []
  /-- R391; reset none: the context reset under way -/
  ctxRst : Option CtxRst := none
  /-- R393; reset none: the partition reset under way -/
  partRst : Option PartRst := none
  /-- 32; R392; reset 1: next capture ID -/
  nextCapture : Nat := 1
  /-- 4; R392; reset empty: captures kept, newest first -/
  captures : List Capture := []
  /-- R395; reset empty: fabric aborts that a command started and that are not complete, oldest first: group, elapsed time
  of sending -/
  aborts : List (Nat × Nat) := []
  /-- R395; reset 0: next notice sequence number -/
  noticeSeq : Nat := 0
  /-- R395; reset empty: (origin, sequence) already seen -/
  seen : List (Nat × Nat) := []
  /-- 6 × 32; R399; reset 0: HANGS, CTX_RESETS, PART_RESETS, HELD_RELEASED, FABRIC_SENT, FABRIC_RECEIVED -/
  ctr : Tab Nat := []
deriving DecidableEq, Repr

/-- An attestation report kept (R411). -/
structure Report where
  id : Nat
  bytes : List Byte
deriving DecidableEq, Repr

/-- One copy of the accepted build in eMMC (R413): its sequence number, whether its CRC-32C matches, and (state, digest) of 16
slots, none where it holds no build. -/
structure BuildCopy where
  seq : Nat := 0
  crcOk : Bool := true
  slots : Option (List (Nat × BitVec 256)) := none
deriving DecidableEq, Repr

/-- Boot, identity and attestation. -/
structure Boot where
  /-- R415; reset empty: staging, by offset -/
  staging : Tab Byte := []
  /-- 32; R415; reset 0: STAGED_BYTES -/
  staged : Nat := 0
  /-- R403; reset empty (eMMC) DC 1: the Gragor image in eMMC -/
  emmc : List Byte := []
  /-- 4; R403; reset 0: REASON -/
  reason : Nat := 0
  /-- 8; R415; reset 0xFF: SOURCE of the running image -/
  source : Nat := 0xFF
  /-- R415; reset 0: path the last staged bytes came by: 1 I3C, 2 PCIe -/
  stagedBy : Nat := 0
  /-- 1; R415; reset 0: eMMC image valid at the last check -/
  emmcValid : Bool := false
  /-- 1; R409; reset 0: IDENTITY_MISMATCH -/
  mismatch : Bool := false
  /-- 32; R406; reset 0: SVN of the running image -/
  svn : Nat := 0
  /-- bytes 0 to 255 of the running image; R411; reset empty -/
  header : List Byte := []
  /-- 32; R406; reset 0 (RPMB): FW_SVN -/
  rpmbSvn : Nat := 0
  /-- 32; R406 R410; reset 0 (RPMB): LMS_NEXT -/
  lmsNext : Nat := 0
  /-- 32; R406; reset 0 (RPMB): BOOT_COUNT -/
  bootCount : Nat := 0
  /-- 32; R406; reset empty (RPMB): the tag of the last authenticated write of the record -/
  rpmbAuth : List Byte := []
  /-- 1; R407; reset 0: an install is under way -/
  installing : Bool := false
  /-- R415 R321; reset empty: IMAGE_FETCHes accepted, oldest first: SRC, BYTES, elapsed time -/
  fetching : List (Nat × Nat × Nat) := []
  /-- 32; R411; reset 1: next REPORT_ID -/
  nextReport : Nat := 1
  /-- 4; R411; reset empty: reports kept, newest first -/
  reports : List Report := []
  /-- R411; reset empty: the nonces of the attestations accepted, oldest first -/
  attests : List (List Byte) := []
  /-- R413; reset empty (eMMC): the first copy of the accepted build -/
  buildA : BuildCopy := {}
  /-- R413; reset empty (eMMC): its second copy -/
  buildB : BuildCopy := {}
  /-- 4 × 16; R413 R414; reset 0: ADDED, REMOVED, CHANGED, INVALID of the last comparison -/
  masks : List W16 := [0, 0, 0, 0]
  /-- 1; R414; reset 0: a comparison has been made since READY -/
  compared : Bool := false
  /-- R414; reset none: the scan that BUILD_ACCEPT stored, until a later one differs -/
  quiet : Option (List (Option (List Byte))) := none
  /-- 1; R430; reset 0: TAP instruction register holds 0 BYPASS, 1 IDCODE, 2 SAMPLE/PRELOAD, 3 EXTEST, 4 CLAMP, 5 HIGHZ -/
  tap : Nat := 1
deriving DecidableEq, Repr

/-- Something that leaves the module on a wire (the model's own log of outputs, notes/assumptions/14). -/
inductive Wire where
  /-- an MSI-X message -/
  | msix (vector : Nat) (addr : W64) (data : W32)
  /-- an in-band interrupt with its mandatory byte -/
  | ibi (source : Nat)
  /-- bytes returned by an I3C private read -/
  | i3c (bs : List Byte)
  /-- a CAN FD frame: controller, object -/
  | can (k : Nat) (obj : Nat) (data : List Byte)
  /-- a received CAN frame acknowledged, by controller (Table 14-2) -/
  | canAck (k : Nat)
  /-- an error frame, by controller (Table 14-2) -/
  | canError (k : Nat)
  /-- an overload frame, by controller (Table 14-2) -/
  | canOverload (k : Nat)
  /-- an Ethernet frame with its FCS: port, whether from the timing queue, and its egress time-stamp (2⁻⁶⁴ ns) -/
  | eth (port : Nat) (timing : Bool) (bytes : List Byte) (stamp : Nat)
  /-- the packets of a CSI-2 frame, by port -/
  | csi (port : Nat) (packets : List CsiOut)
  /-- the provisional ID and the BCR that ENTDAA reads -/
  | i3cId (pid : BitVec 48) (bcr : Byte)
  /-- a packet on a runner, with its sequence number and its CRC (R331) -/
  | runner (r : Nat) (seq : Nat) (crc : BitVec 32) (p : LinkPacket)
  /-- the acknowledgement of a packet received at a runner, by its sequence number (R331) -/
  | linkAck (r : Nat) (seq : Nat)
  /-- a PCIe write to host memory through a grant, of at most 512 bytes: bus address (R316) -/
  | hostWrite (bus : Nat) (bs : List Byte)
  /-- a PCIe read request of at most 4,096 bytes to host memory: bus address and length (R316) -/
  | hostRead (bus : Nat) (n : Nat)
  /-- what the TAP shows after an instruction: the instruction, and the IDCODE where that register is selected -/
  | tap (ir : Nat) (idcode : W32)
  /-- PPS_OUT driven to a level -/
  | pps (level : Bool)
deriving DecidableEq, Repr

/-- The module: all the state the manual gives it. -/
structure Module where
  /-- 32; R10; cores by logical ID -/
  cores : Tab Core := []
  /-- 2,048; R50; logical engine e of core c at number 64c + e -/
  engines : Tab Engine := []
  mem : Mem := {}
  fab : Fabric := {}
  sched : Sched := {}
  kv : Kv := {}
  /-- 512; R173; stream queues -/
  queues : Tab Queue := []
  /-- 4; R191; receive ports -/
  rx : Tab RxPort := []
  /-- 16; R209; intake streams -/
  streams : Tab Stream := []
  trl : Trellis := {}
  host : Mailboxes := {}
  time : Time := {}
  /-- 4; R299; CAN FD controllers -/
  can : Tab CanCtl := []
  links : Links := {}
  power : Power := {}
  health : Health := {}
  safety : Safety := {}
  rcv : Recovery := {}
  boot : Boot := {}
  /-- host memory reached through grants, by bus address (R319; the host's, DC 17): bytes -/
  hostMem : List Host.Cell := []
  /-- the model's own: what has left the module, newest first (notes/assumptions/14) -/
  wire : List Wire := []
  /-- the model's own: the free-value counter (notes/assumptions/8), reset 0 DC 8 -/
  freeCount : Nat := 0
deriving DecidableEq, Repr

/-- The machine's state: the module, and the commands that wait, first in, first out. -/
structure State where
  pending : List Instr := []
  mod : Module := {}
deriving DecidableEq, Repr

/-- The machine right after reset: every field at its Reset value (R8), nothing in the queue. -/
def State.reset : State := {}

/-- Why the machine stops. -/
inductive Fault where
  /-- Raised by `execSlot` (every engine slot row) for an operand word that is no well-formed word of the row: another
  opcode, a reserved bit set, a value R79 makes the loader refuse. No bundle that runs holds one (R79), so no run of the
  hardware reaches it: safe. -/
  | illFormed
deriving DecidableEq, Repr

/-- Why a command has no meaning. -/
inductive Refusal where
  /-- Raised by an arm of `exec` whose command has no meaning yet: safe (the machine stops). -/
  | notModelled (mnemonic : String)
deriving DecidableEq, Repr

end Sys2Proof.Machine
end

