-- ==== Sys2Proof/Machine/Tab.lean ====
section
/-!
DEFINITION. Sparse tables in one canonical form (strictly rising numbers, no entry equal to the default), and lists by
position. Every numbered thing of the module is read and written through these.
-/

namespace Sys2Proof

/-- What number k of a table holds; d where it is not listed. -/
def Tab.get {α : Type} (d : α) : Tab α → Nat → α
  | [], _ => d
  | (j, v) :: t, k => if j = k then v else Tab.get d t k

/-- A table without number k. -/
def Tab.drop {α : Type} (t : Tab α) (k : Nat) : Tab α := t.filter (fun p => p.1 != k)

/-- A table with an entry put before the first larger number. -/
def Tab.ins {α : Type} : Tab α → Nat → α → Tab α
  | [], k, v => [(k, v)]
  | (j, u) :: t, k, v => if k < j then (k, v) :: (j, u) :: t else (j, u) :: Tab.ins t k v

/-- Write number k: listed only where it differs from the default. -/
def Tab.put {α : Type} [DecidableEq α] (d : α) (t : Tab α) (k : Nat) (v : α) : Tab α :=
  if v = d then t.drop k else (t.drop k).ins k v

/-- Apply f to number k. -/
def Tab.upd {α : Type} [DecidableEq α] (d : α) (t : Tab α) (k : Nat) (f : α → α) : Tab α :=
  t.put d k (f (t.get d k))

/-- The canonical form: strictly rising numbers, no entry equal to the default. -/
def Tab.wf {α : Type} [DecidableEq α] (d : α) : Tab α → Bool
  | [] => true
  | [(_, v)] => v != d
  | (j, v) :: (k, u) :: t => v != d && decide (j < k) && Tab.wf d ((k, u) :: t)

/-- Write a list of values at rising numbers from k. -/
def Tab.putRow {α : Type} [DecidableEq α] (d : α) (t : Tab α) (k : Nat) : List α → Tab α
  | [] => t
  | v :: vs => Tab.putRow d (t.put d k v) (k + 1) vs

/-- Read n values at rising numbers from k. -/
def Tab.row {α : Type} (d : α) (t : Tab α) (k n : Nat) : List α := (List.range n).map (fun i => t.get d (k + i))

/-- Every number below n whose value meets a test, in ascending order. -/
def Tab.sel {α : Type} (d : α) (t : Tab α) (n : Nat) (p : α → Bool) : List Nat :=
  (List.range n).filter (fun i => p (t.get d i))

end Sys2Proof
end

