-- ==== Sys2Proof/Machine/Jpeg.lean ====
section
/-!
DEFINITION. The JPEG frames of the sieve (R194, R195, R197, Table 9-2): the marker segments up to the scan header, the
conditions that refuse a frame, the restart intervals of the scan and the MCUs they damage, and the lines with chroma
replicated to full resolution. The layout of marker segments is the JPEG standard's, which Table 9-2 names; the entropy
decoding and inverse transform of one restart interval are `Config.jpegBlocks` (notes/assumptions/11).
-/

namespace Sys2Proof.Machine

/-- A component of the frame header: identifier, sampling factors, quantisation table. -/
structure JpegComp where
  id : Nat
  hs : Nat
  vs : Nat
  tq : Nat
deriving DecidableEq, Repr

/-- What the marker segments up to the scan header have said. -/
structure JpegHead where
  /-- a segment outside Table 9-2, or one cut short -/
  bad : Bool := false
  /-- X, Y, the component count or the sampling factors are at fault (R197) -/
  dims : Bool := false
  comps : Option (List JpegComp) := none
  /-- quantisation tables by number -/
  quant : Tab (Option (List Byte)) := []
  /-- Huffman tables: DC 0 and 1, AC 2 and 3 -/
  huff : Tab (Option (List Byte)) := []
  /-- the restart interval in MCUs; 0 none -/
  interval : Nat := 0
  /-- the parameters of the scan header -/
  scan : Option (List Byte) := none
  /-- where the scan's data begins -/
  start : Nat := 0
deriving DecidableEq, Repr

/-- A big-endian 16-bit field. -/
def beAt (b : List Byte) (i : Nat) : Nat := (b.getD i 0).toNat * 256 + (b.getD (i + 1) 0).toNat

/-- Quantisation tables of a segment: up to four, of 8-bit elements (Table 9-2). -/
def jpegQuant : Nat → List Byte → JpegHead → JpegHead
  | 0, b, h => { h with bad := h.bad || !b.isEmpty }
  | n + 1, b, h =>
    if b.isEmpty then h
    else
      let t := (b.getD 0 0).toNat
      if t > 3 || b.length < 65 then { h with bad := true }
      else jpegQuant n (b.drop 65) { h with quant := h.quant.put none t (some ((b.drop 1).take 64)) }

/-- Huffman tables of a segment: two DC and two AC, as the baseline process has them (Table 9-2). -/
def jpegHuff : Nat → List Byte → JpegHead → JpegHead
  | 0, b, h => { h with bad := h.bad || !b.isEmpty }
  | n + 1, b, h =>
    if b.isEmpty then h
    else
      let t := (b.getD 0 0).toNat
      let size := 17 + (((b.drop 1).take 16).map (·.toNat)).sum
      if t / 16 > 1 || t % 16 > 1 || b.length < size then { h with bad := true }
      else jpegHuff n (b.drop size) { h with huff := h.huff.put none (2 * (t / 16) + t % 16) (some ((b.drop 1).take (size - 1))) }

/-- The component count and sampling factors of Table 9-2, for a stream of `ch` channels. -/
def jpegSampling (ch : Nat) (cs : List JpegComp) : Bool :=
  cs.length == ch && match cs with
    | [_] => true
    | [a, b, c] => (a.hs == 1 && a.vs == 1 || a.hs == 2 && a.vs == 1 || a.hs == 2 && a.vs == 2)
        && b.hs == 1 && b.vs == 1 && c.hs == 1 && c.vs == 1
    | _ => false

/-- The frame header SOF0; a second SOF refuses the frame (R197). -/
def jpegSof (ch w h : Nat) (b : List Byte) (x : JpegHead) : JpegHead :=
  let n := (b.getD 5 0).toNat
  let cs := (List.range n).map (fun k =>
    let hv := (b.getD (7 + 3 * k) 0).toNat
    (⟨(b.getD (6 + 3 * k) 0).toNat, hv / 16, hv % 16, (b.getD (8 + 3 * k) 0).toNat⟩ : JpegComp))
  { x with
    bad := x.bad || x.comps.isSome || b.getD 0 0 != 8 || b.length != 6 + 3 * n
    dims := x.dims || beAt b 1 != h || beAt b 3 != w || !jpegSampling ch cs
    comps := some cs }

/-- The marker segments from SOI's end up to the scan header (R197); `pos` is the place of `b` in the frame. -/
def jpegSegments (ch w h : Nat) : Nat → Nat → List Byte → JpegHead → JpegHead
  | 0, _, _, x => { x with bad := true }
  | fuel + 1, pos, b, x =>
    let c := (b.getD 1 0).toNat
    let n := beAt b 2
    if b.getD 0 0 != 0xFF then { x with bad := true }
    else if c = 0xFF then jpegSegments ch w h fuel (pos + 1) (b.drop 1) x
    else if n < 2 || b.length < 2 + n then { x with bad := true }
    else
      let body := (b.drop 4).take (n - 2)
      if c = 0xDA then { x with scan := some body, start := pos + 2 + n }
      else jpegSegments ch w h fuel (pos + 2 + n) (b.drop (2 + n)) (
        if 0xE0 ≤ c && c ≤ 0xEF || c = 0xFE then x
        else if c = 0xDB then jpegQuant 4 body x
        else if c = 0xC4 then jpegHuff 4 body x
        else if c = 0xDD then { x with interval := beAt body 0 }
        else if c = 0xC0 then jpegSof ch w h body x
        else { x with bad := true })

/-- The header of a frame, from its SOI. -/
def jpegHeader (ch w h : Nat) (b : List Byte) : JpegHead :=
  if b.getD 0 0 = 0xFF && b.getD 1 0 = 0xD8 then jpegSegments ch w h b.length 2 (b.drop 2) {} else { bad := true }

/-- The components of the scan with the numbers of their Huffman tables, DC then AC. -/
def scanTables (b : List Byte) : List (Nat × Nat × Nat) :=
  (List.range (b.getD 0 0).toNat).map (fun k =>
    let t := (b.getD (2 + 2 * k) 0).toNat
    ((b.getD (1 + 2 * k) 0).toNat, t / 16, t % 16))

/-- Whether the scan is one interleaved baseline scan of all components, each of its tables defined (R197, Table 9-2). -/
def scanGood (x : JpegHead) : Bool :=
  match x.scan, x.comps with
  | some b, some cs =>
    let n := (b.getD 0 0).toNat
    b.length == 4 + 2 * n && (scanTables b).map (·.1) == cs.map (·.id)
      && (scanTables b).all (fun t => t.2.1 < 2 && t.2.2 < 2 && (x.huff.get none t.2.1).isSome && (x.huff.get none (2 + t.2.2)).isSome)
      && cs.all (fun c => (x.quant.get none c.tq).isSome)
      && b.getD (1 + 2 * n) 0 == 0 && b.getD (2 + 2 * n) 0 == 63 && b.getD (3 + 2 * n) 0 == 0
  | _, _ => false

/-- The verdict of R197: 0 decoded, 1 refused for dimensions or components, 2 refused for another reason. -/
def jpegVerdict (x : JpegHead) : Nat := if x.dims then 1 else if x.bad || !scanGood x then 2 else 0

/-- A stretch of entropy-coded data between restart markers: the number of the marker before it (none for the first) and its
bytes up to the first lost one. -/
structure JpegPart where
  rst : Option Nat := none
  bytes : List Byte := []
deriving DecidableEq, Repr

/-- The stretches of a scan: a restart marker ends one and begins the next, any other marker ends the scan. `cut` says that
bytes of the current stretch were lost, so that what follows them up to the next marker is not decoded (R195). -/
def jpegParts : List (Option Byte) → JpegPart → Bool → List JpegPart
  | [], p, _ => [p]
  | none :: r, p, _ => jpegParts r p true
  | [some a], p, cut => if cut then [p] else [{ p with bytes := p.bytes ++ [a] }]
  | some a :: b :: r, p, cut =>
    if a != 0xFF then jpegParts (b :: r) (if cut then p else { p with bytes := p.bytes ++ [a] }) cut
    else match b with
      | none => jpegParts (b :: r) p cut
      | some c =>
        if c = 0xFF then jpegParts (b :: r) p cut
        else if c = 0 then jpegParts r (if cut then p else { p with bytes := p.bytes ++ [0xFF, 0] }) cut
        else if 0xD0 ≤ c.toNat && c.toNat ≤ 0xD7 then p :: jpegParts r { rst := some (c.toNat - 0xD0) } false
        else [p]

/-- The restart intervals the good markers begin, `last` being the newest (R195): a marker is good where its number is that
of a later interval of the frame, the nearest one; the intervals passed over hold damaged MCUs. -/
def jpegPlace (interval total : Nat) : Nat → List JpegPart → List (Nat × List Byte)
  | _, [] => []
  | last, p :: ps =>
    match p.rst with
    | none => (0, p.bytes) :: jpegPlace interval total 0 ps
    | some n =>
      let j := last + 1 + (n + 8 - last % 8) % 8
      if interval != 0 && j * interval < total then (j, p.bytes) :: jpegPlace interval total j ps
      else jpegPlace interval total last ps

/-- Width and height of an MCU in blocks: one block where there is one component. -/
def mcuBlocks (cs : List JpegComp) : Nat × Nat :=
  match cs with
  | [_] => (1, 1)
  | _ => ((cs.map (·.hs)).foldl max 1, (cs.map (·.vs)).foldl max 1)

/-- Blocks of component k in an MCU, across and down. -/
def compBlocks (cs : List JpegComp) (k : Nat) : Nat × Nat :=
  match cs with
  | [_] => (1, 1)
  | _ => (((cs[k]?).map (·.hs)).getD 1, ((cs[k]?).map (·.vs)).getD 1)

/-- The decoded MCUs of a scan, in order: none where an MCU is damaged (R195). -/
def jpegMcus (x : JpegHead) (data : List (Option Byte)) (total : Nat) : List (Option (List (List Byte))) :=
  let parts := jpegPlace x.interval total 0 (jpegParts data {} false)
  let per := if x.interval = 0 then total else x.interval
  let runs := parts.map (fun p => (p.1, Config.jpegBlocks (x.quant.map (fun q => (q.1, q.2.getD [])))
    (x.huff.map (fun q => (q.1, q.2.getD []))) (((x.comps.getD []).map (fun c => (c.hs, c.vs, c.tq))).zip
      ((scanTables (x.scan.getD [])).map (·.2))) per p.2))
  (List.range total).map (fun i => match runs.find? (fun r => r.1 == i / per) with
    | some r => (r.2.take per)[i % per]?
    | none => none)

/-- Pixel (px, y) of component k: the sample of the block that covers it, a chroma sample standing for every pixel of its
block with no interpolation (R194). -/
def jpegPixel (cs : List JpegComp) (mcus : List (Option (List (List Byte)))) (w px y k : Nat) : Byte :=
  let big := mcuBlocks cs
  let own := compBlocks cs k
  let across := (w + 8 * big.1 - 1) / (8 * big.1)
  let m := (mcus.getD (y / (8 * big.2) * across + px / (8 * big.1)) none).getD []
  let u := px % (8 * big.1) * own.1 / big.1
  let v := y % (8 * big.2) * own.2 / big.2
  let before := ((List.range k).map (fun j => (compBlocks cs j).1 * (compBlocks cs j).2)).sum
  (m.getD (before + v / 8 * own.1 + u / 8) []).getD (v % 8 * 8 + u % 8) 0

/-- A JPEG frame (R194, R195, R197): its verdict, and one entry a line, none where the line lies in an MCU row that holds a
damaged MCU. Bytes that were lost are none. A frame cut short before its scan header is refused; colours are not converted. -/
def jpegFrame (ch w h : Nat) (data : List (Option Byte)) : Nat × List (Option (List Byte)) :=
  let x := jpegHeader ch w h ((data.takeWhile (·.isSome)).map (·.getD 0))
  let cs := x.comps.getD []
  let v := jpegVerdict x
  if v != 0 then (v, List.replicate h none)
  else
    let big := mcuBlocks cs
    let across := (w + 8 * big.1 - 1) / (8 * big.1)
    let rows := (h + 8 * big.2 - 1) / (8 * big.2)
    let mcus := jpegMcus x (data.drop x.start) (across * rows)
    (0, (List.range h).map (fun y =>
      if ((mcus.drop (y / (8 * big.2) * across)).take across).any (·.isNone) then none
      else some ((List.range w).flatMap (fun px => (List.range ch).map (jpegPixel cs mcus w px y)))))

end Sys2Proof.Machine
end

