-- ==== Sys2Proof/Machine/Float.lean ====
section
/-!
DEFINITION. Binary32 arithmetic as R42, R44 and R94 state it: exact integers, one rounding to nearest even, tininess
judged after rounding and flushed, one canonical NaN. Every operation converts its operands to exact values, computes
exactly and rounds at the end.
-/

namespace Sys2Proof.Machine

/-- The canonical NaN (R43, R44). -/
def qnan : W32 := 0x7FC00000

/-- The greatest r with r² ≤ n, built from bit i down. -/
def isqrtFrom (n : Nat) : Nat → Nat → Nat
  | 0, r => if (r + 1) * (r + 1) ≤ n then r + 1 else r
  | i + 1, r => isqrtFrom n i (if (r + 2 ^ (i + 1)) * (r + 2 ^ (i + 1)) ≤ n then r + 2 ^ (i + 1) else r)

/-- The integer square root. -/
def isqrt (n : Nat) : Nat := isqrtFrom n (n.log2 / 2 + 1) 0

/-- Whether a binary32 pattern is a NaN. -/
def isNan (w : W32) : Bool := w.toNat / 2 ^ 23 % 256 = 255 && w.toNat % 2 ^ 23 != 0

/-- Whether it is an infinity. -/
def isInf (w : W32) : Bool := w.toNat / 2 ^ 23 % 256 = 255 && w.toNat % 2 ^ 23 = 0

/-- Whether it is zero, subnormals taken as zero (R44). -/
def isZero (w : W32) : Bool := w.toNat / 2 ^ 23 % 256 = 0

/-- Whether the sign bit is set. -/
def isNeg (w : W32) : Bool := w.msb

/-- Whether it is finite. -/
def isFin (w : W32) : Bool := w.toNat / 2 ^ 23 % 256 != 255

/-- Whether it is subnormal: a tiny non-zero pattern. -/
def isSub (w : W32) : Bool := w.toNat / 2 ^ 23 % 256 = 0 && w.toNat % 2 ^ 23 != 0

/-- The significand of a finite value as an integer, 0 for a zero or a subnormal (R44). -/
def flMant (w : W32) : Nat := if isZero w then 0 else w.toNat % 2 ^ 23 + 2 ^ 23

/-- The exponent that goes with `flMant`: |value| = flMant × 2^flExp. -/
def flExp (w : W32) : Int := (w.toNat / 2 ^ 23 % 256 : Nat) - 150

/-- The significand with its sign. -/
def flInt (w : W32) : Int := if isNeg w then -(flMant w : Int) else (flMant w : Int)

/-- A zero of a sign. -/
def flZero (neg : Bool) : W32 := if neg then 0x80000000 else 0

/-- An infinity of a sign. -/
def flInf (neg : Bool) : W32 := if neg then 0xFF800000 else 0x7F800000

/-- 24 bits of n with the guard and sticky bits rounded to nearest even (R42): the significand, at most 2^24. -/
def roundSig (n shift : Nat) (sticky : Bool) : Nat :=
  if shift = 0 then n
  else
    let q := n / 2 ^ shift
    let r := n % 2 ^ shift
    if r > 2 ^ (shift - 1) || (r = 2 ^ (shift - 1) && (sticky || q % 2 = 1)) then q + 1 else q

/-- n × 2^e, and a little more where sticky is set (n then has more than 25 bits), rounded once to binary32: nearest
even, tininess judged after rounding and flushed, overflow to an infinity (R42, R44). -/
def flRound (neg : Bool) (n : Nat) (e : Int) (sticky : Bool) : W32 :=
  if n = 0 then flZero neg
  else
    let shift := n.log2 + 1 - 24
    let q := roundSig n shift sticky
    let ex : Int := e + shift + q.log2
    if ex < -126 then flZero neg
    else if ex ≥ 128 then flInf neg
    else
      let frac := q * 2 ^ 24 / 2 ^ q.log2 / 2 - 2 ^ 23
      flZero neg ||| BitVec.ofNat 32 ((ex + 127).toNat * 2 ^ 23 + frac)

/-- An exact integer times a power of two, rounded; an exact zero takes the sign given. -/
def flRoundInt (v : Int) (e : Int) (negZero : Bool) : W32 :=
  if v = 0 then flZero negZero else flRound (v < 0) v.natAbs e false

/-- u × 2^eu + v × 2^ev as an integer at the lower exponent. -/
def flSum (u : Int) (eu : Int) (v : Int) (ev : Int) : Int × Int :=
  let e := min eu ev
  (u * 2 ^ (eu - e).toNat + v * 2 ^ (ev - e).toNat, e)

/-- A subnormal operand taken as zero of its sign (R44). -/
def flush (w : W32) : W32 := if isSub w then flZero (isNeg w) else w

/-- Addition (R44). -/
def flAdd (x y : W32) : W32 :=
  if isNan x || isNan y then qnan
  else if isInf x then (if isInf y && isNeg x != isNeg y then qnan else x)
  else if isInf y then y
  else
    let s := flSum (flInt x) (flExp x) (flInt y) (flExp y)
    flRoundInt s.1 s.2 (isNeg x && isNeg y && isZero x && isZero y)

/-- Sign inverted; the canonical NaN of a NaN (R94). -/
def flNeg (x : W32) : W32 := if isNan x then qnan else flush x ^^^ 0x80000000

/-- Subtraction: the addition of the second operand with its sign inverted (R44). -/
def flSub (x y : W32) : W32 := flAdd x (flNeg y)

/-- Sign cleared; the canonical NaN of a NaN (R94). -/
def flAbs (x : W32) : W32 := if isNan x then qnan else flush x &&& 0x7FFFFFFF

/-- Multiplication (R44). -/
def flMul (x y : W32) : W32 :=
  let neg := isNeg x != isNeg y
  if isNan x || isNan y then qnan
  else if isInf x || isInf y then (if isZero x || isZero y then qnan else flInf neg)
  else flRound neg (flMant x * flMant y) (flExp x + flExp y) false

/-- x × y + z with one rounding (R44, R93). -/
def flFma (x y z : W32) : W32 :=
  let neg := isNeg x != isNeg y
  if isNan x || isNan y || isNan z then qnan
  else if isInf x || isInf y then
    (if isZero x || isZero y then qnan
     else if isInf z && isNeg z != neg then qnan else flInf neg)
  else if isInf z then z
  else
    let s := flSum (flInt x * flInt y) (flExp x + flExp y) (flInt z) (flExp z)
    flRoundInt s.1 s.2 (neg && isNeg z && (isZero x || isZero y) && isZero z)

/-- Division, rounded once (R29). -/
def flDiv (x y : W32) : W32 :=
  let neg := isNeg x != isNeg y
  if isNan x || isNan y then qnan
  else if isInf x then (if isInf y then qnan else flInf neg)
  else if isInf y then flZero neg
  else if isZero y then (if isZero x then qnan else flInf neg)
  else
    let n := flMant x * 2 ^ 60
    flRound neg (n / flMant y) (flExp x - flExp y - 60) (n % flMant y != 0)

/-- 1/a, rounded once (R94). -/
def flRcp (x : W32) : W32 :=
  if isNan x then qnan
  else if isInf x then flZero (isNeg x)
  else if isZero x then flInf (isNeg x)
  else flRound (isNeg x) (2 ^ 60 / flMant x) (-60 - flExp x) (2 ^ 60 % flMant x != 0)

/-- 1/√a, rounded once (R94). -/
def flRsqrt (x : W32) : W32 :=
  if isNan x then qnan
  else if isZero x then flInf false
  else if isNeg x then qnan
  else if isInf x then flZero false
  else
    let odd := flExp x % 2 = 1
    let m := if odd then flMant x * 2 else flMant x
    let e : Int := if odd then flExp x - 1 else flExp x
    let r := isqrt (2 ^ 120 / m)
    flRound false r (-60 - e / 2) (r * r * m != 2 ^ 120)

/-- Whether x comes before y in the order of R94: −0 below +0; neither is a NaN. -/
def flLt (x y : W32) : Bool :=
  let key (w : W32) : Int := if isNeg w then -((w.toNat % 2 ^ 31 : Nat) : Int) - 1 else (w.toNat % 2 ^ 31 : Nat)
  key (flush x) < key (flush y)

/-- The lesser (R94). -/
def flMin (x y : W32) : W32 :=
  if isNan x || isNan y then qnan else if flLt y x then flush y else flush x

/-- The greater (R94). -/
def flMax (x y : W32) : W32 :=
  if isNan x || isNan y then qnan else if flLt x y then flush y else flush x

/-- int32 to binary32 (R94). -/
def flOfInt (w : W32) : W32 := flRoundInt w.toInt 0 false

/-- m × 2^e to the nearest integer, ties to even. -/
def natRound (m : Nat) (e : Int) : Nat :=
  if 0 ≤ e then m * 2 ^ e.toNat
  else
    let k := (-e).toNat
    let q := m / 2 ^ k
    let r := m % 2 ^ k
    if r > 2 ^ (k - 1) || (r = 2 ^ (k - 1) && q % 2 = 1) then q + 1 else q

/-- binary32 to int32, ties to even, saturating; a NaN gives −2^31 (R94). -/
def flToInt (x : W32) : W32 :=
  if isNan x then 0x80000000
  else if isInf x then (if isNeg x then 0x80000000 else 0x7FFFFFFF)
  else
    let n := natRound (flMant x) (flExp x)
    if isNeg x then (if n ≥ 2 ^ 31 then 0x80000000 else BitVec.ofInt 32 (-(n : Int)))
    else if n ≥ 2 ^ 31 then 0x7FFFFFFF else BitVec.ofNat 32 n

/-- x ≤ y as numbers, subnormals as zeros; neither is a NaN. -/
def flLe (x y : W32) : Bool :=
  if isZero x && isZero y then true else !(flLt y x)

/-- Whether two numbers differ as real numbers: zeros of both signs are equal. -/
def flNe (x y : W32) : Bool := !(isZero x && isZero y) && flush x != flush y

end Sys2Proof.Machine
end

