-- ==== Sys2Proof/Machine/Num.lean ====
section
/-!
DEFINITION. Grids and codes, quantisation, product tables, scales (chapter 2), the KZ-CB generator (R140 to R142) and
CRC-32C. A grid value is exact: (a + b√2) over the grid's denominator times 2^400.
-/

namespace Sys2Proof.Machine

/-! ### Exact values -/

/-- a + b√2, over a denominator kept beside it. -/
structure Q2 where
  a : Int
  b : Int
deriving DecidableEq, Repr

def Q2.sub (x y : Q2) : Q2 := ⟨x.a - y.a, x.b - y.b⟩
def Q2.neg (x : Q2) : Q2 := ⟨-x.a, -x.b⟩
def Q2.mul (x y : Q2) : Q2 := ⟨x.a * y.a + 2 * x.b * y.b, x.a * y.b + x.b * y.a⟩

/-- The sign of a + b√2: √2 is irrational, so a² = 2b² only at zero. -/
def Q2.sgn (x : Q2) : Int :=
  if x.b = 0 then x.a.sign
  else if x.a = 0 then x.b.sign
  else if x.a.sign = x.b.sign then x.a.sign
  else if x.a * x.a > 2 * (x.b * x.b) then x.a.sign else x.b.sign

def Q2.lt (x y : Q2) : Bool := (x.sub y).sgn < 0
def Q2.abs (x : Q2) : Q2 := if x.sgn < 0 then x.neg else x

/-- The floor of a + b√2. -/
def Q2.floor (x : Q2) : Int :=
  let r : Int := (isqrt (2 * (x.b.natAbs * x.b.natAbs)) : Nat)
  if x.b = 0 then x.a else if 0 < x.b then x.a + r else x.a - r - 1

/-- The scale every grid value and every compared binary32 value is held at. -/
def q2Scale : Nat := 400

/-- x / (den × 2^400) rounded once to binary32 (R29, R45). -/
def Q2.round (x : Q2) (den : Nat) : W32 :=
  let y := x.abs
  let f := y.floor.toNat
  flRound (x.sgn < 0) (f / den) (-(q2Scale : Int)) (f % den != 0 || y.b != 0)

/-! ### Grids (R20 to R27) -/

/-- A grid as an engine uses it: its width, its hole code, its denominator and the exact value of each of its own
codes, the exponent E applied. -/
structure Grid where
  /-- bits of a code -/
  width : Nat
  hole : Option Nat
  den : Nat
  /-- one entry a code -/
  vals : List Q2
deriving DecidableEq, Repr

/-- n / den as a grid value. -/
def qRat (n : Int) : Q2 := ⟨n * 2 ^ q2Scale, 0⟩

/-- The codes of a signed 4-bit grid from its eight magnitudes (R20). -/
def signedVals (m : List Int) : List Q2 := m.map qRat ++ m.map (fun v => qRat (-v))

/-- The L4 level 2^(−k/2) over 128 (R23). -/
def l4Level (k : Nat) : Q2 :=
  if k % 2 = 0 then qRat (2 ^ (7 - k / 2)) else ⟨0, 2 ^ (6 - k / 2) * 2 ^ q2Scale⟩

/-- The preset grids of Table 2-1; the reserved IDs 6 to 15 name none. -/
def presetGrid : Nat → Option Grid
  | 0 => some ⟨4, some 8, 10000, signedVals [0, 1025, 2077, 3186, 4397, 5783, 7498, 10000]⟩
  | 1 => some ⟨4, some 8, 7, signedVals [0, 1, 2, 3, 4, 5, 6, 7]⟩
  | 2 => some ⟨4, some 8, 128,
      qRat 0 :: [13, 12, 11, 10, 9, 8, 7].map l4Level ++ qRat 0 :: [6, 5, 4, 3, 2, 1, 0].map l4Level⟩
  | 3 => some ⟨2, some 2, 1, [qRat 0, qRat 1, qRat 0, qRat (-1)]⟩
  | 4 => some ⟨1, none, 1, [qRat (-1), qRat 1]⟩
  | 5 => some ⟨4, none, 1, (List.range 16).map (fun c => qRat c)⟩
  | _ => none

/-- A finite binary32 value times 2^k over a denominator, as an exact value. -/
def qOfFloat (w : W32) (k : Int) (den : Nat) : Q2 := ⟨flInt w * den * 2 ^ ((q2Scale : Int) + flExp w + k).toNat, 0⟩

/-- Bits of a code of a WIDTH field of Table 2-3. -/
def widthBits (w : Nat) : Nat := if w = 0 then 4 else if w = 1 then 2 else 1

/-- A user grid (R27): the stored binary32 values scaled by 2^E; −0.0 is the value zero. -/
def userGrid (g : UserGrid) : Grid :=
  let n := widthBits g.width
  ⟨n, if g.hole then some (if n = 4 then 8 else 2) else none, 1,
    (g.vals.take (2 ^ n)).map (fun v => qOfFloat v g.exp 1)⟩

/-- The grid an operation names (R22): a preset, or a user grid the core's grid table holds. -/
def findGrid (tab : Tab (Option UserGrid)) (id : Nat) : Option Grid :=
  if id < 16 then presetGrid id else (tab.get none id).map userGrid

/-- A code widened to a 4-bit index (R24). -/
def widen (width c : Nat) : Nat :=
  if width = 4 then c else if width = 2 then c / 2 % 2 * 8 + c % 2 else if c = 0 then 9 else 1

/-- The code of a widened index (R96, pack 00). -/
def narrow (width i : Nat) : Nat :=
  if width = 4 then i else if width = 2 then i / 8 % 2 * 2 + i % 2 else if i / 8 % 2 = 1 then 0 else 1

/-- A code as a 2-bit field (R95, R25): a 2-bit code is itself; B1 is 0b01 for code 1 and 0b11 for code 0. -/
def toField (width c : Nat) : Nat := if width = 1 then (if c = 0 then 3 else 1) else c

/-- The code of a 2-bit field (R96). -/
def ofField (width f : Nat) : Nat := if width = 1 then (if f / 2 % 2 = 1 then 0 else 1) else f

/-- The candidate values of a grid with their codes (R28): every code but the hole, ascending codes. -/
def candidates (g : Grid) : List (Nat × Q2) :=
  (g.vals.zipIdx.map (fun p => (p.2, p.1))).filter (fun p => some p.1 != g.hole)

/-- The better of two candidates for x in round-to-nearest mode (R28): nearer; then smaller magnitude; then the
positive one; then the lower code. For a negative x whose nearest value is a zero that stands at another code than 0x0 of a user
grid, R28's bullet for it names code 0x0 and its first sentence the nearest value: the model writes the lowest code that holds
zero (notes/assumptions/86). -/
def nearer (x : Q2) (c d : Nat × Q2) : Nat × Q2 :=
  let u := ((x.sub c.2).abs.sub (x.sub d.2).abs).sgn
  let m := (c.2.abs.sub d.2.abs).sgn
  if u < 0 then c else if u > 0 then d
  else if m < 0 then c else if m > 0 then d
  else if c.2.sgn < d.2.sgn then d else c

/-- Choose over the candidates by a rule that keeps the first of equals. -/
def bestBy (pick : Nat × Q2 → Nat × Q2 → Nat × Q2) : List (Nat × Q2) → Nat × Q2
  | [] => (0, ⟨0, 0⟩)
  | c :: cs => cs.foldl pick c

/-- The largest candidate (the lowest code of equals). -/
def largest (cs : List (Nat × Q2)) : Nat × Q2 := bestBy (fun c d => if c.2.lt d.2 then d else c) cs

/-- The smallest candidate. -/
def smallest (cs : List (Nat × Q2)) : Nat × Q2 := bestBy (fun c d => if d.2.lt c.2 then d else c) cs

/-- The stochastic choice of R29: u is the element's KZ-CB word. Where w is flushed to zero, the quotient p has no floor and
the manual states no t: t is open there, as a function of x and its neighbours (notes/assumptions/27). -/
def stochastic (den : Nat) (cs : List (Nat × Q2)) (x : Q2) (u : W32) : Nat :=
  match cs.find? (fun c => (x.sub c.2).sgn = 0) with
  | some c => c.1
  | none =>
    let below := cs.filter (fun c => c.2.lt x)
    let above := cs.filter (fun c => x.lt c.2)
    if below.isEmpty then (smallest cs).1
    else if above.isEmpty then (largest cs).1
    else
      let lo := largest below
      let hi := smallest above
      let d := (x.sub lo.2).round den
      let w := (hi.2.sub lo.2).round den
      let p := flDiv d w
      let t := if isZero w then Config.stochasticT den (x.a, x.b) (lo.2.a, lo.2.b) (hi.2.a, hi.2.b) else natFloor (flMant p) (flExp p + 24)
      if u.toNat / 256 < t then hi.1 else lo.1
where
  /-- m × 2^e rounded down. -/
  natFloor (m : Nat) (e : Int) : Nat := if 0 ≤ e then m * 2 ^ e.toNat else m / 2 ^ (-e).toNat

/-- Quantise x to a code of the grid, and whether the destination tile is poisoned (R28 to R31). `draw` is none in
round-to-nearest mode. -/
def quantise (g : Grid) (x : W32) (draw : Option W32) : Nat × Bool :=
  if isNan x then
    match g.hole with
    | some h => (h, false)
    | none => (0, true)
  else
    let cs := candidates g
    if isInf x then (if isNeg x then (smallest cs).1 else (largest cs).1, false)
    else
      let v := qOfFloat x 0 g.den
      match draw with
      | none => ((bestBy (nearer v) cs).1, false)
      | some u => (stochastic g.den cs v u, false)

/-- Dequantise a code (R45): the hole and a poisoned tile give the canonical NaN. A value of a user grid below 2^−126 rounds as
every result of R44 does, to a signed zero (notes/assumptions/27). -/
def dequantise (g : Grid) (c : Nat) (poison : Bool) : W32 :=
  if poison || some c = g.hole then qnan
  else
    match g.vals[c]? with
    | some v => if v.sgn = 0 then 0 else v.round g.den
    | none => 0

/-! ### Product tables and scales (R32 to R43) -/

/-- round_to_even (v_a × v_w × 2^14) for two grid values before their exponents (R32). -/
def tableEntry (da : Nat) (va : Q2) (dw : Nat) (vw : Q2) : Int :=
  let p := va.mul vw
  let den : Int := da * dw * 2 ^ (2 * q2Scale)
  let y : Q2 := ⟨p.a * 2 ^ 14, p.b * 2 ^ 14⟩
  let q := y.floor / den
  let c := (Q2.sub ⟨2 * y.a, 2 * y.b⟩ ⟨(2 * q + 1) * den, 0⟩).sgn
  if c < 0 then q else if c > 0 then q + 1 else if q % 2 = 0 then q else q + 1

/-- An S16 scale as an exact value: significand and exponent (R40). -/
def s16Mant (s : W16) : Int :=
  let m : Int := (512 + s.toNat % 512 : Nat)
  if s.msb then -m else m

/-- (1 + f/512) × 2^(e − 31) = (512 + f) × 2^(e − 40) (R40). -/
def s16Exp (s : W16) : Int := (s.toNat / 512 % 64 : Nat) - 40

/-- The conversion of an accumulator element (R42, R43). -/
def convert (a : Acc) (texp : BitVec 8) (s : W16) : W32 :=
  if a.ovf || a.poi then qnan
  else flRoundInt (a.val.toInt * s16Mant s) (texp.toInt - 14 + s16Exp s) s.msb

/-- The lookup of a left and a right index: its value, and whether it is a hole lookup (R34). -/
def lookup (p : PTab) (a w : Nat) : Int × Bool :=
  let hole := (a = 8 && p.flags.getLsbD 0) || (w = 8 && p.flags.getLsbD 1)
  (if hole then 0 else (p.ent.get 0 (16 * a + w)).toInt, hole)

/-- Element number n of a tile of fields of b bits (R25). -/
def tileField (t : W64) (b n : Nat) : Nat := t.toNat / 2 ^ (b * n) % 2 ^ b

/-- A tile of fields of b bits from its elements in order (R25). -/
def tileOf (b : Nat) : List Nat → Nat
  | [] => 0
  | x :: xs => x % 2 ^ b + 2 ^ b * tileOf b xs

/-- Element (r, c) of a layout of `cols` columns goes to (c, r) of the transposed layout (R64): the fields of the
destination, which has `rows` columns. -/
def transposeTile (b rows cols : Nat) (t : W64) : W64 :=
  BitVec.ofNat 64 (tileOf b ((List.range (rows * cols)).map (fun n => tileField t b (n % rows * cols + n / rows))))

/-- The lookups of element (i, j): normal mode has four 4-bit fields a row, split mode eight 2-bit fields, widened
(R25, R36). -/
def macTerms (p : PTab) (split : Bool) (l r : W64) (i j : Nat) : List (Int × Bool) :=
  if split then
    (List.range 8).map (fun k => lookup p (widen 2 (tileField l 2 (8 * i + k))) (widen 2 (tileField r 2 (4 * k + j))))
  else (List.range 4).map (fun k => lookup p (tileField l 4 (4 * i + k)) (tileField r 4 (4 * k + j)))

/-! ### KZ-CB (R140 to R142) -/

/-- The rotations of round r: p then q (R140). -/
def kzRot (r : Nat) : Nat × Nat :=
  ([(7, 13), (19, 5), (11, 22), (26, 17)] : List (Nat × Nat)).getD (r % 4) (7, 13)

/-- One round (R140). -/
def kzRound (k0 k1 : W32) (x : W32 × W32 × W32 × W32) (r : Nat) : W32 × W32 × W32 × W32 :=
  let rk := (if r % 2 = 0 then k0 else k1) + BitVec.ofNat 32 r * 0x4B5A2048
  let x0 := x.1 + (x.2.2.2 ^^^ rk)
  let x1 := (x.2.1 ^^^ x0).rotateLeft (kzRot r).1
  let x2 := x.2.2.1 + (x1 ^^^ rk)
  let x3 := (x.2.2.2 + x2).rotateLeft (kzRot r).2
  (x0, x1, x2, x3)

/-- The block function B(K, C) (R140). -/
def kzBlock (k0 k1 : W32) (c : W32 × W32 × W32 × W32) : W32 × W32 × W32 × W32 :=
  let x := (List.range 12).foldl (kzRound k0 k1) c
  (x.1 + k1, x.2.1 + k0, x.2.2.1 + k1, x.2.2.2 + k0)

/-- Bits [31:0] of a 64-bit word. -/
def lo32 (w : W64) : W32 := w.extractLsb' 0 32

/-- Bits [63:32] of a 64-bit word. -/
def hi32 (w : W64) : W32 := w.extractLsb' 32 32

/-- The step key of a seed and a step (R141). -/
def stepKey (seed step : W64) : W32 × W32 :=
  let b := kzBlock (lo32 seed) (hi32 seed) (lo32 step, hi32 step, 0, 0xFFFFFFFF)
  (b.1, b.2.1)

/-- The word a stochastic quantisation draws (R30, Table 6-1). -/
def qntWord (seed step : W64) (tensor elem : W32) : W32 :=
  let k := stepKey seed step
  (kzBlock k.1 k.2 (elem, tensor, 0, 0)).1

/-! ### Cyclic codes -/

/-- One bit of a reflected CRC: `poly` is its polynomial reflected. -/
def crcBit {n : Nat} (poly r : BitVec n) : BitVec n := if r.getLsbD 0 then (r >>> 1) ^^^ poly else r >>> 1

/-- One byte. -/
def crcByte {n : Nat} (poly r : BitVec n) (b : Byte) : BitVec n :=
  (List.range 8).foldl (fun r _ => crcBit poly r) (r ^^^ b.zeroExtend n)

/-- CRC-32C of a byte string: initial value and final exclusive-or all ones (R102 names the code and no parameters,
notes/assumptions/18). -/
def crc32c (bs : List Byte) : W32 := bs.foldl (crcByte 0x82F63B78) 0xFFFFFFFF ^^^ 0xFFFFFFFF

/-- The frame check sequence of IEEE 802.3, polynomial 0x04C11DB7 (R292 names the FCS; notes/assumptions/18). -/
def crc32 (bs : List Byte) : W32 := bs.foldl (crcByte 0xEDB88320) 0xFFFFFFFF ^^^ 0xFFFFFFFF

/-- The payload CRC of CSI-2, polynomial 0x1021 (R327 names the standard; notes/assumptions/79). -/
def crc16 (bs : List Byte) : W16 := bs.foldl (crcByte 0x8408) 0xFFFF

/-! ### Little-endian bytes (R5) -/

/-- n bytes of a number, least significant first (R5). -/
def leBytes : Nat → Nat → List Byte
  | 0, _ => []
  | n + 1, v => BitVec.ofNat 8 v :: leBytes n (v / 256)

/-- The number of a byte string, least significant first (R5). -/
def leNat : List Byte → Nat
  | [] => 0
  | b :: bs => b.toNat + 256 * leNat bs

/-- n bytes at an offset of a byte string, as a number; bytes past the end read as zero. -/
def leAt (bs : List Byte) (off n : Nat) : Nat := leNat ((bs.drop off).take n)

/-- A two's-complement field of n bytes. -/
def leIntAt (bs : List Byte) (off n : Nat) : Int :=
  let v := leAt bs off n
  if v ≥ 2 ^ (8 * n - 1) then (v : Int) - 2 ^ (8 * n) else v

/-- n bytes of an integer in two's complement. -/
def leInt (n : Nat) (v : Int) : List Byte := leBytes n (v % 2 ^ (8 * n)).toNat

end Sys2Proof.Machine
end

