-- ==== Sys2Proof/Machine/Ops.lean ====
section
/-!
DEFINITION. The named operations every meaning is written over: free values, records of bytes, time, what leaves the
module, interrupts and events (R243, R249, R250, R317, R324), causes of SAFE_FAULT# (R381), watchdog kicks (R373, R374),
the address map and the firewall (R14, R15, R370, R371), memory with its poison and its errors (R59, R106, R107, R110),
sync objects (R112, R113), engine faults (R101, R122), hangs (R387), and the shape of a mailbox command (R244 to R247).
A meaning is a function of the module; `State.act` runs it beside the queue.
-/

namespace Sys2Proof.Machine

/-- What a command answers. -/
abbrev Res := Host.Outcome State Fault Refusal

/-- Run a function of the module; the queue stays. -/
def State.act (s : State) (f : Module → Module) : Res := .next { s with mod := f s.mod }

/-- Run what Gragor does of itself, while it is READY (R252). -/
def State.gragor (s : State) (f : Module → Module) : Res :=
  s.act (fun m => if m.host.gState = 3 then f m else m)

/-! ### Numbers and bytes -/

/-- A 32-bit counter that saturates. -/
def sat32 (n : Nat) : Nat := min n 0xFFFFFFFF

/-- Count n more in number k of a table of saturating 32-bit counters. -/
def bumpBy (t : Tab Nat) (k n : Nat) : Tab Nat := t.put 0 k (sat32 (t.get 0 k + n))

/-- Count one. -/
def bump (t : Tab Nat) (k : Nat) : Tab Nat := bumpBy t k 1

/-- Overwrite bytes of a list from an offset; the list keeps its length. -/
def setBytes (base : List Byte) (off : Nat) (bs : List Byte) : List Byte :=
  (base.take off ++ bs ++ base.drop (off + bs.length)).take base.length

/-- A record of n bytes, zero but for the fields given as (offset, size, value). -/
def fields (n : Nat) (fs : List (Nat × Nat × Nat)) : List Byte :=
  fs.foldl (fun r f => setBytes r f.1 (leBytes f.2.1 f.2.2)) (List.replicate n 0)

/-- Append an item that is not there yet. -/
def addOnce {α : Type} [DecidableEq α] (l : List α) (x : α) : List α := if l.contains x then l else l ++ [x]

/-- Whether every byte is zero. -/
def zeros (bs : List Byte) : Bool := bs.all (fun b => b == 0)

/-- Put an element into a sorted list, before those it does not follow. -/
def insertBy {α : Type} (le : α → α → Bool) (x : α) : List α → List α
  | [] => [x]
  | y :: ys => if le x y then x :: y :: ys else y :: insertBy le x ys

/-- A list in the order of `le`; what `le` takes as equal keeps its order. -/
def sortBy {α : Type} (le : α → α → Bool) (l : List α) : List α := l.foldr (insertBy le) []

/-- The bits of a mask, ascending. -/
def bitsOf {n : Nat} (w : BitVec n) : List Nat := (List.range n).filter (fun i => w.getLsbD i)

/-- The mask of a list of bit numbers. -/
def maskOf (n : Nat) (l : List Nat) : BitVec n := l.foldl (fun w i => w ||| BitVec.twoPow n i) 0

/-- Set or clear one bit. -/
def setBit {n : Nat} (w : BitVec n) (i : Nat) (v : Bool) : BitVec n :=
  if v then w ||| BitVec.twoPow n i else w &&& ~~~ BitVec.twoPow n i

/-! ### Free values (notes/assumptions/8) -/

/-- The free value now due. -/
def free (m : Module) : W64 := Config.freeValue m.freeCount

/-- Move on to the next free value. -/
def freeNext (m : Module) : Module := { m with freeCount := m.freeCount + 1 }

/-- n bytes of free values. -/
def freeBytes (m : Module) (n : Nat) : List Byte :=
  (List.range n).map (fun i => (Config.freeValue (m.freeCount + i)).extractLsb' 0 8)

/-- Move on by n free values. -/
def freeSkip (m : Module) (n : Nat) : Module := { m with freeCount := m.freeCount + n }

/-! ### Lookups -/

def Module.core (m : Module) (c : Nat) : Core := m.cores.get {} c
def Module.setCore (m : Module) (c : Nat) (v : Core) : Module := { m with cores := m.cores.put {} c v }
def Module.updCore (m : Module) (c : Nat) (f : Core → Core) : Module := m.setCore c (f (m.core c))
def Module.eng (m : Module) (c e : Nat) : Engine := m.engines.get {} (64 * c + e)
def Module.setEng (m : Module) (c e : Nat) (v : Engine) : Module := { m with engines := m.engines.put {} (64 * c + e) v }
def Module.updEng (m : Module) (c e : Nat) (f : Engine → Engine) : Module := m.setEng c e (f (m.eng c e))
def Module.ctx (m : Module) (k : Nat) : Ctx := m.sched.ctxs.get {} k
def Module.setCtx (m : Module) (k : Nat) (v : Ctx) : Module :=
  { m with sched := { m.sched with ctxs := m.sched.ctxs.put {} k v } }
def Module.updCtx (m : Module) (k : Nat) (f : Ctx → Ctx) : Module := m.setCtx k (f (m.ctx k))
def Module.client (m : Module) (n : Nat) : Client := m.sched.clients.get {} n
def Module.setClient (m : Module) (n : Nat) (v : Client) : Module :=
  { m with sched := { m.sched with clients := m.sched.clients.put {} n v } }
def Module.queue (m : Module) (q : Nat) : Queue := m.queues.get {} q
def Module.setQueue (m : Module) (q : Nat) (v : Queue) : Module := { m with queues := m.queues.put {} q v }
def Module.mbx (m : Module) (n : Nat) : Mbx := m.host.mbx.get {} n
def Module.setMbx (m : Module) (n : Nat) (v : Mbx) : Module := { m with host := { m.host with mbx := m.host.mbx.put {} n v } }
def Module.window (m : Module) (w : Nat) : Window := m.fab.windows.get {} w
def Module.setWindow (m : Module) (w : Nat) (v : Window) : Module :=
  { m with fab := { m.fab with windows := m.fab.windows.put {} w v } }
def Module.stream (m : Module) (i : Nat) : Stream := m.streams.get {} i
def Module.setStream (m : Module) (i : Nat) (v : Stream) : Module := { m with streams := m.streams.put {} i v }
def Module.canCtl (m : Module) (k : Nat) : CanCtl := m.can.get {} k
def Module.setCan (m : Module) (k : Nat) (v : CanCtl) : Module := { m with can := m.can.put {} k v }
def Module.port (m : Module) (p : Nat) : EthPort := m.time.ports.get {} p
def Module.setPort (m : Module) (p : Nat) (v : EthPort) : Module := { m with time := { m.time with ports := m.time.ports.put {} p v } }
def Module.loop (m : Module) (i : Nat) : Loop := m.trl.loops.get {} i
def Module.setLoop (m : Module) (i : Nat) (v : Loop) : Module := { m with trl := { m.trl with loops := m.trl.loops.put {} i v } }
def Module.runner (m : Module) (r : Nat) : Runner := m.links.runners.get {} r
def Module.setRunner (m : Module) (r : Nat) (v : Runner) : Module :=
  { m with links := { m.links with runners := m.links.runners.put {} r v } }

/-- Enabled logical cores (R1, R2). -/
def nCores (m : Module) : Nat := if m.host.part = Config.part1536 then 24 else 32

/-- Cores of one partition (Table 1-3). -/
def coresPerPart (m : Module) : Nat := nCores m / 4

/-- The partition of a logical core (Table 1-3). -/
def partOfCore (m : Module) (c : Nat) : Nat := c / coresPerPart m

/-- The physical position of a logical core: the c-th enabled position (R11, R12). -/
def posOfCore (m : Module) (c : Nat) : Nat := (bitsOf m.host.coreEnable).getD c c

/-- The logical core at a physical position, if enabled. -/
def coreAtPos (m : Module) (p : Nat) : Option Nat :=
  if m.host.coreEnable.getLsbD p then some ((bitsOf m.host.coreEnable).filter (fun i => decide (i < p))).length else none

/-- Whether a power domain is on. -/
def domOn (m : Module) (d : Nat) : Bool := m.power.on.getLsbD d

/-- The SID of a context and a unit (R257, R19). -/
def sidOf (m : Module) (k unit : Nat) : W16 := BitVec.ofNat 16 ((m.ctx k).cloche * 4096 + k * 64 + unit)

/-- The context a SID names. -/
def sidCtx (sid : W16) : Nat := sid.toNat / 64 % 64
/-- The cloche a SID names. -/
def sidCloche (sid : W16) : Nat := sid.toNat / 4096
/-- The unit a SID names (Table 1-7). -/
def sidUnit (sid : W16) : Nat := sid.toNat % 64

/-- The job of a JOB_ID. -/
def findJob (m : Module) (id : Nat) : Option Job := m.sched.jobs.find? (fun j => j.id == id)

/-- Replace a job. -/
def putJob (m : Module) (j : Job) : Module :=
  { m with sched := { m.sched with jobs := m.sched.jobs.map (fun i => if i.id = j.id then j else i) } }

/-- The admitted job of a context (R263). -/
def admittedOf (m : Module) (k : Nat) : Option Job :=
  m.sched.jobs.find? (fun j => j.ctx == k && j.state != .queued)

/-- Whether a context has a job admitted. -/
def hasAdmitted (m : Module) (k : Nat) : Bool := (admittedOf m k).isSome

/-! ### Time (R282 to R285): units of 2⁻⁶⁴ ns -/

/-- One microsecond. -/
def usUnit : Nat := 1000 * 2 ^ 64
/-- One millisecond. -/
def msUnit : Nat := 1000 * usUnit
/-- One nanosecond. -/
def nsUnit : Nat := 2 ^ 64
/-- Seconds of the counter. -/
def secOf (t : Nat) : Nat := t / (1000000000 * 2 ^ 64)
/-- Nanoseconds within the second. -/
def nsOf (t : Nat) : Nat := t / 2 ^ 64 % 1000000000
/-- An instant from seconds and nanoseconds. -/
def instant (sec ns : Nat) : Nat := (sec * 1000000000 + ns) * 2 ^ 64
/-- Network time in whole microseconds. -/
def nowUs (m : Module) : Nat := m.time.now / usUnit
/-- Elapsed time in whole microseconds. -/
def elapsedUs (m : Module) : Nat := m.time.elapsed / usUnit
/-- Whether an elapsed time of `len` has passed since `since`. -/
def passed (m : Module) (since len : Nat) : Bool := since + len ≤ m.time.elapsed

/-- The counter's range: SEC has 64 bits (R282). -/
def timeMod : Nat := 2 ^ 64 * 1000000000 * 2 ^ 64

/-- One TSC cycle (R283): 2.5 × (1 + RATE × 2⁻⁴⁸) ns; the counter rests until the root PLL has locked. Cycles in which the FAB clock
runs, with PD_FAB on, are counted (R347). -/
def tscCycle (m : Module) : Module :=
  if m.power.locked then
    let d := ((5 * 2 ^ 63 : Int) + m.time.rate * 163840).toNat
    { m with time := { m.time with
      now := (m.time.now + d) % timeMod, elapsed := m.time.elapsed + d
      cycles := m.time.cycles + (if domOn m 36 then 1 else 0) } }
  else m

/-! ### What leaves the module -/

/-- Log an output (notes/assumptions/14). -/
def emit (w : Wire) (m : Module) : Module := { m with wire := w :: m.wire }

/-- Raise the lowest pending in-band interrupt, when none is raised (R324): with PD_LS off the port's pins are high impedance and
it raises none (R421). -/
def raiseIbi (m : Module) : Module :=
  match m.host.ibiRaised, bitsOf m.host.ibiPend with
  | none, n :: _ => if domOn m 47 then emit (.ibi n) { m with host := { m.host with ibiRaised := some n } } else m
  | _, _ => m

/-- The message of a vector, to the address and with the data of its table entry (R316, R317). -/
def sendMsix (n : Nat) (m : Module) : Module :=
  let e := m.host.msixTab.get (0, 0) n
  emit (.msix n e.1 e.2) m

/-- The MSI-X side of a signalled source (R317, R318): signalled again while its pending bit is set it adds nothing. -/
def msixSignal (n : Nat) (m : Module) : Module :=
  if !m.host.msixOn || m.host.msixPba.getLsbD n then m
  else if m.host.msixMask.getLsbD n || m.links.pcieSpeed = 0 then
    { m with host := { m.host with msixPba := setBit m.host.msixPba n true } }
  else sendMsix n m

/-- The I3C side of a signalled source (R324). -/
def ibiSignal (n : Nat) (m : Module) : Module :=
  if m.host.ibiOn then raiseIbi { m with host := { m.host with ibiPend := setBit m.host.ibiPend n true } } else m

/-- Interrupt source n is signalled: both paths (R324). -/
def signalSource (n : Nat) (m : Module) : Module := ibiSignal n (msixSignal n m)

/-! ### Events (R249, R250) -/

/-- Whether the ring has room: EVT_HEAD − EVT_TAIL below 16 (R249). -/
def ringRoom (m : Module) : Bool := (m.host.evtHead - m.host.evtTail).toNat < 16

/-- Post a record in the ring (R249); the completion of a KV commit is owed no more (R166). -/
def ringPost (r : EventRec) (m : Module) : Module :=
  signalSource 15 { m with
    host := { m.host with ring := m.host.ring.put {} (m.host.evtHead.toNat % 16) r, evtHead := m.host.evtHead + 1 }
    kv := { m.kv with owed := m.kv.owed.filter (fun o => o.2 != m.host.evtHead) } }

/-- An EVENTS_LOST record (R250, R256). -/
def lostRec (n : Nat) : EventRec :=
  { code := 0x0011, result := 0, source := 0xFF, unsolicited := true, tag := 0, payload := fields 24 [(0, 4, n)] }

/-- Fill the backlog from the held completions, then with the EVENTS_LOST record that is due (R250). -/
def backlogFill (m : Module) : Module :=
  let room := 1024 - m.host.backlog.length
  let h := { m.host with backlog := m.host.backlog ++ m.host.held.take room, held := m.host.held.drop room }
  let h := if h.held.isEmpty && h.lostSince != 0 && h.backlog.length < 1024
    then { h with backlog := h.backlog ++ [lostRec h.lostSince], lostSince := 0 } else h
  { m with host := h }

/-- Post records of the backlog while the ring has room (R250); at most 16 fit. -/
def ringDrain : Nat → Module → Module
  | 0, m => m
  | n + 1, m =>
    match m.host.backlog with
    | [] => m
    | r :: rs => if ringRoom m then ringDrain n (backlogFill (ringPost r { m with host := { m.host with backlog := rs } })) else m

/-- Offer a record: to the ring, else to the backlog, else a completion is held and an unsolicited event is counted
(R250). Gragor posts, so nothing is posted unless it is READY (notes/assumptions/19). -/
def offer (r : EventRec) (m : Module) : Module :=
  if m.host.gState != 3 then m
  else if m.host.backlog.isEmpty && ringRoom m then ringPost r m
  else if m.host.backlog.length < 1024 then { m with host := { m.host with backlog := m.host.backlog ++ [r] } }
  else if r.unsolicited then
    { m with host := { m.host with evtLost := sat32 (m.host.evtLost + 1), lostSince := m.host.lostSince + 1 } }
  else { m with host := { m.host with held := m.host.held ++ [r] } }

/-- Post an unsolicited event with a payload of Table 11-13. -/
def event (code result : Nat) (fs : List (Nat × Nat × Nat)) (m : Module) : Module :=
  offer { code := code, result := result, source := 0xFF, unsolicited := true, tag := 0, payload := fields 24 fs } m

/-- Post a completion record of a client (Table 11-6). -/
def completion (client tag code result : Nat) (payload : List Byte) (m : Module) : Module :=
  offer { code := code, result := result, source := client, unsolicited := false, tag := tag,
          payload := setBytes (List.replicate 24 0) 0 payload } m

/-- A health event (R364): unit, cause, object, physical engine. -/
def healthEvent (unit cause obj phys : Nat) (m : Module) : Module :=
  event 0x0115 0 [(0, 1, unit), (1, 1, cause), (2, 2, obj), (4, 1, phys)]
    { m with health := { m.health with ctr := bump m.health.ctr 3 } }

/-! ### Causes of SAFE_FAULT# and requests for Hold (R381, R338) -/

/-- Count in the safety block's counters (R386). -/
def safeCount (k : Nat) (m : Module) : Module := { m with safety := { m.safety with ctr := bump m.safety.ctr k } }

/-- Raise a cause: it is latched, and SAFE_FAULT# is asserted once (R381, Table 18-3). Causes 5 and 7 to 10 stay
present until power-on or RESET#. -/
def raiseCause (bit : Nat) (m : Module) : Module :=
  let s := m.safety
  let l := setBit s.latched bit true
  let st := if bit = 5 || (7 ≤ bit && bit ≤ 10) then setBit s.sticky bit true else s.sticky
  let m1 := { m with safety := { s with latched := l, sticky := st, asserted := true } }
  if s.asserted then m1 else event 0x0B14 0 [(0, 1, 1), (4, 4, l.toNat)] (safeCount 15 m1)

/-- An internal request for Hold with PARK, by the health policy (1) or the safety block (2): it waits to be asked of
the units (R338, R339; the row POWER_ENTRY_REQUEST asks). -/
def askHold (who : Nat) (m : Module) : Module :=
  { m with power := { m.power with waiting := addOnce m.power.waiting who } }

/-! ### The address map (R14) -/

/-- Where a device address lies (Table 1-4). -/
inductive Place where
  | ddr | ecc | store | spad (c : Nat) | prog (c : Nat) | sync | sq | cold | unmapped
deriving DecidableEq, Repr

def spadBase (c : Nat) : Nat := 0x1100000000 + c * 0x1000000
def progBase (c : Nat) : Nat := 0x1100800000 + c * 0x1000000
def storeBase : Nat := 0x1000000000
def quadBytes : Nat := 0x1800000
def syncAddr : Nat := 0x1200000000
def sqAddr : Nat := 0x1300000000
def partBytes : Nat := 0x380000000

/-- The place of an address (R14): a scratchpad or program store of a core the part does not have is unmapped (R15). -/
def placeOf (m : Module) (a : Nat) : Place :=
  if a < 0xE00000000 then .ddr
  else if a < 0x1000000000 then .ecc
  else if a < 0x1006000000 then .store
  else if 0x1100000000 ≤ a && a < 0x1100000000 + nCores m * 0x1000000 then
    let c := (a - 0x1100000000) / 0x1000000
    let o := (a - 0x1100000000) % 0x1000000
    if o < 0x80000 then .spad c else if 0x800000 ≤ o && o < 0x810000 then .prog c else .unmapped
  else if syncAddr ≤ a && a < syncAddr + 0x80000 then .sync
  else if sqAddr ≤ a && a < sqAddr + 0x200000 then .sq
  else if 0x10000000000 ≤ a && a < 0x20000000000 then .cold
  else .unmapped

/-- The place of a range, when its first and last byte lie in one. -/
def placeRange (m : Module) (a n : Nat) : Place :=
  let p := placeOf m a
  if n = 0 || placeOf m (a + n - 1) = p then p else .unmapped

/-- The DDR4 channel of an address (R104). -/
def ddrChannel (a : Nat) : Nat := 2 * (a / partBytes) + a % partBytes / 256 % 2

/-- The chip-store quadrant of an address (R110). -/
def quadOf (a : Nat) : Nat := (a - storeBase) / quadBytes

/-- The power domain behind a place (Table 16-1): a program store's is its core's. -/
def domainOf (m : Module) (a : Nat) : Nat :=
  match placeOf m a with
  | .ddr => if a / partBytes < 2 then 41 else 42
  | .store => 32 + quadOf a
  | .spad c => c
  | .prog c => c
  | .sq => 40
  | _ => 36

/-- Whether every domain a range lies in is on (R16). -/
def targetOn (m : Module) (a n : Nat) : Bool := domOn m (domainOf m a) && (n = 0 || domOn m (domainOf m (a + n - 1)))

/-- Whether a range lies in a domain that Hold or Sleep has switched off, so that a command that names it returns BAD_STATE (R342). -/
def asleepAt (m : Module) (a n : Nat) : Bool :=
  (m.power.state = 2 || m.power.state = 3) &&
    match placeRange m a n with
    | .store => (List.range (quadOf (a + n - 1) + 1 - quadOf a)).any (fun i => !domOn m (32 + quadOf a + i))
    | _ => !targetOn m a n

/-- Whether two ranges share a byte. -/
def overlaps (a n b k : Nat) : Bool := decide (a < b + k) && decide (b < a + n) && n != 0 && k != 0

/-- Whether the first range lies inside the second. -/
def inside (a n b k : Nat) : Bool := decide (b ≤ a) && decide (a + n ≤ b + k)

/-! ### The firewall (R370 to R372) -/

/-- An access the firewall judges. -/
inductive Access where
  | read | write | atomic
deriving DecidableEq, Repr

/-- The RIGHTS bit of an access. -/
def Access.bit : Access → Nat
  | .read => 0
  | .write => 1
  | .atomic => 2

/-- Whether a region entry allows the access: it covers the transfer wholly, and either its cloche, context and rights
match or it shares reads with the cloche (R370). -/
def regionAllows (r : Region) (cloche k : Nat) (acc : Access) (a n : Nat) : Bool :=
  r.rights != 0 && inside a n r.base (r.pages * 4096) &&
    ((r.cloche == cloche && (r.ctx == 0xFF || r.ctx == k) && r.rights.getLsbD acc.bit)
      || (acc == .read && r.share.getLsbD cloche))

/-- The KV page-list and length-table regions (R149, R371). -/
def kvTables (m : Module) : List (Nat × Nat) :=
  m.kv.pools.flatMap (fun p =>
    if p.2.live then
      [(p.2.plBase, p.2.seqSlots * p.2.maxPages * 8), (p.2.ltBase, 64 + 16 * p.2.seqSlots)]
    else [])

/-- Whether a range touches a save region, or is a write to a KV table (R259, R371). -/
def reservedRange (m : Module) (acc : Access) (a n : Nat) : Bool :=
  m.sched.ctxs.any (fun c => c.2.state != 0 && overlaps a n c.2.saveBase c.2.saveBytes)
    || (acc != .read && (kvTables m).any (fun r => overlaps a n r.1 r.2))

/-- Whether an entry of a copy of the region table allows a transfer (R370). -/
def granted (t : Tab Region) (sid : W16) (acc : Access) (a n : Nat) : Bool :=
  (List.range 1024).any (fun i => regionAllows (t.get {} i) (sidCloche sid) (sidCtx sid) acc a n)

/-- The firewall at an issuing unit for a transfer under a SID (R15, R370, R371): true allows it. Unit 0x20 is checked only against
the device map; for another both comparators, each with its own copy of the table, must allow it (R372). -/
def fwAllows (m : Module) (sid : W16) (acc : Access) (a n : Nat) : Bool :=
  match placeRange m a n with
  | .ddr | .store | .spad _ =>
    sidUnit sid == 0x20 ||
      (!reservedRange m acc a n && granted m.safety.regions sid acc a n && granted m.safety.regionsB sid acc a n)
  | _ => false

/-- Whether a context holds an access to a range: what its engines' transfers may do. -/
def ctxHolds (m : Module) (k : Nat) (acc : Access) (a n : Nat) : Bool := fwAllows m (sidOf m k 0) acc a n

/-- The ranges of sync objects a context holds (R129). -/
def syncOwned (m : Module) (k i : Nat) : Bool := (m.ctx k).ranges.any (fun r => decide (r.1 ≤ i) && decide (i < r.1 + r.2))

/-- Whether a context may read a stream-queue control block: its owner and the contexts bound as its endpoints (R188). -/
def sqReadable (m : Module) (k q : Nat) : Bool :=
  let v := m.queue q
  v.state != 0 && (v.owner == k || (v.prodKind == 0 && v.prodId == k) || (v.consKind == 0 && v.consId == k))

/-- The control blocks that a range touches. -/
def sqBlocks (a n : Nat) : List Nat :=
  (List.range ((a + n - 1 - sqAddr) / 4096 + 1 - (a - sqAddr) / 4096)).map (fun i => (a - sqAddr) / 4096 + i)

/-- Whether a transfer under a SID to a device address is permitted (R15, R112, R188, R66, R370, R371). -/
def permitted (m : Module) (sid : W16) (acc : Access) (a n : Nat) : Bool :=
  match placeRange m a n with
  | .ddr | .store | .spad _ => fwAllows m sid acc a n
  | .sync => (List.range (n / 8)).all (fun i => syncOwned m (sidCtx sid) ((a - syncAddr) / 8 + i))
  | .sq => acc == .read && (sqBlocks a n).all (fun q => sqReadable m (sidCtx sid) q)
  | _ => false

/-- A transfer that the firewall refuses is counted in FW_REFUSALS (R386, Table 18-6); where the comparators disagree the FIREWALL
cause is raised (R372, Table 18-3). -/
def countRefused (sid : W16) (acc : Access) (a n : Nat) (m : Module) : Module :=
  match placeRange m a n with
  | .ddr | .store | .spad _ =>
    if fwAllows m sid acc a n then m
    else
      let m1 := safeCount 0 m
      if granted m.safety.regions sid acc a n != granted m.safety.regionsB sid acc a n then raiseCause 7 m1 else m1
  | _ => m

/-! ### Memory: words of 8 bytes by number (address / 8) -/

/-- Memory's canonical form: strictly rising addresses, no listed zero byte (an unlisted byte reads 0,
notes/assumptions/2). -/
def Memory.wf (l : List Host.Cell) : Bool := Tab.wf (0 : Byte) l

/-- One byte of memory. -/
def memByte (m : Mem) (a : Nat) : Byte := Tab.get (0 : Byte) m.bytes a

/-- n bytes of memory. -/
def memBytes (m : Mem) (a n : Nat) : List Byte := Tab.row (0 : Byte) m.bytes a n

/-- Write bytes at rising addresses. -/
def memPut (m : Mem) (a : Nat) (bs : List Byte) : Mem := { m with bytes := Tab.putRow (0 : Byte) m.bytes a bs }

/-- Clear a range of memory, its poison and its errors. -/
def memClear (m : Mem) (a n : Nat) : Mem :=
  { m with
    bytes := m.bytes.filter (fun p => !(decide (a ≤ p.1) && decide (p.1 < a + n)))
    poison := m.poison.filter (fun p => !(decide (a ≤ 8 * p.1) && decide (8 * p.1 < a + n)))
    err := m.err.filter (fun p => !(decide (a ≤ 8 * p.1) && decide (8 * p.1 < a + n))) }

/-- The data of word w. -/
def wordData (m : Mem) (w : Nat) : W64 := BitVec.ofNat 64 (leNat (memBytes m (8 * w) 8))

/-- Whether word w lies in DDR4. -/
def isDdr (w : Nat) : Bool := decide (8 * w < 0xE00000000)

/-- The word that carries the error mark of a word: a DDR4 unit of 16 bytes has one (R105). -/
def errWord (w : Nat) : Nat := if isDdr w then w / 2 * 2 else w

/-- The error present where word w lies: 0 none, 1 correctable, 2 uncorrectable. -/
def errOf (m : Mem) (w : Nat) : Nat := m.err.get 0 (errWord w)

/-- The stored poison copies of word w. -/
def copiesOf (m : Mem) (w : Nat) : BitVec 3 := m.poison.get 0 w

/-- The majority of three copies (R106). -/
def majority (v : BitVec 3) : Bool :=
  (v.getLsbD 0 && v.getLsbD 1) || (v.getLsbD 0 && v.getLsbD 2) || (v.getLsbD 1 && v.getLsbD 2)

/-- Whether a read delivers word w as poisoned (R59, R106, R110). -/
def wordPoison (m : Mem) (w : Nat) : Bool := errOf m w = 2 || majority (copiesOf m w)

/-- Set or clear the poison of word w (R107). -/
def setPoison (m : Mem) (w : Nat) (p : Bool) : Mem := { m with poison := m.poison.put 0 w (if p then 7 else 0) }

/-- Count the error that a read of word w meets (R59, R106, R110): a corrected error, or an uncorrectable one with its
health event (R364). `unit` is false where the unit's error was counted with its other word. -/
def countErr (unit : Bool) (w : Nat) (m : Module) : Module :=
  let e := if unit then errOf m.mem w else 0
  let a := 8 * w
  match placeOf m a with
  | .ddr =>
    let split := copiesOf m.mem w != 0 && copiesOf m.mem w != 7
    let m1 := { m with mem := { m.mem with
      ddrCorr := bumpBy m.mem.ddrCorr (ddrChannel a) ((if e = 1 then 1 else 0) + (if split then 1 else 0)) } }
    if e = 2 then
      healthEvent 0x2B 4 (ddrChannel a) 0xFF
        { m1 with mem := { m1.mem with ddrUncorr := bump m1.mem.ddrUncorr (ddrChannel a) } }
    else m1
  | .store =>
    if e = 1 then { m with mem := { m.mem with storeCorr := bump m.mem.storeCorr (quadOf a) } }
    else if e = 2 then
      healthEvent 0x2A 7 (quadOf a) 0xFF { m with mem := { m.mem with storeUncorr := bump m.mem.storeUncorr (quadOf a) } }
    else m
  | .spad c =>
    if e = 1 then m.updCore c (fun v => { v with corrected := sat32 (v.corrected + 1) })
    else if e = 2 then healthEvent c 2 c 0xFF m
    else m
  | _ => m

/-- Count the errors of a read of n words from word w; a DDR4 unit is counted once (R106). `cont` says that the word
before was read with it. -/
def countReads : Nat → Nat → Bool → Module → Module
  | 0, _, _, m => m
  | n + 1, w, cont, m =>
    if errOf m.mem w = 0 && (copiesOf m.mem w = 0 || copiesOf m.mem w = 7) then countReads n (w + 1) true m
    else countReads n (w + 1) true (countErr (!(cont && isDdr w && w % 2 = 1)) w m)

/-- The n words from word w as a read delivers them: data and poison. -/
def readWords (m : Mem) (w n : Nat) : List (W64 × Bool) :=
  (List.range n).map (fun i => (wordData m (w + i), wordPoison m (w + i)))

/-- Write one word with its poison; its own error goes with it. -/
def putWord (m : Mem) (w : Nat) (d : W64) (p : Bool) : Mem :=
  let m := setPoison (memPut m (8 * w) (leBytes 8 d.toNat)) w p
  if isDdr w then m else { m with err := m.err.put 0 w 0 }

/-- The read and merge of a 16-byte DDR4 unit of which only the other word is written (R107): its error is met, and an
uncorrectable unit leaves that other word poisoned. -/
def mergeUnit (other : Nat) (m : Module) : Module :=
  let bad := errOf m.mem other = 2
  let m := countErr true other m
  let mem := if bad then setPoison m.mem other true else m.mem
  { m with mem := { mem with err := mem.err.put 0 (errWord other) 0 } }

/-- Put words at rising numbers. -/
def putWords : Mem → Nat → List (W64 × Bool) → Mem
  | m, _, [] => m
  | m, w, (d, p) :: ds => putWords (putWord m w d p) (w + 1) ds

/-- The DDR4 units written whole have fresh check fields (R107). -/
def clearErrs : Mem → Nat → Nat → Mem
  | m, _, 0 => m
  | m, w, n + 1 => clearErrs { m with err := m.err.put 0 (errWord w) 0 } (w + 1) n

/-- Write words with their poison (R59, R107, R110). -/
def writeWords (w : Nat) (ds : List (W64 × Bool)) (m : Module) : Module :=
  if ds.isEmpty then m
  else
    let e := w + ds.length
    let m := if isDdr w && w % 2 = 1 then mergeUnit (w - 1) m else m
    let m := if isDdr w && e % 2 = 1 then mergeUnit e m else m
    { m with mem := putWords (clearErrs m.mem w ds.length) w ds }

/-- Read bytes of memory as Gragor does, and write them: no firewall (R371). -/
def gragorWrite (a : Nat) (bs : List Byte) (m : Module) : Module := { m with mem := memPut m.mem a bs }

/-- Host memory through a grant: a bus address' byte (an unwritten byte reads 0, notes/assumptions/17). -/
def hostByte (m : Module) (a : Nat) : Byte := Tab.get (0 : Byte) m.hostMem a

/-- The grant that covers a cold-frame range (R319): its bus address. -/
def grantBus (m : Module) (a n : Nat) : Option Nat :=
  ((List.range 64).filterMap (fun i => m.links.grants.get none i)).findSome? (fun g =>
    if inside a n g.coldBase (2 ^ g.log2) && !g.closing then some (g.hostAddr + (a - g.coldBase)) else none)

/-! ### Watchdogs (R373, R374) -/

/-- Trip watchdog k: kind 1 EARLY, 2 LATE, 3 ARMED timeout. A hang of its context is reported by `hang` below. -/
def wdogMark (k kind : Nat) (m : Module) : Module :=
  let w := m.safety.wdogs.get {} k
  let us := sat32 ((m.time.elapsed - w.since) / usUnit)
  let m := { m with safety := { m.safety with wdogs := m.safety.wdogs.put {} k { w with state := 3 } } }
  let m := event 0x0B10 0 [(0, 1, k), (1, 1, kind), (4, 4, us)] (safeCount 1 m)
  let m := if w.action.getLsbD 0 then raiseCause 0 m else m
  if w.action.getLsbD 1 then askHold 2 m else m

/-! ### Hangs (R387, R389) -/

/-- Whether a recovery of the object runs or is due (R389): of a context, also as a part of a partition reset (R393 step 6). -/
def recovering (m : Module) (part : Bool) (obj : Nat) : Bool :=
  m.rcv.queue.any (fun r => r.part == part && r.obj == obj)
    || (part && (m.rcv.partRst.map (·.part)) == some obj) || (!part && (m.rcv.ctxRst.map (·.ctx)) == some obj)
    || (!part && m.rcv.partRst.any (fun p => p.left.getLsbD obj))

/-- The STATE and WAIT_ID, WAIT_VALUE of an engine entry (Table 19-3). -/
def engCapState (e : Engine) : Nat × Nat × Nat :=
  match e.run, e.hold with
  | .faulted, _ => (7, 0xFFFF, 0)
  | .parked, _ => (6, 0xFFFF, 0)
  | .halted, _ => (5, 0xFFFF, 0)
  | .halting, _ => (5, 0xFFFF, 0)
  | .off, _ => (5, 0xFFFF, 0)
  | _, .sync o t _ _ => (1, o, t)
  | _, .pop q => (2, q, 0)
  | _, .push q => (3, q, 0)
  | _, .reduction => (4, 0xFFFF, 0)
  | _, .fence => (8, 0xFFFF, 0)
  | _, .slots => (8, 0xFFFF, 0)
  | _, .queue _ => (0, 0xFFFF, 0)
  | _, .free => (0, 0xFFFF, 0)

/-- The PC of the next bundle: the open one where it has not issued. -/
def nextPc (e : Engine) : Nat :=
  match e.hold with
  | .pop _ | .push _ | .slots | .queue _ => e.bpc.toNat
  | _ => e.pc.toNat

/-- An engine entry of a capture (Table 19-3). -/
def engCap (m : Module) (c e : Nat) : List Byte :=
  let v := m.eng c e
  let s := engCapState v
  fields 16 [(0, 1, c), (1, 1, e), (2, 1, s.1), (3, 1, v.inflight), (4, 2, nextPc v), (6, 2, s.2.1), (8, 8, s.2.2)]

/-- The four positions as bytes. -/
def posBytes (p : Positions) : List Byte := leBytes 8 p.wp ++ leBytes 8 p.rp ++ leBytes 8 p.mp ++ leBytes 8 p.lp

/-- A queue entry of a capture (Table 19-3). -/
def queueCap (m : Module) (q : Nat) : List Byte :=
  let v := m.queue q
  fields 8 [(0, 2, q), (2, 1, v.state), (3, 1, (if v.mismatch then 1 else 0) + (if v.paritySeen then 2 else 0))]
    ++ posBytes v.main ++ posBytes v.shadow

/-- SYNCWAITs held on an object. -/
def waitersOn (m : Module) (i : Nat) : Nat :=
  (m.engines.filter (fun p => match p.2.hold with | .sync o _ _ r => o == i && !r | _ => false)).length

/-- A sync entry of a capture (Table 19-3). -/
def syncCap (m : Module) (i : Nat) : List Byte :=
  fields 16 [(0, 4, i), (4, 4, waitersOn m i), (8, 8, (m.fab.sync.get 0 i).toNat)]

/-- Whether a queue is bound to a context as an endpoint. -/
def boundTo (v : Queue) (k : Nat) : Bool :=
  v.state != 0 && ((v.prodKind == 0 && v.prodId == k) || (v.consKind == 0 && v.consId == k))

/-- Whether a range lies in partition n's DDR4 or quadrant. -/
def touchesPart (n a len : Nat) : Bool :=
  overlaps a len (n * partBytes) partBytes || overlaps a len (storeBase + n * quadBytes) quadBytes

/-- The regions of a queue. -/
def queueRegions (v : Queue) : List (Nat × Nat) := [(v.spillBase, 2 ^ v.log2), (v.tagBase, 2 ^ (v.log2 - 3))]

/-- Whether a queue has a region in partition n. -/
def queueInPart (v : Queue) (n : Nat) : Bool := v.state != 0 && (queueRegions v).any (fun r => touchesPart n r.1 r.2)

/-- The cores a context occupies: those its job runs on, and those that hold its parked state in place. -/
def coresOf (m : Module) (k : Nat) : List Nat :=
  (List.range 32).filter (fun c => (m.core c).ctx == some k || m.sched.jobs.any (fun j => j.ctx == k && j.inPlace.contains c))

/-- A capture record (R392, Tables 19-2 and 19-3): kind, cause, the hung object, the captured contexts, FLAGS bits 1
and 2, packets held. -/
def captureBytes (m : Module) (id kind cause : Nat) (part : Bool) (obj : Nat) (ks : List Nat) (held : Nat) (undrained : Bool) :
    List Byte :=
  let engs := (ks.flatMap (coresOf m)).flatMap (fun c => (bitsOf (m.core c).mask).map (fun e => engCap m c e))
  let qs := ((List.range 512).filter (fun q =>
    if part then queueInPart (m.queue q) obj else ks.any (fun k => boundTo (m.queue q) k))).map (queueCap m)
  let idx := (List.range 65536).filter (fun i => ks.any (fun k => (m.ctx k).ranges.any (fun r =>
    decide (r.1 ≤ i) && decide (i < r.1 + r.2))))
  let syncs := (idx.take 4096).map (syncCap m)
  let job := if part then 0 else ((admittedOf m obj).map (·.id)).getD 0
  let total := 64 + 16 * engs.length + 72 * qs.length + 16 * syncs.length
  let flags := (if idx.length > 4096 then 1 else 0) + (if undrained then 2 else 0) + (if held > 0 then 4 else 0)
  fields 64 [(0, 4, id), (4, 1, kind), (5, 1, cause), (6, 1, if part then 0xFF else obj), (7, 1, if part then obj else 0xFF),
      (8, 8, secOf m.time.now), (16, 4, nsOf m.time.now), (20, 4, job), (24, 8, (maskOf 64 ks).toNat),
      (32, 2, engs.length), (34, 2, qs.length), (36, 2, syncs.length), (38, 2, flags), (40, 4, held), (44, 4, total)]
    ++ engs.flatten ++ qs.flatten ++ syncs.flatten

/-- Keep a capture: the four most recent (R392). -/
def keepCapture (id : Nat) (bs : List Byte) (m : Module) : Module :=
  { m with rcv := { m.rcv with captures := (⟨id, bs⟩ :: m.rcv.captures.filter (fun c => c.id != id)).take 4 } }

/-- The contexts that have a core in partition n. -/
def ctxsInPart (m : Module) (n : Nat) : List Nat :=
  (List.range 64).filter (fun k => (coresOf m k).any (fun c => partOfCore m c == n))

/-- A hang of a context (part false) or a partition is detected (R387, R389): counted; nothing further when a reset of
the object runs, is due or is awaited; else event 0x0C10 with a capture ID, and the reset becomes due at once under an
AUTO policy or a command, or the capture is taken now and the reset awaited. A FREE context is no context (R257), and nothing of
it hangs (notes/assumptions/100). -/
def hang (part : Bool) (obj cause held : Nat) (by_ : Option (Nat × Nat)) (m : Module) : Module :=
  if !part && (m.ctx obj).state = 0 then m else
  let m := { m with rcv := { m.rcv with ctr := bump m.rcv.ctr 0 } }
  let waiting := if part then m.rcv.partWaiting.getLsbD obj else m.rcv.ctxWaiting.getLsbD obj
  if recovering m part obj || waiting then m
  else
    let id := m.rcv.nextCapture
    let job := if part then 0 else ((admittedOf m obj).map (·.id)).getD 0
    let m := { m with rcv := { m.rcv with nextCapture := id + 1 } }
    let m := event 0x0C10 0 [(0, 1, if part then 1 else 0), (1, 1, cause), (2, 1, if part then 0xFF else obj),
      (3, 1, if part then obj else 0xFF), (4, 4, id), (8, 4, job)] m
    if by_.isSome || (if part then m.rcv.partAction else m.rcv.ctxAction) = 1 then
      { m with rcv := { m.rcv with queue := m.rcv.queue ++ [⟨part, obj, id, cause, by_⟩] } }
    else
      let m := keepCapture id (captureBytes m id 2 cause part obj (if part then ctxsInPart m obj else [obj]) held (cause = 2)) m
      if part then
        { m with rcv := { m.rcv with partWaiting := setBit m.rcv.partWaiting obj true, partCause := m.rcv.partCause.put 0 obj cause } }
      else
        { m with rcv := { m.rcv with ctxWaiting := setBit m.rcv.ctxWaiting obj true, ctxCause := m.rcv.ctxCause.put 0 obj cause } }

/-- Trip watchdog k and report the hang its ACTION asks for (R374). -/
def wdogTrip (k kind : Nat) (m : Module) : Module :=
  let w := m.safety.wdogs.get {} k
  let m := wdogMark k kind m
  if w.action.getLsbD 2 && w.ctx < 64 then hang false w.ctx 1 0 none m else m

/-- A kick of watchdog k (R374): it starts an ARMED one, and one that comes too early or too late trips it. -/
def wdogKick (k : Nat) (m : Module) : Module :=
  let w := m.safety.wdogs.get {} k
  let dt := m.time.elapsed - w.since
  let run := { m with safety := { m.safety with wdogs := m.safety.wdogs.put {} k { w with state := 2, since := m.time.elapsed } } }
  if w.state = 1 then (if dt ≤ w.firstUs * usUnit then run else wdogTrip k 3 m)
  else if w.state = 2 then
    (if dt < w.minUs * usUnit then wdogTrip k 1 m else if dt ≤ w.maxUs * usUnit then run else wdogTrip k 2 m)
  else m

/-- A source's progress kicks every watchdog bound to it (R373). -/
def kickSource (src id : Nat) (m : Module) : Module :=
  ((List.range 64).filter (fun k =>
    let w := m.safety.wdogs.get {} k
    w.state != 0 && w.source == src && w.srcId == id)).foldl (fun m k => wdogKick k m) m

/-! ### Sync objects (R112, R113) -/

/-- The SYNCWAIT of an engine is released once its object reaches its threshold (R113). -/
def releaseWait (obj : Nat) (v : W64) (e : Engine) : Engine :=
  match e.hold with
  | .sync o t s r => if o = obj && t ≤ v.toNat then { e with hold := .sync o t s true } else { e with hold := .sync o t s r }
  | _ => e

/-- The reserved slice that serves a wait on an object whose threshold is now met ends (R273). -/
def releaseSlice (obj : Nat) (v : W64) (j : Job) : Job :=
  match j.sliceFor with
  | some (_, o, t) => if o = obj && t ≤ v.toNat then { j with waitDone := true } else j
  | none => j

/-- Set an object; every waiter whose threshold is met is released, and an increase is a watchdog's kick (R112, R113,
R373). An engine that is to park holds no wait any more: it is at a yield point and issues nothing (R99). -/
def syncSet (obj : Nat) (v : W64) (m : Module) : Module :=
  let old := m.fab.sync.get 0 obj
  let m := { m with
    fab := { m.fab with sync := m.fab.sync.put 0 obj v }
    sched := { m.sched with jobs := m.sched.jobs.map (releaseSlice obj v) }
    engines := m.engines.map (fun p => (p.1, if (m.core (p.1 / 64)).stopping then p.2 else releaseWait obj v p.2)) }
  if old.toNat < v.toNat then kickSource 0 obj m else m

/-- Add to an object, modulo 2^64 (Table 5-3). -/
def syncAdd (obj : Nat) (d : W64) (m : Module) : Module := syncSet obj (m.fab.sync.get 0 obj + d) m

/-! ### Engine faults (R101, R122) -/

/-- The engine faults: it issues nothing further; its first fault is kept (R101). -/
def faultWith (f : EFault) (e : Engine) : Engine :=
  { e with run := .faulted, fault := some (e.fault.getD f) }

/-- An engine fault at the bundle that presents (R101, Table 4-5). -/
def engFault (c e kind : Nat) (m : Module) : Module :=
  m.updEng c e (fun v => faultWith { kind := kind, pc := v.bpc.toNat } v)

/-- The engine fault kind of a remote-operation status (Table 5-7). -/
def statusKind (st : Nat) : Nat :=
  if st = 2 || st = 7 || st = 8 || st = 10 then 6 else if st = 9 || st = 12 then 5 else 4

/-- Some slots of the open bundle have not issued. -/
def anyLeft (e : Engine) : Bool := e.mvLeft || e.mcLeft || e.vcLeft

/-- Whether the slots of the open bundle may issue: HALT and running off the end wait for them. -/
def slotRun (v : Engine) : Bool := v.run = .issuing || v.run = .halting

/-- A remote operation or mover descriptor of an engine fails (R122): it stops before its next bundle. The slots of a bundle
that is issuing still issue; a bundle that is held has not issued, so it is the next one. -/
def opFault (c e desc st : Nat) (m : Module) : Module :=
  m.updEng c e (fun v =>
    let f : EFault := { kind := statusKind st, pc := nextPc v, desc := desc, status := st }
    if slotRun v && anyLeft v && v.hold = .free then { v with fault := some (v.fault.getD f) } else faultWith f v)

/-- One in-flight slot of an engine frees (R117); a FENCE or a full-slot hold presents again. -/
def freeSlot (e : Engine) : Engine := { e with inflight := e.inflight - 1 }

/-! ### Mailbox commands (R242 to R247) -/

/-- The request bytes of mailbox n from an offset. -/
def reqBytes (m : Module) (n off len : Nat) : List Byte := Tab.row (0 : Byte) (m.mbx n).req off len
/-- A field of the request header (Table 11-3). -/
def reqField (m : Module) (n off len : Nat) : Nat := leNat (reqBytes m n off len)
def reqCode (m : Module) (n : Nat) : Nat := reqField m n 0 2
def reqLen (m : Module) (n : Nat) : Nat := reqField m n 2 2
def reqTag (m : Module) (n : Nat) : Nat := reqField m n 4 2
/-- The parameters: LENGTH bytes from offset 8. -/
def params (m : Module) (n : Nat) : List Byte := reqBytes m n 8 (reqLen m n)

/-- Write the response and give the mailbox back (R243): OWNER falls, STATE becomes DONE, source n is signalled. -/
def respond (n rc : Nat) (data : List Byte) (m : Module) : Module :=
  let b := m.mbx n
  let r := leBytes 2 (reqCode m n) ++ leBytes 2 rc ++ leBytes 2 data.length ++ leBytes 1 b.seq ++ leBytes 1 0 ++ data
  signalSource n (m.setMbx n { b with
    resp := r ++ b.resp.drop r.length
    owner := false, state := 3, held := true
    ctr := if rc = 0x10 then bump b.ctr 4 else b.ctr })

/-- The first condition that holds gives its result code. -/
def firstFail : List (Bool × Nat) → Option Nat
  | [] => none
  | (b, rc) :: t => if b then some rc else firstFail t

/-- Whether Gragor, or the boot ROM before it, is executing this command for mailbox n: while Gragor starts or restarts nothing
executes (R252), and nothing after a thermal trip (R363). -/
def running (m : Module) (n code : Nat) : Bool :=
  (m.mbx n).state = 2 && reqCode m n = code && decide (n < 15) && m.host.gState != 2 && m.host.gState != 4 && !m.power.tripped

/-- The domains a command needs (R342): those of the unit it acts on (Table 1-7), and DDR4's where captures (R392) or staging
(R415) lie in it. Gragor's own and PD_LS, which are on wherever a mailbox is served, are left out. -/
def needs (code : Nat) : List Nat :=
  if code / 256 = 0x03 then [36]
  else if code = 0x0C03 then [36]
  else if code = 0x0C04 then [36, 41, 42]
  else if code = 0x0402 then [36, 41, 42]
  else if code = 0x0500 || code = 0x0503 then [36, 41, 42]
  else if code / 256 = 0x06 then [40]
  else if code / 256 = 0x07 then [39, 46]
  else if code / 256 = 0x08 then [38]
  else if 0x0907 ≤ code && code ≤ 0x090A then [45]
  else if code / 256 = 0x0B then [48]
  else if code = 0x0E01 || code = 0x0E02 then [43]
  else if code = 0x0E03 || code = 0x0E04 then [46]
  else if 0x0E05 ≤ code && code ≤ 0x0E07 then [44]
  else []

/-- Whether every domain a command needs is on. The boot ROM stages an image in its own SRAM and Gragor in DDR4 (R415);
PART_RESET needs cores and a quadrant, which Hold and Sleep switch off. -/
def powered (m : Module) (code : Nat) : Bool :=
  (needs code).all (domOn m)
    && !(m.host.gState = 3 && (code = 0x0D01 || code = 0x0D02 || code = 0x0D04) && !(domOn m 36 && domOn m 41 && domOn m 42))
    && !(code = 0x0C03 && (m.power.state = 2 || m.power.state = 3))

/-- NOT_PERMITTED from a region, containment, grant or firewall test, which R244 puts after every BAD_STATE: marked above the
response's 16 bits, which are 0x24. -/
def notHeld : Nat := 0x10024

/-- The result of a command's checks (R244, R342): the first that fails; a domain that is off is BAD_STATE, after the
length, the parameters and the client, and before every other result. -/
def checked (code : Nat) (l : List (Bool × Nat)) (m : Module) : Option Nat :=
  match firstFail l with
  | some rc => some (if powered m code || rc = 0x21 || rc = 0x22 || rc = 0x24 then rc % 0x10000 else 0x23)
  | none => if powered m code then none else some 0x23

/-- The checks of a command, then its effect: nothing happens unless the command is in execution (notes/assumptions/7);
the first check that fails is the response, with LENGTH 0 (R244). -/
def command (code n : Nat) (checks : List Byte → Module → List (Bool × Nat)) (body : List Byte → Module → Module)
    (m : Module) : Module :=
  if running m n code then
    match checked code (checks (params m n) m) m with
    | some rc => respond n rc [] m
    | none => body (params m n) m
  else m

/-- A wake source fires (R343, R341): in Hold or Sleep a wake towards a state begins, for a cause unit; while an entry to Hold or
Sleep runs, which would honour it, an abort is due. -/
def wakeTowards (cause target : Nat) (m : Module) : Module :=
  if m.power.entry = some 2 || m.power.entry = some 3 then
    { m with power := { m.power with abortDue := some (m.power.abortDue.getD cause) } }
  else if m.power.waking.isNone && m.power.entry.isNone
      && (m.power.state = 2 || m.power.state = 3) && (target = 0 || target = 2) then
    { m with power := { m.power with waking := some target, wakeCause := cause } }
  else m

/-- A deferred command passes its checks (R246, R247): ACCEPTED, unless the client has 256 outstanding. -/
def accept (n key : Nat) (body : Module → Module) (m : Module) : Module :=
  if (m.host.deferred.filter (fun d => d.client == n)).length ≥ 256 then respond n 0x10 [] m
  else
    body (respond n 1 [] { m with host := { m.host with
      deferred := m.host.deferred ++ [⟨n, reqTag m n, reqCode m n, key⟩] } })

/-- The oldest deferred command of a code that names an object. -/
def findDeferred (m : Module) (code key : Nat) : Option Deferred :=
  m.host.deferred.find? (fun d => d.code == code && d.key == key)

/-- A deferred command completes: its record is posted (R246). -/
def finish (code key rc : Nat) (payload : List Byte) (m : Module) : Module :=
  match findDeferred m code key with
  | none => m
  | some d => completion d.client d.tag code rc payload
      { m with host := { m.host with deferred := m.host.deferred.erase d } }

/-- The client rule of most chapters: a context that exists and another client created (R257). -/
def foreign (m : Module) (n k : Nat) : Bool := (m.ctx k).state != 0 && (m.ctx k).client != n

/-- Whether a client is neither mailbox 0 nor 14. -/
def notHostSafety (n : Nat) : Bool := n != 0 && n != 14

/-- A PWR entry is running, so what would start work returns BUSY (R340). -/
def entering (m : Module) : Bool := m.power.entry.isSome

/-- The parameters have another length than the table gives (R244 step 4). -/
def badLen (ps : List Byte) (n : Nat) : Bool × Nat := (ps.length != n, 0x21)

/-- A reserved range of the parameters is not zero (R6). -/
def resv (ps : List Byte) (off len : Nat) : Bool × Nat := (!zeros ((ps.drop off).take len), 0x22)

end Sys2Proof.Machine
end

