-- ==== Sys2Proof/Machine/Jobs.lean ====
section
/-!
DEFINITION. What several chapters do to a job and a context: stopping engines (R270 steps 1 and 2), a job's outcome with
its record, counters and completion (R275, R145, R281), abort (R276), teardown (R279), fabric abort (R395), and a fault
brought on a context by a unit that is no engine (R15, R185).
-/

namespace Sys2Proof.Machine

/-- Powered time in all (Table 17-2 TIME). -/
def poweredTime (m : Module) : Nat := m.health.poweredBefore + m.time.elapsed

/-- The copy of a region in force (R354): the one with the higher sequence number among those whose CRC matches. -/
def inForce (r : LogRegion) : LogCopy :=
  if r.a.crcOk && (!r.b.crcOk || decide (r.b.seq ≤ r.a.seq)) then r.a else if r.b.crcOk then r.b else {}

/-- The records of a region as Gragor reads them. -/
def LogRegion.recs (r : LogRegion) : List LogRec := (inForce r).recs

/-- Write a region (R354): the copy that is not in force takes the new records, under the next sequence number. -/
def writeRegion (now : Nat) (rs : List LogRec) (r : LogRegion) : LogRegion :=
  let c : LogCopy := { seq := (inForce r).seq + 1, recs := rs }
  if r.a.crcOk && (!r.b.crcOk || decide (r.b.seq ≤ r.a.seq)) then { r with b := c, at_ := some now }
  else { r with a := c, at_ := some now }

/-- Power is lost (R354): the copy whose write is under way no longer matches its CRC, and the previous one is in force. -/
def cutWrite (now : Nat) (r : LogRegion) : LogRegion :=
  match r.at_ with
  | some t =>
    if t + Config.logWriteTime ≤ now then r
    else if r.b.seq ≤ r.a.seq then { r with a := { r.a with crcOk := false } }
    else { r with b := { r.b with crcOk := false } }
  | none => r

/-- Append a record to the ageing log (R354): types 1, 3 and 4 to the fixed region, the others to the ring. -/
def logPut (type unit : Nat) (data : List Byte) (m : Module) : Module :=
  let h := m.health
  let first := h.logFirst.getD (poweredTime m)
  let r : LogRec := ⟨type, unit, h.logSeq, (poweredTime m - first) / (1000000000 * nsUnit), setBytes (List.replicate 16 0) 0 data⟩
  let h := { h with logSeq := h.logSeq + 1, logFirst := some first }
  let ring := (h.logRing.recs ++ [r]).drop (h.logRing.recs.length + 1 - 65536)
  { m with health :=
    if type = 1 || type = 3 || type = 4 then { h with logFixed := writeRegion m.time.elapsed (h.logFixed.recs ++ [r]) h.logFixed }
    else { h with logRing := writeRegion m.time.elapsed ring h.logRing } }

/-- A physical engine of a core is found failed (R54, R55): it is listed, logged and told once. -/
def engineFails (c kind : Nat) (m : Module) (p : Nat) : Module :=
  if p < 68 && !(m.core c).failed.contains p then
    let m := m.updCore c (fun v => { v with failed := v.failed ++ [p] })
    healthEvent c 6 c p (logPut 3 c (leBytes 1 p ++ leBytes 1 kind) m)
  else m

/-- A core with more than four failed engines is withdrawn (R56). -/
def withdrawBad (c : Nat) (m : Module) : Module :=
  if (m.core c).failed.length > 4 && !(m.core c).withdrawn then
    healthEvent c 1 c 0xFF (m.updCore c (fun v => { v with withdrawn := true }))
  else m

/-- Whether every engine of a core has an in-flight count of zero, and its mover holds no descriptor (R274). -/
def coreDrained (m : Module) (c : Nat) : Bool :=
  (m.core c).mover.isEmpty && (List.range 64).all (fun e => (m.eng c e).inflight = 0)

/-- DISPATCHED time of a job so far (R277). -/
def dispatchedTime (m : Module) (j : Job) : Nat :=
  j.dispatched + (if j.state = .dispatched then m.time.elapsed - j.dispatchedAt else 0)

/-- The engines of a job: (core, engine) of every engine in the ENGINE_MASK of every core of its mask that carries it. -/
def jobEngines (m : Module) (j : Job) : List (Nat × Nat) :=
  (bitsOf j.mask).flatMap (fun c =>
    if (m.core c).job = some j.id then (bitsOf (m.core c).mask).map (fun e => (c, e)) else [])

/-- An engine stops before its next bundle and nothing of it is kept (R270 steps 1 and 2, R276): operations it has in
flight complete later and free its slots. -/
def stopEngine (e : Engine) : Engine :=
  { e with run := .off, hold := .free, mvLeft := false, mcLeft := false, vcLeft := false, redOut := false, fault := none }

/-- The pushes of a core's engines that wait are withdrawn: one that is not accepted has no effect (R176). -/
def dropPushes (c : Nat) (m : Module) : Module :=
  { m with queues := m.queues.map (fun p => (p.1, { p.2 with
    waiting := p.2.waiting.filter (fun w => match w.who with | .engine d _ => d != c | _ => true) })) }

/-- A core's domain is off (R337): its scratchpad, program store and engine state are lost. -/
def coreOff (c : Nat) (m : Module) : Module :=
  let m := { m with
    power := { m.power with on := setBit m.power.on c false }
    mem := memClear (memClear m.mem (spadBase c) 0x80000) (progBase c) 0x10000 }
  let m := (List.range 64).foldl (fun m e => m.setEng c e {}) m
  m.updCore c (fun v => { v with mover := [], red := [], fired := [], grids := [], bundles := 0, mask := 0, parkReq := false, stopReq := false, tested := false })

/-- A core held out of service is switched off once it carries no job (R360 step 2, R362). -/
def heldOff (m : Module) (c : Nat) : Module :=
  let v := m.core c
  if (v.marginHeld || v.thermalHeld) && domOn m c && v.job.isNone then coreOff c m else m

/-- Stop every engine of a core and free it. -/
def freeCore (c : Nat) (m : Module) : Module :=
  let m := dropPushes c m
  let m := (List.range 64).foldl (fun m e => m.updEng c e stopEngine) m
  heldOff (m.updCore c (fun v => { v with job := none, ctx := none, parkReq := false, stopReq := false, red := [], fired := [], mask := 0, bundles := 0 })) c

/-- Free every core that carries a job. -/
def freeCores (id : Nat) (m : Module) : Module :=
  ((List.range 32).filter (fun c => (m.core c).job == some id)).foldl (fun m c => freeCore c m) m

/-- The engines a job has, running, parked in place on its cores, or saved: for its sticky conversion bits (R91). -/
def jobStates (m : Module) (j : Job) : List Engine :=
  (jobEngines m j).map (fun p => m.eng p.1 p.2)
    ++ j.inPlace.flatMap (fun c => (bitsOf (m.core c).mask).map (fun e => m.eng c e))
    ++ j.saves.flatMap (fun s => s.engines.map Prod.snd)

/-- CONV of the completion (Table 12-5). -/
def convBits (m : Module) (j : Job) : Nat :=
  (if (jobStates m j).any (·.convPoison) then 1 else 0) + (if (jobStates m j).any (·.convOvf) then 2 else 0)

/-- The CRC of an image slot. -/
def imageOf (m : Module) (k slot : Nat) : Option Image := (m.ctx k).images.get none slot

/-- CRC-32C over the CRC fields of the job's images in ascending core order (Table 6-2). -/
def imageCrc (m : Module) (j : Job) : W32 :=
  crc32c ((bitsOf j.mask).flatMap (fun c => leBytes 4 (((imageOf m j.ctx (j.slots.getD c 0)).map (·.crc.toNat)).getD 0)))

/-- FAB cycles, at the PLL over 8, in a number of TSC cycles, at the PLL over 22 (Table 16-7). -/
def fabCycles (n : Nat) : Nat := n * 11 / 4

/-- The job record of an outcome (Table 6-2). DESIGN CHOICE (notes/assumptions/90): a job that ends QUEUED was never dispatched; its
record has 0 for MODE, STEP, SEED and RUN_FAB, none of which it had taken, and the CORE_MASK it was submitted with. -/
def recordOf (m : Module) (j : Job) (outcome : Nat) : JobRecord :=
  { jobId := j.id, tag := j.tag, ctx := j.ctx, outcome := outcome, mode := j.mode, step := j.step, seed := j.seed
    imageCrc := imageCrc m j, coreMask := j.mask, args := j.args, preemptions := j.preemptions, retries := j.retries
    runFab := if j.firstDispatch.isSome then fabCycles (m.time.cycles - j.cycleAt) else 0 }

/-- The completion payload of a job (Table 12-5). -/
def jobPayload (m : Module) (j : Job) (f : CtxFault) : List Byte :=
  fields 24 [(0, 4, j.id), (4, 1, j.ctx), (5, 1, convBits m j), (6, 2, min j.preemptions 0xFFFF), (8, 8, j.step.toNat),
    (16, 1, f.core), (17, 1, f.eng), (18, 1, f.kind), (19, 1, f.status), (20, 2, f.pc)]

/-- Number of the client counter an outcome counts in (Table 12-7): 2 COMPLETED, 3 ABORTED, 5 FAULTED, 6 TORN_DOWN. -/
def outcomeCtr (outcome : Nat) : Nat := if outcome < 2 then 2 + outcome else 3 + outcome

/-- The DISPATCHED time of a job that its client's share period has not counted yet (R268): from its dispatch, or the
period's start if that is later. -/
def periodTime (m : Module) (j : Job) : Nat :=
  if j.state = .dispatched then m.time.elapsed - max j.dispatchedAt m.sched.periodStart else 0

/-- A share period begins (R268, R285), at a boundary or, shortened, at a step: nothing has been used of it, and a decision
is due (R267). -/
def startSharePeriod (short : Bool) (m : Module) : Module :=
  let len := 100 * msUnit
  let past := m.time.now % len
  { m with sched := { m.sched with
    period := m.time.now / len, periodStart := if short then m.time.elapsed else m.time.elapsed - past
    periodLen := if short then len - past else len, due := true
    clients := (List.range 15).foldl (fun t c => t.upd {} c (fun v => { v with used := 0 })) m.sched.clients } }

/-- The DISPATCHED time of a job that its client's counters have not counted yet (R281). -/
def countTime (m : Module) (j : Job) : Nat :=
  if j.state = .dispatched then m.time.elapsed - max j.dispatchedAt (m.client j.client).clearedAt else 0

/-- The client's counters at an outcome (R281): the outcome, TIMEOUTS, the wait and the DISPATCHED time. -/
def countOutcome (m : Module) (j : Job) (outcome rc : Nat) (c : Client) : Client :=
  let run := dispatchedTime m j
  let wait := (m.time.elapsed - j.acceptedAt - run) / usUnit
  let t := bump c.ctr (outcomeCtr outcome)
  let t := if rc = 0x31 then bump t 4 else t
  let t := t.put 0 10 (max (t.get 0 10) (sat32 wait))
  let t := t.put 0 11 (min (t.get 0 11 + wait) (2 ^ 64 - 1))
  let t := t.put 0 12 (min (t.get 0 12 + countTime m j) ((2 ^ 64 - 1) * usUnit))
  { c with ctr := t, used := c.used + periodTime m j }

/-- A job reaches its outcome (R275): its cores are freed, the record is kept (the last 16), the counters change, the
completion is posted; a completed job in mode 0 advances the step counter (R143), here, also where its record has to wait in the
backlog (notes/assumptions/66); a scheduling decision is due. -/
def jobOutcome (j : Job) (outcome rc : Nat) (f : CtxFault) (m : Module) : Module :=
  let rec_ := recordOf m j outcome
  let pay := jobPayload m j f
  let m := m.setClient j.client (countOutcome m j outcome rc (m.client j.client))
  let m := freeCores j.id m
  let m := m.updCtx j.ctx (fun k => { k with
    records := (rec_ :: k.records).take 16
    step := if outcome = 0 && j.mode = 0 then k.step + 1 else k.step })
  let m := { m with sched := { m.sched with jobs := m.sched.jobs.filter (fun i => i.id != j.id), due := true } }
  finish 0x0404 j.id rc pay m

/-- Abort a job (R276): RESULT ABORTED or TIMEOUT. -/
def abortJob (j : Job) (rc : Nat) (m : Module) : Module := jobOutcome j 1 rc {} m

/-- Abort every queued and admitted job of the contexts in a fabric group (R395 step 1); answers how many. -/
def abortGroup (g : Nat) (m : Module) : Module × Nat :=
  let js := m.sched.jobs.filter (fun j => (m.ctx j.ctx).group == g && (m.ctx j.ctx).state != 0)
  (js.foldl (fun m j => match findJob m j.id with | some i => abortJob i 0x30 m | none => m) m, js.length)

/-! ### What a runner sends (R126, R331) -/

/-- A runner sends a packet under its next sequence number, with its CRC, and keeps it in its replay buffer of 64 (R331). -/
def sendNow (r : Nat) (p : LinkPacket) (m : Module) : Module :=
  let v := m.runner r
  emit (.runner r v.seq (Config.linkCrc v.seq p) p) (m.setRunner r { v with
    seq := v.seq + 1, replay := (v.replay ++ [Sent.mk v.seq m.time.elapsed p]).drop (v.replay.length + 1 - 64) })

/-- A packet is handed to a runner: while that retrains, after eight retries, the packet waits (R331), and none is dropped
(R121). -/
def sendRunner (r : Nat) (p : LinkPacket) (m : Module) : Module :=
  if (m.runner r).retryRun < 8 then sendNow r p m else m.setRunner r { (m.runner r) with queue := (m.runner r).queue ++ [p] }

/-- Gragor's own credits on a runner (R126). -/
def Module.ownCredit (m : Module) (r : Nat) : OwnCredit := m.fab.own.get {} r
def Module.setOwnCredit (m : Module) (r : Nat) (v : OwnCredit) : Module :=
  { m with fab := { m.fab with own := m.fab.own.put {} r v } }

/-- Gragor sends a packet on one of its 64 credits of a runner, or it waits for one (R126, R395). -/
def sendOwn (r : Nat) (p : LinkPacket) (m : Module) : Module :=
  let v := m.ownCredit r
  if v.inUse < 64 then sendRunner r p (m.setOwnCredit r { v with inUse := v.inUse + 1 })
  else m.setOwnCredit r { v with waiting := v.waiting ++ [p] }

/-- One of Gragor's credits returns: the packet that waits first takes it. -/
def ownReturned (r : Nat) (m : Module) : Module :=
  let v := m.ownCredit r
  match v.waiting with
  | p :: ps => sendRunner r p (m.setOwnCredit r { v with waiting := ps })
  | [] => m.setOwnCredit r { v with inUse := v.inUse - 1 }

/-- Send a fabric-abort notice on every runner that is up but one (R395), each on a credit of Gragor's. -/
def sendNotice (origin g seq except : Nat) (m : Module) : Module :=
  ((List.range 4).filter (fun r => (m.runner r).state == 2 && r != except)).foldl
    (fun m r => sendOwn r (.notice origin g seq) m) m

/-- Originate a fabric abort of a group (R395 steps 1 and 2): for a command, or by Gragor itself. -/
def fabricOriginate (g : Nat) (byCmd : Bool) (m : Module) : Module :=
  let m := (abortGroup g m).1
  let seq := m.rcv.noticeSeq
  let m := { m with rcv := { m.rcv with
    noticeSeq := seq + 1, seen := (m.host.moduleId, seq) :: m.rcv.seen
    ctr := bump m.rcv.ctr 4, aborts := if byCmd then m.rcv.aborts ++ [(g, m.time.elapsed)] else m.rcv.aborts } }
  sendNotice m.host.moduleId g seq 4 m

/-- The windows of a context close (R125, R279): each open one has its close point now. -/
def closeWindows (k : Nat) (m : Module) : Module :=
  { m with fab := { m.fab with
    windows := m.fab.windows.map (fun p => if p.2.ctx = k && p.2.state = 1 then (p.1, { p.2 with state := 2 }) else p) } }

/-- The credit reservations of a context are removed (R127, R279); credits in use return later. -/
def dropCredits (k : Nat) (m : Module) : Module :=
  { m with fab := { m.fab with
    credits := (List.range 4).foldl (fun t r => t.upd {} (64 * r + k) (fun c => { c with reserved := 0 })) m.fab.credits } }

/-- End every job of a context that has no outcome (R275, R279). -/
def endJobs (k outcome rc : Nat) (f : CtxFault) (m : Module) : Module :=
  (m.sched.jobs.filter (fun j => j.ctx == k)).foldl
    (fun m j => match findJob m j.id with | some i => jobOutcome i outcome rc f m | none => m) m

/-- Teardown of a context (R279), with the faulting JOB_ID or 0; its jobs not yet ended end with TORN_DOWN. A context
with AUTO set has its group aborted (R395). -/
def tearDown (k job : Nat) (m : Module) : Module :=
  let m := m.updCtx k (fun v => { v with state := 2, binds := [] })
  let m := event 0x0410 0 [(0, 1, k), (4, 4, job)] m
  let m := endJobs k 3 0x33 {} m
  let m := dropCredits k (closeWindows k m)
  if (m.ctx k).groupAuto && (m.ctx k).group != 0 then fabricOriginate (m.ctx k).group false m else m

/-- A unit that is no engine faults a context (R15, R185): its admitted job is left to JOB_FAULT; a context without
one is torn down at once. -/
def ctxFault (k kind : Nat) (m : Module) : Module :=
  if (m.ctx k).state != 1 then m
  else if hasAdmitted m k then m.updCtx k (fun v => { v with hwFault := if v.hwFault = 0 then kind else v.hwFault })
  else
    tearDown k 0 (m.updCtx k (fun v => { v with fault := { kind := kind } }))

/-- A context under CTX_DESTROY whose last window is closed becomes FREE, and the command completes (R280). -/
def destroyDone (k : Nat) (m : Module) : Module :=
  if (m.ctx k).destroying && m.fab.windows.all (fun w => w.2.ctx != k || w.2.state == 0) then
    finish 0x0401 k 0 [] (m.setCtx k {})
  else m

end Sys2Proof.Machine
end

