-- ==== Sys2Proof/Machine/Repro.lean ====
section
/-! DEFINITION. The class 0x0F commands (R143 to R147). -/

namespace Sys2Proof.Machine

/-- CONTEXT at 0, in range, of this client, and not FREE; `reserved` bytes follow from an offset. -/
def ctxParam (ps : List Byte) (n : Nat) (m : Module) : List (Bool × Nat) :=
  [(leAt ps 0 1 > 63, 0x22), (foreign m n (leAt ps 0 1), 0x24), ((m.ctx (leAt ps 0 1)).state = 0, 0x23)]

/-- REPRO_STATUS (Table 6-4). -/
def execReproStatus (n : Nat) (s : State) : Res :=
  s.act (command 0x0F00 n
    (fun ps m => [badLen ps 8, resv ps 1 7] ++ ctxParam ps n m)
    (fun ps m =>
      let k := m.ctx (leAt ps 0 1)
      respond n 0 (fields 32 [(0, 8, k.seed.toNat), (8, 8, k.step.toNat), (16, 1, k.mode), (17, 1, k.records.length),
        (18, 1, if hasAdmitted m (leAt ps 0 1) then 1 else 0)]) m))

/-- SEED_SET (R144, R147). -/
def execSeedSet (n : Nat) (s : State) : Res :=
  s.act (command 0x0F01 n
    (fun ps m => [badLen ps 16, resv ps 1 7] ++ ctxParam ps n m ++ [(hasAdmitted m (leAt ps 0 1), 0x23)])
    (fun ps m => respond n 0 [] (m.updCtx (leAt ps 0 1) (fun k => { k with seed := BitVec.ofNat 64 (leAt ps 8 8) }))))

/-- STEP_SET (R143, R147). -/
def execStepSet (n : Nat) (s : State) : Res :=
  s.act (command 0x0F02 n
    (fun ps m => [badLen ps 16, (leAt ps 1 1 > 1, 0x22), resv ps 2 6] ++ ctxParam ps n m ++ [(hasAdmitted m (leAt ps 0 1), 0x23)])
    (fun ps m => respond n 0 [] (m.updCtx (leAt ps 0 1) (fun k =>
      { k with step := BitVec.ofNat 64 (leAt ps 8 8), mode := leAt ps 1 1 }))))

/-- The KZCB_EVAL response (R140, R141). -/
def kzcbData (ps : List Byte) : List Byte :=
  let w := fun off => BitVec.ofNat 32 (leAt ps off 4)
  let k := stepKey (BitVec.ofNat 64 (leAt ps 0 8)) (BitVec.ofNat 64 (leAt ps 8 8))
  let b := kzBlock k.1 k.2 (w 16, w 20, w 24, w 28)
  [k.1, k.2, b.1, b.2.1, b.2.2.1, b.2.2.2].flatMap (fun x => leBytes 4 x.toNat)

/-- KZCB_EVAL (R147). -/
def execKzcbEval (n : Nat) (s : State) : Res :=
  s.act (command 0x0F03 n
    (fun ps _ => [badLen ps 32, (leAt ps 28 4 = 0xFFFFFFFF, 0x22)])
    (fun ps m => respond n 0 (kzcbData ps) m))

/-- A job record as its 96 bytes (Table 6-2). -/
def recordBytes (r : JobRecord) : List Byte :=
  fields 96 ([(0, 4, r.jobId), (4, 1, r.ctx), (5, 1, r.outcome), (6, 1, r.mode), (8, 8, r.step.toNat), (16, 8, r.seed.toNat),
    (24, 4, r.imageCrc.toNat), (28, 4, r.coreMask.toNat)]
    ++ r.args.zipIdx.map (fun a => (32 + 4 * a.2, 4, a.1.toNat))
    ++ [(64, 4, r.preemptions), (68, 4, r.retries), (72, 8, r.runFab)])

/-- JOB_RECORD (R145, R147): BAD_PARAM when no record exists at INDEX. -/
def execJobRecord (n : Nat) (s : State) : Res :=
  s.act (command 0x0F04 n
    (fun ps m => [badLen ps 8, resv ps 2 6, (leAt ps 0 1 > 63, 0x22),
      ((m.ctx (leAt ps 0 1)).records.length ≤ leAt ps 1 1, 0x22)] ++ ctxParam ps n m)
    (fun ps m => respond n 0 (((m.ctx (leAt ps 0 1)).records[leAt ps 1 1]?.map recordBytes).getD []) m))

end Sys2Proof.Machine
end

