-- ==== Sys2Proof/Machine/Kv.lean ====
section
/-!
DEFINITION. KV pages (chapter 7): the decision of a commit (R156 to R159), its physical work and its ends (R160 to R163,
R165), and the class 0x05 commands (R166 to R171).
-/

namespace Sys2Proof.Machine

def Module.pool (m : Module) (p : Nat) : Pool := m.kv.pools.get {} p
def Module.setPool (m : Module) (p : Nat) (v : Pool) : Module := { m with kv := { m.kv with pools := m.kv.pools.put {} p v } }
def Module.seq (m : Module) (i : Nat) : Seq := m.kv.seqs.get {} i

/-! ### Host memory through grants (R163, R319) -/

/-- Read n cold-frame bytes. -/
def coldRead (m : Module) (a n : Nat) : List Byte :=
  (List.range n).map (fun i => ((grantBus m (a + i) 1).map (hostByte m)).getD 0)

/-- A range cut at the multiples of a size: (address, bytes). -/
def cuts (size a n : Nat) : List (Nat × Nat) :=
  (List.range ((a + n + size - 1) / size - a / size)).map (fun i =>
    let lo := max a ((a / size + i) * size)
    (lo, min (a + n) ((a / size + i + 1) * size) - lo))

/-- The 4 KiB pieces of a range: (address, bytes). A grant's base, size and bus address are multiples of 4 KiB (R319), so one grant
covers a piece or none does. -/
def pieces (a n : Nat) : List (Nat × Nat) := cuts 4096 a n

/-- Write cold-frame bytes: each at its bus address (R319), in write requests of at most 512 bytes (R316). -/
def coldWrite (a : Nat) (bs : List Byte) (m : Module) : Module :=
  { m with
    hostMem := bs.zipIdx.foldl (fun h b =>
      match grantBus m (a + b.2) 1 with
      | some bus => Tab.put (0 : Byte) h bus b.1
      | none => h) m.hostMem
    wire := (cuts 512 a bs.length).foldl (fun w c =>
      match grantBus m c.1 c.2 with
      | some bus => .hostWrite bus ((bs.drop (c.1 - a)).take c.2) :: w
      | none => w) m.wire }

/-- The read requests for a cold-frame range, each of at most 4,096 bytes at its bus address (R316, R319). -/
def coldAsk (a n : Nat) (m : Module) : Module :=
  (pieces a n).foldl (fun m c => match grantBus m c.1 c.2 with | some bus => emit (.hostRead bus c.2) m | none => m) m

/-- Whether grants cover a cold-frame range. -/
def coldCovered (m : Module) (a n : Nat) : Bool :=
  (pieces a n).all (fun p => placeRange m p.1 p.2 == .cold && (grantBus m p.1 p.2).isSome)

/-- Whether a context holds an access to every byte of a range in usable DDR4. -/
def ddrHeld (m : Module) (k : Nat) (acc : Access) (a n : Nat) : Bool :=
  (pieces a n).all (fun p => placeRange m p.1 p.2 == .ddr && ctxHolds m k acc p.1 p.2)

/-! ### Sizes and free resources (R148, R149) -/

/-- TPP (R149). -/
def tokensPerPage (p : Pool) : Nat := 2 ^ (p.log2Page - p.log2Token)
/-- Pages that hold a number of tokens (R149). -/
def pagesFor (p : Pool) (tokens : Nat) : Nat := (tokens + tokensPerPage p - 1) / tokensPerPage p
/-- Bytes of a page (R148). -/
def pageBytes (p : Pool) : Nat := 2 ^ p.log2Page
/-- Device address of page i (R148). -/
def pageAddr (p : Pool) (i : Nat) : Nat := p.pageBase + i * pageBytes p
/-- Cold-frame address of slot k (R163). -/
def coldAddr (p : Pool) (k : Nat) : Nat := p.coldBase + k * pageBytes p
/-- Cold-frame address of the poison map of slot k, and its bytes (R163). -/
def coldMapAddr (p : Pool) (k : Nat) : Nat := p.coldMap + k * (pageBytes p / 64)

/-- The sequences of a pool. -/
def poolSeqs (seqs : Tab Seq) (n : Nat) : List (Nat × Seq) := seqs.filter (fun s => s.2.state != 0 && s.2.pool == n)

/-- The k lowest-numbered free ones of `limit` things (R148). -/
def lowest (k limit : Nat) (used : List Nat) : List Nat :=
  ((List.range (min limit (k + used.length))).filter (fun i => !used.contains i)).take k

/-! ### The decision (R156 to R159) -/

/-- A commit while it is decided. -/
structure KvWork where
  seqs : Tab Seq
  /-- cold slots of placed RESUME entries, not free within the commit (R160) -/
  resumed : List Nat := []
  outs : List (Nat × Nat) := []
  ins : List (Nat × Nat) := []
  /-- outcome of each sequence (Table 7-5) -/
  codes : Tab Nat := []
  /-- entries marked short, with the pages they need -/
  short : List (Staged × Nat) := []
  /-- victims in the order they were chosen -/
  victims : List Nat := []

def KvWork.seq (w : KvWork) (i : Nat) : Seq := w.seqs.get {} i
def KvWork.put (w : KvWork) (i : Nat) (v : Seq) : KvWork := { w with seqs := w.seqs.put {} i v }
/-- Give a sequence its outcome (0xFF stands for none while a commit is decided). -/
def KvWork.code (w : KvWork) (i c : Nat) : KvWork := { w with codes := w.codes.put 0xFF i c }
def usedPages (w : KvWork) (n : Nat) : List Nat := (poolSeqs w.seqs n).flatMap (·.2.pages)
def usedCold (w : KvWork) (n : Nat) : List Nat := (poolSeqs w.seqs n).flatMap (·.2.cold) ++ w.resumed
def usedSlots (w : KvWork) (n : Nat) : List Nat := ((poolSeqs w.seqs n).filter (fun s => s.2.state = 1)).map (·.2.slot)
def freePages (p : Pool) (w : KvWork) (n : Nat) : Nat := p.numPages - (usedPages w n).length
def freeSlots (p : Pool) (w : KvWork) (n : Nat) : Nat := p.seqSlots - (usedSlots w n).length
def freeCold (p : Pool) (w : KvWork) (n : Nat) : Nat := p.coldSlots - (usedCold w n).length

/-- The priority of an entry: of its JOIN, else of its sequence. -/
def entryPrio (w : KvWork) (e : Staged) : Nat := (if e.action = 1 then e.attr else (w.seq e.seq).attr) % 8

/-- Descending priority, then ascending sequence ID (R156). -/
def byPriority (w : KvWork) (es : List Staged) : List Staged :=
  sortBy (fun a b => decide (entryPrio w b < entryPrio w a) || (entryPrio w a == entryPrio w b && decide (a.seq ≤ b.seq))) es

/-- Stage 1: a LEAVE frees all that its sequence holds. -/
def release (w : KvWork) (e : Staged) : KvWork := (w.put e.seq {}).code e.seq 1

/-- Place an entry that gains `need` pages: a JOIN and a RESUME also take the lowest slot (R148, R156). DESIGN CHOICE
(notes/assumptions/91): where commits of two pools, both accepted while a sequence was FREE, each JOIN it, the later one takes the
sequence over from the first pool; R155 says that its checks still hold then, and gives no rule. -/
def place (n : Nat) (p : Pool) (e : Staged) (need : Nat) (w : KvWork) : KvWork :=
  let pg := lowest need p.numPages (usedPages w n)
  let q := w.seq e.seq
  let w := w.code e.seq 0
  if e.action = 2 then w.put e.seq { q with pages := q.pages ++ pg }
  else
    let slot := (lowest 1 p.seqSlots (usedSlots w n)).headD 0
    if e.action = 1 then
      w.put e.seq { state := 1, pool := n, attr := e.attr, slot := slot, pages := pg, joinCommit := p.commits + 1 }
    else
      { w.put e.seq { q with state := 1, slot := slot, pages := pg, cold := [] } with
        ins := w.ins ++ pg.zip q.cold, resumed := w.resumed ++ q.cold }

/-- Pages an entry needs, and the pages its sequence would hold in all. -/
def entryNeed (p : Pool) (w : KvWork) (e : Staged) : Nat × Nat :=
  let q := w.seq e.seq
  let all := pagesFor p ((if e.action = 1 then 0 else q.len) + e.new)
  (if e.action = 2 then all - pagesFor p q.len else all, all)

/-- Stages 2 and 3: place, refuse or mark short. -/
def admitOrExtend (n : Nat) (p : Pool) (w : KvWork) (e : Staged) : KvWork :=
  let need := entryNeed p w e
  if need.2 > p.maxPages then w.code e.seq 4
  else if e.action != 2 && freeSlots p w n = 0 then w.code e.seq 3
  else if need.1 ≤ freePages p w n then place n p e need.1 w
  else { w with short := w.short ++ [(e, need.1)] }

/-- Pre-empt a sequence (R159): it gives back its extension and keeps its LEN; of kind SWAP its pages go to the lowest
cold slots. -/
def preempt (n : Nat) (p : Pool) (i : Nat) (w : KvWork) : KvWork :=
  let q := w.seq i
  let pg := q.pages.take (pagesFor p q.len)
  if 8 ≤ q.attr then w.put i { q with state := 3, slot := 0, pages := [] }
  else
    let cs := lowest pg.length p.coldSlots (usedCold w n)
    { w.put i { q with state := 2, slot := 0, pages := [], cold := cs } with outs := w.outs ++ pg.zip cs }

/-- The order of the possible victims (R157). -/
def victimBefore (named : Nat → Bool) (a b : Nat × Seq) : Bool :=
  if named a.1 != named b.1 then !named a.1
  else if a.2.attr % 8 != b.2.attr % 8 then decide (a.2.attr % 8 < b.2.attr % 8)
  else if a.2.joinCommit != b.2.joinCommit then decide (b.2.joinCommit < a.2.joinCommit)
  else decide (b.1 ≤ a.1)

/-- The candidates in order (R157): a SWAP-kind one only while cold slots remain. -/
def victimList (p : Pool) : Nat → List (Nat × Seq) → List (Nat × Seq)
  | _, [] => []
  | cold, s :: ss =>
    if 8 ≤ s.2.attr then s :: victimList p cold ss
    else if pagesFor p s.2.len ≤ cold then s :: victimList p (cold - pagesFor p s.2.len) ss
    else victimList p cold ss

/-- Pre-empt the shortest prefix that meets the need. -/
def takeVictims (n : Nat) (p : Pool) (need : Nat) (slot : Bool) : List (Nat × Seq) → KvWork → KvWork
  | [], w => w
  | v :: vs, w =>
    if need ≤ freePages p w n && (!slot || decide (0 < freeSlots p w n)) then w
    else
      let w := preempt n p v.1 { w with victims := w.victims ++ [v.1] }
      takeVictims n p need slot vs (w.code v.1 (if 8 ≤ v.2.attr then 9 else 8))

/-- The fallback of a short entry (R158). -/
def fallback (n : Nat) (p : Pool) (e : Staged) (pagesMet : Bool) (w : KvWork) : KvWork :=
  let q := w.seq e.seq
  if e.action != 2 then w.code e.seq (if pagesMet then 3 else 2)
  else if 8 ≤ q.attr then (preempt n p e.seq w).code e.seq 6
  else if pagesFor p q.len ≤ freeCold p w n then (preempt n p e.seq w).code e.seq 5
  else w.code e.seq 7

/-- Stage 4 for one short entry (R157, R158); `start` holds the sequences RESIDENT at the start, `staged` the named. -/
def serveShort (n : Nat) (p : Pool) (start staged : List Nat) (w : KvWork) (s : Staged × Nat) : KvWork :=
  let e := s.1
  if w.victims.contains e.seq then w
  else
    let slot := e.action != 2
    let poss := (poolSeqs w.seqs n).filter (fun v =>
      v.2.state = 1 && start.contains v.1 && v.1 != e.seq && decide (v.2.attr % 8 < entryPrio w e))
    let cand := victimList p (freeCold p w n) (sortBy (victimBefore (fun i => staged.contains i)) poss)
    let pagesMet := decide (s.2 ≤ freePages p w n + (cand.map (fun v => v.2.pages.length)).sum)
    let slotsMet := !slot || decide (0 < freeSlots p w n) || !cand.isEmpty
    if pagesMet && slotsMet then place n p e s.2 (takeVictims n p s.2 slot cand w) else fallback n p e pagesMet w

/-- The four stages (R156). -/
def decide4 (m : Module) (n : Nat) : KvWork :=
  let p := m.pool n
  let start := ((poolSeqs m.kv.seqs n).filter (fun s => s.2.state = 1)).map Prod.fst
  let of := fun (a : Nat → Bool) => p.staged.filter (fun e => a e.action)
  let w : KvWork := { seqs := m.kv.seqs }
  let w := (sortBy (fun a b => decide (a.seq ≤ b.seq)) (of (· == 0))).foldl release w
  let w := (byPriority w (of (fun a => a == 1 || a == 3))).foldl (admitOrExtend n p) w
  let w := (byPriority w (of (· == 2))).foldl (admitOrExtend n p) w
  let short := (byPriority w (w.short.map Prod.fst)).filterMap (fun e => w.short.find? (fun s => s.1 == e))
  short.foldl (serveShort n p start (p.staged.map (·.seq))) w

/-- The decision of a pool's staged list (R156 to R161). -/
def kvDecide (m : Module) (n : Nat) : Plan :=
  let st := (m.pool n).staged
  let w := decide4 m n
  let placed := sortBy (fun a b => decide (a.seq ≤ b.seq)) (st.filter (fun e => w.codes.get 0xFF e.seq = 0))
  let ids := st.map (·.seq) ++ w.victims.filter (fun i => !(st.map (·.seq)).contains i)
  let num := fun (l : List Nat) => (ids.filter (fun i => l.contains (w.codes.get 0xFF i))).length
  let grow := fun (t : Tab Seq) (e : Staged) => t.upd {} e.seq (fun q => { q with len := q.len + e.new })
  { pool := n
    seqs := placed.foldl grow w.seqs
    outs := w.outs, ins := w.ins
    table := placed.map (fun e => (e.seq, (w.seq e.seq).slot, (w.seq e.seq).len, e.new))
    outcomes := ids.map (fun i => ⟨i, w.codes.get 0xFF i, (w.seq i).state, (w.seq i).pages.length⟩)
    preempted := num [5, 6, 8, 9], deferrals := num [5, 6, 7], notPlaced := num [2, 3, 4] }

/-! ### Physical work (R151, R152, R160, R163) -/

/-- One page out to its cold slot with its poison map (R162, R163). -/
def swapOut (p : Pool) (m : Module) (x : Nat × Nat) : Module :=
  let w := pageAddr p x.1 / 8
  let k := pageBytes p / 8
  let ds := readWords m.mem w k
  let bits := ds.map Prod.snd
  let map := (List.range (k / 8)).map (fun i => BitVec.ofNat 8 ((List.range 8).map (fun b =>
    if bits.getD (8 * i + b) false then 2 ^ b else 0)).sum)
  coldWrite (coldMapAddr p x.2) map (coldWrite (coldAddr p x.2) (memBytes m.mem (8 * w) (8 * k)) (countReads k w false m))

/-- One page in from its cold slot (R162, R163, R321): a word is poisoned by its map bit, or by EP on the completion that
carries it or its map byte; `ep` lists the cold-frame addresses, in units of 8 bytes, that came with EP set. -/
def swapIn (p : Pool) (ep : List Nat) (m : Module) (x : Nat × Nat) : Module :=
  let k := pageBytes p / 8
  let bs := coldRead m (coldAddr p x.2) (8 * k)
  let map := coldRead m (coldMapAddr p x.2) (k / 8)
  let m := coldAsk (coldMapAddr p x.2) (k / 8) (coldAsk (coldAddr p x.2) (8 * k) m)
  writeWords (pageAddr p x.1 / 8) ((List.range k).map (fun i =>
    (BitVec.ofNat 64 (leAt bs (8 * i) 8),
      (map.getD (i / 8) 0).getLsbD (i % 8) || ep.contains (coldAddr p x.2 / 8 + i)
        || ep.contains ((coldMapAddr p x.2 + i / 8) / 8)))) m

/-- Write 8-byte numbers at an aligned address with poison clear. -/
def writeNats (a : Nat) (ns : List Nat) (m : Module) : Module := writeWords (a / 8) (ns.map (fun n => (BitVec.ofNat 64 n, false))) m

/-- The ROW fields (R152): each the previous ROW plus the previous NEW. -/
def rowsFrom : Nat → List (Nat × Nat × Nat × Nat) → List Byte
  | _, [] => []
  | row, (i, slot, len, new) :: t =>
    fields 16 [(0, 2, i), (2, 2, slot), (4, 4, len), (8, 4, new), (12, 4, row)] ++ rowsFrom (row + new) t

/-- The length table (Tables 7-2 and 7-3). -/
def lengthTable (p : Pool) (commits : Nat) (table : List (Nat × Nat × Nat × Nat)) : List Byte :=
  fields 64 [(0, 8, commits), (8, 4, table.length), (12, 4, (table.map (fun t => t.2.2.2)).sum), (16, 1, p.log2Page),
    (17, 1, p.log2Token), (20, 4, p.maxPages), (24, 8, p.plBase)] ++ rowsFrom 0 table

/-- Write whole 8-byte words of bytes with poison clear. -/
def writeBytes8 (a : Nat) (bs : List Byte) (m : Module) : Module :=
  writeNats a ((List.range (bs.length / 8)).map (fun i => leAt bs (8 * i) 8)) m

/-- Write the page list of a slot over one that had `old` entries (R151): entries beyond the pages hold zero. -/
def writeList (p : Pool) (slot old : Nat) (pages : List Nat) (m : Module) : Module :=
  writeNats (p.plBase + slot * p.maxPages * 8) (pages.map (pageAddr p) ++ List.replicate (old - pages.length) 0) m

/-- The page lists of the sequences a commit changed (R151, R153): lists given up are zeroed, then the new ones are
written. -/
def writeLists (p : Pool) (ids : List Nat) (old new : Tab Seq) (m : Module) : Module :=
  let had := ids.filter (fun i => (old.get {} i).state = 1)
  let has := ids.filter (fun i => (new.get {} i).state = 1)
  let m := had.foldl (fun m i => writeList p (old.get {} i).slot (old.get {} i).pages.length [] m) m
  has.foldl (fun m i => writeList p (new.get {} i).slot 0 (new.get {} i).pages m) m

/-- A commit of a pool completes: its record is posted, and until then the owning context owes it (R166). -/
def finishCommit (n rc : Nat) (payload : List Byte) (m : Module) : Module :=
  let at_ := m.host.evtHead + BitVec.ofNat 32 (m.host.backlog.length + m.host.held.length)
  finish 0x0503 n rc payload (if m.host.gState = 3 && (findDeferred m 0x0503 n).isSome
    then { m with kv := { m.kv with owed := m.kv.owed ++ [((m.pool n).ctx, at_)] } } else m)

/-- The payload of a KV_COMMIT completion (Table 7-9). -/
def commitPayload (commits : Nat) (p : Plan) : List Byte :=
  fields 24 [(0, 8, commits), (8, 2, p.table.length), (10, 2, p.outcomes.length), (12, 2, p.preempted), (16, 4, p.outs.length),
    (20, 4, p.ins.length)]

/-- A commit whose work is done takes effect (R153, R160, R161, R171): the transfers, the tables, the new states. -/
def commitApply (ep : List Nat) (pl : Plan) (m : Module) : Module :=
  let n := pl.pool
  let p := m.pool n
  let m := pl.outs.foldl (swapOut p) m
  let m := pl.ins.foldl (swapIn p ep) m
  let ids := pl.outcomes.map (·.seq)
  let seqs := ids.foldl (fun t i => t.put {} i (pl.seqs.get {} i)) m.kv.seqs
  let m := writeLists p ids m.kv.seqs seqs m
  let m := writeBytes8 p.ltBase (lengthTable p (p.commits + 1) pl.table) m
  let ctr := [pl.preempted, pl.deferrals, pl.notPlaced, pl.outs.length, pl.ins.length].zipIdx.foldl
    (fun t x => bumpBy t x.2 x.1) p.ctr
  let m := m.setPool n { p with commits := p.commits + 1, outcomes := some pl.outcomes, placed := pl.table.length, staged := [], ctr := ctr }
  let ok := p.staged.all (fun e => e.action = 0 || pl.outcomes.any (fun o => o.seq == e.seq && o.code == 0))
  finishCommit n (if ok then 0 else 0x12) (commitPayload (p.commits + 1) pl)
    { m with kv := { m.kv with seqs := seqs, plan := none } }

/-- A page that a failed commit copied into holds undefined bytes and is poisoned throughout (R160). -/
def spoilPage (p : Pool) (m : Module) (pg : Nat) : Module :=
  let k := pageBytes p / 8
  let ws := (List.range k).map (fun i => (Config.freeValue (m.freeCount + i), true))
  freeSkip (writeWords (pageAddr p pg / 8) ws m) k

/-- The payload of a commit that does not complete (Table 7-9, R160, R170): the commit count, the length table's entries and the
outcomes available are those of the last completed commit; nothing was pre-empted or swapped. -/
def failPayload (p : Pool) : List Byte :=
  fields 24 [(0, 8, p.commits), (8, 2, p.placed), (10, 2, (p.outcomes.getD []).length)]

/-- The commit in progress ends without completing (R160): `copied` pages of its swap-ins have been copied into, its
swap-outs having gone before. DESIGN CHOICE (notes/assumptions/92): with no page copied in, none of its swap-outs has been written;
otherwise all have, also one to a cold slot that a LEAVE of the same commit had freed, and then the sequence that the failure restores
has that slot with the victim's bytes: R160 keeps swap-outs from the slots of RESUME entries only. -/
def commitFail (rc copied : Nat) (m : Module) : Module :=
  match m.kv.plan with
  | none => m
  | some pl =>
    let p := m.pool pl.pool
    let m := if copied = 0 then m else pl.outs.foldl (swapOut p) m
    let m := ((pl.ins.take copied).map Prod.fst).foldl (spoilPage p) m
    finishCommit pl.pool rc (failPayload p)
      ({ m with kv := { m.kv with plan := none } }.setPool pl.pool { p with staged := [] })

/-- Whether the completion of a commit of a context has still to be posted (R166). -/
def owesCommit (m : Module) (k : Nat) : Bool := m.kv.owed.any (fun o => o.1 == k)

/-- Whether a commit of a pool waits or is in progress (R166). -/
def kvBusy (m : Module) (n : Nat) : Bool := m.kv.waiting.contains n || (m.kv.plan.map (·.pool)) == some n

/-- Whether a commit of any pool of a context waits or is in progress (R166). -/
def kvBusyCtx (m : Module) (k : Nat) : Bool :=
  (List.range 32).any (fun n => (m.pool n).live && (m.pool n).ctx == k && kvBusy m n)

/-- End a pool's commit, waiting or in progress, without completing it (R160, R165, R167). How many pages of its swap-ins
had been copied into is a free value. -/
def endCommit (rc n : Nat) (m : Module) : Module :=
  let p := m.pool n
  if (m.kv.plan.map (·.pool)) = some n then
    commitFail rc ((free m).toNat % (((m.kv.plan.map (·.ins.length)).getD 0) + 1)) (freeNext m)
  else if m.kv.waiting.contains n then
    finishCommit n rc (failPayload p)
      ({ m with kv := { m.kv with waiting := m.kv.waiting.filter (fun w => w != n) } }.setPool n { p with staged := [] })
  else m

/-- Pools whose commits a reset of a context, or of a partition, ends with FAULTED (R160). -/
def resetCommits (part : Bool) (obj : Nat) (m : Module) : Module :=
  ((List.range 32).filter (fun n =>
    let p := m.pool n
    p.live && kvBusy m n &&
      (if part then touchesPart obj p.pageBase (p.numPages * pageBytes p) || touchesPart obj p.plBase (p.seqSlots * p.maxPages * 8)
          || touchesPart obj p.ltBase (64 + 16 * p.seqSlots)
       else p.ctx == obj))).foldl (fun m n => endCommit 0x32 n m) m

/-- Destroy a pool (R167, R168): a commit of it ends with TORN_DOWN; its sequences become FREE. -/
def destroyPool (m : Module) (n : Nat) : Module :=
  let m := endCommit 0x33 n m
  { m with kv := { m.kv with
    pools := m.kv.pools.put {} n {}
    seqs := m.kv.seqs.filter (fun s => s.2.pool != n) } }

/-- Destroy every pool of a context that is destroyed (R167); the next context of its number has no completion to wait for. -/
def destroyPools (k : Nat) (m : Module) : Module :=
  let m := ((List.range 32).filter (fun n => (m.pool n).live && (m.pool n).ctx == k)).foldl destroyPool m
  { m with kv := { m.kv with owed := m.kv.owed.filter (fun o => o.1 != k) } }

/-- Whether cold slot c of a pool touches a cold-frame range. -/
def slotTouches (p : Pool) (lo size c : Nat) : Bool :=
  overlaps (coldAddr p c) (pageBytes p) lo size || overlaps (coldMapAddr p c) (pageBytes p / 64) lo size

/-- The SWAPPED sequences of a pool with a cold slot in a range. -/
def swappedIn (m : Module) (n lo size : Nat) : List Nat :=
  ((poolSeqs m.kv.seqs n).filter (fun s => s.2.cold.any (slotTouches (m.pool n) lo size))).map Prod.fst

/-- Whether a pool's commit, waiting or in progress, uses a range (R165); one that waits is judged by its decision. -/
def commitUses (m : Module) (n lo size : Nat) : Bool :=
  kvBusy m n &&
    (!(swappedIn m n lo size).isEmpty ||
      (let pl := match m.kv.plan with
        | some pl => if pl.pool = n then pl else kvDecide m n
        | none => kvDecide m n
       (pl.outs ++ pl.ins).any (fun x => slotTouches (m.pool n) lo size x.2)))

/-- A grant is withdrawn from a cold-frame range (R165, R320 step 2). -/
def withdrawCold (lo size : Nat) (m : Module) : Module :=
  let m := ((List.range 32).filter (fun n => commitUses m n lo size)).foldl (fun m n => endCommit 0x32 n m) m
  (List.range 32).foldl (fun m n =>
    match swappedIn m n lo size with
    | [] => m
    | ids =>
      let seqs := ids.foldl (fun t i => t.upd {} i (fun q => { q with state := 3, cold := [] })) m.kv.seqs
      event 0x0506 0 [(0, 1, n)] { m with kv := { m.kv with seqs := seqs } }) m

/-! ### Events of a commit -/

/-- KV_COMMIT_START (R156, R166): the oldest waiting commit is decided, while no other is in progress. -/
def execKvCommitStart (s : State) : Res :=
  s.act (fun m =>
    match m.kv.plan, m.kv.waiting with
    | none, n :: ns => { m with kv := { m.kv with waiting := ns, plan := some { kvDecide m n with startAt := m.time.elapsed } } }
    | _, _ => m)

/-- Whether every transfer of a commit can be made (R162, R163): the link is up, and grants cover its cold slots and their poison
maps; one that cannot fails, and so does the commit (R160). -/
def swapsReach (m : Module) (pl : Plan) : Bool :=
  (pl.outs ++ pl.ins).all (fun x =>
    m.links.pcieSpeed != 0 && coldCovered m (coldAddr (m.pool pl.pool) x.2) (pageBytes (m.pool pl.pool))
      && coldCovered m (coldMapAddr (m.pool pl.pool) x.2) (pageBytes (m.pool pl.pool) / 64))

/-- KV_COMMIT_COMPLETE (R160, R162). -/
def execKvCommitComplete (ep : List Nat) (s : State) : Res :=
  s.act (fun m => match m.kv.plan with
    | some pl => if swapsReach m pl then commitApply ep pl m else m
    | none => m)

/-- KV_SWAP_FAILED (R160, R321): a transfer of a commit that has transfers fails. -/
def execKvSwapFailed (pagesIn : Nat) (s : State) : Res :=
  s.act (fun m => match m.kv.plan with
    | some pl => if pl.outs.isEmpty && pl.ins.isEmpty then m else commitFail 0x32 (min pagesIn pl.ins.length) m
    | none => m)

/-! ### Class 0x05 commands (R168 to R171) -/

/-- POOL at 0: its number, its client, that it exists. -/
def poolParam (ps : List Byte) (n : Nat) (m : Module) : List (Bool × Nat) :=
  let p := m.pool (leAt ps 0 1)
  [(leAt ps 0 1 > 31, 0x22), (p.live && foreign m n p.ctx, 0x24), (!p.live, 0x23)]

/-- The pool-level conditions of R166. -/
def poolGate (ps : List Byte) (m : Module) : List (Bool × Nat) :=
  [(hasAdmitted m (m.pool (leAt ps 0 1)).ctx, 0x23), (kvBusy m (leAt ps 0 1), 0x10)]

/-- The pool that KV_POOL_CREATE describes (Table 7-8). -/
def poolOf (ps : List Byte) : Pool :=
  { live := true, ctx := leAt ps 1 1, log2Page := leAt ps 2 1, log2Token := leAt ps 3 1, seqSlots := leAt ps 4 2
    numPages := leAt ps 8 4, maxPages := leAt ps 12 4, pageBase := leAt ps 16 8, plBase := leAt ps 24 8, ltBase := leAt ps 32 8
    coldSlots := leAt ps 40 4, coldBase := leAt ps 48 8, coldMap := leAt ps 56 8 }

/-- The three DDR4 regions of a pool (Table 7-8). -/
def poolRegions (p : Pool) : List (Nat × Nat) :=
  [(p.pageBase, p.numPages * pageBytes p), (p.plBase, p.seqSlots * p.maxPages * 8), (p.ltBase, 64 + 16 * p.seqSlots)]

/-- The two cold-frame ranges of a pool; none without cold slots. -/
def poolCold (p : Pool) : List (Nat × Nat) :=
  if p.coldSlots = 0 then [] else [(p.coldBase, p.coldSlots * pageBytes p), (p.coldMap, p.coldSlots * (pageBytes p / 64))]

/-- Whether any two of a list of ranges overlap. -/
def anyOverlap : List (Nat × Nat) → Bool
  | [] => false
  | r :: rs => rs.any (fun s => overlaps r.1 r.2 s.1 s.2) || anyOverlap rs

/-- A value of Table 7-8 out of range, a misaligned base or an overlap. -/
def poolBad (p : Pool) : Bool :=
  p.ctx > 63 || p.log2Page < 12 || p.log2Page > 21 || p.log2Token < 4 || p.log2Token > p.log2Page
    || p.seqSlots < 1 || p.seqSlots > 1024 || p.numPages < 1 || p.numPages > 16777216 || p.maxPages < 1 || p.maxPages > 65536
    || p.coldSlots > 16777216 || p.pageBase % pageBytes p != 0 || p.plBase % 4096 != 0 || p.ltBase % 64 != 0
    || anyOverlap (poolRegions p)
    || (p.coldSlots != 0 && (p.coldBase % pageBytes p != 0 || p.coldMap % 64 != 0)) || anyOverlap (poolCold p)

/-- KV_POOL_CREATE (R169, R248): its page-list and length-table regions are zeroed, in slices between which other mailboxes are
served; the checks and the effect stand at its last slice (notes/assumptions/78). DESIGN CHOICE (notes/assumptions/93): a context
that awaits the close of its last window under CTX_DESTROY still exists, so the command is accepted for it; the pool stays when the
context becomes FREE, and goes with the next context of its number. -/
def execKvPoolCreate (n : Nat) (s : State) : Res :=
  s.act (command 0x0500 n
    (fun ps m =>
      let p := poolOf ps
      [badLen ps 64, resv ps 6 2, resv ps 44 4, (leAt ps 0 1 > 31, 0x22), (poolBad p, 0x22),
        (foreign m n p.ctx || ((m.pool (leAt ps 0 1)).live && foreign m n (m.pool (leAt ps 0 1)).ctx), 0x24),
        ((m.ctx p.ctx).state = 0 || (m.pool (leAt ps 0 1)).live, 0x23),
        (!(poolRegions p).all (fun r => ddrHeld m p.ctx .read r.1 r.2 && ddrHeld m p.ctx .write r.1 r.2)
          || !(poolCold p).all (fun r => coldCovered m r.1 r.2), notHeld)])
    (fun ps m =>
      let p := poolOf ps
      let m := { m with mem := memClear (memClear m.mem p.plBase (p.seqSlots * p.maxPages * 8)) p.ltBase (64 + 16 * p.seqSlots) }
      respond n 0 [] ((writeBytes8 p.ltBase (lengthTable p 0 []) m).setPool (leAt ps 0 1) p)))

/-- KV_POOL_DESTROY (R166, R168). -/
def execKvPoolDestroy (n : Nat) (s : State) : Res :=
  s.act (command 0x0501 n
    (fun ps m => [badLen ps 8, resv ps 1 7] ++ poolParam ps n m ++ poolGate ps m)
    (fun ps m => respond n 0 [] (destroyPool m (leAt ps 0 1))))

/-- Entry i of KV_STAGE (Table 7-4). -/
def entryOf (ps : List Byte) (i : Nat) : Staged :=
  ⟨leAt ps (8 + 8 * i) 2, leAt ps (10 + 8 * i) 1, leAt ps (11 + 8 * i) 1, leAt ps (12 + 8 * i) 4⟩

/-- An entry breaks a field range or a reserved bit of Table 7-4. -/
def entryBad (e : Staged) : Bool :=
  e.seq > 1023 || e.action > 3 || (if e.action = 1 then e.attr > 15 else e.attr != 0)
    || (if e.action = 0 then e.new != 0 else e.new < 1 || e.new > 16777216)

/-- The staged list KV_STAGE appends to. -/
def stageBase (ps : List Byte) (m : Module) : List Staged :=
  if leAt ps 2 1 = 1 then [] else (m.pool (leAt ps 0 1)).staged

/-- KV_STAGE (R154, R170). -/
def execKvStage (n : Nat) (s : State) : Res :=
  s.act (command 0x0502 n
    (fun ps m =>
      let c := leAt ps 1 1
      [(decide (ps.length < 2), 0x21), badLen ps (8 + 8 * c), (c > 32 || leAt ps 2 1 > 1, 0x22), resv ps 3 5,
        ((List.range c).any (fun i => entryBad (entryOf ps i)), 0x22)]
        ++ poolParam ps n m ++
        [(hasAdmitted m (m.pool (leAt ps 0 1)).ctx, 0x23), ((stageBase ps m).length + c > 1024, 0x11),
          (kvBusy m (leAt ps 0 1), 0x10)])
    (fun ps m =>
      let p := m.pool (leAt ps 0 1)
      respond n 0 [] (m.setPool (leAt ps 0 1)
        { p with staged := stageBase ps m ++ (List.range (leAt ps 1 1)).map (entryOf ps) })))

/-- The staged list names a sequence twice, or its NEW values sum too high (R155). -/
def stagedBad (p : Pool) : Bool :=
  (p.staged.map (·.seq)).dedup.length != p.staged.length || (p.staged.map (·.new)).sum > 16777216

/-- Whether a sequence's state accepts an action (Table 7-1). -/
def accepts (state action : Nat) : Bool :=
  (state = 0 && action = 1) || (state = 1 && (action = 2 || action = 0)) || (state = 2 && (action = 3 || action = 0))
    || (state = 3 && action = 0)

/-- An entry's action is not accepted, or its sequence is another pool's (R155). -/
def stagedState (m : Module) (n : Nat) : Bool :=
  (m.pool n).staged.any (fun e => !accepts (m.seq e.seq).state e.action || ((m.seq e.seq).state != 0 && (m.seq e.seq).pool != n))

/-- The checks of KV_COMMIT (R155, R166) in the order of R244. -/
def commitChecks (n : Nat) (ps : List Byte) (m : Module) : List (Bool × Nat) :=
  let p := leAt ps 0 1
  [badLen ps 8, (p > 31, 0x22), resv ps 1 7, ((m.pool p).live && stagedBad (m.pool p), 0x22)] ++ poolParam ps n m
    ++ [(hasAdmitted m (m.pool p).ctx, 0x23), (stagedState m p, 0x23), (kvBusy m p || entering m, 0x10)]

/-- Whether a KV_COMMIT is refused for what its staged list holds (R155): the list is cleared then, whatever else would have
refused it with that code. -/
def clearsStaged (n : Nat) (ps : List Byte) (m : Module) : Bool :=
  let p := leAt ps 0 1
  match firstFail (commitChecks n ps m) with
  | some rc => (m.pool p).live && p < 32 && ((rc = 0x22 && ps.length = 8 && zeros ((ps.drop 1).take 7))
      || (rc = 0x23 && stagedState m p))
  | none => false

/-- KV_COMMIT (R155, R166). -/
def execKvCommit (n : Nat) (s : State) : Res :=
  s.act (fun m =>
    let p := leAt (params m n) 0 1
    let clear := running m n 0x0503 && clearsStaged n (params m n) m
    let m := command 0x0503 n (commitChecks n)
      (fun _ m => accept n p (fun m => { m with kv := { m.kv with waiting := m.kv.waiting ++ [p] } }) m) m
    if clear then m.setPool p { (m.pool p) with staged := [] } else m)

/-- An outcome record (Table 7-10). -/
def outcomeBytes (o : KvOutcome) : List Byte := fields 8 [(0, 2, o.seq), (2, 1, o.code), (3, 1, o.state), (4, 4, o.pages)]

/-- KV_RESULT (R170). -/
def execKvResult (n : Nat) (s : State) : Res :=
  s.act (command 0x0504 n
    (fun ps m =>
      let o := (m.pool (leAt ps 0 1)).outcomes
      [badLen ps 8, resv ps 1 1, resv ps 4 4, (match o with | some l => decide (l.length ≤ leAt ps 2 2) | none => false, 0x22)]
        ++ poolParam ps n m ++ [(o.isNone, 0x23)])
    (fun ps m =>
      let o := ((m.pool (leAt ps 0 1)).outcomes).getD []
      let r := (o.drop (leAt ps 2 2)).take 32
      respond n 0 (fields 8 [(0, 2, o.length), (2, 1, r.length)] ++ r.flatMap outcomeBytes) m))

/-- A sequence's status (Table 7-11). -/
def seqData (q : Seq) : List Byte :=
  fields 32 [(0, 1, if q.state = 0 then 0xFF else q.pool), (1, 1, q.state), (2, 1, q.attr), (4, 2, if q.state = 1 then q.slot else 0xFFFF),
    (8, 4, q.len), (12, 4, q.pages.length), (16, 4, q.cold.length), (24, 8, q.joinCommit)]

/-- KV_SEQ_STATUS (R150, R168). -/
def execKvSeqStatus (n : Nat) (s : State) : Res :=
  s.act (command 0x0505 n
    (fun ps m =>
      let q := m.seq (leAt ps 0 2)
      [badLen ps 8, (leAt ps 0 2 > 1023, 0x22), resv ps 2 6, (q.state != 0 && foreign m n (m.pool q.pool).ctx, 0x24)])
    (fun ps m => respond n 0 (seqData (m.seq (leAt ps 0 2))) m))

/-- A pool's status (Table 7-12). -/
def poolData (m : Module) (n : Nat) : List Byte :=
  let p := m.pool n
  let w : KvWork := { seqs := m.kv.seqs }
  let num := fun st => ((poolSeqs m.kv.seqs n).filter (fun s => s.2.state == st)).length
  fields 48 ([(0, 4, freePages p w n), (4, 4, freeCold p w n), (8, 2, num 1), (10, 2, num 2), (12, 2, num 3), (14, 2, freeSlots p w n),
    (16, 8, p.commits)] ++ (List.range 5).map (fun i => (24 + 4 * i, 4, p.ctr.get 0 i)))

/-- KV_POOL_STATUS (R171). -/
def execKvPoolStatus (n : Nat) (s : State) : Res :=
  s.act (command 0x0506 n
    (fun ps m => [badLen ps 8, (leAt ps 1 1 > 1, 0x22), resv ps 2 6] ++ poolParam ps n m)
    (fun ps m =>
      let k := leAt ps 0 1
      let d := poolData m k
      respond n 0 d (if leAt ps 1 1 = 1 then m.setPool k { (m.pool k) with ctr := [] } else m)))

end Sys2Proof.Machine
end

