-- ==== Sys2Proof/WellFormed.lean ====
section
/-!
DEFINITION. Slot words: their fields, the registers they read and write, and what makes one well formed (R79, R80, R83,
R89, R93, R95 to R97). The image loader applies the same checks to every bundle, with the two that need the whole bundle or
image.
-/

namespace Sys2Proof

/-- Field [hi:lo] of a slot word. -/
def fld (w : W32) (hi lo : Nat) : Nat := w.toNat / 2 ^ lo % 2 ^ (hi + 1 - lo)

/-- The opcode, bits [31:26] (Table 4-1 to Table 4-4). -/
def opOf (w : W32) : Nat := fld w 31 26

/-- The bits an opcode of a slot names; every other bit below 26 is reserved. None: the opcode is undefined. -/
def usedBits : Slot → Nat → Option W32
  | _, 0x00 => some 0
  | .control, op =>
    if op = 0x01 then some 0x03FFCFFF
    else if op = 0x02 then some 0x03C00FFF
    else if op = 0x03 then some 0x03FFFFFF
    else if op = 0x04 then some 0x03C0FFFF
    else if op = 0x05 then some 0x03FCFFFF
    else if 0x06 ≤ op && op ≤ 0x0E then some 0x03FFC000
    else if op = 0x10 then some 0x003FC000
    else if 0x11 ≤ op && op ≤ 0x13 then some 0
    else none
  | .move, op =>
    if op = 0x01 || op = 0x18 then some 0x03FFFFFF
    else if op = 0x02 || op = 0x19 || op = 0x1A then some 0x03FFFFFF
    else if op = 0x03 then some 0x03FC27FF
    else if 0x04 ≤ op && op ≤ 0x07 then some 0x03FC07FF
    else if op = 0x08 then some 0x03BC07FF
    else if op = 0x09 then some 0x007C07FF
    else if op = 0x0A then some 0x03C0000F
    else if op = 0x0B || op = 0x0C then some 0x003C0000
    else if op = 0x0D then some 0x003CFFFF
    else if op = 0x10 || op = 0x13 then some 0x03FC003F
    else if op = 0x11 || op = 0x12 || op = 0x14 then some 0x03FFC000
    else if 0x15 ≤ op && op ≤ 0x17 then some 0x003C0000
    else none
  | .mac, op =>
    if op = 0x01 then some 0x03FFE000
    else if op = 0x02 then some 0x03000000
    else if op = 0x03 then some 0x03F00000
    else if op = 0x04 then some 0x03F800FF
    else if op = 0x05 then some 0x03300007
    else if op = 0x06 then some 0x03FC0007
    else none
  | .vector, op =>
    if (0x01 ≤ op && op ≤ 0x06) || op = 0x0D then some 0x03FFE000
    else if 0x07 ≤ op && op ≤ 0x0C then some 0x03FC2000
    else if op = 0x10 then some 0x03FC0000
    else if op = 0x11 then some 0x03FC000F
    else if op = 0x18 then some 0x03FFFFC0
    else if op = 0x19 then some 0x03FFEE00
    else none

/-- A V field at [hi:lo] is above 7 (R79). -/
def vBad (w : W32) (hi lo : Nat) : Bool := fld w hi lo > 7

/-- A grid ID is a preset or a user grid's (R22, R79). -/
def gridIdOk (g : Nat) : Bool := g < 6 || 16 ≤ g

/-- The values R79 and R97 refuse in one word: V fields above 7, odd pairs, a group code of 7, a BR cond of 7, a pack of
3, a k with M clear, a reserved grid ID, a zero SIG amount. A BR cond of 8 to 15, which Table 4-1 neither lists nor calls reserved,
is refused like 7 (notes/assumptions/89). -/
def valuesOk : Slot → W32 → Bool
  | .control, w =>
    if opOf w = 0x01 then fld w 25 22 != 7 && fld w 25 22 < 8
    else if opOf w = 0x10 then fld w 17 14 % 2 = 0
    else true
  | .move, w =>
    if opOf w = 0x04 || opOf w = 0x05 || opOf w = 0x13 || opOf w = 0x14 then !vBad w 25 22
    else if opOf w = 0x0D then fld w 15 0 != 0
    else true
  | .mac, w =>
    if opOf w = 0x04 then !vBad w 25 22
    else if opOf w = 0x05 then fld w 2 0 != 7
    else if opOf w = 0x06 then !vBad w 25 22 && !vBad w 21 18 && fld w 2 0 != 7
    else true
  | .vector, w =>
    let op := opOf w
    let fClear := fld w 13 13 = 0
    if (0x01 ≤ op && op ≤ 0x06) || op = 0x0D then !fClear || !(vBad w 25 22 || vBad w 21 18 || vBad w 17 14)
    else if 0x07 ≤ op && op ≤ 0x0C then !fClear || !(vBad w 25 22 || vBad w 21 18)
    else if op = 0x10 then !vBad w 25 22
    else if op = 0x11 then !vBad w 21 18
    else if op = 0x18 then
      !vBad w 21 18 && gridIdOk (fld w 17 13) && fld w 11 10 != 3 && (fld w 12 12 = 1 || fld w 8 6 = 0)
    else if op = 0x19 then !vBad w 25 22 && gridIdOk (fld w 17 13) && fld w 11 10 != 3
    else true

/-- A slot word is well formed: a defined opcode, reserved bits zero, and values R79 admits. -/
def slotOk (sl : Slot) (w : W32) : Bool :=
  match usedBits sl (opOf w) with
  | none => false
  | some u => (w &&& 0x03FFFFFF &&& ~~~ u) == 0 && valuesOk sl w

/-- A register a slot word names. -/
inductive Reg where
  | t (n : Nat) | a (n : Nat) | v (n : Nat) | s (n : Nat) | p (n : Nat) | q (n : Nat)
deriving DecidableEq, Repr

/-- The registers a slot word writes; a post-increment counts as a write (R79). Q is named by its 32-entry line. -/
def writesOf : Slot → W32 → List Reg
  | .control, w =>
    if 0x02 ≤ opOf w && opOf w ≤ 0x0E then [.s (fld w 25 22)] else []
  | .move, w =>
    let op := opOf w
    if op = 0x01 || op = 0x18 then
      [.t (2 * fld w 25 23), .t (2 * fld w 25 23 + 1)]
        ++ (if fld w 10 10 = 1 then [.s (fld w 22 19), .s (fld w 18 15)] else [])
    else if op = 0x02 || op = 0x19 || op = 0x1A then [.t (fld w 25 22)]
    else if op = 0x04 then [.v (fld w 25 22)]
    else if op = 0x06 || op = 0x0A then [.s (fld w 25 22)]
    else if op = 0x08 then [.q (fld w 25 23)]
    else if op = 0x09 then [.p (fld w 22 22)]
    else if op = 0x11 || op = 0x12 then [.t (fld w 25 22), .s (fld w 17 14)]
    else if op = 0x14 then [.v (fld w 25 22), .s (fld w 17 14)]
    else []
  | .mac, w =>
    let op := opOf w
    if op = 0x01 || op = 0x02 || op = 0x03 || op = 0x05 then [.a (fld w 25 24)]
    else if op = 0x04 || op = 0x06 then [.v (fld w 25 22)]
    else []
  | .vector, w =>
    let op := opOf w
    if 0x01 ≤ op && op ≤ 0x0D then (if fld w 13 13 = 1 then [.s (fld w 25 22)] else [.v (fld w 25 22)])
    else if op = 0x10 || op = 0x19 then [.v (fld w 25 22)]
    else if op = 0x11 then [.s (fld w 25 22)]
    else if op = 0x18 then [.t (fld w 25 22)]
    else []

/-- The accumulator blocks and vector registers a slot word reads: what a reduction's result can hold up (R74, R77). -/
def readsOf : Slot → W32 → List Reg
  | .control, _ => []
  | .move, w => if opOf w = 0x05 || opOf w = 0x13 then [.v (fld w 25 22)] else []
  | .mac, w =>
    let op := opOf w
    if op = 0x01 then (if fld w 13 13 = 1 then [] else [.a (fld w 25 24)])
    else if op = 0x03 then [.a (fld w 23 22), .a (fld w 21 20)]
    else if op = 0x04 || op = 0x05 then [.a (fld w 21 20)]
    else if op = 0x06 then [.v (fld w 21 18)]
    else []
  | .vector, w =>
    let op := opOf w
    let f := fld w 13 13 = 1
    if op = 0x04 then (if f then [] else [.v (fld w 25 22), .v (fld w 21 18), .v (fld w 17 14)])
    else if (0x01 ≤ op && op ≤ 0x06) || op = 0x0D then (if f then [] else [.v (fld w 21 18), .v (fld w 17 14)])
    else if 0x07 ≤ op && op ≤ 0x0C then (if f then [] else [.v (fld w 21 18)])
    else if op = 0x11 || op = 0x18 then [.v (fld w 21 18)]
    else []

/-- The slot of a slot row and the opcode it has there. -/
def Instr.slotOp : Instr → Option (Slot × Nat × W32)
  | .br _ _ w => some (.control, 0x01, w) | .djnz _ _ w => some (.control, 0x02, w)
  | .saddi _ _ w => some (.control, 0x03, w) | .slui _ _ w => some (.control, 0x04, w)
  | .sori _ _ w => some (.control, 0x05, w) | .sadd _ _ w => some (.control, 0x06, w)
  | .ssub _ _ w => some (.control, 0x07, w) | .smul _ _ w => some (.control, 0x08, w)
  | .sand _ _ w => some (.control, 0x09, w) | .sor _ _ w => some (.control, 0x0A, w)
  | .sxor _ _ w => some (.control, 0x0B, w) | .sshl _ _ w => some (.control, 0x0C, w)
  | .sshr _ _ w => some (.control, 0x0D, w) | .ssra _ _ w => some (.control, 0x0E, w)
  | .syncwait _ _ w => some (.control, 0x10, w) | .fence _ _ w => some (.control, 0x11, w)
  | .yield _ _ w => some (.control, 0x12, w) | .halt _ _ w => some (.control, 0x13, w)
  | .ldt2 _ _ w => some (.move, 0x01, w) | .ldt _ _ w => some (.move, 0x02, w)
  | .stt _ _ w => some (.move, 0x03, w) | .ldv _ _ w => some (.move, 0x04, w)
  | .stv _ _ w => some (.move, 0x05, w) | .lds _ _ w => some (.move, 0x06, w)
  | .sts _ _ w => some (.move, 0x07, w) | .ldq _ _ w => some (.move, 0x08, w)
  | .ldp _ _ w => some (.move, 0x09, w) | .srr _ _ w => some (.move, 0x0A, w)
  | .movd _ _ w => some (.move, 0x0B, w) | .rmo _ _ w => some (.move, 0x0C, w)
  | .sig _ _ w => some (.move, 0x0D, w) | .sqpush _ _ w => some (.move, 0x10, w)
  | .sqpop _ _ w => some (.move, 0x11, w) | .sqpopw _ _ w => some (.move, 0x12, w)
  | .sqpushv _ _ w => some (.move, 0x13, w) | .sqpopv _ _ w => some (.move, 0x14, w)
  | .sqmark _ _ w => some (.move, 0x15, w) | .sqrewind _ _ w => some (.move, 0x16, w)
  | .sqrelease _ _ w => some (.move, 0x17, w) | .ldt2s _ _ w => some (.move, 0x18, w)
  | .ldtsl _ _ w => some (.move, 0x19, w) | .ldtsr _ _ w => some (.move, 0x1A, w)
  | .mac _ _ w => some (.mac, 0x01, w) | .aclr _ _ w => some (.mac, 0x02, w)
  | .pcomb _ _ w => some (.mac, 0x03, w) | .cvt _ _ w => some (.mac, 0x04, w)
  | .redi _ _ w => some (.mac, 0x05, w) | .redf _ _ w => some (.mac, 0x06, w)
  | .vadd _ _ w => some (.vector, 0x01, w) | .vsub _ _ w => some (.vector, 0x02, w)
  | .vmul _ _ w => some (.vector, 0x03, w) | .vfma _ _ w => some (.vector, 0x04, w)
  | .vmin _ _ w => some (.vector, 0x05, w) | .vmax _ _ w => some (.vector, 0x06, w)
  | .vneg _ _ w => some (.vector, 0x07, w) | .vabs _ _ w => some (.vector, 0x08, w)
  | .vrsqrt _ _ w => some (.vector, 0x09, w) | .vrcp _ _ w => some (.vector, 0x0A, w)
  | .vi2f _ _ w => some (.vector, 0x0B, w) | .vf2i _ _ w => some (.vector, 0x0C, w)
  | .viadd _ _ w => some (.vector, 0x0D, w) | .vbc _ _ w => some (.vector, 0x10, w)
  | .vget _ _ w => some (.vector, 0x11, w) | .qnt _ _ w => some (.vector, 0x18, w)
  | .deq _ _ w => some (.vector, 0x19, w)
  | _ => none

/-- A command is well formed: a slot row carries a well-formed word of its own opcode; every other command's operands
are checked by its meaning. -/
def Instr.wf (i : Instr) : Bool :=
  match i.slotOp with
  | some (sl, op, w) => opOf w == op && slotOk sl w
  | none => true

end Sys2Proof
end

