-- ==== Sys2Proof/Decode.lean ====
section
/-!
DEFINITION. The command a word of spec/opcode_table.json spells: no row of the table gives bits, so no word spells one.
-/

namespace Sys2Proof

/-- The command spelled by nbits bits of a table word: none, since no row of the table has bits. -/
def decodeTableWord (_nbits _w : Nat) : Option Instr := none

end Sys2Proof
end

