-- ==== Sys2Proof/Machine/Flags.lean ====
section
/-!
DEFINITION. The flags of accumulator elements: sticky overflow and poison in a MAC (R36, R37, R90), in an integer
combination (R39, R48), and an engine's sticky conversion bits (R43, R91).
-/

namespace Sys2Proof.Machine

/-- Whether an exact integer lies outside int32. -/
def outside32 (v : Int) : Bool := v < -2147483648 || v > 2147483647

/-- One element of a MAC (R36, R37, R90): z starts it at zero with both flags clear. -/
def macElem (p : PTab) (split z : Bool) (l r : Tile) (old : Acc) (i j : Nat) : Acc :=
  let ts := macTerms p split l.code r.code i j
  let base : Acc := if z then {} else old
  let sum := base.val.toInt + (ts.map Prod.fst).sum
  { val := BitVec.ofInt 32 sum
    ovf := base.ovf || outside32 sum
    poi := base.poi || l.poison || r.poison || ts.any Prod.snd }

/-- k × a + b element by element with the flags of R39: an input's flag, or an exact result outside int32. -/
def combine (k : Int) (a b : Acc) : Acc :=
  let v := k * a.val.toInt + b.val.toInt
  { val := BitVec.ofInt 32 v, ovf := a.ovf || b.ovf || outside32 v, poi := a.poi || b.poi }

/-- One element of an int32 sum of any number of inputs (R39, R73): the flags depend on the inputs alone, never on the order of
their combination. -/
def sumElem (xs : List Acc) : Acc :=
  let v := (xs.map (·.val.toInt)).sum
  { val := BitVec.ofInt 32 v, ovf := xs.any (·.ovf) || outside32 v, poi := xs.any (·.poi) }

/-- A block's elements set an engine's sticky conversion bits when they are converted (R43, R91). -/
def stickyConv (els : List Acc) (e : Engine) : Engine :=
  { e with convPoison := e.convPoison || els.any (·.poi), convOvf := e.convOvf || els.any (·.ovf) }

end Sys2Proof.Machine
end

