-- ==== Sys2Proof/Machine/QueueOps.lean ====
section
/-!
DEFINITION. What the stream-queue manager does with a queue's words and positions (chapter 8), and the diverse checker
that taps them (R378 to R380).
-/

namespace Sys2Proof.Machine

/-! ### The checker (R378 to R380) -/

/-- A lane pair agrees (R379): bitwise equal and no NaN, or both finite and within the tolerance, in binary32. -/
def lanesAgree (c : Checker) (a b : W32) : Bool :=
  (a == b && !isNan a) ||
    (isFin a && isFin b &&
      (let tol := flAdd c.absTol (flMul c.relTol (flMax (flAbs a) (flAbs b)))
       !isNan tol && flLe (flAbs (flSub a b)) tol))

/-- The lanes of a packet in the SQPUSHV layout (R88). -/
def lanesOf (p : ChkPacket) : List W32 := p.words.flatMap (fun w => [lo32 w.1, hi32 w.1])

/-- Judge a pair (R379): none where it agrees, else its first failing lane, 0xFF for the count, KIND or P. -/
def judgePair (c : Checker) (p k : ChkPacket) : Option Nat :=
  if p.words.length != k.words.length
    || (p.words.head?.map (fun w => w.2.toNat % 16)) != (k.words.head?.map (fun w => w.2.toNat % 16))
    || p.words.any (fun w => w.2.getLsbD 6) || k.words.any (fun w => w.2.getLsbD 6) then some 0xFF
  else ((lanesOf p).zip (lanesOf k)).findIdx? (fun l => !lanesAgree c l.1 l.2)

def Module.checker (m : Module) (ch : Nat) : Checker := m.safety.checkers.get {} ch
def Module.setChecker (m : Module) (ch : Nat) (v : Checker) : Module :=
  { m with safety := { m.safety with checkers := m.safety.checkers.put {} ch v } }

/-- A channel trips (R380): by 1 RUN_MAX, 2 WIN_MAX, 3 buffer overflow. -/
def checkerTrip (ch by_ : Nat) (m : Module) : Module :=
  let c := m.checker ch
  if c.tripped then m
  else
    let m := event 0x0B13 0 [(0, 1, ch), (1, 1, by_)] (m.setChecker ch { c with tripped := true })
    let m := if c.action.getLsbD 0 then raiseCause 2 m else m
    if c.action.getLsbD 1 then askHold 2 m else m

/-- Record a pair's verdict (R380). -/
def checkerVerdict (ch : Nat) (v : Option Nat) (m : Module) : Module :=
  let c := m.checker ch
  let last := (v.isSome :: c.last64).take 64
  let run := if v.isSome then c.run + 1 else 0
  let m1 := m.setChecker ch { c with pairs := c.pairs + 1, run := min run 255, last64 := last }
  match v with
  | none => m1
  | some lane =>
    let m2 := event 0x0B12 0 [(0, 1, ch), (1, 1, lane), (4, 4, c.pairs)] (safeCount (6 + ch) m1)
    if run ≥ c.runMax then checkerTrip ch 1 m2
    else if c.winMax != 0 && (last.filter id).length ≥ c.winMax then checkerTrip ch 2 m2 else m2

/-- Whether one packet's EOP came more than PAIR_US after the other's (R378). -/
def apart (c : Checker) (p k : ChkPacket) : Bool :=
  decide (p.at_ + c.pairUs * usUnit < k.at_) || decide (k.at_ + c.pairUs * usUnit < p.at_)

/-- Judge the pairs that are complete on both sides (R378): one whose packets lie more than PAIR_US apart disagrees, and the late
partner is discarded and counted. -/
def checkerPairs : Nat → Nat → Module → Module
  | 0, _, m => m
  | n + 1, ch, m =>
    let c := m.checker ch
    match c.bufP, c.bufC with
    | p :: ps, k :: ks =>
      if p.done && k.done && !c.tripped then
        let m := m.setChecker ch { c with bufP := ps, bufC := ks }
        checkerPairs n ch (if apart c p k then checkerVerdict ch (some 0xFF) (safeCount 14 m) else checkerVerdict ch (judgePair c p k) m)
      else m
    | _, _ => m

/-- Append a word to a side's packets (R378): a word after an EOP opens a packet. -/
def tapWord (now : Nat) (buf : List ChkPacket) (w : SqWord) : List ChkPacket :=
  let eop := w.tag.getLsbD 4
  match buf.getLast? with
  | some p =>
    if p.done then buf ++ [⟨[(w.data, w.tag)], eop, now⟩]
    else buf.dropLast ++ [⟨p.words ++ [(w.data, w.tag)], eop, now⟩]
  | none => [⟨[(w.data, w.tag)], eop, now⟩]

/-- Whether a side overflows its packets of 32 words, or its 16 packets (R378). -/
def packetFull (buf : List ChkPacket) : Bool := buf.any (fun p => p.words.length > 32)
def sideFull (buf : List ChkPacket) : Bool := buf.length > 16

/-- Discard complete packets whose partner was given up (R378). -/
def dropLate : Nat → List ChkPacket → List ChkPacket × Nat
  | 0, b => (b, 0)
  | n + 1, p :: ps => if p.done then ((dropLate n ps).1, (dropLate n ps).2 + 1) else (p :: ps, 0)
  | _ + 1, [] => ([], 0)

/-- A channel taps a word accepted by one of its queues (R378): a packet of more than 32 words trips it, judged or not. -/
def tapOne (q : Nat) (w : SqWord) (m : Module) (ch : Nat) : Module :=
  let c := m.checker ch
  if !c.enable || c.tripped then m
  else
    let p := if c.primary = q then tapWord m.time.elapsed c.bufP w else c.bufP
    let k := if c.check = q then tapWord m.time.elapsed c.bufC w else c.bufC
    let dp := dropLate c.lateP p
    let dk := dropLate c.lateC k
    let m := m.setChecker ch { c with
      bufP := dp.1, bufC := dk.1, lateP := c.lateP - dp.2, lateC := c.lateC - dk.2 }
    let m := { m with safety := { m.safety with ctr := bumpBy m.safety.ctr 14 (dp.2 + dk.2) } }
    if packetFull p || packetFull k then checkerTrip ch 3 m else
    let m := checkerPairs 16 ch m
    if sideFull (m.checker ch).bufP || sideFull (m.checker ch).bufC then checkerTrip ch 3 m else m

/-- Every channel taps a word. -/
def tapAll (q : Nat) (w : SqWord) (m : Module) : Module := (List.range 8).foldl (tapOne q w) m

/-! ### Positions (R173, R185) -/

/-- C (R173). -/
def capacity (v : Queue) : Nat := 2 ^ (v.log2 - 3)
/-- Words accepted and not popped (R173). -/
def occupancy (v : Queue) : Nat := v.main.wp - v.main.rp
/-- Free slots (R173). -/
def freeCount (v : Queue) : Nat := capacity v - (v.main.wp - v.main.lp)

/-- WRITE_POS advances. -/
def Positions.accept (p : Positions) (n : Nat) : Positions := { p with wp := p.wp + n }
/-- READ_POS advances; on automatic release RELEASE_POS and MARK_POS follow it (R180). -/
def Positions.pop (p : Positions) (auto : Bool) (n : Nat) : Positions :=
  if auto then { p with rp := p.rp + n, mp := p.rp + n, lp := p.rp + n } else { p with rp := p.rp + n }
/-- SQMARK (R181). -/
def Positions.mark (p : Positions) : Positions := { p with mp := p.rp }
/-- SQREWIND (R181). -/
def Positions.rewind (p : Positions) : Positions := { p with rp := p.mp }
/-- SQRELEASE (R181). -/
def Positions.release (p : Positions) : Positions := { p with lp := p.rp, mp := p.rp }
/-- SQ_RESET (Table 8-5). -/
def Positions.clear (p : Positions) : Positions := { p with rp := p.wp, mp := p.wp, lp := p.wp }

/-- Both copies change by the same operation, each through its own adder (R185). -/
def movePos (v : Queue) (f : Positions → Positions) : Queue := { v with main := f v.main, shadow := f v.shadow }

/-- Whether a checker channel is bound to the queue. -/
def tapped (m : Module) (q : Nat) : Bool :=
  (List.range 8).any (fun ch => (m.checker ch).enable && ((m.checker ch).primary == q || (m.checker ch).check == q))

/-- A queue becomes FAULTED (R185), its copies as found: event 0x0611, its contexts faulted with kind 0x06, and the
QUEUE cause when it is bound to Trellis, a CSI-2 port or a checker channel (Table 18-3). -/
def faultQueue (q : Nat) (m : Module) : Module :=
  let v := m.queue q
  let ks := (List.range 64).filter (fun k => boundTo v k)
  let m := event 0x0611 0 [(0, 2, q)] (m.setQueue q { v with state := 3, mismatch := v.mismatch || v.main != v.shadow })
  let m := if v.prodKind = 2 || v.consKind = 2 || v.consKind = 3 || tapped m q then raiseCause 6 m else m
  ks.foldl (fun m k => ctxFault k 6 m) m

/-- The comparison after every update (R185), by a comparator that works (R186). -/
def comparePos (q : Nat) (m : Module) : Module :=
  let v := m.queue q
  if v.state = 1 && v.main != v.shadow && !m.safety.cmpDead.get false q then faultQueue q m else m

/-! ### Head, tail and spill region (R175) -/

/-- Position of the first word of the tail. -/
def tailStart (v : Queue) : Nat := v.main.wp - v.tail.length
/-- Position after the last word of the head. -/
def headEnd (v : Queue) : Nat := v.main.rp + v.head.length

/-- The tag as memory keeps it, and the V bit the SQM sets (R172). -/
def withV (t : BitVec 8) : BitVec 8 := t ||| 0x80

/-- The SID of a queue's spill traffic (R175). -/
def spillSid (m : Module) (v : Queue) : W16 := sidOf m v.owner 0x23

/-- The first slot of the group of a position. -/
def groupSlot (v : Queue) (k : Nat) : Nat := k / 8 * 8 % capacity v

/-- The word a position has in the buffers: in the tail or, before it, in the head; a position that was popped already has none
there, and what its slot is written with is open (notes/assumptions/102). -/
def bufferWord (m : Module) (v : Queue) (k : Nat) : SqWord :=
  if tailStart v ≤ k then v.tail.getD (k - tailStart v) ⟨0, 0, false⟩
  else if v.main.rp ≤ k && k < headEnd v then v.head.getD (k - v.main.rp) ⟨0, 0, false⟩
  else ⟨Config.freeValue (m.freeCount + k % 8), (Config.freeValue (m.freeCount + k % 8)).extractLsb' 56 8, false⟩

/-- Write the group that the tail's first word lies in: one 64-byte data line and one 8-byte tag word (R175). -/
def spillGroup (v : Queue) (m : Module) : Module :=
  let g := tailStart v / 8 * 8
  let s := groupSlot v g
  let ws := (List.range 8).map (fun i => bufferWord m v (g + i))
  let m := if g < tailStart v then freeSkip m 8 else m
  let m := writeWords ((v.spillBase + 8 * s) / 8) (ws.map (fun w => (w.data, false))) m
  writeWords ((v.tagBase + s) / 8) [(BitVec.ofNat 64 (leNat (ws.map (·.tag))), false)] m

/-- Write the tail's oldest group, n words of it, to the spill region and drop them from it; the firewall checks the line
with the owning context's SID and refuses it under R15 otherwise (R175, R370). -/
def spillTail (q n : Nat) (m : Module) : Module :=
  let v := m.queue q
  let s := groupSlot v (tailStart v)
  let dropped := m.setQueue q { v with tail := v.tail.drop n }
  if !fwAllows m (spillSid m v) .write (v.spillBase + 8 * s) 64 then
    ctxFault v.owner 4 (countRefused (spillSid m v) .write (v.spillBase + 8 * s) 64 dropped)
  else if !fwAllows m (spillSid m v) .write (v.tagBase + s) 8 then
    ctxFault v.owner 4 (countRefused (spillSid m v) .write (v.tagBase + s) 8 dropped)
  else (spillGroup v m).setQueue q { v with tail := v.tail.drop n }

/-- Words of the group that position k opens or lies in, from k on. -/
def groupLeft (k : Nat) : Nat := 8 - k % 8

/-- The tail passes words to the head while the next word of the head is in the tail: moved on automatic release,
copied on explicit release, where the tail keeps each word until its group is written (R175). -/
def passOn (v : Queue) : Queue :=
  let i := headEnd v - tailStart v
  if headEnd v < tailStart v then v
  else
    let ws := (v.tail.drop i).take (16 - v.head.length)
    if v.auto then { v with head := v.head ++ ws, tail := v.tail.drop (i + ws.length) }
    else { v with head := v.head ++ ws }

/-- Whether the tail is to write its oldest group (R175): on explicit release a group that is complete; on automatic
release only beyond an occupancy of 32, where the tail is full (notes/assumptions/77). -/
def spillDue (v : Queue) : Bool :=
  if v.auto then decide (16 ≤ v.tail.length) && decide (32 < occupancy v)
  else decide (groupLeft (tailStart v) ≤ v.tail.length)

/-- Whether a refill is due (R175): the head holds eight words or fewer and the next word lies in the spill region. -/
def refillDue (v : Queue) : Bool := v.state = 1 && decide (v.head.length ≤ 8) && decide (headEnd v < tailStart v)

/-- Read a word of position k back: a poisoned data word has P set, a poisoned tag word has V and P set (R184). -/
def unspill (v : Queue) (m : Module) (k : Nat) : SqWord :=
  let s := k % capacity v
  let dw := (v.spillBase + 8 * s) / 8
  let tw := (v.tagBase + s) / 8
  let tag := memByte m.mem (v.tagBase + s)
  let p := wordPoison m.mem dw || wordPoison m.mem tw
  { data := wordData m.mem dw, tag := withV (if p then tag ||| 0x40 else tag), perr := false }

/-- The uncorrectable errors that a read of n words meets; a DDR4 unit has one (R106, R189). -/
def badUnits (m : Module) (w n : Nat) : Nat :=
  (((List.range n).map (fun i => errWord (w + i))).dedup.filter (fun u => errOf m.mem u = 2)).length

/-- A refill reads the eight words of one group (R175), under the owning context's SID (R370), and the head takes those it does not
hold; uncorrectable errors are counted (R189). -/
def refillGroup (q : Nat) (m : Module) : Module :=
  let v := m.queue q
  let k := headEnd v
  let n := min (groupLeft k) (tailStart v - k)
  let s := groupSlot v k
  if !fwAllows m (spillSid m v) .read (v.spillBase + 8 * s) 64 then
    ctxFault v.owner 4 (countRefused (spillSid m v) .read (v.spillBase + 8 * s) 64 m)
  else if !fwAllows m (spillSid m v) .read (v.tagBase + s) 8 then
    ctxFault v.owner 4 (countRefused (spillSid m v) .read (v.tagBase + s) 8 m)
  else
    let dw := (v.spillBase + 8 * s) / 8
    let tw := (v.tagBase + s) / 8
    let bad := badUnits m dw 8 + badUnits m tw 1
    let ws := (List.range n).map (fun i => unspill v m (k + i))
    let m := countReads 1 tw false (countReads 8 dw false m)
    m.setQueue q { v with head := v.head ++ ws, ctr := bumpBy v.ctr 1 bad }

/-- Whether words wait in a full tail of an automatic-release queue that may not spill them (R175): the refill that is due comes
first, and they pass after it. -/
def refillFirst (v : Queue) : Bool := v.auto && decide (16 < v.tail.length) && refillDue v

/-- The buffers settle after an acceptance, a pop or a rewind (R175): words pass to the head, and the tail writes the
groups that are due. At most four groups move. -/
def settle : Nat → Nat → Module → Module
  | 0, _, m => m
  | n + 1, q, m =>
    let v := passOn (m.queue q)
    let m := m.setQueue q v
    if spillDue v then settle n q (spillTail q (groupLeft (tailStart v)) m)
    else if refillFirst v then settle n q (refillGroup q m)
    else m

/-- A refill (R175), and what passes after it. -/
def refill (q : Nat) (m : Module) : Module := settle 4 q (refillGroup q m)

/-! ### Acceptance and pops (R176 to R184) -/

/-- One notice increment (R182, R183). -/
def notice (q : Nat) (m : Module) : Module := syncAdd (m.queue q).noticeSync 1 m

/-- What follows the acceptance of a word: PACKETS, the packet notice of forms S and M, the watchdog of source 1, the
checker's tap (R182, R188, R373, R378). -/
def acceptedWord (q : Nat) (m : Module) (w : SqWord) : Module :=
  let m := tapAll q w m
  if w.tag.getLsbD 4 then
    let v := m.queue q
    let m := m.setQueue q { v with packets := v.packets + 1 }
    kickSource 1 q (if v.notices && v.form != 2 then notice q m else m)
  else m

/-- The EOP words among those accepted, for a queue that a transmit port consumes (R328). -/
def eopMarks (v : Queue) (ws : List SqWord) (now : Nat) : List (Nat × Nat) :=
  if v.consKind = 3 then (ws.zipIdx.filter (fun w => w.1.tag.getLsbD 4)).map (fun w => (v.main.wp + w.2, now)) else []

/-- Accept words into an ACTIVE queue with room (R176, R177): they become valid together; an L queue's upward crossing
of LEVEL makes one notice and event 0x0610 (R183). -/
def acceptWords (q : Nat) (ws : List SqWord) (m : Module) : Module :=
  let v := m.queue q
  let ws := ws.map (fun w => { w with tag := withV w.tag })
  let before := occupancy v
  let v1 := movePos { v with tail := v.tail ++ ws, eops := v.eops ++ eopMarks v ws m.time.now } (·.accept ws.length)
  let m := ws.foldl (acceptedWord q) (m.setQueue q v1)
  let m := if v.notices && v.form = 2 && decide (before < v.level) && decide (v.level ≤ before + ws.length) then
      let m := notice q (m.setQueue q { (m.queue q) with ctr := bump (m.queue q).ctr 3 })
      event 0x0610 0 [(0, 2, q), (8, 8, v1.main.wp)] m
    else m
  comparePos q (settle 4 q m)

/-- Whether a peripheral is bound to a queue: intake stream `id` (kind 1) or Trellis (kind 2) as its producer, Trellis (2) or a
transmit port (3) as its consumer (R189: a queue that is destroyed is bound to none, whatever the peripheral still names). -/
def producedBy (v : Queue) (kind id : Nat) : Bool := v.state != 0 && v.prodKind == kind && v.prodId == id
def consumedBy (v : Queue) (kind id : Nat) : Bool := v.state != 0 && v.consKind == kind && v.consId == id

/-- Whether a push of n words can be accepted (R176, R185, R187). -/
def canAccept (v : Queue) (n : Nat) : Bool := v.state = 1 && decide (n ≤ freeCount v)

/-- Put a waiting push in ascending SID order (R177). -/
def insertWaiting (p : WaitPush) : List WaitPush → List WaitPush
  | [] => [p]
  | w :: ws => if p.sid.toNat < w.sid.toNat then p :: w :: ws else w :: insertWaiting p ws

/-- Whether a producer still waits to push: an engine that has faulted or is to park issues nothing more (R99, R101). -/
def stillPushes (m : Module) : Producer → Bool
  | .engine c e => slotRun (m.eng c e) && !(m.core c).stopping
  | _ => true

/-- The first waiting push, in ascending SID order, that can be accepted (R176, R177). -/
def acceptable (m : Module) (v : Queue) : Option WaitPush :=
  v.waiting.find? (fun w => canAccept v w.words.length && stillPushes m w.who)

/-- A push presents (R176): accepted at once where there is room and no push that waits is to be accepted before it, else
it waits and counts one push hold. The Bool says whether it was accepted. -/
def present (q : Nat) (p : WaitPush) (m : Module) : Module × Bool :=
  let v := m.queue q
  if (acceptable m v).isNone && canAccept v p.words.length then (acceptWords q p.words m, true)
  else (m.setQueue q { v with waiting := insertWaiting p v.waiting, ctr := bump v.ctr 2 }, false)

/-- Take back the waiting push of a producer: a park finds it without effect (R99). -/
def withdrawPush (q : Nat) (who : Producer) (m : Module) : Module :=
  let v := m.queue q
  m.setQueue q { v with waiting := v.waiting.filter (fun w => w.who != who) }

/-- Whether the word at READ_POS, and n − 1 more, are in the head. -/
def headHas (v : Queue) (n : Nat) : Bool := decide (n ≤ v.head.length)

/-- A word as a pop delivers it: a parity error sets P (R184). -/
def delivered (w : SqWord) : SqWord := if w.perr then { w with tag := w.tag ||| 0x40, perr := false } else w

/-- Pop n words that the head holds (R177, R178, R180, R184). -/
def popWords (q n : Nat) (m : Module) : Module × List SqWord :=
  let v := m.queue q
  let ws := v.head.take n
  let bad := (ws.filter (·.perr)).length
  let v1 := movePos { v with
    head := v.head.drop n
    paritySeen := v.paritySeen || bad != 0
    ctr := bumpBy v.ctr 0 bad } (·.pop v.auto n)
  let m := m.setQueue q v1
  let m := (List.range bad).foldl (fun m _ => healthEvent 0x23 5 q 0xFF m) m
  (comparePos q (settle 4 q m), ws.map delivered)

/-- SQMARK, SQREWIND and SQRELEASE on an explicit-release queue (R181); a rewind discards the head. -/
def moveMark (q : Nat) (f : Positions → Positions) (dropHead : Bool) (m : Module) : Module :=
  let v := m.queue q
  let v1 := movePos { v with head := if dropHead then [] else v.head } f
  comparePos q (settle 4 q (m.setQueue q v1))

/-- Bits of a tag that a producer supplies: P, SOP, EOP, KIND (R172). -/
def mkTag (p sop eop : Bool) (kind : Nat) : BitVec 8 :=
  BitVec.ofNat 8 ((if p then 64 else 0) + (if sop then 32 else 0) + (if eop then 16 else 0) + kind % 16)

/-- Whether the occupancy stands at or above LEVEL (Table 8-4 ABOVE_LEVEL). -/
def aboveLevel (v : Queue) : Bool := v.form = 2 && v.notices && decide (v.level ≤ occupancy v)

/-- The STATUS word of the control block (Table 8-4). -/
def sqStatusWord (v : Queue) : Nat :=
  v.state * 2 ^ 30 + v.form * 2 ^ 28 + (if v.mismatch then 2 ^ 27 else 0) + (if v.paritySeen then 2 ^ 26 else 0)
    + (if aboveLevel v then 2 ^ 25 else 0) + (if v.auto then 2 ^ 24 else 0)

/-- The control block's first 64 bytes (Table 8-4). -/
def sqBlock (v : Queue) : List Byte :=
  if v.state = 0 then List.replicate 64 0
  else fields 64 [(0, 4, sqStatusWord v), (8, 8, v.main.wp), (16, 8, v.main.rp), (24, 8, v.main.mp), (32, 8, v.main.lp),
    (40, 4, capacity v), (44, 4, v.level), (48, 8, v.packets)]

/-- A byte of the control block (R188): unlisted offsets read as zero. -/
def sqByte (v : Queue) (off : Nat) : Byte :=
  if v.state = 0 then 0
  else if off < 64 then (sqBlock v).getD off 0
  else if 0x108 ≤ off && off < 0x128 then (posBytes v.shadow).getD (off - 0x108) 0
  else 0

end Sys2Proof.Machine
end

