-- ==== Sys2Proof/Machine/Operands.lean ====
section
/-!
DEFINITION. Slot-word operands: register reads and writes, scratchpad addresses and accesses (R63, R64, R83 to R87), and
how a bundle issues: the control word opens it, its other words then read the registers as they stood (R77).
-/

namespace Sys2Proof.Machine

/-! ### Registers (Table 3-1) -/

def Regs.tile (r : Regs) (i : Nat) : Tile := r.t.get {} i
def Regs.scalar (r : Regs) (i : Nat) : W32 := r.s.get 0 i
def Regs.lane (r : Regs) (i l : Nat) : W32 := r.v.get 0 (16 * i + l)
def Regs.vec (r : Regs) (i : Nat) : List W32 := r.v.row 0 (16 * i) 16
def Regs.elem (r : Regs) (k n : Nat) : Acc := r.a.get {} (16 * k + n)
def Regs.block (r : Regs) (k : Nat) : List Acc := r.a.row {} (16 * k) 16
def Regs.scale (r : Regs) (i : Nat) : W16 := r.q.get 0 (i % 256)
def Regs.ptab (r : Regs) (i : Nat) : PTab := if i = 0 then r.p0 else r.p1
def Regs.setTile (r : Regs) (i : Nat) (v : Tile) : Regs := { r with t := r.t.put {} i v }
def Regs.setScalar (r : Regs) (i : Nat) (v : W32) : Regs := { r with s := r.s.put 0 i v }
def Regs.setVec (r : Regs) (i : Nat) (l : List W32) : Regs := { r with v := r.v.putRow 0 (16 * i) l }
def Regs.setBlock (r : Regs) (k : Nat) (l : List Acc) : Regs := { r with a := r.a.putRow {} (16 * k) l }
def Regs.setScales (r : Regs) (i : Nat) (l : List W16) : Regs :=
  { r with q := (l.zipIdx).foldl (fun t p => t.put 0 ((i + p.2) % 256) p.1) r.q }
def Regs.setPtab (r : Regs) (i : Nat) (p : PTab) : Regs := if i = 0 then { r with p0 := p } else { r with p1 := p }

/-- A scalar pair as a 64-bit value {S(k + 1), S(k)} (Table 4-1). -/
def Regs.pair (r : Regs) (k : Nat) : Nat := (r.scalar (k + 1)).toNat * 2 ^ 32 + (r.scalar k).toNat

/-- A signed field of n bits. -/
def signed (n v : Nat) : Int := if v ≥ 2 ^ (n - 1) then (v : Int) - 2 ^ n else v

/-! ### Scratchpad addresses (R63, R85) -/

/-- A local offset from a scalar base and a scaled immediate, as an exact sum: misaligned is kind 0x02, outside
0 to 0x7_FFFF kind 0x03 (R63, R85; notes/assumptions/20). -/
def address (base : W32) (imm : Int) (align len : Nat) : Except Nat Nat :=
  let a := (base.toNat : Int) + imm
  if a % align != 0 then .error 2
  else if a < 0 || a + len > 0x80000 then .error 3
  else .ok a.toNat

/-- The byte address of a local offset. -/
def local_ (c off : Nat) : Nat := spadBase c + off

/-- Words of the scratchpad that a read of n bytes at an offset touches, as delivered, with the errors counted. -/
def spadRead (c off n : Nat) (m : Module) : Module × List Byte × Bool :=
  let w := local_ c off / 8
  let k := (local_ c off + n + 7) / 8 - w
  (countReads k w false m, memBytes m.mem (local_ c off) n, (List.range k).any (fun i => wordPoison m.mem (w + i)))

/-- A tile read in the contiguous form (R64): 8 bytes at an aligned offset. -/
def tileAt (c off : Nat) (m : Module) : Module × Tile :=
  let r := spadRead c off 8 m
  (r.1, ⟨BitVec.ofNat 64 (leNat r.2.1), r.2.2⟩)

/-- A tile read in the strided form (R64): four 2-byte segments; the offsets wrap modulo 512 KiB. -/
def tileStrided (c off s : Nat) (m : Module) : Module × Tile :=
  (List.range 4).foldl (fun acc r =>
    let x := spadRead c ((off + r * s) % 0x80000) 2 acc.1
    (x.1, ⟨acc.2.code ||| BitVec.ofNat 64 (leNat x.2.1 * 2 ^ (16 * r)), acc.2.poison || x.2.2⟩)) (m, ⟨0, false⟩)

/-- The transposition an operation selects (R64): rows and columns of the source layout and the field width. -/
def transposed (b rows cols : Nat) (on : Bool) (t : Tile) : Tile :=
  if on then { t with code := transposeTile b rows cols t.code } else t

/-! ### How a bundle issues (R77, R80, R81) -/

/-- A slot word of bundle b in core c's program store: Vector in bytes 0 to 3, then MAC, Move and Control (R65). -/
def storeWord (m : Module) (c b : Nat) (sl : Slot) : W32 :=
  let off := match sl with | .vector => 0 | .mac => 4 | .move => 8 | .control => 12
  BitVec.ofNat 32 (leNat (memBytes m.mem (progBase c + 16 * b + off) 4))

/-- Whether an uncorrectable error lies in bundle b (R66). -/
def fetchBad (m : Module) (c b : Nat) : Bool :=
  errOf m.mem ((progBase c + 16 * b) / 8) = 2 || errOf m.mem ((progBase c + 16 * b) / 8 + 1) = 2

/-- The registers that the engine's outstanding reduction will write (R74). -/
def pendingDest (m : Module) (c e : Nat) : List Reg :=
  (m.core c).red.flatMap (fun i => (i.parts.filter (fun p => p.eng == e)).map (fun p => if i.float then Reg.v p.dest else Reg.a p.dest))

/-- Whether the bundle at the PC waits for the engine's reduction: it reads the destination, or names a second
reduction (R74, R75). -/
def redStall (m : Module) (c e b : Nat) : Bool :=
  (m.eng c e).redOut &&
    (let reads := [Slot.control, .move, .mac, .vector].flatMap (fun sl => readsOf sl (storeWord m c b sl))
     let op := opOf (storeWord m c b .mac)
     reads.any (fun r => (pendingDest m c e).contains r) || op = 0x05 || op = 0x06)

/-- Whether a control word presents: the engine issues and is under no forced stop, no bundle is open, and the word is the one its
PC names. -/
def ctlPresents (m : Module) (c e : Nat) (w : W32) : Bool :=
  let v := m.eng c e
  v.run = .issuing && !(m.core c).stopReq && !anyLeft v && decide (v.pc.toNat < (m.core c).bundles) && storeWord m c v.pc.toNat .control == w

/-- Open the bundle at the PC: what its slots read is fixed; the words that do nothing are already done; the bundle at PC + 1
follows. A bundle finds the writes of every earlier one: of two writes to one register, the later bundle's stands, whichever
completes first, but for a reduction's result (R78 settles only those of one cycle, notes/assumptions/62). -/
def openBundle (m : Module) (c : Nat) (v : Engine) : Engine :=
  let b := v.pc.toNat
  { v with
    src := v.nxt, bpc := v.pc, pc := v.pc + 1, hold := .free
    mvLeft := opOf (storeWord m c b .move) != 0
    mcLeft := opOf (storeWord m c b .mac) != 0
    vcLeft := opOf (storeWord m c b .vector) != 0
    offEnd := b + 1 = (m.core c).bundles }

/-- What the last slot of a bundle ends: an engine with a failed operation stops, before its next bundle (R122); at the image's
end, without a branch or HALT, the engine faults with kind 0x07 (R81). -/
def closeBundle (c e : Nat) (m : Module) : Module :=
  let v := m.eng c e
  if anyLeft v || !slotRun v then m
  else if v.fault.isSome then m.setEng c e { v with run := .faulted }
  else if v.offEnd && v.run = .issuing then
    (engFault c e 7 m).updEng c e (fun v => { v with offEnd := false })
  else m

/-- What comes before a control word that presents takes effect: a parity error in the engine's registers or product tables
faults with kind 0x06 and counts its physical engine as failed (R55, R101); so does an uncorrectable program-store error, which
counts against the core (R66); a bundle that needs the outstanding reduction's result waits (R74, R75). -/
def controlGate (c e : Nat) (w : W32) (go : Module → Module) (m : Module) : Module :=
  if !ctlPresents m c e w then m
  else
    let v := m.eng c e
    if v.parity then
      engFault c e 6 (withdrawBad c (engineFails c 6 (m.updEng c e (fun v => { v with bpc := v.pc })) ((m.core c).graft.getD e e)))
    else if fetchBad m c v.pc.toNat then
      let m := m.updCore c (fun k => { k with progErrors := sat32 (k.progErrors + 1) })
      engFault c e 6 (healthEvent c 3 c 0xFF (m.updEng c e (fun v => { v with bpc := v.pc })))
    else if redStall m c e v.pc.toNat then m.updEng c e (fun v => { v with hold := .reduction })
    else go m

/-- The bundle at the PC issues; `op` is its control word's effect on the engine. -/
def issueBundle (c e : Nat) (op : Engine → Engine) (m : Module) : Module :=
  closeBundle c e (m.setEng c e (op (openBundle m c (m.eng c e))))

/-- Issue a control word that presents. -/
def execControl (c e : Nat) (w : W32) (op : Engine → Engine) (m : Module) : Module :=
  controlGate c e w (issueBundle c e op) m

/-- A control word that writes one scalar register from the registers it reads. -/
def execScalar (c e : Nat) (w : W32) (f : Regs → W32) (m : Module) : Module :=
  execControl c e w (fun v => { v with nxt := v.nxt.setScalar (fld w 25 22) (f v.src) }) m

/-- Continue at a target (R81): a taken branch does not run off the end. -/
def branchTo (target : Nat) (v : Engine) : Engine := { v with pc := BitVec.ofNat 12 target, offEnd := false }

/-- Whether a Move word presents. -/
def movePresents (m : Module) (c e : Nat) (w : W32) : Bool :=
  let v := m.eng c e
  slotRun v && v.mvLeft && storeWord m c v.bpc.toNat .move == w

/-- What a Move word does when it presents: it issues with a new module, holds the bundle, or faults. -/
inductive MoveOut where
  | done (m : Module)
  | held (h : Hold) (m : Module)
  | again
  | faulted (kind : Nat) (m : Module)
deriving Repr

/-- A bundle that is held has not issued: an engine with a failed operation stops before it (R122). -/
def stopHeld (v : Engine) : Engine :=
  match v.fault with
  | some f => { v with run := .faulted, fault := some { f with pc := v.bpc.toNat } }
  | none => v

/-- The Move word has issued. -/
def moveDone (c e : Nat) (m : Module) : Module :=
  closeBundle c e (m.updEng c e (fun v => { v with mvLeft := false, hold := .free }))

/-- The registers of the open bundle as they stand now, for a bundle that issues only now: what the mover and the reduction network
wrote while it was held is seen (R77). Its control word's scalar reads are done. -/
def refreshSrc (v : Engine) : Engine := { v with src := { v.nxt with s := v.src.s } }

/-- Issue a Move word that presents. The registers a bundle reads are those of the cycle in which it issues, so what
the mover and the reduction network wrote while it was held is seen (R77). Of the slots of a bundle with a fault the manual says
nothing: the model issues them in the order Control, Move, MAC, Vector; a slot that has issued stands, a slot that has not issues
no more, and the first that faults is the one recorded (R101, notes/assumptions/88). -/
def execMove (c e : Nat) (w : W32) (op : Regs → Module → MoveOut) (m : Module) : Module :=
  if !movePresents m c e w then m
  else
    let m := m.updEng c e refreshSrc
    match op (m.eng c e).src m with
    | .done m => moveDone c e m
    | .held h m => m.updEng c e (fun v => stopHeld { v with hold := h })
    | .again => m
    | .faulted k m => engFault c e k m

/-- A Move word that loads: an address fault or a change of the registers. -/
def loaded (c e : Nat) (r : Module × (Regs → Regs)) : MoveOut :=
  .done (r.1.updEng c e (fun v => { v with nxt := r.2 v.nxt }))

/-- Whether a MAC word presents: the Move word of its bundle has issued. -/
def macPresents (m : Module) (c e : Nat) (w : W32) : Bool :=
  let v := m.eng c e
  slotRun v && v.mcLeft && !v.mvLeft && storeWord m c v.bpc.toNat .mac == w

/-- Whether a Vector word presents. -/
def vecPresents (m : Module) (c e : Nat) (w : W32) : Bool :=
  let v := m.eng c e
  slotRun v && v.vcLeft && !v.mvLeft && storeWord m c v.bpc.toNat .vector == w

/-- Issue a MAC word: a fault kind, or a change of the engine. -/
def execMacSlot (c e : Nat) (w : W32) (op : Engine → Except Nat Engine) (m : Module) : Module :=
  if !macPresents m c e w then m
  else match op (m.eng c e) with
    | .ok v => closeBundle c e (m.setEng c e { v with mcLeft := false })
    | .error k => engFault c e k m

/-- Issue a Vector word: a fault kind, or a change of the engine. -/
def execVecSlot (c e : Nat) (w : W32) (op : Engine → Except Nat Engine) (m : Module) : Module :=
  if !vecPresents m c e w then m
  else match op (m.eng c e) with
    | .ok v => closeBundle c e (m.setEng c e { v with vcLeft := false })
    | .error k => engFault c e k m

/-- The arm of every slot row: a word that is not well formed for the row faults the model (no bundle holds one, R79). -/
def execSlot (i : Instr) (f : Module → Module) (s : State) : Res :=
  if i.wf then s.act f else .fault .illFormed

end Sys2Proof.Machine
end

