-- ==== Sys2Proof/Machine/Queues.lean ====
section
/-! DEFINITION. The stream-queue manager's events (R175, R176) and the class 0x06 commands (R183, R186, R189, R190). -/

namespace Sys2Proof.Machine

/-- SQ_PUSH_ACCEPT (R176, R177): a waiting push is accepted; an engine's bundle issues, with the registers as they stand now (R77),
and progress kicks the watchdogs and the checker as for any acceptance. -/
def execSqPushAccept (q : Nat) (s : State) : Res :=
  s.act (fun m =>
    let v := m.queue q
    match (if domOn m 40 then acceptable m v else none) with
    | none => m
    | some w =>
      let m := acceptWords q w.words (m.setQueue q { v with waiting := v.waiting.erase w })
      match w.who with
      | .engine c e => moveDone c e (m.updEng c e refreshSrc)
      | _ => m)

/-- SQ_REFILL (R175): a refill that is due reads the rest of one group. -/
def execSqRefill (q : Nat) (s : State) : Res :=
  s.act (fun m => if domOn m 40 && refillDue (m.queue q) then refill q m else m)

/-- Whether a client may name an endpoint: a context it created (chapter 8); a FREE context has no owner. -/
def endForeign (m : Module) (n kind id : Nat) : Bool := kind = 0 && foreign m n id

/-- Whether a range lies wholly in the chip store or in usable DDR4, within a context's permissions (R190). -/
def regionHeld (m : Module) (k a n : Nat) : Bool :=
  (placeRange m a n == .ddr || placeRange m a n == .store)
    && (pieces a n).all (fun p => ctxHolds m k .read p.1 p.2 && ctxHolds m k .write p.1 p.2)

/-- A queue as SQ_CREATE describes it (Table 8-6). -/
def queueOf (ps : List Byte) : Queue :=
  { state := 1, form := leAt ps 2 1, auto := leAt ps 3 1 % 2 = 1, notices := leAt ps 3 1 / 2 % 2 = 1, log2 := leAt ps 4 1
    owner := leAt ps 5 1, prodKind := leAt ps 6 1, prodId := leAt ps 7 1, consKind := leAt ps 8 1, consId := leAt ps 9 1
    noticeSync := leAt ps 10 2, level := leAt ps 12 4, spillBase := leAt ps 16 8, tagBase := leAt ps 24 8 }

/-- The largest LOG2_SPILL of a form (Table 8-2). -/
def maxLog2 (form : Nat) : Nat := if form = 0 then 16 else if form = 1 then 20 else 28

/-- A value of Table 8-6 out of range, a misaligned base, overlapping regions, or a LEVEL where none applies (R190). -/
def queueBad (v : Queue) : Bool :=
  v.form > 2 || v.log2 < 12 || v.log2 > maxLog2 v.form || v.owner > 63
    || v.prodKind > 2 || v.prodId > (if v.prodKind = 0 then 63 else if v.prodKind = 1 then 15 else 0)
    || v.consKind > 3 || v.consKind = 1 || v.consId > (if v.consKind = 0 then 63 else if v.consKind = 2 then 0 else 1)
    || (if v.form = 2 && v.notices then v.level < 1 || v.level > capacity v else v.level != 0)
    || v.spillBase % 2 ^ v.log2 != 0 || v.tagBase % 64 != 0 || anyOverlap (queueRegions v)

/-- A context endpoint that does not exist. -/
def endMissing (m : Module) (kind id : Nat) : Bool := kind = 0 && (m.ctx id).state = 0

/-- Whether a peripheral endpoint is bound to another queue in the same direction (R190). -/
def endTaken (m : Module) (prod : Bool) (kind id : Nat) : Bool :=
  kind != 0 && (List.range 512).any (fun i =>
    let v := m.queue i
    v.state != 0 && (if prod then v.prodKind == kind && v.prodId == id else v.consKind == kind && v.consId == id))

/-- The context NOTICE_SYNC must be allocated to (Table 8-6). -/
def noticeCtx (v : Queue) : Nat := if v.consKind = 0 then v.consId else v.owner

/-- SQ_CREATE (R186, R190): a comparator that misses the mismatch the test makes gives FAULTED; after the test both copies stand
at zero. -/
def execSqCreate (n : Nat) (s : State) : Res :=
  s.act (command 0x0600 n
    (fun ps m =>
      let q := leAt ps 0 2
      let v := queueOf ps
      [badLen ps 32, (q > 511 || leAt ps 3 1 > 3 || queueBad v, 0x22),
        (foreign m n v.owner || endForeign m n v.prodKind v.prodId || endForeign m n v.consKind v.consId
          || ((m.queue q).state != 0 && foreign m n (m.queue q).owner), 0x24),
        ((m.queue q).state != 0 || (m.ctx v.owner).state = 0 || endMissing m v.prodKind v.prodId || endMissing m v.consKind v.consId
          || endTaken m true v.prodKind v.prodId || endTaken m false v.consKind v.consId
          || (queueRegions v).any (fun r => asleepAt m r.1 r.2), 0x23),
        (!(queueRegions v).all (fun r => regionHeld m v.owner r.1 r.2) || (v.notices && !syncOwned m (noticeCtx v) v.noticeSync), notHeld),
        (m.safety.cmpDead.get false q, 0x32)])
    (fun ps m => respond n 0 [] (m.setQueue (leAt ps 0 2) (queueOf ps))))

/-- QUEUE at 0: in range, its owner's client, that it is not FREE. -/
def queueParam (ps : List Byte) (n : Nat) (m : Module) : List (Bool × Nat) :=
  let v := m.queue (leAt ps 0 2)
  [(leAt ps 0 2 > 511, 0x22), (v.state != 0 && foreign m n v.owner, 0x24), (v.state = 0, 0x23)]

/-- Whether an endpoint of a queue is active (R190). -/
def endActive (m : Module) (kind id : Nat) : Bool :=
  if kind = 0 then hasAdmitted m id
  else if kind = 1 then (m.stream id).state = 2
  else if kind = 2 then (List.range 64).any (fun i => (m.loop i).state != .off)
  else (m.links.tx.get {} id).running

/-- Whether either endpoint is active. -/
def queueActive (m : Module) (q : Nat) : Bool :=
  let v := m.queue q
  endActive m v.prodKind v.prodId || endActive m v.consKind v.consId

/-- Trellis is bound to no queue that has become FREE (R189, Table 8-5). -/
def unbind (m : Module) : Module :=
  { m with trl := { m.trl with
    policyQ := m.trl.policyQ.filter (fun q => (m.queue q).state != 0)
    statusQ := m.trl.statusQ.filter (fun q => (m.queue q).state != 0) } }

/-- SQ_DESTROY (R189, R190). -/
def execSqDestroy (n : Nat) (s : State) : Res :=
  s.act (command 0x0601 n
    (fun ps m => [badLen ps 8, resv ps 2 6] ++ queueParam ps n m ++ [(queueActive m (leAt ps 0 2), 0x23)])
    (fun ps m => respond n 0 [] (unbind (m.setQueue (leAt ps 0 2) {}))))

/-- A queue after SQ_RESET (Table 8-5): every position of both copies at WRITE_POS, nothing held. -/
def queueReset (v : Queue) : Queue :=
  { v with
    state := 1, main := v.main.clear, shadow := v.main.clear, packets := 0, mismatch := false, paritySeen := false
    head := [], tail := [], eops := [] }

/-- SQ_RESET (R189, R190). -/
def execSqReset (n : Nat) (s : State) : Res :=
  s.act (command 0x0602 n
    (fun ps m => [badLen ps 8, resv ps 2 6] ++ queueParam ps n m ++ [(queueActive m (leAt ps 0 2), 0x23)])
    (fun ps m => respond n 0 [] (m.setQueue (leAt ps 0 2) (queueReset (m.queue (leAt ps 0 2))))))

/-- SQ_STATUS (R188, R189). -/
def execSqStatus (n : Nat) (s : State) : Res :=
  s.act (command 0x0603 n
    (fun ps m => [badLen ps 8, (leAt ps 2 1 > 1, 0x22), resv ps 3 5] ++ queueParam ps n m)
    (fun ps m =>
      let v := m.queue (leAt ps 0 2)
      respond n 0 (sqBlock v ++ (List.range 4).flatMap (fun i => leBytes 4 (v.ctr.get 0 i)))
        (if leAt ps 2 1 = 1 then m.setQueue (leAt ps 0 2) { v with ctr := [] } else m)))

/-- SQ_LEVEL (R183, R190). -/
def execSqLevel (n : Nat) (s : State) : Res :=
  s.act (command 0x0604 n
    (fun ps m =>
      let v := m.queue (leAt ps 0 2)
      [badLen ps 8, resv ps 2 2, (leAt ps 4 4 < 1 || (v.state != 0 && leAt ps 4 4 > capacity v), 0x22)]
        ++ queueParam ps n m ++ [(v.form != 2 || !v.notices, 0x23)])
    (fun ps m => respond n 0 [] (m.setQueue (leAt ps 0 2) { (m.queue (leAt ps 0 2)) with level := leAt ps 4 4 })))

/-- SQ_TEST (R186, R190): a mismatch that goes undetected gives FAULTED and makes the queue FAULTED; the positions stay as they
were. -/
def execSqTest (n : Nat) (s : State) : Res :=
  s.act (command 0x0605 n
    (fun ps m => [badLen ps 8, resv ps 2 6] ++ queueParam ps n m ++ [(queueActive m (leAt ps 0 2), 0x23)])
    (fun ps m =>
      let q := leAt ps 0 2
      if m.safety.cmpDead.get false q then respond n 0x32 [] (m.setQueue q { (m.queue q) with state := 3 }) else respond n 0 [] m))

end Sys2Proof.Machine
end

