-- ==== Sys2Proof/Machine/Intake.lean ====
section
/-!
DEFINITION. The sieve (chapter 9): packets, frames and their damage (R191 to R197), concealment (R198, R199),
augmentation and conversion (R200 to R203), sample packets (R204 to R207), stream states (R209) and the class 0x07
commands (R210 to R212).
-/

namespace Sys2Proof.Machine

def Module.rxPort (m : Module) (p : Nat) : RxPort := m.rx.get {} p
def Module.setRxPort (m : Module) (p : Nat) (v : RxPort) : Module := { m with rx := m.rx.put {} p v }

/-- Count in a receive port: 0 HDR_CORR, 1 HDR_UNCORR, 2 CRC_ERRORS, 3 UNMATCHED, 4 BUF_OVERFLOW. -/
def rxCount (p k : Nat) (m : Module) : Module := m.setRxPort p { (m.rxPort p) with ctr := bump (m.rxPort p).ctr k }

/-- Count in a stream: 0 SAMPLES, 1 DAMAGED, 2 REFUSED, 3 MISSING, 4 OVERRUNS, 5 LINES_CONCEALED, 6 EXTRA_LINES, 7
TRUNCATED. -/
def stCount (i k n : Nat) (m : Module) : Module := m.setStream i { (m.stream i) with ctr := bumpBy (m.stream i).ctr k n }

/-- CH (Table 9-1). -/
def channelsOf (i : Nat) (c : StreamCfg) : Nat :=
  if c.format = 3 || c.format = 4 then 3 else if c.format = 5 && Config.jpegThree i then 3 else 1

/-- Bits of a pixel on the link (Table 9-1). -/
def pixelBits (format : Nat) : Nat :=
  if format = 0 then 8 else if format = 1 then 10 else if format = 2 then 12 else if format = 3 then 16 else 24

/-- The samples of pixel x of a payload, in the channel order of Table 9-1. -/
def pixelOf (format : Nat) (p : List Byte) (x : Nat) : List Byte :=
  let b := fun i => p.getD i 0
  if format = 0 then [b x]
  else if format = 1 then [b (5 * (x / 4) + x % 4)]
  else if format = 2 then [b (3 * (x / 2) + x % 2)]
  else if format = 3 then [b (4 * (x / 2) + 1 + 2 * (x % 2)), b (4 * (x / 2)), b (4 * (x / 2) + 2)]
  else [b (3 * x + 2), b (3 * x + 1), b (3 * x)]

/-- A line from its payload; none where the length is wrong (R195). -/
def lineOf (c : StreamCfg) (p : List Byte) : Option (List Byte) :=
  if 8 * p.length != c.wIn * pixelBits c.format then none else some ((List.range c.wIn).flatMap (pixelOf c.format p))

/-- The RUNNING streams of a port and virtual channel. -/
def streamsOn (m : Module) (port vc : Nat) : List Nat :=
  (List.range 16).filter (fun i => let s := m.stream i; s.state == 2 && s.cfg.port == port && s.cfg.vc == vc)

/-- A line of the open frame arrives or is lost; lines beyond H_IN are discarded (R195). -/
def addLine (i : Nat) (l : Option (List Byte)) (m : Module) : Module :=
  let s := m.stream i
  match s.frame with
  | none => m
  | some f =>
    if f.lines.length < s.cfg.hIn then m.setStream i { s with frame := some { f with lines := f.lines ++ [l] } }
    else stCount i 6 1 m

/-- Bytes of a JPEG frame arrive (R194). -/
def addJpeg (i : Nat) (bs : List (Option Byte)) (m : Module) : Module :=
  let s := m.stream i
  m.setStream i { s with frame := s.frame.map (fun f => { f with jpeg := f.jpeg ++ bs }) }

/-- A long packet of stream i: its payload is kept, unless it was discarded, failed its CRC or found no room (R193, R194). A
JPEG scan breaks off there, up to its next good restart marker (R195; notes/assumptions/11). -/
def takeLong (i : Nat) (p : CsiPacket) (whole : Bool) (m : Module) : Module :=
  let c := (m.stream i).cfg
  if c.format = 5 then addJpeg i (if whole then p.payload.map some else [none]) m
  else addLine i (if whole then lineOf c p.payload else none) m

/-- CSI2_RX_PACKET (R191 to R195). -/
def execCsi2RxPacket (port : Nat) (p : CsiPacket) (s : State) : Res :=
  s.act (fun m =>
    if !((m.rxPort port).live && domOn m 46 && domOn m 39) then m
    else
      let on := streamsOn m port p.vc
      let hit := on.find? (fun i => (m.stream i).cfg.dtype == p.dtype)
      if p.ecc = 2 then
        let m := rxCount port 1 m
        match p.long, hit with
        | true, some i => takeLong i p false m
        | _, _ => m
      else
        let m := if p.ecc = 1 then rxCount port 0 m else m
        if p.vc > 15 then rxCount port 3 m
        else if !p.long then (if p.dtype ≤ 3 && !on.isEmpty then m else rxCount port 3 m)
        else
          let m := if p.crcOk then m else rxCount port 2 m
          if p.dtype = 0x12 then m
          else match hit with
          | none => rxCount port 3 m
          | some i => takeLong i p (p.crcOk && !p.overflow) (if p.overflow then rxCount port 4 m else m))

/-! ### Sample size and admission (R204, R206) -/

/-- Planes (R204). -/
def planesOf (c : StreamCfg) : Nat := if c.mode = 0 then 2 else 1
/-- Words of the damage map (R204). -/
def mapWords (c : StreamCfg) : Nat := (c.outH + 255) / 256
/-- N (R204). -/
def sampleWords (i : Nat) (c : StreamCfg) : Nat :=
  3 + channelsOf i c * planesOf c * (c.outH / 4) * (c.outW / 4) + mapWords c

/-- A Frame Start or a MISSING deadline reads the free count (R206): admitted, or an overrun. Words held while the queue
is FROZEN keep the room set aside for them. -/
def admitSample (i : Nat) (m : Module) : Module × Bool :=
  let s := m.stream i
  if sampleWords i s.cfg + s.remainder.length ≤ freeCount (m.queue s.cfg.queue) then (stCount i 0 1 m, true)
  else (event 0x0713 0 [(0, 1, i), (8, 8, s.next)] (stCount i 4 1 m), false)

/-! ### Concealment (R198, R199) -/

/-- Whether the reference is usable (R199). -/
def refUsable (s : Stream) : Bool := match s.refAge with | some a => decide (a < s.cfg.refAge) | none => false

/-- The reference frame's line (R199). -/
def refLine (m : Module) (i y : Nat) : List Byte :=
  let s := m.stream i
  memBytes m.mem (s.cfg.refBase + y * (s.cfg.wIn * channelsOf i s.cfg)) (s.cfg.wIn * channelsOf i s.cfg)

/-- The device address of a reference line (R199). -/
def refAt (s : Stream) (i y : Nat) : Nat := s.cfg.refBase + y * (s.cfg.wIn * channelsOf i s.cfg)

/-- Whether the firewall lets the sieve read a reference line under the queue's owner (R19, R370). -/
def refHeld (m : Module) (i y : Nat) : Bool :=
  let s := m.stream i
  fwAllows m (sidOf m (m.queue s.cfg.queue).owner 0x21) .read (refAt s i y) (s.cfg.wIn * channelsOf i s.cfg)

/-- The damaged lines TEMPORAL would copy (R198), before the line from which FILL stands (R209). -/
def refAsked (s : Stream) (lines : List (Option (List Byte))) (fillFrom : Nat) : List Nat :=
  (List.range (min fillFrom s.cfg.hIn)).filter (fun y => (lines.getD y none).isNone && s.cfg.conceal == 2 && refUsable s)

/-- Read a reference line: its errors are counted, or the refused read faults the owner with kind 0x04 (R15, R370); its line
is then concealed as if the reference were not usable (notes/assumptions/32). -/
def readRef (i : Nat) (m : Module) (y : Nat) : Module :=
  let s := m.stream i
  let a := refAt s i y
  let n := s.cfg.wIn * channelsOf i s.cfg
  if refHeld m i y then countReads ((a + n + 7) / 8 - a / 8) (a / 8) false m
  else
    let k := (m.queue s.cfg.queue).owner
    ctxFault k 4 (countRefused (sidOf m k 0x21) .read a n m)

/-- The nearest undamaged line above, else below (R198). -/
def spatial (lines : List (Option (List Byte))) (y : Nat) : Option (List Byte) :=
  match (lines.take y).reverse.findSome? id with
  | some l => some l
  | none => (lines.drop y).findSome? id

/-- One line concealed (R198); lines from `fillFrom` on take FILL (R209). -/
def concealLine (m : Module) (i : Nat) (lines : List (Option (List Byte))) (fillFrom y : Nat) : List Byte :=
  let s := m.stream i
  let fill := List.replicate (s.cfg.wIn * channelsOf i s.cfg) s.cfg.fill
  match lines.getD y none with
  | some l => l
  | none =>
    if fillFrom ≤ y || s.cfg.conceal = 0 then fill
    else if s.cfg.conceal = 2 && refUsable s && refHeld m i y then refLine m i y
    else (spatial lines y).getD fill

/-- Write bytes for a unit that acts for a context, under the firewall (R15, R19, R370): a refused line has no effect and
faults the context with kind 0x04. -/
def unitWrite (unit k a : Nat) (bs : List Byte) (m : Module) : Module :=
  if fwAllows m (sidOf m k unit) .write a bs.length then
    let w := a / 8
    let n := (a + bs.length + 7) / 8 - w
    let all := setBytes (memBytes m.mem (8 * w) (8 * n)) (a - 8 * w) bs
    writeWords w ((List.range n).map (fun j => (BitVec.ofNat 64 (leAt all (8 * j) 8), false))) m
  else ctxFault k 4 (countRefused (sidOf m k unit) .write a bs.length m)

/-- Write the frame to the reference, line by line (R199). -/
def writeRef (i : Nat) (frame : List (List Byte)) (m : Module) : Module :=
  let c := (m.stream i).cfg
  if c.conceal = 2 then
    frame.zipIdx.foldl (fun m l => unitWrite 0x21 (m.queue c.queue).owner (refAt (m.stream i) i l.2) l.1 m) m
  else m

/-! ### Augmentation and conversion (R200 to R203) -/

/-- The placement of a sample (R201): x, y, flip, delta. -/
structure Aug where
  x : Nat
  y : Nat
  flip : Bool
  delta : Int

/-- The draw of a sample and what it decides (R200, R201). -/
def augOf (i : Nat) (s : Stream) : Aug :=
  let c := s.cfg
  let k := stepKey s.seed s.epoch
  let idx := BitVec.ofNat 64 s.next
  let d := kzBlock k.1 k.2 (lo32 idx, hi32 idx, BitVec.ofNat 32 i, 1)
  let crop := c.flags.getLsbD 0
  { x := c.cropX0 + (if crop then d.1.toNat / 65536 * (c.rangeX + 1) / 65536 else 0)
    y := c.cropY0 + (if crop then d.1.toNat % 65536 * (c.rangeY + 1) / 65536 else 0)
    flip := c.flags.getLsbD 1 && d.2.1.msb
    delta := if c.flags.getLsbD 2 then (d.2.2.1.toNat / 65536 * (2 * c.brightRange + 1) / 65536 : Nat) - (c.brightRange : Int) else 0 }

/-- out(i, j, ch) of R201. -/
def outSample (ch : Nat) (a : Aug) (outW : Nat) (frame : List (List Byte)) (r j k : Nat) : Nat :=
  let col := if a.flip then a.x + outW - 1 - j else a.x + j
  let v := ((frame.getD (a.y + r) []).getD (col * ch + k) 0).toNat
  (max 0 (min 255 ((v : Int) + a.delta))).toNat

/-- The code of a sample in a plane (R202). -/
def codeOf (s : Stream) (plane v : Nat) : Nat :=
  if s.cfg.mode = 2 then ((s.lut.getD []).getD (v / 2) 0).toNat / 16 ^ (v % 2) % 16
  else if plane = 0 then v / 16 else v % 16

/-- The tile of band b, channel k, plane p, column t (R202, R25). -/
def dataTile (i : Nat) (s : Stream) (a : Aug) (frame : List (List Byte)) (b k p t : Nat) : W64 :=
  BitVec.ofNat 64 (tileOf 4 ((List.range 4).flatMap (fun r => (List.range 4).map (fun c =>
    codeOf s p (outSample (channelsOf i s.cfg) a s.cfg.outW frame (4 * b + r) (4 * t + c) k)))))

/-- A sample packet (R203, R204, Table 9-3). -/
structure Sample where
  num : Nat
  /-- damaged input lines -/
  damaged : List Bool
  refused : Bool
  missing : Bool
  temporal : Bool
  stamp : W64
  frame : List (List Byte)

/-- Whether band b holds a concealed output line (R203). -/
def bandHit (a : Aug) (x : Sample) (b : Nat) : Bool := (List.range 4).any (fun r => x.damaged.getD (a.y + 4 * b + r) false)

/-- H1 (Table 9-3). -/
def headerOne (s : Stream) (a : Aug) (x : Sample) : Nat :=
  let bit := fun (v : Bool) (n : Nat) => if v then 2 ^ n else 0
  bit ((s.next - s.base) % s.cfg.batch = 0) 63 + bit (x.damaged.any id) 62 + bit x.refused 61 + bit x.missing 60
    + bit x.temporal 59 + bit a.flip 58 + (a.delta % 256).toNat * 2 ^ 48 + a.x * 2 ^ 35 + a.y * 2 ^ 22

/-- The words of a sample packet, in the order of Table 9-3. -/
def sampleWordsOf (i : Nat) (s : Stream) (x : Sample) : List SqWord :=
  let c := s.cfg
  let a := augOf i s
  let word := fun (d : W64) (p : Bool) (kind : Nat) => ({ data := d, tag := mkTag p false false kind, perr := false } : SqWord)
  let h0 := s.next % 2 ^ 32 * 2 ^ 32 + x.num * 65536 + min 0xFFFF (x.damaged.filter id).length
  let head := [word (BitVec.ofNat 64 h0) false 1, word (BitVec.ofNat 64 (headerOne s a x)) false 2, word x.stamp false 3]
  let data := (List.range (c.outH / 4)).flatMap (fun b =>
    let p := x.refused || x.missing || (c.flags.getLsbD 3 && bandHit a x b)
    (List.range (channelsOf i c)).flatMap (fun k => (List.range (planesOf c)).flatMap (fun pl =>
      (List.range (c.outW / 4)).map (fun t => word (dataTile i s a x.frame b k pl t) p 4))))
  let map := (List.range (mapWords c)).map (fun w => word (maskOf 64 ((List.range 64).filter (fun b =>
    decide (64 * w + b < c.outH / 4) && bandHit a x (64 * w + b)))) false 5)
  let all := head ++ data ++ map
  all.zipIdx.map (fun p => { p.1 with tag :=
    p.1.tag ||| (if p.2 = 0 then 0x20 else 0) ||| (if p.2 + 1 = all.length then 0x10 else 0) })

/-! ### Pushing (R206, R207, R209) -/

/-- Prepared batches (R207). -/
def batchesOf (m : Module) (i : Nat) : Nat :=
  let c := (m.stream i).cfg
  occupancy (m.queue c.queue) / (sampleWords i c * c.batch)

/-- Evaluate the prepared batches (R207). -/
def lowWater (i : Nat) (m : Module) : Module :=
  let s := m.stream i
  let n := batchesOf m i
  if s.cfg.lowWater = 0 then m
  else if s.cfg.lowWater ≤ n then m.setStream i { s with armed := true, below := false }
  else
    let m := m.setStream i { s with armed := false, below := true }
    if s.armed then event 0x0710 0 [(0, 1, i), (2, 2, min n 0xFFFF), (8, 8, s.next)] m else m

/-- Whether a word of a stream goes to its queue at once: the queue is ACTIVE and has a free slot (R176), and no earlier word is
held (R177, R205). -/
def pushesNow (v : Queue) (s : Stream) : Bool := canAccept v 1 && s.remainder.isEmpty

/-- A word of a stream goes to its queue: accepted at once, held in the sieve's own buffer while the queue is FROZEN or an earlier word
is held, and discarded once it is FAULTED or FREE or bound to another producer (R189), where the EOP counts its sample in
TRUNCATED (R185, R206, R209). An EOP pushed kicks the watchdogs of source 3 (R373) and evaluates the prepared batches (R207). -/
def pushWord (i : Nat) (m : Module) (w : SqWord) : Module :=
  let s := m.stream i
  let v := m.queue s.cfg.queue
  if producedBy v 1 i && pushesNow v s then
    let m := acceptWords s.cfg.queue [w] m
    if w.tag.getLsbD 4 then lowWater i (kickSource 3 i m) else m
  else if producedBy v 1 i && (v.state = 1 || v.state = 2) then m.setStream i { s with remainder := s.remainder ++ [w] }
  else if w.tag.getLsbD 4 then stCount i 7 1 m else m

/-- The words of a stream, in order. -/
def streamPush (i : Nat) (ws : List SqWord) (m : Module) : Module := ws.foldl (pushWord i) m

/-- Event 0x0711 of a frame (R197): a refused one, or with FLAGS bit 4 a damaged one. -/
def frameEvent (i verdict num : Nat) (bad : Bool) (m : Module) : Module :=
  let s := m.stream i
  if verdict != 0 || (bad && s.cfg.flags.getLsbD 4) then
    event 0x0711 (if verdict = 1 then 0x41 else 0x42) [(0, 1, i), (2, 2, num), (8, 8, s.next)] m
  else m

/-- A sample is pushed and the index advances (R204, R205), with the counters of Table 9-7. -/
def pushSample (i : Nat) (x : Sample) (m : Module) : Module :=
  let s := m.stream i
  let m := if x.damaged.any id then stCount i 1 1 m else m
  let m := if x.refused then stCount i 2 1 m else m
  let m := if x.missing then stCount i 3 1 m else m
  streamPush i (sampleWordsOf i s x) (m.setStream i { (m.stream i) with next := (m.stream i).next + 1 })

/-- What the end of a frame does (R195 to R206): it is concealed, an admitted one is pushed, and the reference is
written; only a sample counts for the reference's age (R199). `num` is its frame number, `stamp` its H2. -/
def endFrame (i verdict num : Nat) (missing admitted : Bool) (lines : List (Option (List Byte))) (fillFrom : Nat) (stamp : W64)
    (m : Module) : Module :=
  let s := m.stream i
  let damaged := lines.map (·.isNone)
  let frame := (List.range s.cfg.hIn).map (concealLine m i lines fillFrom)
  let asked := refAsked s lines fillFrom
  let temporal := asked.any (refHeld m i)
  let m := asked.foldl (readRef i) m
  let m := stCount i 5 (damaged.filter id).length m
  let m := if missing then m else frameEvent i verdict num (damaged.any id) m
  let m := if admitted then
      pushSample i ⟨num, damaged, verdict != 0, missing, temporal, stamp, frame⟩ m
    else m
  let m := writeRef i frame m
  m.setStream i { (m.stream i) with
    frame := none
    refAge := if !admitted then s.refAge else some (if damaged.all id then (s.refAge.getD 0) + 1 else 0) }

/-- The lines of the frame that closes and its JPEG verdict (R194, R195, R197). -/
def frameLines (i : Nat) (s : Stream) (f : Frame) : Nat × List (Option (List Byte)) :=
  let c := s.cfg
  if c.format = 5 then jpegFrame (channelsOf i c) c.wIn c.hIn f.jpeg
  else (0, f.lines ++ List.replicate (c.hIn - f.lines.length) none)

/-- The network time now, as H2 holds it (Table 9-3). -/
def stampNow (m : Module) : W64 := BitVec.ofNat 64 (secOf m.time.now % 2 ^ 32 * 2 ^ 32 + nsOf m.time.now)

/-- Close the open frame (R195, R204). -/
def closeFrame (i : Nat) (stamp : W64) (m : Module) : Module :=
  let s := m.stream i
  match s.frame with
  | none => m
  | some f =>
    let l := frameLines i s f
    endFrame i l.1 f.num false f.admitted l.2 s.cfg.hIn stamp m

/-- Close a frame that had no Frame End packet: the manual states no H2 for it, so a free value stands there. -/
def closeUnended (i : Nat) (m : Module) : Module :=
  if (m.stream i).frame.isSome then closeFrame i (free m) (freeNext m) else m

/-- 1.5 × FRAME_US. -/
def frameLimit (s : Stream) : Nat := s.cfg.frameUs * 3 * usUnit / 2

/-! ### Events of a stream -/

/-- FRAME_START (R193, R195, R196, R206, R209). -/
def execFrameStart (st num : Nat) (s : State) : Res :=
  s.act (fun m =>
    if (m.stream st).state != 2 then m
    else
      let m := closeUnended st m
      if (m.stream st).stopping then m
      else
        let v := m.stream st
        let m := m.setStream st { v with stalled := false, missing := 0, deadline := some (m.time.elapsed + frameLimit v) }
        let a := admitSample st m
        let v := a.1.stream st
        a.1.setStream st { v with frame := some ⟨num % 65536, a.2, [], [], m.time.elapsed⟩ })

/-- FRAME_END (R204). -/
def execFrameEnd (st : Nat) (s : State) : Res :=
  s.act (fun m => if (m.stream st).state = 2 then closeFrame st (stampNow m) m else m)

/-- FRAME_CLOSE_TIMEOUT (R195). -/
def execFrameCloseTimeout (st : Nat) (s : State) : Res :=
  s.act (fun m =>
    let v := m.stream st
    match v.frame with
    | some f => if v.state = 2 && passed m f.startAt (frameLimit v) then closeUnended st m else m
    | none => m)

/-- A MISSING sample, or its overrun (R196, R206): every line is damaged; no frame number stands behind it, so that field
of H0 is a free value. -/
def missingSample (st : Nat) (m : Module) : Module :=
  let num := (free m).toNat % 65536
  let a := admitSample st (freeNext m)
  let m := endFrame st 0 num true a.2 (List.replicate (m.stream st).cfg.hIn none) (m.stream st).cfg.hIn (stampNow m) a.1
  if a.2 then m.setStream st { (m.stream st) with missing := (m.stream st).missing + 1 } else m

/-- The stream after a MISSING deadline at d (R196): after MISS_MAX MISSING samples in a row STALLED, with event 0x0712, else
the next deadline. -/
def missingNext (st d : Nat) (m : Module) : Module :=
  let v := m.stream st
  if v.missing ≥ v.cfg.missMax then event 0x0712 0 [(0, 1, st), (8, 8, v.next)] (m.setStream st { v with stalled := true, deadline := none })
  else m.setStream st { v with deadline := some (d + frameLimit v) }

/-- MISSING_DEADLINE (R196). -/
def execMissingDeadline (st : Nat) (s : State) : Res :=
  s.act (fun m =>
    let v := m.stream st
    match v.deadline with
    | none => m
    | some d =>
      if v.state != 2 || v.stopping || v.cfg.missMax = 0 || v.stalled || decide (m.time.elapsed < d) then m
      else missingNext st d (missingSample st (closeUnended st m)))

/-- LOW_WATER_CHECK (R207): every 10 µs. -/
def execLowWaterCheck (st : Nat) (s : State) : Res :=
  s.act (fun m =>
    let v := m.stream st
    if v.state = 2 && passed m v.lowAt (10 * usUnit) then lowWater st (m.setStream st { v with lowAt := m.time.elapsed }) else m)

/-- INTAKE_REMAINDER_PUSH (R209): the words held while the queue was FROZEN are pushed, as far as there is room, or discarded. -/
def execIntakeRemainderPush (st : Nat) (s : State) : Res :=
  s.act (fun m =>
    let v := m.stream st
    if v.remainder.isEmpty || (m.queue v.cfg.queue).state = 2 then m
    else streamPush st v.remainder (m.setStream st { v with remainder := [] }))

/-- Whether the sample in progress has been pushed. -/
def stopReady (s : Stream) : Bool :=
  s.stopping && s.remainder.isEmpty && (match s.frame with | some f => !f.admitted | none => true)

/-- A stream that stops is READY (R209). -/
def streamStopped (st : Nat) (m : Module) : Module :=
  finish 0x0704 st 0 [] (m.setStream st { (m.stream st) with
    state := 1, stopping := false, frame := none, deadline := none })

/-- INTAKE_STOP_COMPLETE (R209). -/
def execIntakeStopComplete (st : Nat) (s : State) : Res :=
  s.act (fun m => if (m.stream st).state = 2 && stopReady (m.stream st) then streamStopped st m else m)

/-- A reset stops a stream (R209): the sample in progress is ended with FILL for the lines still to come. -/
def resetStream (st : Nat) (m : Module) : Module :=
  let v := m.stream st
  if v.state != 2 then m
  else
    let m := match v.frame with
      | some f =>
        let l := frameLines st v f
        endFrame st l.1 f.num false f.admitted l.2 (if v.cfg.format = 5 then 0 else f.lines.length) (free m) (freeNext m)
      | none => m
    let m := m.setStream st { (m.stream st) with stopping := true }
    if stopReady (m.stream st) then streamStopped st m else m

/-! ### Class 0x07 commands (R210 to R212) -/

/-- PHY, LANES and RATE out of range (R191). -/
def phyBad (phy lanes rate : Nat) : Bool :=
  if phy = 0 then !(lanes = 1 || lanes = 2 || lanes = 4) || rate < 80 || rate > 4500
  else phy > 1 || lanes < 1 || lanes > 3 || rate < 80 || rate > 6000

/-- INTAKE_PORT (R191, R210). -/
def execIntakePort (n : Nat) (s : State) : Res :=
  s.act (command 0x0700 n
    (fun ps m =>
      [badLen ps 8, (leAt ps 0 1 > 3 || phyBad (leAt ps 1 1) (leAt ps 2 1) (leAt ps 4 4), 0x22), resv ps 3 1,
        ((List.range 16).any (fun i => (m.stream i).state == 2 && (m.stream i).cfg.port == leAt ps 0 1), 0x23)])
    (fun ps m => respond n 0 [] (m.setRxPort (leAt ps 0 1)
      { (m.rxPort (leAt ps 0 1)) with live := true, phy := leAt ps 1 1, lanes := leAt ps 2 1, rate := leAt ps 4 4 })))

/-- The configuration of Table 9-6. -/
def streamCfgOf (ps : List Byte) : StreamCfg :=
  { port := leAt ps 1 1, vc := leAt ps 2 1, dtype := leAt ps 3 1, format := leAt ps 4 1, mode := leAt ps 5 1
    conceal := leAt ps 6 1, fill := BitVec.ofNat 8 (leAt ps 7 1), wIn := leAt ps 8 2, hIn := leAt ps 10 2, outW := leAt ps 12 2
    outH := leAt ps 14 2, cropX0 := leAt ps 16 2, cropY0 := leAt ps 18 2, rangeX := leAt ps 20 2, rangeY := leAt ps 22 2
    flags := BitVec.ofNat 5 (leAt ps 24 2), brightRange := leAt ps 26 1, refAge := leAt ps 27 1, queue := leAt ps 28 2
    batch := leAt ps 30 2, frameUs := leAt ps 32 4, lowWater := leAt ps 36 2, missMax := leAt ps 38 1, refBase := leAt ps 40 8 }

/-- DTYPE matches FORMAT (Table 9-1). -/
def dtypeOk (dtype format : Nat) : Bool :=
  if format = 0 then dtype = 0x2A else if format = 1 then dtype = 0x2B else if format = 2 then dtype = 0x2C
  else if format = 3 then dtype = 0x1E else if format = 4 then dtype = 0x24
  else format = 5 && 0x30 ≤ dtype && dtype ≤ 0x37

/-- A value of Table 9-6 out of range (R211). -/
def streamBad (i : Nat) (ps : List Byte) (c : StreamCfg) : Bool :=
  i > 15 || c.port > 3 || c.vc > 15 || !dtypeOk c.dtype c.format || c.mode > 2 || c.conceal > 2
    || c.wIn < 16 || c.wIn > 8192 || c.hIn < 16 || c.hIn > 8192
    || c.outW < 4 || c.outW > 4096 || c.outW % 4 != 0 || c.outH < 4 || c.outH > 4096 || c.outH % 4 != 0
    || c.cropX0 + c.rangeX + c.outW > c.wIn || c.cropY0 + c.rangeY + c.outH > c.hIn || leAt ps 24 2 > 31
    || c.brightRange > 127 || c.refAge < 1 || c.queue > 511 || c.batch < 1 || c.batch > 1024
    || c.frameUs < 100 || c.frameUs > 1000000 || c.missMax > 15 || leAt ps 39 1 != 0 || (c.conceal = 2 && c.refBase % 64 != 0)

/-- Pixels per µs of a JPEG stream (R211). -/
def jpegLoad (c : StreamCfg) : Rat := (c.wIn * c.hIn : Nat) / (c.frameUs : Nat)

/-- The load of decoder d without stream i. -/
def decoderLoad (m : Module) (i d : Nat) : Rat :=
  (((List.range 16).filter (fun j => let s := m.stream j; j != i && s.state != 0 && s.cfg.format == 5 && s.decoder == d)).map
    (fun j => jpegLoad (m.stream j).cfg)).sum

/-- The decoder a JPEG stream is assigned to (R211). -/
def decoderFor (m : Module) (i : Nat) : Nat := if decoderLoad m i 1 < decoderLoad m i 0 then 1 else 0

/-- Whether another client's context owns the queue of a stream that is configured. -/
def streamForeign (m : Module) (n i : Nat) : Bool :=
  let s := m.stream i
  s.state != 0 && (m.queue s.cfg.queue).state != 0 && foreign m n (m.queue s.cfg.queue).owner

/-- INTAKE_CONFIG (R211). -/
def execIntakeConfig (n : Nat) (s : State) : Res :=
  s.act (command 0x0701 n
    (fun ps m =>
      let i := leAt ps 0 1
      let c := streamCfgOf ps
      let q := m.queue c.queue
      [badLen ps 48, (streamBad i ps c || (c.mode = 2 && (m.stream i).lut.isNone)
          || (q.state != 0 && sampleWords i c > capacity q), 0x22),
        (streamForeign m n i || (q.state != 0 && foreign m n q.owner), 0x24),
        ((m.stream i).state = 2 || q.state = 0 || q.prodKind != 1 || q.prodId != i
          || (List.range 16).any (fun j => let o := m.stream j
              j != i && o.state != 0 && o.cfg.port == c.port && o.cfg.vc == c.vc && o.cfg.dtype == c.dtype), 0x23),
        (c.conceal = 2 && !regionHeld m q.owner c.refBase (c.wIn * c.hIn * channelsOf i c), notHeld),
        (c.format = 5 && decide (500 < jpegLoad c + decoderLoad m i (decoderFor m i)), 0x11)])
    (fun ps m =>
      let i := leAt ps 0 1
      respond n 0 [] (m.setStream i { (m.stream i) with state := 1, cfg := streamCfgOf ps, decoder := decoderFor m i })))

/-- STREAM at 0: in range, its queue's client. -/
def streamParam (ps : List Byte) (n : Nat) (m : Module) : List (Bool × Nat) :=
  [(leAt ps 0 1 > 15, 0x22), (streamForeign m n (leAt ps 0 1), 0x24)]

/-- INTAKE_LUT (R202, R211). -/
def execIntakeLut (n : Nat) (s : State) : Res :=
  s.act (command 0x0702 n
    (fun ps m => [badLen ps 136, resv ps 1 7] ++ streamParam ps n m ++ [(decide ((m.stream (leAt ps 0 1)).state = 2), 0x23)])
    (fun ps m => respond n 0 [] (m.setStream (leAt ps 0 1) { (m.stream (leAt ps 0 1)) with lut := some (ps.drop 8) })))

/-- INTAKE_START (R209, R211). -/
def execIntakeStart (n : Nat) (s : State) : Res :=
  s.act (command 0x0703 n
    (fun ps m =>
      let v := m.stream (leAt ps 0 1)
      [badLen ps 32, resv ps 1 7] ++ streamParam ps n m ++ [((v.state != 1 || !(m.rxPort v.cfg.port).live), 0x23), (entering m, 0x10)])
    (fun ps m => respond n 0 [] (m.setStream (leAt ps 0 1) { (m.stream (leAt ps 0 1)) with
      state := 2, seed := BitVec.ofNat 64 (leAt ps 8 8), epoch := BitVec.ofNat 64 (leAt ps 16 8), base := leAt ps 24 8
      next := leAt ps 24 8, stalled := false, missing := 0, refAge := none, below := false, armed := false
      lowAt := m.time.elapsed, deadline := none, frame := none, stopping := false, remainder := [] })))

/-- INTAKE_STOP (R209). -/
def execIntakeStop (n : Nat) (s : State) : Res :=
  s.act (command 0x0704 n
    (fun ps m =>
      let v := m.stream (leAt ps 0 1)
      [badLen ps 8, resv ps 1 7] ++ streamParam ps n m ++ [(v.state != 2 || v.stopping, 0x23)])
    (fun ps m => accept n (leAt ps 0 1) (fun m =>
      m.setStream (leAt ps 0 1) { (m.stream (leAt ps 0 1)) with stopping := true }) m))

/-- The INTAKE_STATUS response (Table 9-7). -/
def streamData (m : Module) (i : Nat) : List Byte :=
  let s := m.stream i
  let p := m.rxPort s.cfg.port
  let st := fun k => s.ctr.get 0 k
  let rx := fun k => p.ctr.get 0 k
  fields 68 [(0, 1, s.state), (1, 1, (if s.stalled then 1 else 0) + (if refUsable s then 2 else 0) + (if s.below then 4 else 0)),
    (8, 8, s.next), (16, 4, st 0), (20, 4, st 1), (24, 4, st 2), (28, 4, st 3), (32, 4, st 4), (36, 4, st 5), (40, 4, rx 0),
    (44, 4, rx 1), (48, 4, rx 2), (52, 4, rx 3), (56, 4, st 6), (60, 4, rx 4), (64, 4, st 7)]

/-- INTAKE_STATUS (R212): clearing clears the port's counters too. -/
def execIntakeStatus (n : Nat) (s : State) : Res :=
  s.act (command 0x0705 n
    (fun ps m => [badLen ps 8, (leAt ps 1 1 > 1, 0x22), resv ps 2 6] ++ streamParam ps n m)
    (fun ps m =>
      let i := leAt ps 0 1
      let d := streamData m i
      let p := (m.stream i).cfg.port
      respond n 0 d (if leAt ps 1 1 = 1 then
          (m.setStream i { (m.stream i) with ctr := [] }).setRxPort p { (m.rxPort p) with ctr := [] }
        else m)))

end Sys2Proof.Machine
end

