-- ==== Sys2Proof/Machine/Mailbox.lean ====
section
/-!
DEFINITION. The mailbox window (R238 to R243), Gragor taking commands (R244, R248), the event ring (R249, R250), the host status
registers (R251) and the class 0x00 commands (R253, R255, R256).
-/

namespace Sys2Proof.Machine

/-! ### Host status registers (Table 11-5) -/

def identWord (m : Module) : Nat := m.host.part * 2 ^ 16 + m.host.grade * 2 ^ 8 + m.host.stepping
def strapsWord (m : Module) : Nat := m.host.moduleId * 2 ^ 8 + m.host.bootSrc * 2 ^ 4 + m.host.profileStrap
def gragorWord (m : Module) : Nat := m.host.gState * 2 ^ 28 + m.host.restarts
def mbxPathWord (m : Module) : Nat := (if m.host.mbxLock then 2 ^ 31 else 0) + m.host.mbxPath.toNat

/-- CTRL of a client mailbox (Table 11-2). -/
def ctrlWord (b : Mbx) : Nat :=
  (if b.owner then 2 ^ 31 else 0) + b.state * 2 ^ 28 + (if b.wrb then 2 ^ 27 else 0) + b.path * 2 ^ 25 + b.seq * 2 ^ 16

/-- The 32 bytes of an event record (Table 11-6). -/
def eventBytes (r : EventRec) : List Byte :=
  setBytes (fields 32 [(0, 2, r.code), (2, 2, r.result), (4, 1, r.source), (5, 1, if r.unsolicited then 1 else 0),
    (6, 2, r.tag)]) 8 r.payload

/-- The ten host status registers as bytes. -/
def statusBytes (m : Module) : List Byte :=
  [identWord m, m.host.coreEnable.toNat, m.host.serialNo.toNat, m.host.serialNo.toNat / 2 ^ 32, m.host.fwVersion.toNat,
    m.host.ifVersion, gragorWord m, m.host.heartbeat.toNat, strapsWord m, mbxPathWord m].flatMap (leBytes 4)

/-- The byte of the mailbox window at an offset (Table 11-1): an offset not listed reads as zero. -/
def windowByte (m : Module) (off : Nat) : Byte :=
  let o := off % 0x800
  if off < 0x7800 then
    let b := m.mbx (off / 0x800)
    if o < 4 then (leBytes 4 (ctrlWord b)).getD o 0
    else if 0x200 ≤ o && o < 0x400 then b.req.get (0 : Byte) (o - 0x200)
    else if 0x400 ≤ o && o < 0x600 then b.resp.getD (o - 0x400) 0
    else 0
  else if off < 0x8000 then
    if o < 16 then
      ([m.host.evtHead.toNat, m.host.evtTail.toNat, m.host.evtLost, m.host.backlog.length].flatMap (leBytes 4)).getD o 0
    else if 0x400 ≤ o && o < 0x600 then (eventBytes (m.host.ring.get {} ((o - 0x400) / 32))).getD ((o - 0x400) % 32) 0
    else 0
  else if off < 0x8028 then (statusBytes m).getD (off - 0x8000) 0
  else 0

/-! ### Writes of the host (R239 to R242) -/

/-- A write over a path reaches the module: the PCIe link is up (R318), or the I3C target port has an address (R322). -/
def reached (path : Path) (m : Module) : Bool :=
  domOn m 37 && (match path with | .pcie => m.links.pcieSpeed != 0 | .i3c => domOn m 47 && m.host.i3cAddr.isSome)

/-- PATHn (Table 11-5). -/
def pathField (m : Module) (n : Nat) : Nat := m.host.mbxPath.toNat / 4 ^ n % 4

/-- Whether MBX_PATH lets a path write mailbox n (R241); what the reserved value 3 does is open. -/
def pathOk (path : Path) (n : Nat) (m : Module) : Bool :=
  if pathField m n = 0 then true
  else if pathField m n = 1 then path == .pcie
  else if pathField m n = 2 then path == .i3c
  else (free m).getLsbD 0

/-- The free value that the reserved value takes. -/
def pathUse (n : Nat) (m : Module) : Module := if pathField m n = 3 then freeNext m else m

/-- A write to REQUEST or GO is ignored and sets WRB (R240, R256). -/
def ignoreWrite (n : Nat) (m : Module) : Module :=
  m.setMbx n { (m.mbx n) with wrb := true, ctr := bump (m.mbx n).ctr 3 }

/-- What a hand-over is (R242): 0 new, 1 a repeat, 2 a sequence error. -/
def handOver (b : Mbx) (seq : Nat) : Nat :=
  match b.last with
  | none => 0
  | some l => if seq = (l + 1) % 256 then 0 else if seq = l && b.held then 1 else 2

/-- A write to GO (R240 to R242, R252, R405): a hand-over waits for Gragor, or in BOOT_ROM, WAIT_IMAGE and HALTED for the boot
ROM on mailbox 0. -/
def goWrite (path : Path) (n : Nat) (v : W32) (m : Module) : Module :=
  let b := m.mbx n
  let seq := v.toNat % 256
  if !pathOk path n m then pathUse n m
  else if b.owner || v.toNat / 256 != 0 then ignoreWrite n (pathUse n m)
  else if m.host.gState != 3 && n != 0 then (pathUse n m).setMbx n { b with wrb := true }
  else
    let kind := handOver b seq
    (pathUse n m).setMbx n
      (if kind = 0 then { b with
          owner := true, state := 1, pend := 0, seq := seq, last := some seq, held := false
          path := match path with | .pcie => 0 | .i3c => 1 }
        else { b with owner := true, state := 1, pend := kind })

/-- A write to CTRL (Table 11-2): WRB is cleared by a 1. -/
def ctrlWrite (path : Path) (n : Nat) (v : W32) (m : Module) : Module :=
  if pathOk path n m && v.getLsbD 27 then (pathUse n m).setMbx n { (m.mbx n) with wrb := false } else pathUse n m

/-- A write to EVT_TAIL (R249, R250): the tail never passes the head; room lets the backlog follow. -/
def tailWrite (v : W32) (m : Module) : Module :=
  if (v - m.host.evtTail).toNat ≤ (m.host.evtHead - m.host.evtTail).toNat then
    let m := { m with host := { m.host with evtTail := v } }
    if m.host.gState = 3 then ringDrain 16 m else m
  else m

/-- A write to MBX_PATH (R241, Table 11-5): nothing once LOCK is set. -/
def pathWrite (v : W32) (m : Module) : Module :=
  if m.host.mbxLock then m
  else { m with host := { m.host with mbxPath := v.setWidth 30, mbxLock := v.getLsbD 31 } }

/-- The bytes a write has for a mailbox's REQUEST: (offset in REQUEST, byte). -/
def reqPart (n off : Nat) (bs : List Byte) : List (Nat × Byte) :=
  bs.zipIdx.filterMap (fun p =>
    let a := off + p.2
    if 0x800 * n + 0x200 ≤ a && a < 0x800 * n + 0x400 then some (a - (0x800 * n + 0x200), p.1) else none)

/-- A write's REQUEST bytes reach a mailbox (R239, R240, R241). -/
def reqWrite (path : Path) (off : Nat) (bs : List Byte) (m : Module) (n : Nat) : Module :=
  let part := reqPart n off bs
  if part.isEmpty then m
  else if !pathOk path n m then pathUse n m
  else if (m.mbx n).owner then ignoreWrite n (pathUse n m)
  else (pathUse n m).setMbx n { (m.mbx n) with req := part.foldl (fun t p => t.put 0 p.1 p.2) (m.mbx n).req }

/-- A write that has bytes for a mailbox's RESPONSE is ignored and counted; WRB stays (R240, Table 11-11). -/
def respWrite (off len : Nat) (m : Module) (n : Nat) : Module :=
  if overlaps off len (0x800 * n + 0x400) 0x200 then m.setMbx n { (m.mbx n) with ctr := bump (m.mbx n).ctr 3 } else m

/-- A whole register of the window is written. -/
def regWrite (path : Path) (off : Nat) (v : W32) (m : Module) : Module :=
  if off < 0x7800 && off % 0x800 = 0 then ctrlWrite path (off / 0x800) v m
  else if off < 0x7800 && off % 0x800 = 4 then goWrite path (off / 0x800) v m
  else if off = 0x7804 then tailWrite v m
  else if off = 0x8024 then pathWrite v m
  else m

/-- The registers a write covers whole: over PCIe an aligned 4-byte write has one; over I3C each register all of whose bytes
one transfer writes (R239, R323). -/
def wholeRegs (path : Path) (off len : Nat) : List Nat :=
  match path with
  | .pcie => if len = 4 && off % 4 = 0 then [off] else []
  | .i3c => (List.range (len / 4)).filterMap (fun i =>
      let a := (off + 3) / 4 * 4 + 4 * i
      if a + 4 ≤ off + len then some a else none)

/-- A write to the window (R238, R239). -/
def windowWrite (path : Path) (off : Nat) (bs : List Byte) (m : Module) : Module :=
  let m := (wholeRegs path off bs.length).foldl
    (fun m a => regWrite path a (BitVec.ofNat 32 (leAt bs (a - off) 4)) m) m
  (List.range 15).foldl (fun m n => respWrite off bs.length (reqWrite path off bs m n) n) m

/-- GO (R242). -/
def execGo (path : Path) (n : Nat) (v : W32) (s : State) : Res :=
  s.act (fun m => if reached path m && n < 15 then goWrite path n v m else m)

/-- CTRL (R240). -/
def execCtrl (path : Path) (n : Nat) (v : W32) (s : State) : Res :=
  s.act (fun m => if reached path m && n < 15 then ctrlWrite path n v m else m)

/-- EVT_TAIL (R249). -/
def execEvtTail (path : Path) (v : W32) (s : State) : Res :=
  s.act (fun m => if reached path m then tailWrite v m else m)

/-- MBX_PATH (R241). -/
def execMbxPath (path : Path) (v : W32) (s : State) : Res :=
  s.act (fun m => if reached path m then pathWrite v m else m)

/-- REGISTER_WRITE (R239). -/
def execRegisterWrite (path : Path) (off : Nat) (bs : List Byte) (s : State) : Res :=
  s.act (fun m => if reached path m then windowWrite path off bs m else m)

/-! ### Taking a hand-over (R244, R248) -/

/-- How many commands a class has (chapters of Table 0-2). -/
def classSize (cls : Nat) : Nat := [5, 9, 5, 7, 10, 7, 6, 6, 12, 11, 9, 8, 8, 11, 10, 5].getD cls 0

/-- Whether a code names a command of the interface. -/
def isCode (code : Nat) : Bool := code % 256 < classSize (code / 256)

/-- A code the boot ROM executes, and the three of them that HALTED refuses (R405). -/
def bootCode (code : Nat) : Bool := [0x0000, 0x0002, 0x0D00, 0x0D01, 0x0D02, 0x0D03].contains code
def imageCode (code : Nat) : Bool := [0x0D01, 0x0D02, 0x0D03].contains code

/-- Steps 1 to 3 of R244, or R405 before Gragor runs. -/
def takeChecks (m : Module) (n : Nat) : List (Bool × Nat) :=
  let code := reqCode m n
  let bad := reqField m n 6 2 != 0
  if m.host.gState = 3 then
    [(reqLen m n > 504, 0x21), (!isCode code || bad, 0x20),
      ((m.mbx n).minor.isNone && !(code = 0x0000 || code = 0x0001 || code = 0x0002), 0x23)]
  else
    [(reqLen m n > 504, 0x21), (!bootCode code || bad, 0x20), (m.host.gState = 5 && imageCode code, 0x23)]

/-- A mailbox whose hand-over waits. -/
def waits (m : Module) (n : Nat) : Bool := (m.mbx n).owner && (m.mbx n).state = 1

/-- The hand-over taken next (R248): mailbox 14, then 0 to 13 round-robin; the boot ROM serves mailbox 0 (R252, R405). -/
def nextMailbox (m : Module) : Option Nat :=
  if m.host.gState = 3 then
    if waits m 14 then some 14
    else ((List.range 14).map (fun i => (m.host.lastServed + 1 + i) % 14)).find? (fun n => waits m n)
  else if (m.host.gState = 0 || m.host.gState = 1 || m.host.gState = 5) && waits m 0 then some 0
  else none

/-- A repeat or a sequence error ends: OWNER returns to 0, the count rises, source n is signalled (R242, R243). -/
def endHandOver (n : Nat) (m : Module) : Module :=
  let b := m.mbx n
  signalSource n (m.setMbx n { b with
    owner := false, state := if b.pend = 1 then 3 else 4, ctr := bump b.ctr (if b.pend = 1 then 1 else 2) })

/-- A new command is in execution; the first of its early checks that fails is its response (R244). -/
def beginCommand (n : Nat) (m : Module) : Module :=
  let b := m.mbx n
  let m := m.setMbx n { b with state := 2, ctr := bump b.ctr 0 }
  match firstFail (takeChecks m n) with
  | some rc => respond n rc [] m
  | none => m

/-- Whether a command is in execution that is not divided into slices (R248): KV_POOL_CREATE is, and others are served between. -/
def occupied (m : Module) : Bool := (List.range 15).any (fun n => (m.mbx n).state = 2 && reqCode m n != 0x0500)

/-- MAILBOX_TAKE (R248, R244, R242): one command at a time. -/
def execMailboxTake (s : State) : Res :=
  s.act (fun m =>
    if !domOn m 37 || occupied m then m
    else match nextMailbox m with
      | none => m
      | some n =>
        let m := if n < 14 then { m with host := { m.host with lastServed := n } } else m
        if (m.mbx n).pend = 0 then beginCommand n m else endHandOver n m)

/-- HEARTBEAT_TICK (R251, R285): once per millisecond of the counter's advance while READY. -/
def execHeartbeatTick (s : State) : Res :=
  s.act (fun m =>
    if m.host.gState = 3 && m.host.lastMs < m.time.elapsed / msUnit then
      { m with host := { m.host with heartbeat := m.host.heartbeat + 1, lastMs := m.host.lastMs + 1 } }
    else m)

/-! ### Class 0x00 commands (R253, R255, R256) -/

/-- ECHO. -/
def execEcho (n : Nat) (s : State) : Res :=
  s.act (command 0x0000 n (fun _ _ => []) (fun ps m => respond n 0 ps m))

/-- Whether a client holds a context (R253). -/
def holdsContext (m : Module) (n : Nat) : Bool := (List.range 64).any (fun k => (m.ctx k).state != 0 && (m.ctx k).client = n)

/-- The minor version granted (R253). -/
def grantedMinor (m : Module) (minor : Nat) : Nat := min minor (m.host.ifVersion % 256)

/-- IF_OPEN (R253). -/
def execIfOpen (n : Nat) (s : State) : Res :=
  s.act (command 0x0001 n
    (fun ps m => [badLen ps 8, resv ps 2 6, ((m.mbx n).minor.isSome && holdsContext m n, 0x23),
      (leAt ps 0 1 != m.host.ifVersion / 256, 0x25)])
    (fun ps m =>
      let g := grantedMinor m (leAt ps 1 1)
      respond n 0 (fields 8 [(0, 1, leAt ps 0 1), (1, 1, g), (4, 4, m.host.fwVersion.toNat)])
        (m.setMbx n { (m.mbx n) with minor := some g })))

/-- MODULE_INFO (Table 11-10). -/
def execModuleInfo (n : Nat) (s : State) : Res :=
  s.act (command 0x0002 n
    (fun ps _ => [badLen ps 0])
    (fun _ m =>
      respond n 0 (fields 64 [(0, 4, identWord m), (4, 4, m.host.coreEnable.toNat), (8, 8, m.host.serialNo.toNat),
        (16, 4, m.host.fwVersion.toNat), (20, 4, m.host.ifVersion), (24, 4, strapsWord m),
        (28, 4, (maskOf 32 ((List.range 32).filter (fun c => (m.core c).withdrawn))).toNat),
        (32, 1, n), (33, 1, ((m.mbx n).minor).getD 0xFF)]) m))

/-- MBX_STATUS (Table 11-11): clearing also clears WRB. -/
def execMbxStatus (n : Nat) (s : State) : Res :=
  s.act (command 0x0003 n
    (fun ps _ => [badLen ps 8, (leAt ps 0 1 > 1, 0x22), resv ps 1 7])
    (fun ps m =>
      let b := m.mbx n
      let data := fields 24 ((List.range 5).map (fun i => (4 * i, 4, b.ctr.get 0 i))
        ++ [(20, 4, (m.host.deferred.filter (fun d => d.client == n)).length)])
      respond n 0 data (if leAt ps 0 1 = 1 then m.setMbx n { b with ctr := [], wrb := false } else m)))

/-- EVENT_STATUS (Table 11-9): clearing zeroes EVT_LOST. -/
def execEventStatus (n : Nat) (s : State) : Res :=
  s.act (command 0x0004 n
    (fun ps _ => [badLen ps 8, (leAt ps 0 1 > 1, 0x22), resv ps 1 7])
    (fun ps m =>
      let h := m.host
      let data := fields 20 [(0, 4, h.evtHead.toNat), (4, 4, h.evtTail.toNat), (8, 4, h.evtLost), (12, 4, h.backlog.length),
        (16, 4, h.held.length)]
      respond n 0 data (if leAt ps 0 1 = 1 then { m with host := { h with evtLost := 0 } } else m)))

end Sys2Proof.Machine
end

