-- ==== Sys2Proof/Machine/Fabric.lean ====
section
/-!
DEFINITION. Transfers over the fabric: reading and writing a target (R59, R107, R112, R188), address fields (R67), the
window unit (R124, R125), what a remote operation does at its target (Table 5-3, Table 5-5, Table 5-6), their order (R119),
and packets with their credits (R126, R127).
-/

namespace Sys2Proof.Machine

/-! ### Address fields (R67) -/

/-- Whether an address field is a remote reference. -/
def isRef (a : W64) : Bool := a.msb
def refModule (a : W64) : Nat := a.toNat / 2 ^ 48 % 16
def refWindow (a : W64) : Nat := a.toNat / 2 ^ 40 % 256
def refOff (a : W64) : Nat := a.toNat % 2 ^ 40

/-- The reserved bits of an address field are zero. -/
def formOk (a : W64) : Bool := if isRef a then a.toNat / 2 ^ 52 % 2 ^ 11 = 0 else a.toNat / 2 ^ 48 = 0

/-- The context of a core's job; 64 names none. -/
def ctxOfCore (m : Module) (c : Nat) : Nat := ((m.core c).ctx).getD 64

/-- Whether a device address lies in core c's own scratchpad. -/
def ownSpad (c : Nat) (a : W64) : Bool :=
  !isRef a && decide (spadBase c ≤ a.toNat) && decide (a.toNat < spadBase c + 0x80000)

/-- An operation of an engine fails (R122): the engine faults, unless its job has ended. -/
def failOp (c e k desc st : Nat) (m : Module) : Module :=
  if (m.core c).ctx = some k && (m.eng c e).run != .off then opFault c e desc st m else m

/-! ### Partition bridges (R388, R393) -/

/-- The partition of a sync object's bank (Table 5-2). -/
def partOfSync (k : Nat) : Nat := k / 16384

/-- The partition of a runner's router (Table 5-2): row 0 for runners 0 and 1, row 3 for 2 and 3. -/
def partOfRunner (r : Nat) : Nat := if r < 2 then 0 else 3

/-- The partition an address is served in (Table 1-3, Table 5-2): the stream-queue manager is at router 13. -/
def partOfAddr (m : Module) (a : Nat) : Option Nat :=
  match placeOf m a with
  | .ddr => some (a / partBytes)
  | .store => some (quadOf a)
  | .spad c => some (partOfCore m c)
  | .prog c => some (partOfCore m c)
  | .sync => some (partOfSync ((a - syncAddr) / 8))
  | .sq => some 1
  | _ => none

/-- Whether the path from partition a to partition b passes through n: partitions are the rows of the mesh (R11), and a packet goes
along its row first, then along the column. -/
def passes (a b n : Nat) : Bool := decide (min a b ≤ n) && decide (n ≤ max a b)

/-- Whether a packet from partition a to partition b enters n over one of its bridges (R388). -/
def enters (a b n : Nat) : Bool := n != a && passes a b n

/-- Whether a path between two partitions crosses a bridge that is closed (R393 step 1). -/
def pathBlocked (m : Module) (a b : Nat) : Bool :=
  a != b && (List.range 4).any (fun n => passes a b n && m.fab.bridgeClosed.get false n)

/-- Whether traffic between a partition and an address would pass a closed bridge. -/
def bridgeBlocks (m : Module) (p a : Nat) : Bool := (partOfAddr m a).any (pathBlocked m p)

/-! ### Targets -/

/-- Read n bytes (a multiple of 8) at an aligned device address, as delivered. -/
def fabRead (a n : Nat) (m : Module) : Module × List (W64 × Bool) :=
  match placeOf m a with
  | .sync => (m, (List.range (n / 8)).map (fun i => (m.fab.sync.get 0 ((a - syncAddr) / 8 + i), false)))
  | .sq =>
    (m, (List.range (n / 8)).map (fun i =>
      let b := a - sqAddr + 8 * i
      (BitVec.ofNat 64 (leNat ((List.range 8).map (fun j => sqByte (m.queue (b / 4096)) (b % 4096 + j)))), false)))
  | _ => (countReads (n / 8) (a / 8) false m, readWords m.mem (a / 8) (n / 8))

/-- Put words into sync objects: a poisoned word is refused (Table 5-3). -/
def syncPuts : Nat → List (W64 × Bool) → Module → Module
  | _, [], m => m
  | i, (d, p) :: ws, m => syncPuts (i + 1) ws (if p then m else syncSet i d m)

/-- Write words at an aligned device address; true when a poisoned word met a sync object. -/
def fabWrite (a : Nat) (ws : List (W64 × Bool)) (m : Module) : Module × Bool :=
  match placeOf m a with
  | .sync => (syncPuts ((a - syncAddr) / 8) ws m, ws.any Prod.snd)
  | _ => (writeWords (a / 8) ws m, false)

/-- Words that the manual leaves undefined: data and poison are free values. -/
def freeWords (m : Module) (n : Nat) : List (W64 × Bool) :=
  (List.range n).map (fun i => (Config.freeValue (m.freeCount + 2 * i), (Config.freeValue (m.freeCount + 2 * i + 1)).getLsbD 0))

/-- n words of memory become undefined. -/
def undefine (a n : Nat) (m : Module) : Module :=
  if n = 0 then m else writeWords (a / 8) (freeWords m n) (freeSkip m (2 * n))

/-- n bytes of memory become undefined; a sync object or a control block keeps its value. -/
def undefineAt (a n : Nat) (m : Module) : Module :=
  match placeOf m a with
  | .ddr | .store | .spad _ | .prog _ => undefine a (n / 8) m
  | _ => m

/-! ### The window unit (R124) -/

/-- The rights a kind needs, by RIGHTS bit. -/
def rightsFor (kind : Nat) : List Nat :=
  if kind = 0 then [1] else if kind = 1 then [0] else if kind = 2 then [2] else if kind = 3 then [3] else [1, 3]

/-- Steps 1 to 3 of R124: the target address, or the status. -/
def windowPass (m : Module) (w srcModule srcCtx kind off len rsync : Nat) : Except Nat Nat :=
  let v := m.window w
  if v.state = 0 then .error 3
  else if v.state = 2 then .error 6
  else match v.perms.find? (fun p => p.module == srcModule && (p.ctx == srcCtx || p.ctx == 0xFF)) with
    | none => .error 5
    | some p =>
      if !(rightsFor kind).all (fun b => p.rights.getLsbD b) then .error 5
      else if off ≥ 2 ^ v.log2 || off + len > 2 ^ v.log2 then .error 4
      else if (kind = 3 || kind = 4) && !(decide (v.syncBase ≤ rsync) && decide (rsync < v.syncBase + v.syncCount)) then .error 4
      else .ok (v.base + off)

/-- The access of a kind at its target. -/
def accessOf (kind : Nat) : Access := if kind = 1 then .read else if kind = 2 then .atomic else .write

/-- Whether the operation's transfers inside this module are permitted under a SID (R15, R112, R370). -/
def opPermitted (m : Module) (sid : W16) (kind target len rsync : Nat) : Bool :=
  (kind = 3 || permitted m sid (accessOf kind) target len) && (!(kind = 3 || kind = 4) || syncOwned m (sidCtx sid) rsync)

/-- Count an operation's refused transfer. -/
def countOp (o : ROp) (sid : W16) (target : Nat) (m : Module) : Module :=
  if o.kind = 3 then m else countRefused sid (accessOf o.kind) target o.len m

/-- The SID of an operation that a window has passed: its owning context's, with unit ID 0x25 (R124 step 4). -/
def windowSid (m : Module) (w : Nat) : W16 := sidOf m (m.window w).ctx 0x25

/-- Count an operation that a window has passed (R125). -/
def windowUse (w : Nat) (m : Module) : Module := m.setWindow w { (m.window w) with pending := (m.window w).pending + 1 }

/-- An operation that a window passed has completed (R125). -/
def windowDone (w : Nat) (m : Module) : Module := m.setWindow w { (m.window w) with pending := (m.window w).pending - 1 }

/-! ### Operations -/

/-- The target module of an operation. -/
def opModule (m : Module) (o : ROp) : Nat := if isRef o.remote then refModule o.remote else m.host.moduleId

/-- Whether an engine's operation goes to another module (R332). -/
def offModule (m : Module) (o : ROp) : Bool := o.peer.isNone && isRef o.remote && refModule o.remote != m.host.moduleId

def findOp (m : Module) (id : Nat) : Option ROp := m.fab.ops.find? (fun o => o.id == id)
def putOp (m : Module) (o : ROp) : Module :=
  { m with fab := { m.fab with ops := m.fab.ops.map (fun i => if i.id = o.id then o else i) } }
def dropOp (m : Module) (id : Nat) : Module := { m with fab := { m.fab with ops := m.fab.ops.filter (fun o => o.id != id) } }
/-- The runner an entry of the route table names, when it is up (R332). -/
def routeTo (m : Module) (dest : Nat) : Option Nat :=
  let r := m.links.route.getD dest 0xFF
  if r < 4 && (m.runner r).state = 2 then some r else none

/-- The partition an operation comes from in this module: its core's, or that of the runner it arrived through. -/
def opFrom (m : Module) (o : ROp) : Nat :=
  match o.peer with
  | some p => partOfRunner p.runner
  | none => partOfCore m o.core

/-- The partitions an operation goes to in this module: its target's and its sync object's, or its runner's; none before the window
unit has given it a target, or where that gave it none. -/
def opWays (m : Module) (o : ROp) : List Nat :=
  if offModule m o then (((o.runner <|> routeTo m (refModule o.remote))).map partOfRunner).toList
  else if o.phase = 0 || (isRef o.remote && o.window.isNone) || (o.phase = 3 && o.status = 1) then []
  else (if o.kind = 3 then [] else (partOfAddr m o.target).toList) ++ (if o.kind = 3 || o.kind = 4 then [partOfSync o.rsync] else [])

/-- Whether an operation, or its response, would pass a closed bridge. -/
def opBlocked (m : Module) (o : ROp) : Bool := (opWays m o).any (pathBlocked m (opFrom m o))

/-- Whether an operation can wait at a bridge into partition n (R388): on its way to its target or its runner. -/
def heldInto (m : Module) (n : Nat) (o : ROp) : Bool := o.phase = 1 && (opWays m o).any (fun b => enters (opFrom m o) b n)

/-- Whether an operation's response can wait at a bridge into partition n. -/
def responseInto (m : Module) (n : Nat) (o : ROp) : Bool :=
  (o.phase = 2 || o.phase = 3) && (opWays m o).any (fun b => enters b (opFrom m o) n)

/-- Whether an operation or its response can be inside partition n (R393 step 4). -/
def insidePart (m : Module) (n : Nat) (o : ROp) : Bool :=
  1 ≤ o.phase && o.phase ≤ 3 && (opWays m o).any (fun b => passes (opFrom m o) b n)
/-- Append an operation under the next number. -/
def addOp (m : Module) (o : ROp) : Module :=
  { m with fab := { m.fab with ops := m.fab.ops ++ [{ o with id := m.fab.nextOp }], nextOp := m.fab.nextOp + 1 } }

/-- Earlier operations of the same engine that have not completed. -/
def earlier (m : Module) (o : ROp) : List ROp :=
  m.fab.ops.filter (fun i => i.peer.isNone && i.core == o.core && i.eng == o.eng && decide (i.seq < o.seq))

/-- Whether an operation is known to have taken effect: one in this module has, once it has; one to another module has when its
response comes and it completes, so while it is in flight it is not known to (notes/assumptions/71). One that a partition reset
has lost (phase 4) has not. -/
def tookEffect (m : Module) (o : ROp) : Bool := !offModule m o && (o.phase = 2 || o.phase = 3)

/-- Whether an operation's ordering class lets it take effect (R119); its class keeps an operation to another module from
leaving, so that a peer's operation has passed its own module's order when it arrives here. -/
def mayEffect (m : Module) (o : ROp) : Bool :=
  o.peer.isSome || o.cls = 0
    || (o.cls = 1 && (earlier m o).all (fun i => i.cls = 0 || opModule m i != opModule m o || tookEffect m i))
    || (o.cls = 2 && (earlier m o).isEmpty)

/-- The new value of an atomic (Table 5-6). -/
def atomicNew (aop : Nat) (old opd cmp : W64) : W64 :=
  if aop = 0 then old + opd
  else if aop = 1 then opd
  else if aop = 2 then (if old = cmp then opd else old)
  else if aop = 3 then old &&& opd
  else if aop = 4 then old ||| opd
  else if old.toNat < opd.toNat then opd else old

/-- An atomic at its target with its operand and compare words (R116): the module, a status, and the old value with its
poison. -/
def atomicAt (target aop : Nat) (opd cmp : W64 × Bool) (m : Module) : Module × Nat × (W64 × Bool) :=
  let r := fabRead target 8 m
  let old := r.2.headD (0, false)
  let sync := placeOf m target = .sync
  let badIn := opd.2 || (aop = 2 && cmp.2)
  if badIn && sync then (r.1, 9, (old.1, true))
  else if badIn || old.2 then (r.1, 0, (old.1, true))
  else ((fabWrite target [(atomicNew aop old.1 opd.1 cmp.1, false)] r.1).1, 0, (old.1, false))

/-- The words an operation brings: from LOCAL, or as its peer sent them. -/
def bringWords (o : ROp) (n : Nat) (m : Module) : Module × List (W64 × Bool) :=
  match o.peer with
  | some p =>
    if o.kind = 2 then (m, [(p.operand, p.poison.getD 0 false), (p.compare, p.poison.getD 1 false)])
    else (m, (List.range (n / 8)).map (fun i => (BitVec.ofNat 64 (leAt p.data (8 * i) 8), p.poison.getD i false)))
  | none => fabRead (local_ o.core o.loc) n m

/-! ### Answers to a peer (R117, R126, R332) -/

/-- The runner that an answer to another module leaves on: its route's, or the one that the question came by
(notes/assumptions/101). -/
def answerRoute (m : Module) (ingress dest : Nat) : Option Nat :=
  routeTo m dest <|> (if ingress < 4 && (m.runner ingress).state = 2 then some ingress else none)

/-- The response to a peer's operation leaves (R117, R122, R332). -/
def answerPeer (p : PeerOp) (status : Nat) (data : List Byte) (poison : List Bool) (m : Module) : Module :=
  match answerRoute m p.runner p.module with
  | some r => sendRunner r (.reply p.module 1 status data poison) m
  | none => m

/-- The packets that what arrives of a peer's operation came as (R126): 256 bytes of a put each. -/
def peerPackets (p : PeerOp) : Nat := if p.kind = 0 || p.kind = 4 then max 1 ((p.data.length + 255) / 256) else 1

/-- A peer's operation leaves the ingress buffer: its credits return to the module at the other end of the runner, where that is
the module that spent them (R126); on the runners after its first one an operation is in transit and has spent none (R332). -/
def returnCredits (p : PeerOp) (m : Module) : Module :=
  if p.runner < 4 && (m.runner p.runner).state = 2 && (m.runner p.runner).peer = some p.module then
    sendRunner p.runner (.credit p.context (peerPackets p)) m
  else m

/-- What an operation takes back: into LOCAL, or in the response to its peer. -/
def takeBack (o : ROp) (off : Nat) (ws : List (W64 × Bool)) (m : Module) : Module :=
  match o.peer with
  | some p => answerPeer p 0 (ws.flatMap (fun w => leBytes 8 w.1.toNat)) (ws.map Prod.snd) m
  | none => writeWords (local_ o.core (o.loc + off) / 8) ws m

/-- The effect of an operation at its target in this module (R116 to R118): the module and a status of Table 5-7. -/
def opEffect (o : ROp) (m : Module) : Module × Nat :=
  if o.kind != 3 && !targetOn m o.target o.len then (m, 7)
  else if o.kind = 1 then
    let r := fabRead o.target o.len m
    (takeBack o 0 r.2 r.1, 0)
  else if o.kind = 2 then
    let b := bringWords o 16 m
    let r := atomicAt o.target o.aop (b.2.headD (0, false)) (b.2.getD 1 (0, false)) b.1
    if r.2.1 = 0 then (takeBack o 16 [r.2.2] r.1, 0) else (r.1, r.2.1)
  else if o.kind = 3 then (syncAdd o.rsync o.amount m, 0)
  else
    let b := bringWords o o.len m
    let m := (fabWrite o.target b.2 b.1).1
    (if o.kind = 4 then syncAdd o.rsync o.amount m else m, 0)

/-- The target bytes in the range of a put that the window unit fails (R122, statuses 3 to 6): those the window has; a window that
is not open has none (notes/assumptions/64). -/
def windowUndefined (w kind off len : Nat) (m : Module) : Module :=
  let v := m.window w
  if (kind = 0 || kind = 4) && v.state != 0 && off < 2 ^ v.log2 then
    undefineAt (v.base + off) (min len (2 ^ v.log2 - off)) m
  else m

/-- What a failed operation leaves undefined (R122): LOCAL in the range of a get; of LOCAL, the old value's word of an atomic, the
only one it writes; the target of a put that was under way here (TARGET_OFF, TARGET_RESET). A put refused under R15 has no effect
at its target (notes/assumptions/64); one that the window unit fails leaves its target open at that check. -/
def opUndefined (o : ROp) (st : Nat) (m : Module) : Module :=
  if o.peer.isNone && o.kind = 1 then undefine (local_ o.core o.loc) (o.len / 8) m
  else if o.peer.isNone && o.kind = 2 then undefine (local_ o.core (o.loc + 16)) 1 m
  else if (o.kind = 0 || o.kind = 4) && (st = 7 || st = 8) && !offModule m o then undefineAt o.target o.len m
  else m

/-! ### Packets and credits (R126, R127, R332) -/

/-- Packets an operation crosses a runner as. -/
def packetsOf (o : ROp) : Nat := if o.kind = 0 || o.kind = 4 then (o.len + 255) / 256 else 1

def Module.credit (m : Module) (r k : Nat) : Credit := m.fab.credits.get {} (64 * r + k)
def Module.setCredit (m : Module) (r k : Nat) (v : Credit) : Module :=
  { m with fab := { m.fab with credits := m.fab.credits.put {} (64 * r + k) v } }

/-- Waiting packets of a context leave while it has free credits (R126, R127). Those that wait when the reservation becomes zero
wait on: R127 ends with NO_CREDITS only what reaches the runner then (notes/assumptions/65). -/
def sendWaiting (r k : Nat) (m : Module) : Module :=
  let v := m.credit r k
  let go := v.waiting.take (v.reserved - v.inUse)
  let m := m.setCredit r k { v with inUse := v.inUse + go.length, waiting := v.waiting.drop (v.reserved - v.inUse) }
  go.foldl (fun m p => sendRunner r (.own p) m) m

/-- Packets of context k reach runner r. -/
def sendPackets (r k : Nat) (ps : List OutPacket) (m : Module) : Module :=
  sendWaiting r k (m.setCredit r k { (m.credit r k) with waiting := (m.credit r k).waiting ++ ps })

/-- Whether every packet under a number has left. -/
def allSent (m : Module) (r k id : Nat) : Bool := (m.credit r k).waiting.all (fun p => p.op != id)

/-- The packets of a transfer to a module: `whole` is what the target checks and performs, `ws` the words it brings, 32 of them a
packet where there are more (R126). The first runner is the first they cross (R332). -/
def packets (id count dest : Nat) (whole : PeerOp) (ws : List (W64 × Bool)) : List OutPacket :=
  (List.range count).map (fun i =>
    let part := (ws.drop (32 * i)).take 32
    ⟨id, i, dest, 1, { whole with data := part.flatMap (fun w => leBytes 8 w.1.toNat), poison := part.map Prod.snd }⟩)

/-- The words an operation takes from LOCAL (R114, R116). -/
def outWords (o : ROp) : Nat := if o.kind = 0 || o.kind = 4 then o.len else if o.kind = 2 then 16 else 0

/-- An operation as the target module sees it (R114, R124). -/
def wholeOp (m : Module) (o : ROp) (r : Nat) (ws : List (W64 × Bool)) : PeerOp :=
  { runner := r, module := m.host.moduleId, context := o.ctx, window := refWindow o.remote, offset := refOff o.remote
    kind := o.kind, aop := o.aop, length := o.len, rsync := o.rsync, amount := o.amount
    operand := (ws.getD 0 (0, false)).1, compare := (ws.getD 1 (0, false)).1, data := [], poison := [] }

/-- An operation for another module reaches its runner (R126, R127, R332): NO_ROUTE, NO_CREDITS, or it reads LOCAL and its
packets wait for credits. -/
def launch (o : ROp) (m : Module) : Module :=
  match routeTo m (refModule o.remote) with
  | none => putOp m { o with phase := 3, status := 2 }
  | some r =>
    if (m.credit r o.ctx).reserved = 0 then putOp m { o with phase := 3, status := 0xB }
    else
      let d := fabRead (local_ o.core o.loc) (outWords o) m
      sendPackets r o.ctx (packets o.id (packetsOf o) (refModule o.remote) (wholeOp m o r d.2) d.2)
        (putOp d.1 { o with phase := 2, runner := some r })

end Sys2Proof.Machine
end

