-- ==== Sys2Proof/Machine/Mover.lean ====
section
/-!
DEFINITION. The data mover of a core (R67 to R72): a descriptor enters service, its groups complete in order, and it ends.
-/

namespace Sys2Proof.Machine

/-- Number of groups of a descriptor (R69). -/
def groupsOf (j : MoverJob) : Nat := (j.rows + j.groupRows - 1) / j.groupRows

/-- Bytes from the first row's start to the last row's end. -/
def spanOf (j : MoverJob) (stride : Nat) : Nat := (j.rows - 1) * stride + j.rowBytes

/-- Where one side of a descriptor lies: an address of this module, with the SID its transfers carry and the window they pass, or
a peer's runner. -/
inductive Side where
  | here (a : Nat) (sid : W16) (w : Option Nat)
  | peer (r : Nat)
deriving DecidableEq, Repr

/-- Address, stride and access of one side. -/
def sideAddr (j : MoverJob) (read : Bool) : W64 := if read then j.src else j.dst
def sideStride (j : MoverJob) (read : Bool) : Nat := if read then j.srcStride else j.dstStride
def sideAccess (read : Bool) : Access := if read then .read else .write

/-- Resolve one side (R67, R124 to R127): the core's own scratchpad is bounded (notes/assumptions/21); a remote reference to
this module passes its window, and another leaves by a runner that is up and on which the context holds credits. -/
def resolveSide (c : Nat) (j : MoverJob) (read : Bool) (m : Module) : Except Nat Side :=
  let a := sideAddr j read
  if !isRef a then
    (if ownSpad c a && decide (spadBase c + 0x80000 < a.toNat + spanOf j (sideStride j read)) then .error 1
     else .ok (.here a.toNat (sidOf m j.ctx c) none))
  else if refModule a = m.host.moduleId then
    match windowPass m (refWindow a) m.host.moduleId j.ctx (if read then 1 else 0) (refOff a) (spanOf j (sideStride j read)) 0 with
    | .error st => .error st
    | .ok b => .ok (.here b (windowSid m (refWindow a)) (some (refWindow a)))
  else match routeTo m (refModule a) with
    | none => .error 2
    | some r => if (m.credit r j.ctx).reserved = 0 then .error 0xB else .ok (.peer r)

/-- Whether rows of one side may be transferred, row by row (R15, R16, R370): 1 refused by the firewall, 7 its domain off. -/
def rowsStatus (j : MoverJob) (read : Bool) (rows : List Nat) (s : Side) (m : Module) : Nat :=
  match s with
  | .here a sid _ =>
    if !rows.all (fun r => permitted m sid (sideAccess read) (a + r * sideStride j read) j.rowBytes) then 1
    else if !rows.all (fun r => targetOn m (a + r * sideStride j read) j.rowBytes) then 7 else 0
  | .peer _ => 0

/-- Whether a side is a peer's and the group's packets have been handed to its runner: it has passed what R127 and R332 ask of what
reaches a runner. -/
def sideSent (j : MoverJob) (read : Bool) : Bool := j.tag.isSome && (if read then j.srcPeer else j.dstPeer).isSome

/-- The status of one side for some of its rows. -/
def sideStatus (c : Nat) (j : MoverJob) (read : Bool) (rows : List Nat) (m : Module) : Nat :=
  if sideSent j read then 0
  else match resolveSide c j read m with
  | .error st => st
  | .ok s => rowsStatus j read rows s m

/-- The device address of group g's scale line. -/
def scaleAddr (j : MoverJob) (g : Nat) : Nat := j.scaleSrc.toNat + 64 * g

/-- Whether the scale lines of some groups may be read (R15, R16, R370). -/
def scaleStatus (c : Nat) (j : MoverJob) (groups : List Nat) (m : Module) : Nat :=
  if !j.flags.getLsbD 1 then 0
  else if !groups.all (fun g => permitted m (sidOf m j.ctx c) .read (scaleAddr j g) 64) then 1
  else if !groups.all (fun g => targetOn m (scaleAddr j g) 64) then 7 else 0

/-- The rows of the group that is next. -/
def groupRows (j : MoverJob) : List Nat :=
  (List.range (min j.groupRows (j.rows - j.done * j.groupRows))).map (fun i => j.done * j.groupRows + i)

/-- Which part of a transfer fails first, and with which status: the source, the destination or the scale stream. -/
inductive MoverCheck where
  | ok
  | source (st : Nat)
  | target (st : Nat)
  | scale (st : Nat)
deriving DecidableEq, Repr

/-- The checks of some rows and scale lines, the source first. -/
def moverCheck (c : Nat) (j : MoverJob) (rows groups : List Nat) (m : Module) : MoverCheck :=
  if sideStatus c j true rows m != 0 then .source (sideStatus c j true rows m)
  else if sideStatus c j false rows m != 0 then .target (sideStatus c j false rows m)
  else if scaleStatus c j groups m != 0 then .scale (scaleStatus c j groups m) else .ok

/-- The first of a side's rows that the firewall refuses is counted. -/
def countSide (c : Nat) (j : MoverJob) (read : Bool) (rows : List Nat) (m : Module) : Module :=
  match resolveSide c j read m with
  | .ok (.here a sid _) =>
    match rows.find? (fun r => !permitted m sid (sideAccess read) (a + r * sideStride j read) j.rowBytes) with
    | some r => countRefused sid (sideAccess read) (a + r * sideStride j read) j.rowBytes m
    | none => m
  | _ => m

/-- The first scale line that the firewall refuses is counted. -/
def countScale (c : Nat) (j : MoverJob) (groups : List Nat) (m : Module) : Module :=
  match groups.find? (fun g => !permitted m (sidOf m j.ctx c) .read (scaleAddr j g) 64) with
  | some g => countRefused (sidOf m j.ctx c) .read (scaleAddr j g) 64 m
  | none => m

/-- The side's fields in the descriptor. -/
def setSide (read : Bool) (s : Side) (j : MoverJob) : MoverJob :=
  match s with
  | .here a _ w => if read then { j with srcAt := a, wins := w.toList ++ j.wins } else { j with dstAt := a, wins := w.toList ++ j.wins }
  | .peer r => if read then { j with srcPeer := some r } else { j with dstPeer := some r }

/-- Replace the descriptor in service. -/
def putHead (c : Nat) (j : MoverJob) (m : Module) : Module := m.updCore c (fun v => { v with mover := j :: v.mover.drop 1 })

/-- The descriptor in service leaves the mover: the windows it passed are done with it (R125), and none of its packets waits at
a runner. -/
def endMover (c : Nat) (j : MoverJob) (m : Module) : Module :=
  let m := j.wins.foldl (fun m w => windowDone w m) (m.updCore c (fun v => { v with mover := v.mover.drop 1 }))
  match j.tag with
  | some id => { m with fab := { m.fab with
      credits := m.fab.credits.map (fun p => (p.1, { p.2 with waiting := p.2.waiting.filter (fun k => k.op != id) })) } }
  | none => m

/-- The descriptor fails with a status (R69, R122): nothing further of it is performed, and its slot frees. -/
def failMover (c : Nat) (j : MoverJob) (st : Nat) (m : Module) : Module :=
  endMover c j ((failOp c j.eng j.ctx j.off st m).updEng c j.eng freeSlot)

/-- What the failure of the group's gets (`get`), or of its puts with a status, leaves undefined (R122): the rows of that group in
the core's own scratchpad, at the target of puts that were under way, or in the window that fails its puts; earlier rows stay
written (R69, notes/assumptions/64). -/
def spoilRows (c : Nat) (j : MoverJob) (get : Bool) (st : Nat) (m : Module) : Module :=
  match resolveSide c j false m with
  | .ok (.here a _ _) =>
    if (get && ownSpad c j.dst) || st = 7 || st = 8 then
      (groupRows j).foldl (fun m r => undefineAt (a + r * j.dstStride) j.rowBytes m) m
    else m
  | .error _ =>
    if !get && isRef j.dst && refModule j.dst = m.host.moduleId then
      (groupRows j).foldl (fun m r => windowUndefined (refWindow j.dst) 0 (refOff j.dst + r * j.dstStride) j.rowBytes m) m
    else m
  | _ => m

/-- The group's gets or puts fail. -/
def failGroup (c : Nat) (j : MoverJob) (get : Bool) (st : Nat) (m : Module) : Module :=
  failMover c j st (spoilRows c j get st m)

/-- The descriptor ends with what a check found; otherwise it goes on. -/
def unlessBad (c : Nat) (j : MoverJob) (rows groups : List Nat) (go : Module → Module) (m : Module) : Module :=
  match moverCheck c j rows groups m with
  | .ok => go m
  | .source st => failGroup c j true st (countSide c j true rows m)
  | .target st => failGroup c j false st (countSide c j false rows m)
  | .scale st => failMover c j st (countScale c j groups m)

/-- The words of a group's row as its source delivers them. -/
def rowWords (j : MoverJob) (r : Nat) (m : Module) : Module × List (W64 × Bool) :=
  fabRead (j.srcAt + r * j.srcStride) j.rowBytes m

/-- A row as a peer sees it: a put of its bytes, or a get (R124). -/
def rowOp (m : Module) (j : MoverJob) (k r : Nat) (put : Bool) : PeerOp :=
  let a := sideAddr j (!put)
  { runner := k, module := m.host.moduleId, context := j.ctx, window := refWindow a, offset := refOff a + r * sideStride j (!put)
    kind := if put then 0 else 1, aop := 0, length := j.rowBytes, rsync := 0, amount := 0, operand := 0, compare := 0, data := []
    poison := [] }

/-- A group whose source or destination is a peer's reaches the runner (R71, R126): a put crosses with its bytes and poison (R72), a
get as one request a row. -/
def sendGroup (c : Nat) (j : MoverJob) (m : Module) : Module :=
  let id := m.fab.nextOp
  let next := fun (m : Module) => putHead c { j with tag := some id } { m with fab := { m.fab with nextOp := id + 1 } }
  match j.srcPeer, j.dstPeer with
  | some k, _ =>
    sendPackets k j.ctx ((groupRows j).flatMap (fun r => packets id 1 (refModule j.src) (rowOp m j k r false) [])) (next m)
  | none, some k =>
    let x := (groupRows j).foldl (fun acc r =>
      let d := rowWords j r acc.1
      (d.1, acc.2 ++ packets id ((j.rowBytes + 255) / 256) (refModule j.dst) (rowOp m j k r true) d.2)) (m, [])
    sendPackets k j.ctx x.2 (next x.1)
  | none, none => m

/-- The partitions that the packets of a descriptor's next group go to or come from (R388): of its rows, or of the runner to a
peer, of its scale line, and of its sync object. -/
def moverWays (m : Module) (j : MoverJob) : List Nat :=
  let side := fun (peer : Option Nat) (a stride : Nat) => match peer with
    | some r => [partOfRunner r]
    | none => ((groupRows j).filterMap (fun r => partOfAddr m (a + r * stride))).dedup
  side j.srcPeer j.srcAt j.srcStride ++ side j.dstPeer j.dstAt j.dstStride
    ++ (if j.flags.getLsbD 1 then (partOfAddr m (scaleAddr j j.done)).toList else [])
    ++ (if j.flags.getLsbD 2 then [] else [partOfSync j.sync])

/-- Whether a descriptor's packets would cross a closed bridge (R393). -/
def moverBlocked (m : Module) (c : Nat) (j : MoverJob) : Bool := (moverWays m j).any (pathBlocked m (partOfCore m c))

/-- Whether a descriptor is in service with a group to come. -/
def inService (j : MoverJob) : Bool := j.started && decide (j.done < groupsOf j) && !j.lost

/-- Whether a packet of a descriptor can wait at a bridge into partition n, or be inside n (R388, R393). -/
def moverInto (m : Module) (n c : Nat) (j : MoverJob) : Bool :=
  inService j && (moverWays m j).any (fun b => enters (partOfCore m c) b n || enters b (partOfCore m c) n)
def moverInside (m : Module) (n c : Nat) (j : MoverJob) : Bool :=
  inService j && (moverWays m j).any (fun b => passes (partOfCore m c) b n)

/-- Take a descriptor into service: both sides and the scale stream are resolved and checked, and its first group starts, once no
closed bridge is in its way. -/
def startMover (c : Nat) (j : MoverJob) (m : Module) : Module :=
  unlessBad c j (List.range j.rows) (List.range (groupsOf j)) (fun m =>
    match resolveSide c j true m, resolveSide c j false m with
    | .ok s, .ok d =>
      let j := setSide false d (setSide true s { j with started := true, since := m.time.elapsed })
      if moverBlocked m c j then m else
      sendGroup c j (putHead c j (j.wins.foldl (fun m w => windowUse w m) m))
    | _, _ => m) m

/-- MOVER_DESCRIPTOR_START (R71): one at a time, in the order received. -/
def execMoverDescriptorStart (c : Fin 32) (s : State) : Res :=
  s.act (fun m =>
    match (m.core c).mover with
    | j :: _ => if j.started then m else startMover c j m
    | [] => m)

/-- Write rows of a group until a poisoned word meets a sync object, which the Bool answers (R69, R72): poison goes with each
word. `ret` holds what a peer returned for the group, its first row first. -/
def writeRows (j : MoverJob) (ret : List (W64 × Bool)) : List (Nat × Nat) → Module → Module × Bool
  | [], m => (m, false)
  | (i, r) :: rs, m =>
    let n := j.rowBytes / 8
    let d := if j.srcPeer.isSome then (m, (ret.drop (i * n)).take n) else rowWords j r m
    let x := fabWrite (j.dstAt + r * j.dstStride) d.2 d.1
    if x.2 then x else writeRows j ret rs x.1

/-- Write group g's scale line into Q of every engine of ENG_MASK (R69, R70). -/
def writeScale (c : Nat) (j : MoverJob) (ws : List (W64 × Bool)) (m : Module) : Module :=
  let bs := ws.flatMap (fun w => leBytes 8 w.1.toNat)
  let ent := (List.range 32).map (fun i => BitVec.ofNat 16 (leAt bs (2 * i) 2))
  (bitsOf j.engMask).foldl (fun m e => m.updEng c e (fun v =>
    { v with nxt := v.nxt.setScales (j.qBase + 32 * j.done) ent })) m

/-- The runner a descriptor's groups cross. -/
def moverRunner (j : MoverJob) : Option Nat := j.srcPeer.orElse (fun _ => j.dstPeer)

/-- A group completes (R69): its scale line, its rows, and its signal; the slot frees at the final group signal (R71), and the
next group starts. -/
def moverGroup (c : Nat) (j : MoverJob) (ret : List (W64 × Bool)) (m : Module) : Module :=
  let line := if j.flags.getLsbD 1 then fabRead (scaleAddr j j.done) 64 m else (m, [])
  if line.2.any Prod.snd then failMover c j 0xC line.1
  else
    let m := if j.flags.getLsbD 1 then writeScale c j line.2 line.1 else m
    let x := if j.dstPeer.isSome then (m, false) else writeRows j ret ((groupRows j).zipIdx.map (fun p => (p.2, p.1))) m
    if x.2 then failMover c j 9 x.1
    else
      let j' := { j with done := j.done + 1, tag := none, since := m.time.elapsed }
      let m := putHead c j' x.1
      let m := if j.flags.getLsbD 0 then syncAdd j.sync 1 m else m
      if j'.done = groupsOf j then (if j.flags.getLsbD 0 then m.updEng c j.eng freeSlot else m)
      else if (moverRunner j').isSome then unlessBad c j' (groupRows j') [j'.done] (sendGroup c j') m
      else m

/-- What a peer returned, as words. -/
def returned (data : List Byte) (poison : List Bool) : List (W64 × Bool) :=
  (List.range (data.length / 8)).map (fun i => (BitVec.ofNat 64 (leAt data (8 * i) 8), poison.getD i false))

/-- MOVER_GROUP_COMPLETE (R69, R122, R125): its rows are checked as they are transferred, since a window may have closed or a
domain gone off; the side of a group already handed to its runner is not asked again (R127). A group that crosses a runner completes once all its packets have left, with the status, the data and the poison
that the peer's responses carry; the operands say nothing of another. -/
def execMoverGroupComplete (c : GroupReport) (s : State) : Res :=
  let ⟨c, status, data, poison⟩ := c
  s.act (fun m =>
    match (m.core c).mover with
    | j :: _ =>
      if inService j && !moverBlocked m c j then
        unlessBad c j (groupRows j) [j.done] (fun m =>
          match moverRunner j, j.tag with
          | some r, some id =>
            if !allSent m r j.ctx id || status > 0xC then m
            else if status != 0 then failGroup c j j.srcPeer.isSome status m
            else moverGroup c j (returned data poison) m
          | _, _ => moverGroup c j [] m) m
      else m
    | [] => m)

/-- MOVER_DESCRIPTOR_COMPLETE (R69, R71): after the last group; the whole descriptor's signal, and its slot. -/
def execMoverDescriptorComplete (c : Fin 32) (s : State) : Res :=
  s.act (fun m =>
    match (m.core c).mover with
    | j :: _ =>
      if j.started && j.done = groupsOf j && !j.lost then
        let m := if !j.flags.getLsbD 0 && !j.flags.getLsbD 2 then syncAdd j.sync 1 m else m
        endMover c j (if j.flags.getLsbD 0 then m else m.updEng c j.eng freeSlot)
      else m
    | [] => m)

end Sys2Proof.Machine
end

