-- ==== Sys2Proof/Machine/Remote.lean ====
section
/-!
DEFINITION. Remote operations in flight (R114 to R122), the window unit (R124, R125) and runner credits (R126, R127).
-/

namespace Sys2Proof.Machine

/-- An operation that a peer sent ends: its response leaves and its window is done with it (R124, R125). -/
def endPeer (o : ROp) (st : Nat) (m : Module) : Module :=
  let m := match o.peer with
    | some p => if st = 0 && (o.kind = 1 || o.kind = 2) then m else answerPeer p st [] [] m
    | none => m
  let m := match o.window with
    | some w => windowDone w m
    | none => m
  dropOp m o.id

/-- REMOTE_OP_TAKE_EFFECT (R106, R107, R110, R112, R116 to R119): the effect at a target in this module, once the
operation's class allows it; an operation for another module reaches its runner (R126, R127). -/
def execRemoteOpTakeEffect (id : Nat) (s : State) : Res :=
  s.act (fun m =>
    match findOp m id with
    | none => m
    | some o =>
      if o.phase != 1 || opBlocked m o || !mayEffect m o then m
      else if offModule m o then launch o m
      else
        let r := opEffect o m
        if o.peer.isSome then endPeer o r.2 (if r.2 = 0 then r.1 else opUndefined o r.2 r.1)
        else putOp r.1 (if r.2 = 0 then { o with phase := 2 } else { o with phase := 3, status := r.2 }))

/-- The source module and context of an operation at the window unit. -/
def opSource (m : Module) (o : ROp) : Nat × Nat :=
  match o.peer with
  | some p => (p.module, p.context)
  | none => (m.host.moduleId, o.ctx)

/-- The window and offset an operation names. -/
def opRef (o : ROp) : Nat × Nat :=
  match o.peer with
  | some p => (p.window, p.offset)
  | none => (refWindow o.remote, refOff o.remote)

/-- The check of one operation (R124): a peer's leaves the ingress buffer (R126); it proceeds with the owning context's identity, or
ends with its status, a put's target bytes left open (R122). -/
def checkOp (o : ROp) (m : Module) : Module :=
  let src := opSource m o
  let ref := opRef o
  let m := match o.peer with
    | some p => returnCredits p m
    | none => m
  let stop := fun m st => if o.peer.isSome then endPeer o st m else putOp m { o with phase := 3, status := st }
  match windowPass m ref.1 src.1 src.2 o.kind ref.2 o.len o.rsync with
  | .error st => stop (windowUndefined ref.1 o.kind ref.2 o.len m) st
  | .ok a =>
    let sid := windowSid m ref.1
    if opPermitted m sid o.kind a o.len o.rsync then
      windowUse ref.1 (putOp m { o with phase := 1, since := m.time.elapsed, sid := sid, target := a, window := some ref.1 })
    else stop (countOp o sid a m) 1

/-- An operation as a peer sends it. -/
def peerRop (p : PeerOp) : ROp :=
  { id := 0, core := 32, eng := 0, pc := 0, desc := 0xFFFFFFFF, ctx := 64, sid := 0, kind := p.kind, cls := 0, aop := p.aop
    lsyncOn := false, loc := 0, remote := 0, len := p.length, lsync := 0, rsync := p.rsync, amount := p.amount, seq := 0
    target := 0, phase := 0, status := 0, window := none, runner := none, peer := some p }

/-- Whether two operations reach the window unit by one way: both from one runner, or from one core. -/
def sameWay (o i : ROp) : Bool := (o.peer.map (·.runner)) == (i.peer.map (·.runner)) && o.core == i.core

/-- Whether an operation is the next of those on its way to reach the window unit: this module's of one core in the order they were
issued (notes/assumptions/72), a runner's in the order they arrived (R124). -/
def nextArrival (m : Module) (o : ROp) : Bool :=
  m.fab.ops.all (fun i => !sameWay o i || i.phase != 0 || decide (o.id ≤ i.id))

/-- WINDOW_CHECK (R124): an operation that waits for its check: one of this module, or one that a runner has received
(RUNNER_PACKET_RECEIVE). The order of these commands is the order of arrival. -/
def execWindowCheck (id : Nat) (s : State) : Res :=
  s.act (fun m =>
    match findOp m id with
    | some o => if o.phase = 0 && nextArrival m o then checkOp o m else m
    | none => m)

/-- Whether every packet of an operation has left. -/
def allLeft (m : Module) (o : ROp) : Bool :=
  match o.runner with
  | some r => allSent m r o.ctx o.id
  | none => true

/-- An operation completes with OK (R117): its slot frees and LSYNC counts. -/
def completeOk (o : ROp) (m : Module) : Module :=
  let m := dropOp (m.updEng o.core o.eng freeSlot) o.id
  let m := match o.window with
    | some w => windowDone w m
    | none => m
  if o.lsyncOn then syncAdd o.lsync 1 m else m

/-- An operation ends at its issuer with a status that is a failure (R122): its slot frees, and LSYNC is not incremented, since
R117 counts what completes performed (notes/assumptions/63). -/
def endFailed (o : ROp) (st : Nat) (m : Module) : Module :=
  let m := dropOp ((failOp o.core o.eng o.ctx o.desc st m).updEng o.core o.eng freeSlot) o.id
  match o.window with
  | some w => windowDone w m
  | none => m

/-- An operation completes with another status (R122). -/
def completeFail (o : ROp) (st : Nat) (m : Module) : Module := endFailed o st (opUndefined o st m)

/-- What a peer returned, written to LOCAL (R116, R117). -/
def peerReturn (o : ROp) (data : List Byte) (poison : List Bool) (m : Module) : Module :=
  let n := if o.kind = 1 then o.len / 8 else if o.kind = 2 then 1 else 0
  let ws := (List.range n).map (fun i => (BitVec.ofNat 64 (leAt data (8 * i) 8), poison.getD i false))
  writeWords (local_ o.core (if o.kind = 2 then o.loc + 16 else o.loc) / 8) ws m

/-- RMO_COMPLETE (R117, R122): of an operation in this module with the status it has; of one to another module with the
status, the data and the poison its response carries. -/
def execRmoComplete (id status : Nat) (data : List Byte) (poison : List Bool) (s : State) : Res :=
  s.act (fun m =>
    match findOp m id with
    | none => m
    | some o =>
      if o.peer.isSome || opBlocked m o then m
      else if o.phase = 3 then completeFail o o.status m
      else if o.phase != 2 then m
      else if !offModule m o then completeOk o m
      else if !allLeft m o || status > 0xC then m
      else if status = 0 then completeOk o (peerReturn o data poison m)
      else completeFail o status m)

/-- CREDIT_RETURN (R126, R127): the credit returns, and the context's next packet leaves; 64 names Gragor's own. -/
def execCreditReturn (runner ctx : Nat) (s : State) : Res :=
  s.act (fun m =>
    let v := m.credit runner ctx
    if runner < 4 && ctx = 64 && (m.ownCredit runner).inUse > 0 then ownReturned runner m
    else if runner < 4 && ctx < 64 && v.inUse > 0 then sendWaiting runner ctx (m.setCredit runner ctx { v with inUse := v.inUse - 1 })
    else m)

end Sys2Proof.Machine
end

