-- ==== Sys2Proof/Machine/EngineCtl.lean ====
section
/-!
DEFINITION. The control slot (R80 to R82, R98 to R100, R113): the control word of a bundle issues it; and the events by
which a held SYNCWAIT is released, a halting engine stops and an engine parks.
-/

namespace Sys2Proof.Machine

/-- NOP (R80): a control NOP issues its bundle; the NOP of another slot has issued with the bundle and does nothing. -/
def execNop (slot : Slot) (c : Fin 32) (e : Fin 64) (s : State) : Res :=
  s.act (if slot = .control then execControl c e 0 id else id)

/-- The condition of a BR (Table 4-1). -/
def brHolds (cond : Nat) (a b : W32) : Bool :=
  if cond = 0 then true
  else if cond = 1 then a == b
  else if cond = 2 then a != b
  else if cond = 3 then a.slt b
  else if cond = 4 then !a.slt b
  else if cond = 5 then a.ult b
  else !a.ult b

/-- BR (R80, R81). -/
def execBr (c : Fin 32) (e : Fin 64) (w : W32) (s : State) : Res :=
  execSlot (.br c e w) (execControl c e w (fun v =>
    if brHolds (fld w 25 22) (v.src.scalar (fld w 21 18)) (v.src.scalar (fld w 17 14)) then branchTo (fld w 11 0) v else v)) s

/-- DJNZ (R80, R81): Sd − 1, and a branch when it is not zero. -/
def execDjnz (c : Fin 32) (e : Fin 64) (w : W32) (s : State) : Res :=
  execSlot (.djnz c e w) (execControl c e w (fun v =>
    let d := v.src.scalar (fld w 25 22) - 1
    let v := { v with nxt := v.nxt.setScalar (fld w 25 22) d }
    if d != 0 then branchTo (fld w 11 0) v else v)) s

/-- Sa of a control word. -/
def ctlA (w : W32) (r : Regs) : W32 := r.scalar (fld w 21 18)
/-- Sb of a control word. -/
def ctlB (w : W32) (r : Regs) : W32 := r.scalar (fld w 17 14)

/-- SADDI (R80). -/
def execSaddi (c : Fin 32) (e : Fin 64) (w : W32) (s : State) : Res :=
  execSlot (.saddi c e w) (execScalar c e w (fun r => ctlA w r + BitVec.ofInt 32 (signed 18 (fld w 17 0)))) s

/-- SLUI (R80). -/
def execSlui (c : Fin 32) (e : Fin 64) (w : W32) (s : State) : Res :=
  execSlot (.slui c e w) (execScalar c e w (fun _ => BitVec.ofNat 32 (fld w 15 0 * 2 ^ 16))) s

/-- SORI (R80). -/
def execSori (c : Fin 32) (e : Fin 64) (w : W32) (s : State) : Res :=
  execSlot (.sori c e w) (execScalar c e w (fun r => ctlA w r ||| BitVec.ofNat 32 (fld w 15 0))) s

/-- SADD (R80, R81). -/
def execSadd (c : Fin 32) (e : Fin 64) (w : W32) (s : State) : Res :=
  execSlot (.sadd c e w) (execScalar c e w (fun r => ctlA w r + ctlB w r)) s

/-- SSUB (R80, R81). -/
def execSsub (c : Fin 32) (e : Fin 64) (w : W32) (s : State) : Res :=
  execSlot (.ssub c e w) (execScalar c e w (fun r => ctlA w r - ctlB w r)) s

/-- SMUL (R80, R81): the low 32 bits. -/
def execSmul (c : Fin 32) (e : Fin 64) (w : W32) (s : State) : Res :=
  execSlot (.smul c e w) (execScalar c e w (fun r => ctlA w r * ctlB w r)) s

/-- SAND (R80). -/
def execSand (c : Fin 32) (e : Fin 64) (w : W32) (s : State) : Res :=
  execSlot (.sand c e w) (execScalar c e w (fun r => ctlA w r &&& ctlB w r)) s

/-- SOR (R80). -/
def execSor (c : Fin 32) (e : Fin 64) (w : W32) (s : State) : Res :=
  execSlot (.sor c e w) (execScalar c e w (fun r => ctlA w r ||| ctlB w r)) s

/-- SXOR (R80). -/
def execSxor (c : Fin 32) (e : Fin 64) (w : W32) (s : State) : Res :=
  execSlot (.sxor c e w) (execScalar c e w (fun r => ctlA w r ^^^ ctlB w r)) s

/-- SSHL (R80): by Sb[4:0]. -/
def execSshl (c : Fin 32) (e : Fin 64) (w : W32) (s : State) : Res :=
  execSlot (.sshl c e w) (execScalar c e w (fun r => ctlA w r <<< ((ctlB w r).toNat % 32))) s

/-- SSHR (R80): logical. -/
def execSshr (c : Fin 32) (e : Fin 64) (w : W32) (s : State) : Res :=
  execSlot (.sshr c e w) (execScalar c e w (fun r => ctlA w r >>> ((ctlB w r).toNat % 32))) s

/-- SSRA (R80): arithmetic. -/
def execSsra (c : Fin 32) (e : Fin 64) (w : W32) (s : State) : Res :=
  execSlot (.ssra c e w) (execScalar c e w (fun r => (ctlA w r).sshiftRight ((ctlB w r).toNat % 32))) s

/-- SYNCWAIT presents (R82, R113): an object the context may not access faults with kind 0x04; at or above the threshold
the bundle issues; below it the bundle is held. A bundle already held issues once it is released. -/
def syncPresent (c e : Nat) (w : W32) (m : Module) : Module :=
  let v := m.eng c e
  match v.hold with
  | .sync _ _ _ rel => if rel then issueBundle c e id m else m
  | _ =>
    let obj := (v.nxt.scalar (fld w 21 18)).toNat % 65536
    let thr := v.nxt.pair (fld w 17 14)
    if !syncOwned m (((m.core c).ctx).getD 64) obj then engFault c e 4 (m.updEng c e (fun v => { v with bpc := v.pc }))
    else if thr ≤ (m.fab.sync.get 0 obj).toNat then issueBundle c e id m
    else m.updEng c e (fun v => { v with hold := .sync obj thr m.time.elapsed false })

/-- SYNCWAIT (R82). -/
def execSyncwait (c : Fin 32) (e : Fin 64) (w : W32) (s : State) : Res :=
  execSlot (.syncwait c e w) (controlGate c e w (syncPresent c e w)) s

/-- SYNCWAIT_RELEASE (R113): the bundle of a SYNCWAIT issues once it is released, whatever its object holds since; an engine that
is to park issues none that is still held (R99), and finds its object again should the park request go. -/
def execSyncwaitRelease (c : Fin 32) (e : Fin 64) (s : State) : Res :=
  s.act (fun m =>
    let v := m.eng c e
    match v.hold with
    | .sync o t _ rel =>
      if v.run = .issuing && (rel || (!(m.core c).stopping && decide (t ≤ (m.fab.sync.get 0 o).toNat))) then issueBundle c e id m
      else m
    | _ => m)

/-- FENCE (R98): held until no in-flight slot is occupied. -/
def execFence (c : Fin 32) (e : Fin 64) (w : W32) (s : State) : Res :=
  execSlot (.fence c e w) (controlGate c e w (fun m =>
    if (m.eng c e).inflight = 0 then issueBundle c e id m else m.updEng c e (fun v => { v with hold := .fence }))) s

/-- YIELD (R99): issues and does nothing while no park request is pending; else the engine waits to park. -/
def execYield (c : Fin 32) (e : Fin 64) (w : W32) (s : State) : Res :=
  execSlot (.yield c e w) (controlGate c e w (fun m => if (m.core c).parkReq then m else issueBundle c e id m)) s

/-- HALT (R100): the engine stops after the other slots of the bundle and the drain. -/
def execHalt (c : Fin 32) (e : Fin 64) (w : W32) (s : State) : Res :=
  execSlot (.halt c e w) (execControl c e w (fun v => { v with run := .halting, offEnd := false })) s

/-- ENGINE_STOP (R100): the other slots have issued, nothing is in flight and no reduction is outstanding. -/
def execEngineStop (c : Fin 32) (e : Fin 64) (s : State) : Res :=
  s.act (fun m =>
    let v := m.eng c e
    if v.run = .halting && !anyLeft v && v.inflight = 0 && !v.redOut then m.setEng c e { v with run := .halted } else m)

/-- Whether an engine is at a yield point (R99): the next bundle holds YIELD, or is held by SYNCWAIT, a pop or a push. A SYNCWAIT
that has been released is not held again (R113): it issues first. -/
def atYield (m : Module) (c e : Nat) : Bool :=
  let v := m.eng c e
  match v.hold with
  | .sync _ _ _ rel => v.run = .issuing && !rel
  | .pop _ => slotRun v
  | .push _ => slotRun v
  | _ => v.run = .issuing && !anyLeft v && decide (v.pc.toNat < (m.core c).bundles)
          && opOf (storeWord m c v.pc.toNat .control) = 0x12

/-- The held bundle of a pop or push has had no effect (R99): its scalar writes and its PC go back. -/
def unissue (v : Engine) : Engine :=
  { v with pc := v.bpc, nxt := { v.nxt with s := v.src.s }, mvLeft := false, mcLeft := false, vcLeft := false, offEnd := false }

/-- Park an engine (R99): its held bundle has had no effect. -/
def parkEngine (c e : Nat) (m : Module) : Module :=
  let v := m.eng c e
  match v.hold with
  | .pop _ => m.setEng c e { (unissue v) with run := .parked, hold := .free }
  | .push q => withdrawPush q (.engine c e) (m.setEng c e { (unissue v) with run := .parked, hold := .free })
  | _ => m.setEng c e { v with run := .parked, hold := .free }

/-- ENGINE_PARK (R99): under a park request, at a yield point, with nothing in flight and no reduction outstanding. -/
def execEnginePark (c : Fin 32) (e : Fin 64) (s : State) : Res :=
  s.act (fun m =>
    let v := m.eng c e
    if (m.core c).parkReq && atYield m c e && v.inflight = 0 && !v.redOut then parkEngine c e m else m)

end Sys2Proof.Machine
end

