-- ==== Sys2Proof/Machine/EngineMove.lean ====
section
/-!
DEFINITION. The move slot (R83 to R88, R97): loads and stores, special registers, hand-over to the mover and the fabric,
and stream-queue operations.
-/

namespace Sys2Proof.Machine

/-- Sa of a move word with fields [21:18]. -/
def mvA (w : W32) (r : Regs) : W32 := r.scalar (fld w 21 18)

/-- The signed immediate [10:0] scaled by n bytes (R83). -/
def mvImm (w : W32) (n : Int) : Int := signed 11 (fld w 10 0) * n

/-- Continue with an address, or fault with its kind. -/
def atAddress (a : Except Nat Nat) (m : Module) (go : Nat → MoveOut) : MoveOut :=
  match a with
  | .ok off => go off
  | .error k => .faulted k m

/-! ### Tile loads and stores (R64, R84, R85) -/

/-- LDT2 and LDT2S (R84): both addresses, then the post-increment from the old values. `ta` and `tb` transpose. Where both
addresses are bad, in different ways, port A's fault is the one recorded (notes/assumptions/58). -/
def loadPair (c e : Nat) (w : W32) (ta tb : Tile → Tile) (r : Regs) (m : Module) : MoveOut :=
  let sa := fld w 22 19
  let sb := fld w 18 15
  let imm : Int := 8 * (fld w 7 0 : Int)
  atAddress (address (r.scalar sa) imm 8 8) m fun x =>
  atAddress (address (r.scalar sb) imm 8 8) m fun y =>
    let l := tileAt c x m
    let k := tileAt c y l.1
    let inc := r.scalar (fld w 14 11)
    let p := fld w 25 23
    loaded c e (k.1, fun n =>
      let n := (n.setTile (2 * p) (if fld w 9 9 = 1 then ta l.2 else l.2)).setTile (2 * p + 1) (if fld w 8 8 = 1 then tb k.2 else k.2)
      if fld w 10 10 = 1 then (n.setScalar sa (r.scalar sa + inc)).setScalar sb (r.scalar sb + inc) else n)

/-- LDT, LDTSL and LDTSR (R64, R84): contiguous or strided. Where a stride is both odd and above 0x7_FFFE, or is bad beside a bad
address, the manual does not say which kind is recorded: the odd stride's 0x02 comes first, and the stride before the address
(notes/assumptions/87). -/
def loadOne (c e : Nat) (w : W32) (tr : Tile → Tile) (r : Regs) (m : Module) : MoveOut :=
  let s := (r.scalar (fld w 17 14)).toNat
  let put (x : Module × Tile) : MoveOut :=
    loaded c e (x.1, fun n => n.setTile (fld w 25 22) (if fld w 12 12 = 1 then tr x.2 else x.2))
  if fld w 11 11 = 0 then atAddress (address (mvA w r) (mvImm w 8) 8 8) m fun x => put (tileAt c x m)
  else if s % 2 = 1 then .faulted 2 m
  else if s = 0 || s > 0x7FFFE then .faulted 3 m
  else atAddress (address (mvA w r) (mvImm w 8) 2 2) m fun x => put (tileStrided c x s m)

/-- LDT2 (R84): 4-bit transposes. -/
def execLdt2 (c : Fin 32) (e : Fin 64) (w : W32) (s : State) : Res :=
  execSlot (.ldt2 c e w) (execMove c e w (loadPair c e w (transposed 4 4 4 true) (transposed 4 4 4 true))) s

/-- LDT (R64, R84). -/
def execLdt (c : Fin 32) (e : Fin 64) (w : W32) (s : State) : Res :=
  execSlot (.ldt c e w) (execMove c e w (loadOne c e w (transposed 4 4 4 true))) s

/-- STT (R46, R85): the code bits, with the word's poison from the tile. -/
def execStt (c : Fin 32) (e : Fin 64) (w : W32) (s : State) : Res :=
  execSlot (.stt c e w) (execMove c e w (fun r m =>
    atAddress (address (mvA w r) (mvImm w 8) 8 8) m fun x =>
      let t := r.tile (fld w 25 22)
      .done (writeWords (local_ c x / 8) [(t.code, t.poison)] m))) s

/-- LDT2S (R64, R84): port A into the 4 × 8 layout, port B into the 8 × 4 layout. -/
def execLdt2s (c : Fin 32) (e : Fin 64) (w : W32) (s : State) : Res :=
  execSlot (.ldt2s c e w) (execMove c e w (loadPair c e w (transposed 2 8 4 true) (transposed 2 4 8 true))) s

/-- LDTSL (R64): the 2-bit transpose into the 4 × 8 layout. -/
def execLdtsl (c : Fin 32) (e : Fin 64) (w : W32) (s : State) : Res :=
  execSlot (.ldtsl c e w) (execMove c e w (loadOne c e w (transposed 2 8 4 true))) s

/-- LDTSR (R64): the 2-bit transpose into the 8 × 4 layout. -/
def execLdtsr (c : Fin 32) (e : Fin 64) (w : W32) (s : State) : Res :=
  execSlot (.ldtsr c e w) (execMove c e w (loadOne c e w (transposed 2 4 8 true))) s

/-! ### Rows, scalars, scales and tables (R85 to R87) -/

/-- The words of n bytes at an offset of the own scratchpad, as delivered. -/
def spadWords (c off n : Nat) (m : Module) : Module × List (W64 × Bool) :=
  (countReads (n / 8) (local_ c off / 8) false m, readWords m.mem (local_ c off / 8) (n / 8))

/-- The two lanes of a word; a poisoned word gives canonical NaNs (R85, R88). -/
def wordLanes (w : W64 × Bool) : List W32 := if w.2 then [qnan, qnan] else [lo32 w.1, hi32 w.1]

/-- Two lanes as a word (R88). -/
def laneWord (lo hi : W32) : W64 := hi ++ lo

/-- A vector register as eight words. -/
def vecWords (r : Regs) (v : Nat) : List W64 := (List.range 8).map (fun k => laneWord (r.lane v (2 * k)) (r.lane v (2 * k + 1)))

/-- LDV (R85). -/
def execLdv (c : Fin 32) (e : Fin 64) (w : W32) (s : State) : Res :=
  execSlot (.ldv c e w) (execMove c e w (fun r m =>
    atAddress (address (mvA w r) (mvImm w 64) 64 64) m fun x =>
      let d := spadWords c x 64 m
      loaded c e (d.1, fun n => n.setVec (fld w 25 22) (d.2.flatMap wordLanes)))) s

/-- STV (R85): poison clear. -/
def execStv (c : Fin 32) (e : Fin 64) (w : W32) (s : State) : Res :=
  execSlot (.stv c e w) (execMove c e w (fun r m =>
    atAddress (address (mvA w r) (mvImm w 64) 64 64) m fun x =>
      .done (writeWords (local_ c x / 8) ((vecWords r (fld w 25 22)).map (fun d => (d, false))) m))) s

/-- LDS (R85): a poisoned word faults with kind 0x05. -/
def execLds (c : Fin 32) (e : Fin 64) (w : W32) (s : State) : Res :=
  execSlot (.lds c e w) (execMove c e w (fun r m =>
    atAddress (address (mvA w r) (mvImm w 4) 4 4) m fun x =>
      let d := spadRead c x 4 m
      if d.2.2 then .faulted 5 d.1
      else loaded c e (d.1, fun n => n.setScalar (fld w 25 22) (BitVec.ofNat 32 (leNat d.2.1))))) s

/-- STS (R85): four bytes; the word's poison bit is written clear. The other four bytes stay as they are: an error of the word is
met by no read, and goes with the write (notes/assumptions/59). -/
def execSts (c : Fin 32) (e : Fin 64) (w : W32) (s : State) : Res :=
  execSlot (.sts c e w) (execMove c e w (fun r m =>
    atAddress (address (mvA w r) (mvImm w 4) 4 4) m fun x =>
      let a := local_ c x
      let mem := memPut m.mem a (leBytes 4 (r.scalar (fld w 25 22)).toNat)
      .done { m with mem := putWord mem (a / 8) (wordData mem (a / 8)) false })) s

/-- LDQ (R85, R86): 32 S16 entries; a poisoned word faults with kind 0x05. -/
def execLdq (c : Fin 32) (e : Fin 64) (w : W32) (s : State) : Res :=
  execSlot (.ldq c e w) (execMove c e w (fun r m =>
    atAddress (address (mvA w r) (mvImm w 64) 64 64) m fun x =>
      let d := spadRead c x 64 m
      if d.2.2 then .faulted 5 d.1
      else loaded c e (d.1, fun n =>
        n.setScales (32 * fld w 25 23) ((List.range 32).map (fun i => BitVec.ofNat 16 (leAt d.2.1 (2 * i) 2)))))) s

/-- A product table from the bytes of its image (Table 2-4); none when a reserved bit is set. -/
def tableOf (bs : List Byte) : Option PTab :=
  if leAt bs 2 1 / 16 != 0 || leAt bs 4 12 != 0 then none
  else some {
    ent := (List.range 256).foldl (fun t i => t.put 0 i (BitVec.ofNat 16 (leAt bs (16 + 2 * i) 2))) []
    texp := BitVec.ofNat 8 (leAt bs 3 1)
    flags := BitVec.ofNat 4 (leAt bs 2 1) }

/-- LDP (R87): nine rows; poison is kind 0x05 and a reserved bit 0x01, and poison is recorded when both hold. -/
def execLdp (c : Fin 32) (e : Fin 64) (w : W32) (s : State) : Res :=
  execSlot (.ldp c e w) (execMove c e w (fun r m =>
    atAddress (address (mvA w r) (mvImm w 64) 64 576) m fun x =>
      let d := spadRead c x 576 m
      if d.2.2 then .faulted 5 d.1
      else match tableOf d.2.1 with
        | none => .faulted 1 d.1
        | some p => loaded c e (d.1, fun n => n.setPtab (fld w 22 22) p))) s

/-- A special register (Table 3-2); none for a reserved index. -/
def special (v : Engine) (i : Nat) : Option W32 :=
  if i = 0 then some v.engid
  else if i = 1 then some v.corid
  else if i = 2 then some v.ctxid
  else if i = 4 then some (lo32 v.step)
  else if i = 5 then some (hi32 v.step)
  else if i = 6 then some (lo32 v.seedBase)
  else if i = 7 then some (hi32 v.seedBase)
  else none

/-- SRR (R52, R87): a reserved index faults with kind 0x01. -/
def execSrr (c : Fin 32) (e : Fin 64) (w : W32) (s : State) : Res :=
  execSlot (.srr c e w) (execMove c e w (fun _ m =>
    match special (m.eng c e) (fld w 3 0) with
    | none => .faulted 1 m
    | some d => loaded c e (m, fun n => n.setScalar (fld w 25 22) d))) s

/-! ### Hand-over to the mover and the fabric (R67, R68, R71, R97, R114, R115) -/

/-- Whether the mover refuses a descriptor as an illegal operation (R67, R68). -/
def moverBad (c : Nat) (d : List Byte) : Bool :=
  let src := BitVec.ofNat 64 (leAt d 0 8)
  let dst := BitVec.ofNat 64 (leAt d 8 8)
  let rb := leAt d 16 4
  let rows := leAt d 20 4
  let fl := leAt d 46 2
  let gr := leAt d 44 2
  let scale := fl / 2 % 2 = 1
  leAt d 58 6 != 0 || fl / 8 != 0 || !formOk src || !formOk dst
    || rb % 8 != 0 || rb < 8 || rb > 65536 || rows < 1 || rows > 65536 || leAt d 24 4 % 8 != 0 || leAt d 28 4 % 8 != 0
    || (fl % 4 != 0 && gr = 0) || leAt d 0 1 % 8 != 0 || leAt d 8 1 % 8 != 0 || !(ownSpad c src || ownSpad c dst)
    || (fl % 2 = 1 && fl / 4 % 2 = 1)
    || (scale && (leAt d 32 8 % 64 != 0 || leAt d 32 8 / 2 ^ 48 != 0 || leAt d 40 2 = 0 || leAt d 42 2 % 32 != 0
          || leAt d 42 2 > 224 || leAt d 40 2 * gr < rows || leAt d 48 8 = 0))

/-- A descriptor as the mover holds it; without a signal per group or a scale stream it is one group. -/
def moverJob (e k pc off : Nat) (d : List Byte) : MoverJob :=
  { eng := e, ctx := k, pc := pc, off := off, src := BitVec.ofNat 64 (leAt d 0 8), dst := BitVec.ofNat 64 (leAt d 8 8)
    rowBytes := leAt d 16 4, rows := leAt d 20 4, srcStride := leAt d 24 4, dstStride := leAt d 28 4
    scaleSrc := BitVec.ofNat 64 (leAt d 32 8), scaleLines := leAt d 40 2, qBase := leAt d 42 2
    groupRows := if leAt d 46 2 % 4 = 0 then leAt d 20 4 else leAt d 44 2
    flags := BitVec.ofNat 3 (leAt d 46 2), engMask := BitVec.ofNat 64 (leAt d 48 8), sync := leAt d 56 2
    started := false, done := 0, srcAt := 0, dstAt := 0, srcPeer := none, dstPeer := none, tag := none, wins := [] }

/-- One more in-flight slot of an engine is occupied (R97). -/
def takeSlot (v : Engine) : Engine := { v with inflight := v.inflight + 1 }

/-- MOVD (R68, R71): held while the 16 slots or the mover's queue are full; then poison (0x05), a refused descriptor (0x01)
and a foreign SYNC (0x04) fault, and otherwise the mover holds the descriptor. -/
def execMovd (c : Fin 32) (e : Fin 64) (w : W32) (s : State) : Res :=
  execSlot (.movd c e w) (execMove c e w (fun r m =>
    if (m.eng c e).inflight ≥ 16 || (m.core c).mover.length ≥ 16 then .held .slots m
    else atAddress (address (mvA w r) 0 64 64) m fun x =>
      let d := spadRead c x 64 m
      let j := moverJob e (ctxOfCore m c) (m.eng c e).bpc.toNat x d.2.1
      if d.2.2 then .faulted 5 d.1
      else if moverBad c d.2.1 then .faulted 1 d.1
      else if !j.flags.getLsbD 2 && !syncOwned m (ctxOfCore m c) j.sync then .faulted 4 d.1
      else .done ((d.1.updCore c (fun k => { k with mover := k.mover ++ [j] })).updEng c e takeSlot))) s

/-- Whether an RMO's descriptor breaks Table 5-4 or Table 5-5 (R115): a get is held to the same REMOTE as a put, no sync object
(notes/assumptions/69). -/
def rmoBad (m : Module) (d : List Byte) : Bool :=
  let kind := leAt d 0 1
  let remote := BitVec.ofNat 64 (leAt d 8 8)
  let loc := leAt d 4 4
  let len := leAt d 16 4
  let tgt := if isRef remote then refOff remote else remote.toNat
  kind > 4 || leAt d 1 1 > 2 || leAt d 3 1 > 1 || loc ≥ 0x80000 || !formOk remote
    || (if kind = 2 then leAt d 2 1 > 5 else leAt d 2 1 != 0)
    || (kind < 3 && leAt d 24 8 != 0)
    || (if kind = 3 then loc != 0 || len != 0 || tgt != 0
        else if kind = 2 then loc % 32 != 0 || len != 8 || tgt % 8 != 0
        else loc % 8 != 0 || loc + len > 0x80000 || len < 8 || len > 65536 || len % 8 != 0 || tgt % 8 != 0
          || (!isRef remote && placeOf m tgt = .sync))

/-- An operation from its descriptor; `desc` is its offset. -/
def ropOf (m : Module) (c e desc : Nat) (d : List Byte) : ROp :=
  let v := m.eng c e
  let k := ctxOfCore m c
  let remote := BitVec.ofNat 64 (leAt d 8 8)
  { id := 0, core := c, eng := e, pc := v.bpc.toNat, desc := desc, ctx := k, sid := sidOf m k c, kind := leAt d 0 1
    cls := leAt d 1 1, aop := leAt d 2 1, lsyncOn := leAt d 3 1 % 2 = 1, loc := leAt d 4 4, remote := remote
    len := leAt d 16 4, lsync := leAt d 20 2, rsync := leAt d 22 2, amount := BitVec.ofNat 64 (leAt d 24 8)
    seq := v.opSeq, target := if isRef remote then 0 else remote.toNat, phase := 1, since := m.time.elapsed, status := 0
    window := none, runner := none, peer := none }

/-- Issue an operation (R97, R119): it takes a slot and its place in the engine's order. -/
def issueOp (c e : Nat) (o : ROp) (m : Module) : Module :=
  (addOp m o).updEng c e (fun v => { takeSlot v with opSeq := v.opSeq + 1 })

/-- RMO (R97, R114, R115, R370): held while the 16 slots are full; then poison (0x05), a bad descriptor (0x01) and a
foreign LSYNC or local RSYNC (0x04) fault, and otherwise the operation is issued, refused by the firewall (status 0x01),
or left to the window unit. -/
def execRmo (c : Fin 32) (e : Fin 64) (w : W32) (s : State) : Res :=
  execSlot (.rmo c e w) (execMove c e w (fun r m =>
    if (m.eng c e).inflight ≥ 16 then .held .slots m
    else atAddress (address (mvA w r) 0 32 32) m fun x =>
      let d := spadRead c x 32 m
      let m := d.1
      let o := ropOf m c e x d.2.1
      if d.2.2 then .faulted 5 m
      else if rmoBad m d.2.1 then .faulted 1 m
      else if (o.lsyncOn && !syncOwned m o.ctx o.lsync) || (o.kind ≥ 3 && !isRef o.remote && !syncOwned m o.ctx o.rsync) then
        .faulted 4 m
      else if isRef o.remote then .done (issueOp c e { o with phase := if refModule o.remote = m.host.moduleId then 0 else 1 } m)
      else if opPermitted m o.sid o.kind o.target o.len o.rsync then .done (issueOp c e o m)
      else .done (issueOp c e { o with phase := 3, status := 1 } (countOp o o.sid o.target m)))) s

/-- SIG (R97, R112): a class 2 signal of a local object; an object of another context faults with kind 0x04. -/
def execSig (c : Fin 32) (e : Fin 64) (w : W32) (s : State) : Res :=
  execSlot (.sig c e w) (execMove c e w (fun r m =>
    let obj := (mvA w r).toNat % 65536
    if (m.eng c e).inflight ≥ 16 then .held .slots m
    else if !syncOwned m (ctxOfCore m c) obj then .faulted 4 m
    else
      let o := ropOf m c e 0xFFFFFFFF (fields 32 [(0, 1, 3), (1, 1, 2), (22, 2, obj), (24, 8, fld w 15 0)])
      .done (issueOp c e o m))) s

/-! ### Stream-queue operations (R88, R176 to R181) -/

/-- Whether a context is bound to a queue in a direction. -/
def sqBound (v : Queue) (k : Nat) (push : Bool) : Bool :=
  v.state != 0 && (if push then v.prodKind == 0 && v.prodId == k else v.consKind == 0 && v.consId == k)

/-- A stream-queue operation on queue Sq[8:0]: kind 0x03 when Sq[31:9] is not zero, kind 0x04 without a binding (R88). -/
def onQueue (c : Nat) (w : W32) (push : Bool) (r : Regs) (m : Module) (go : Nat → MoveOut) : MoveOut :=
  let q := (mvA w r).toNat
  if q ≥ 512 then .faulted 3 m
  else if !sqBound (m.queue q) (ctxOfCore m c) push then .faulted 4 m
  else go q

/-- A push presents; a bundle already held waits for its acceptance (R176). -/
def pushOut (c e q : Nat) (ws : List SqWord) (m : Module) : MoveOut :=
  match (m.eng c e).hold with
  | .push _ => .again
  | _ =>
    let r := present q { who := .engine c e, sid := sidOf m (ctxOfCore m c) c, words := ws } m
    if r.2 then .done r.1 else .held (.push q) r.1

/-- SQPUSH (R88, R46). -/
def execSqpush (c : Fin 32) (e : Fin 64) (w : W32) (s : State) : Res :=
  execSlot (.sqpush c e w) (execMove c e w (fun r m => onQueue c w true r m fun q =>
    let t := r.tile (fld w 25 22)
    pushOut c e q [{ data := t.code, tag := mkTag t.poison (fld w 5 5 = 1) (fld w 4 4 = 1) (fld w 3 0), perr := false }] m)) s

/-- SQPUSHV (R88): eight words; SOP on word 0, EOP on word 7. -/
def execSqpushv (c : Fin 32) (e : Fin 64) (w : W32) (s : State) : Res :=
  execSlot (.sqpushv c e w) (execMove c e w (fun r m => onQueue c w true r m fun q =>
    pushOut c e q ((vecWords r (fld w 25 22)).zipIdx.map (fun p =>
      { data := p.1, tag := mkTag false (fld w 5 5 = 1 && p.2 = 0) (fld w 4 4 = 1 && p.2 = 7) (fld w 3 0), perr := false })) m)) s

/-- Deliver one popped word: Td and its poison bit, and St (R88). -/
def popTile (c e q : Nat) (w : W32) (m : Module) : MoveOut :=
  let p := popWords q 1 m
  match p.2 with
  | [] => .held (.queue q) m
  | d :: _ => loaded c e (p.1, fun n =>
      (n.setTile (fld w 25 22) ⟨d.data, d.tag.getLsbD 6⟩).setScalar (fld w 17 14) (d.tag.setWidth 32))

/-- SQPOP (R88, R178): a zero tag for an empty queue; a word still in the spill region is waited for. -/
def execSqpop (c : Fin 32) (e : Fin 64) (w : W32) (s : State) : Res :=
  execSlot (.sqpop c e w) (execMove c e w (fun r m => onQueue c w false r m fun q =>
    let v := m.queue q
    if v.state != 1 then .held (.queue q) m
    else if occupancy v = 0 then loaded c e (m, fun n => n.setScalar (fld w 17 14) 0)
    else if headHas v 1 then popTile c e q w m
    else .held (.queue q) m)) s

/-- Whether an engine's pop is held under a park request: it is at a yield point and issues nothing more (R99). -/
def toPark (m : Module) (c e : Nat) : Bool :=
  (m.core c).stopping && (match (m.eng c e).hold with | .pop _ => true | _ => false)

/-- SQPOPW (R88): held until the word is valid. -/
def execSqpopw (c : Fin 32) (e : Fin 64) (w : W32) (s : State) : Res :=
  execSlot (.sqpopw c e w) (execMove c e w (fun r m => onQueue c w false r m fun q =>
    let v := m.queue q
    if v.state = 1 && occupancy v ≥ 1 && headHas v 1 && !toPark m c e then popTile c e q w m else .held (.pop q) m)) s

/-- St of an SQPOPV (R88). -/
def popvTag (ws : List SqWord) : W32 :=
  let h := (ws.head?.map (·.tag)).getD 0
  let l := (ws.getLast?.map (·.tag)).getD 0
  ((mkTag (ws.any (fun w => w.tag.getLsbD 6)) (h.getLsbD 5) (l.getLsbD 4) (h.toNat % 16)) ||| 0x80).setWidth 32

/-- SQPOPV (R88, R178): held until eight words are valid. -/
def execSqpopv (c : Fin 32) (e : Fin 64) (w : W32) (s : State) : Res :=
  execSlot (.sqpopv c e w) (execMove c e w (fun r m => onQueue c w false r m fun q =>
    let v := m.queue q
    if v.state = 1 && occupancy v ≥ 8 && headHas v 8 && !toPark m c e then
      let p := popWords q 8 m
      loaded c e (p.1, fun n =>
        (n.setVec (fld w 25 22) (p.2.flatMap (fun d => wordLanes (d.data, d.tag.getLsbD 6)))).setScalar (fld w 17 14) (popvTag p.2))
    else .held (.pop q) m)) s

/-- SQMARK, SQREWIND and SQRELEASE (R180, R181): an automatic-release queue faults the engine with kind 0x01. -/
def onMark (c : Nat) (w : W32) (f : Positions → Positions) (dropHead : Bool) (r : Regs) (m : Module) : MoveOut :=
  onQueue c w false r m fun q =>
    if (m.queue q).auto then .faulted 1 m
    else if (m.queue q).state != 1 then .held (.queue q) m
    else .done (moveMark q f dropHead m)

/-- SQMARK (R181). -/
def execSqmark (c : Fin 32) (e : Fin 64) (w : W32) (s : State) : Res :=
  execSlot (.sqmark c e w) (execMove c e w (onMark c w Positions.mark false)) s

/-- SQREWIND (R181). -/
def execSqrewind (c : Fin 32) (e : Fin 64) (w : W32) (s : State) : Res :=
  execSlot (.sqrewind c e w) (execMove c e w (onMark c w Positions.rewind true)) s

/-- SQRELEASE (R181). -/
def execSqrelease (c : Fin 32) (e : Fin 64) (w : W32) (s : State) : Res :=
  execSlot (.sqrelease c e w) (execMove c e w (onMark c w Positions.release false)) s

end Sys2Proof.Machine
end

