-- ==== Sys2Proof/Machine/Image.lean ====
section
/-!
DEFINITION. Program images (R27, R79, R102), where they lie in the image store (R260), what a first dispatch loads (R52, R54,
R103, R266) and what a save slot keeps of a core (R259, R269).
-/

namespace Sys2Proof.Machine

/-! ### The checks of an image (R102, R27, R79) -/

def imgBundles (bs : List Byte) : Nat := leAt bs 16 2
def imgEntry (bs : List Byte) : Nat := leAt bs 18 2
def imgGrids (bs : List Byte) : Nat := leAt bs 20 2
def imgSegs (bs : List Byte) : Nat := leAt bs 22 2
def imgMask (bs : List Byte) : W64 := BitVec.ofNat 64 (leAt bs 48 8)

/-- The grid descriptors of an image (Table 2-3), 72 bytes each. -/
def imgGrid (bs : List Byte) (i : Nat) : List Byte := (bs.drop (leAt bs 28 4 + 72 * i)).take 72

/-- A grid descriptor breaks R27. -/
def gridBad (g : List Byte) : Bool :=
  let width := leAt g 1 1
  let hole := leAt g 2 1 % 2 = 1
  let used := if width = 0 then 16 else if width = 1 then 4 else 2
  let holeCode := if width = 0 then 8 else 2
  let val := fun i => BitVec.ofNat 32 (leAt g (4 + 4 * i) 4)
  leAt g 0 1 < 16 || leAt g 0 1 > 31 || width > 2 || leAt g 2 1 > 1 || (hole && width = 2) || leAt g 68 4 != 0
    || decide (leIntAt g 3 1 < -32) || decide (31 < leIntAt g 3 1)
    || (List.range 16).any (fun i => !isFin (val i) || isSub (val i) || !flLe (flAbs (val i)) 0x3F800000
        || ((decide (used ≤ i) || (hole && i = holeCode)) && !isZero (val i)))

/-- A user grid as the core's grid table holds it. -/
def gridOf (g : List Byte) : UserGrid :=
  { width := leAt g 1 1, hole := leAt g 2 1 = 1, exp := leIntAt g 3 1
    vals := (List.range 16).map (fun i => BitVec.ofNat 32 (leAt g (4 + 4 * i) 4)) }

/-- The user grid IDs of an image. -/
def imgGridIds (bs : List Byte) : List Nat := (List.range (imgGrids bs)).map (fun i => leAt (imgGrid bs i) 0 1)

/-- A slot word of a bundle of an image: Vector, MAC, Move, Control (R65). -/
def imgWord (bs : List Byte) (b : Nat) (sl : Slot) : W32 :=
  let off := match sl with | .vector => 0 | .mac => 4 | .move => 8 | .control => 12
  BitVec.ofNat 32 (leAt bs (leAt bs 24 4 + 16 * b + off) 4)

/-- Whether some register is named in two of the lists. -/
def clash : List (List Reg) → Bool
  | [] => false
  | l :: ls => ls.any (fun k => k.any (fun r => l.contains r)) || clash ls

/-- A bundle breaks R79. -/
def bundleBad (bs : List Byte) (b : Nat) : Bool :=
  let slots := [Slot.control, .move, .mac, .vector]
  let ctl := imgWord bs b .control
  let vec := imgWord bs b .vector
  slots.any (fun sl => !slotOk sl (imgWord bs b sl)) || clash (slots.map (fun sl => writesOf sl (imgWord bs b sl)))
    || ((opOf ctl = 0x01 || opOf ctl = 0x02) && decide (imgBundles bs ≤ fld ctl 11 0))
    || ((opOf vec = 0x18 || opOf vec = 0x19) && decide (16 ≤ fld vec 17 13) && !(imgGridIds bs).contains (fld vec 17 13))

/-- Segment entry i (Table 4-7). -/
def imgSeg (bs : List Byte) (i : Nat) : List Byte := (bs.drop (leAt bs 32 4 + 16 * i)).take 16

/-- A segment entry is out of range (Table 4-7). The bytes of an empty segment, like an empty table, lie nowhere in the image
(notes/assumptions/61). -/
def segBad (len : Nat) (g : List Byte) : Bool :=
  leAt g 0 4 % 8 != 0 || leAt g 4 4 % 8 != 0 || leAt g 12 4 != 0
    || decide (0x80000 < leAt g 0 4 + leAt g 4 4) || (leAt g 4 4 != 0 && decide (len < leAt g 8 4 + leAt g 4 4))

/-- INIT_P0 or INIT_P1 is out of range. -/
def initBad (off : Nat) : Bool := off != 0xFFFFFFFF && (off % 64 != 0 || off + 576 > 0x80000)

/-- A region of an image: offset, alignment, bytes. -/
def regionBad (len off al n : Nat) : Bool := off % al != 0 || (n != 0 && decide (len < off + n))

/-- CRC-32C over the image with the CRC field taken as zero (Table 4-6). -/
def imgCrc (bs : List Byte) : W32 := crc32c (setBytes bs 12 (leBytes 4 0))

/-- An image of `len` bytes is refused (R102, R27, R79, R260). -/
def imageBad (len : Nat) (bs : List Byte) : Bool :=
  let ids := imgGridIds bs
  len < 64 || leAt bs 0 4 != 0x4B5A4550 || leAt bs 4 2 != 1 || leAt bs 6 2 != 0 || leAt bs 8 4 != len || len % 16 != 0
    || leAt bs 12 4 != (imgCrc bs).toNat
    || imgBundles bs < 1 || imgBundles bs > 4096 || imgEntry bs ≥ imgBundles bs || imgGrids bs > 16 || imgSegs bs > 256
    || regionBad len (leAt bs 24 4) 16 (16 * imgBundles bs) || regionBad len (leAt bs 28 4) 8 (72 * imgGrids bs)
    || regionBad len (leAt bs 32 4) 16 (16 * imgSegs bs) || initBad (leAt bs 36 4) || initBad (leAt bs 40 4)
    || leAt bs 44 4 != 0 || leAt bs 56 8 != 0
    || (List.range (imgGrids bs)).any (fun i => gridBad (imgGrid bs i))
    || (List.range ids.length).any (fun i => (ids.take i).contains (ids.getD i 0))
    || (List.range (imgSegs bs)).any (fun i => segBad len (imgSeg bs i))
    || (List.range (imgBundles bs)).any (bundleBad bs)

/-! ### The image store (R259, R260) -/

/-- Bytes of one save slot. -/
def mib : Nat := 0x100000

/-- The image store of a context: base and bytes. -/
def imageStore (m : Module) (k : Nat) : Nat × Nat :=
  ((m.ctx k).saveBase + nCores m * mib, (m.ctx k).saveBytes - nCores m * mib)

/-- The images a context holds. -/
def imagesIn (m : Module) (k : Nat) : List Image :=
  ((List.range 16).filterMap (fun i => (m.ctx k).images.get none i)).filter (·.loaded)

/-- The places at which free room begins. -/
def roomStarts (m : Module) (k : Nat) : List Nat :=
  let is := imagesIn m k
  sortBy (fun a b => decide (a ≤ b)) (((imageStore m k).1 :: is.map (fun i => i.base + i.bytes)).filter (fun a =>
    !is.any (fun i => decide (i.base ≤ a) && decide (a < i.base + i.bytes))))

/-- Contiguous free bytes from a place. -/
def roomAt (m : Module) (k a : Nat) : Nat :=
  let s := imageStore m k
  let stop := ((imagesIn m k).filter (fun i => decide (a ≤ i.base))).foldl (fun e i => min e i.base) (s.1 + s.2)
  stop - a

/-- The lowest address with room (R260). -/
def placeImage (m : Module) (k bytes : Nat) : Option Nat := (roomStarts m k).find? (fun a => decide (bytes ≤ roomAt m k a))

/-- Words of memory from any address, each with the poison of the words it touches. -/
def readAny (m : Mem) (a n : Nat) : List (W64 × Bool) :=
  (List.range n).map (fun i =>
    let x := a + 8 * i
    (BitVec.ofNat 64 (leNat (memBytes m x 8)), wordPoison m (x / 8) || (x % 8 != 0 && wordPoison m (x / 8 + 1))))

/-! ### What a save slot keeps (R259, R269, R270) -/

/-- The cells of a list that lie in a core's scratchpad or program store. -/
def inCore (c a : Nat) : Bool := inside a 1 (spadBase c) 0x80000 || inside a 1 (progBase c) 0x10000

/-- The poison of a core's words as a save reads them: a word with an uncorrectable error is read as poisoned (R59). -/
def savedPoison (m : Module) (c : Nat) : Tab (BitVec 3) :=
  (m.mem.err.filter (fun p => inCore c (8 * p.1) && p.2 == 2)).foldl (fun t p => Tab.put 0 t p.1 7)
    (m.mem.poison.filter (fun p => inCore c (8 * p.1)))

/-- The errors that the reading of a core's scratchpad for a save meets (R59). -/
def countCore (m : Module) (c : Nat) : Module :=
  (m.mem.err.filter (fun p => inCore c (8 * p.1))).foldl (fun m p => countErr true p.1 m) m

/-- A core's state (R99, R270). -/
def saveOf (m : Module) (c : Nat) : CoreSave :=
  { core := c, bundles := (m.core c).bundles, mask := (m.core c).mask
    engines := (List.range 64).map (fun e => (e, m.eng c e)), red := (m.core c).red, fired := (m.core c).fired, grids := (m.core c).grids
    bytes := m.mem.bytes.filter (fun p => inCore c p.1)
    poison := savedPoison m c }

/-- Clear a core's scratchpad and program store. -/
def clearCoreMem (c : Nat) (m : Mem) : Mem := memClear (memClear m (spadBase c) 0x80000) (progBase c) 0x10000

/-- Restore a core from its save slot (R266). -/
def restoreCore (v : CoreSave) (m : Module) : Module :=
  let mem := clearCoreMem v.core m.mem
  let mem := { mem with
    bytes := v.bytes.foldl (fun t p => Tab.put (0 : Byte) t p.1 p.2) mem.bytes
    poison := v.poison.foldl (fun t p => Tab.put 0 t p.1 p.2) mem.poison }
  let m := { m with mem := mem }
  let m := v.engines.foldl (fun m p => m.setEng v.core p.1 p.2) m
  m.updCore v.core (fun k => { k with bundles := v.bundles, mask := v.mask, red := v.red, fired := v.fired, grids := v.grids })

/-! ### First dispatch (R52, R54, R103, R266) -/

/-- Whether physical engine p of a core has failed. -/
def engineFailed (k : Core) (p : Nat) : Bool := k.failed.contains p

/-- The graft table that a list of failed engines gives (R54): each failed one takes the lowest healthy spare left. -/
def graftOf (failed : List Nat) : List Nat :=
  let spares := (List.range 4).map (· + 64) |>.filter (fun p => !failed.contains p)
  ((List.range 64).foldl (fun (acc : List Nat × List Nat) p =>
    if failed.contains p then (acc.1 ++ [acc.2.headD p], acc.2.drop 1) else (acc.1 ++ [p], acc.2)) ([], spares)).1

/-- CORID (R52). -/
def coridOf (m : Module) (c : Nat) : W32 := BitVec.ofNat 32 (m.host.moduleId * 2 ^ 12 + partOfCore m c * 2 ^ 8 + c)

/-- The special registers as Gragor writes them at a dispatch (R52, R141, R143). -/
def writeSpecial (m : Module) (j : Job) (c e : Nat) (v : Engine) : Engine :=
  { v with engid := BitVec.ofNat 32 e, corid := coridOf m c, ctxid := (sidOf m j.ctx c).setWidth 32
           step := j.step, seedBase := j.seed }

/-- The registers at job start (R103). -/
def startRegs (args : List W32) (p0 p1 : PTab) : Regs :=
  { s := Tab.putRow 0 [] 0 (args.take 8), p0 := p0, p1 := p1 }

/-- A table image named by INIT_P0 or INIT_P1 (R103): the table, or the fault kind. -/
def initTable (m : Module) (c off : Nat) : Except Nat PTab :=
  if off = 0xFFFFFFFF then .ok {}
  else
    let w := (spadBase c + off) / 8
    if (readWords m.mem w 72).any (·.2) then .error 5
    else match tableOf (memBytes m.mem (spadBase c + off) 528) with
      | some p => .ok p
      | none => .error 1

/-- The errors that the reading of the table images named by INIT_P0 and INIT_P1 meets (R59, R103). -/
def countInit (c : Nat) (bs : List Byte) (m : Module) : Module :=
  [leAt bs 36 4, leAt bs 40 4].foldl (fun m off =>
    if off = 0xFFFFFFFF then m else countReads 72 ((spadBase c + off) / 8) false m) m

/-- The bytes of an image in the image store. -/
def imageBytes (m : Module) (i : Image) : List Byte := memBytes m.mem i.base i.bytes

/-- Load a core's image (R102, R103): program store, grid table, then the segments in order. -/
def loadImage (c : Nat) (i : Image) (m : Module) : Module :=
  let bs := imageBytes m i
  let n := imgBundles bs
  let m := countReads (i.bytes / 8) (i.base / 8) false m
  let m := { m with mem := memClear m.mem (progBase c) 0x10000 }
  let m := { m with mem := memPut m.mem (progBase c) ((bs.drop (leAt bs 24 4)).take (16 * n)) }
  let m := m.updCore c (fun k => { k with
    bundles := n, mask := imgMask bs, red := [], fired := []
    grids := (List.range (imgGrids bs)).foldl (fun t g =>
      t.put none (leAt (imgGrid bs g) 0 1) (some (gridOf (imgGrid bs g)))) [] })
  (List.range (imgSegs bs)).foldl (fun m g =>
    let x := imgSeg bs g
    writeWords ((spadBase c + leAt x 0 4) / 8) (readAny m.mem (i.base + leAt x 8 4) (leAt x 4 4 / 8)) m) m

/-- The fault kind of a core's INIT tables, if any: 0x05 before 0x01 (R103, R87). -/
def initFault (m : Module) (c : Nat) (bs : List Byte) : Option Nat :=
  match initTable m c (leAt bs 36 4), initTable m c (leAt bs 40 4) with
  | .error a, .error b => some (max a b)
  | .error a, _ => some a
  | _, .error b => some b
  | _, _ => none

/-- An engine of the job at job start (R103): issuing at ENTRY, or faulted there. -/
def startEngine (m : Module) (j : Job) (c e : Nat) (bs : List Byte) (fault : Option Nat) (go : Bool) : Engine :=
  let p0 := match initTable m c (leAt bs 36 4) with | .ok p => p | .error _ => {}
  let p1 := match initTable m c (leAt bs 40 4) with | .ok p => p | .error _ => {}
  let r := startRegs j.args p0 p1
  let pc := BitVec.ofNat 12 (imgEntry bs)
  let v : Engine := writeSpecial m j c e { src := r, nxt := r, pc := pc, bpc := pc, opSeq := (m.eng c e).opSeq }
  match fault with
  | some kind => { v with run := .faulted, fault := some { kind := kind, pc := imgEntry bs } }
  | none => { v with run := if go then .issuing else .off }

end Sys2Proof.Machine
end

