-- ==== Sys2Proof/Machine/Sched.lean ====
section
/-!
DEFINITION. Contexts, images and jobs: admission (R263), the scheduling decision (R267, R268), dispatch (R266), pre-emption
(R269, R270), inheritance (R272, R273), outcomes (R275 to R279) and the class 0x04 commands (R280, R281).
-/

namespace Sys2Proof.Machine

/-! ### Images (R260) -/

/-- What an image load reads: the words of a device source, or of the cold frame with the words EP marked; none where the
copy fails (R321). -/
def imageSource (m : Module) (i : Image) (ok : Bool) (ep : List Nat) : Option (List (W64 × Bool)) :=
  let n := i.bytes / 8
  if i.srcAddr < 0x10000000000 then some (readAny m.mem i.srcAddr n)
  else if ok && m.links.pcieSpeed != 0 && coldCovered m i.srcAddr i.bytes then
    let bs := coldRead m i.srcAddr i.bytes
    some ((List.range n).map (fun w => (BitVec.ofNat 64 (leAt bs (8 * w) 8), ep.contains ((i.srcAddr + 8 * w) / 8))))
  else none

/-- The errors that reading an image's source in the device meets (R59, R106, R110), or the read requests to the host (R316). -/
def countSource (i : Image) (m : Module) : Module :=
  if i.srcAddr < 0x10000000000 then countReads ((i.srcAddr % 8 + i.bytes + 7) / 8) (i.srcAddr / 8) false m
  else coldAsk i.srcAddr i.bytes m

/-- An image load ends without an image: the slot is empty again. -/
def imageFails (k slot rc bytes : Nat) (m : Module) : Module :=
  finish 0x0402 (16 * k + slot) rc (fields 24 [(0, 1, slot), (4, 4, bytes)])
    (m.updCtx k (fun v => { v with images := v.images.put none slot none }))

/-- IMG_LOAD_COMPLETE (R260, R102, R321): placed, copied and checked; `ok` says that every cold-frame transfer succeeded,
`ep` which of its words came with the poisoned bit. -/
def execImgLoadComplete (k slot : Nat) (ok : Bool) (ep : List Nat) (s : State) : Res :=
  s.gragor (fun m =>
    match (m.ctx k).images.get none slot with
    | none => m
    | some i =>
      if i.loaded then m
      else match placeImage m k i.bytes with
        | none => imageFails k slot 0x11 i.bytes m
        | some a =>
          match imageSource m i ok ep with
          | none => imageFails k slot 0x32 i.bytes m
          | some ws =>
            let m := countSource i (writeWords (a / 8) ws m)
            let bs := memBytes m.mem a i.bytes
            if imageBad i.bytes bs then imageFails k slot 0x22 i.bytes m
            else
              let crc := BitVec.ofNat 32 (leAt bs 12 4)
              finish 0x0402 (16 * k + slot) 0 (fields 24 [(0, 1, slot), (4, 4, i.bytes), (8, 4, crc.toNat)])
                (m.updCtx k (fun v => { v with
                  images := v.images.put none slot (some { i with base := a, crc := crc, loaded := true }) })))

/-! ### Effective priority and shares (R267, R268) -/

/-- The DISPATCHED time of a client's jobs in this share period. -/
def shareUsed (m : Module) (n : Nat) : Nat :=
  (m.client n).used + ((m.sched.jobs.filter (fun j => j.client == n)).map (periodTime m)).foldl (· + ·) 0

/-- Whether a client is below its minimum share of the period (R268, R285). -/
def belowShare (m : Module) (n : Nat) : Bool := decide (shareUsed m n * 1000 < (m.client n).share * m.sched.periodLen)

/-- The effective priority of a job (R267). -/
def effPrio (m : Module) (j : Job) : Nat := max (max j.prio j.inherited) (if belowShare m j.client then 8 else 0)

/-- A job is in a reserved slice (R273). -/
def inSlice (j : Job) : Bool := j.sliceFor.isSome && !j.lapsed

/-- Where a job stands in the order, as numbers compared one after the other: effective priority, whether it runs in a
reserved slice, which no job of its own priority ends, or is to have one (R273), whether it runs at priority 8 (R268),
admission, context. -/
def schedKey (m : Module) (j : Job) : List Nat :=
  let p := effPrio m j
  [9 - p, if inSlice j then (if j.state = .dispatched then 0 else 1) else 2, if p = 8 && j.state = .dispatched then 0 else 1, j.admitted, j.ctx]

/-- Lexicographic order of keys. -/
def keyLe : List Nat → List Nat → Bool
  | a :: as, b :: bs => decide (a < b) || (a = b && keyLe as bs)
  | [], _ => true
  | _ :: _, [] => false

/-- Whether a recovery holds a context's jobs. -/
def ctxHeld (m : Module) (k : Nat) : Bool :=
  (m.rcv.ctxRst.map (·.ctx)) == some k || (match m.rcv.partRst with | some p => p.ctxs.getLsbD k | none => false)

/-- The order of a decision (R267): the jobs READY, DISPATCHED and PARKED. -/
def schedOrder (m : Module) : List Job :=
  sortBy (fun a b => keyLe (schedKey m a) (schedKey m b))
    (m.sched.jobs.filter (fun j => j.state != .queued && !ctxHeld m j.ctx))

/-- Whether Gragor may dispatch onto a core: on, not withdrawn (R56) or held (R360, R362), in no partition reset, not taken
for a golden slot (R376). -/
def coreUsable (m : Module) (c : Nat) : Bool :=
  domOn m c && !(m.core c).withdrawn && !(m.core c).marginHeld && !(m.core c).thermalHeld
    && (m.rcv.partRst.map (·.part)) != some (partOfCore m c) && !m.safety.gtPending.contains c

/-- What the walk has given so far (R267). -/
structure Walk where
  given : List Nat
  receives : List Nat
  displaced : List Nat

/-- One job of the walk: it receives its cores when each is free, or held by a job later in the order. -/
def walkJob (m : Module) (acc : Walk × List Nat) (j : Job) : Walk × List Nat :=
  let w := acc.1
  let seen := acc.2
  let cs := bitsOf j.mask
  let ok := cs.all (fun c => !w.given.contains c && (coreUsable m c || (m.core c).job == some j.id)
    && (match (m.core c).job with | some h => h == j.id || !seen.contains h | none => true))
  if ok then
    ({ given := w.given ++ cs, receives := w.receives ++ [j.id]
       displaced := w.displaced ++ (cs.filterMap (fun c => (m.core c).job)).filter (fun h => h != j.id) }, seen ++ [j.id])
  else (w, seen ++ [j.id])

/-- Set the park request on every core of a job, and the time of the request (R269). -/
def parkJob (id : Nat) (m : Module) : Module :=
  match findJob m id with
  | some j =>
    if j.state = .dispatched && j.parkAt.isNone then
      let m := putJob m { j with parkAt := some m.time.elapsed, granted := false }
      (bitsOf j.mask).foldl (fun m c => m.updCore c (fun v => { v with parkReq := true })) m
    else m
  | none => m

/-- Run, with no entry or wake under way: Gragor admits jobs (R340, R342, R344). -/
def admitting (m : Module) : Bool := m.power.state = 0 && m.power.entry.isNone && m.power.waking.isNone

/-- Whether jobs may be given cores: admission is open, and no bin change is being made room for (R361). -/
def dispatching (m : Module) : Bool := admitting m && !m.health.binForce

/-- Whether the wait a slice serves is still held (R273): it has not been released, and the waiter has no outcome. -/
def waitHeld (m : Module) (j : Job) : Bool :=
  match j.sliceFor with
  | some w => !j.waitDone && (findJob m w.1).isSome
  | none => false

/-- A slice of a job that runs counts in INHERIT_SLICES of its client (R273, R281). -/
def sliceRuns (j : Job) (m : Module) : Module :=
  m.setClient j.client { (m.client j.client) with ctr := bump (m.client j.client).ctr 9 }

/-- What a decision does with a slice whose time is over (R273): the next one begins, at the waiter's priority, if the wait is
still held. -/
def nextSlice (m : Module) (id : Nat) : Module :=
  match findJob m id with
  | none => m
  | some j =>
    if !j.lapsed then m
    else match j.sliceFor.bind (fun w => findJob m w.1) with
      | some w =>
        if j.waitDone then putJob m { j with lapsed := false, sliceFor := none }
        else
          let m := putJob m { j with lapsed := false, inherited := effPrio m w, sliceStart := dispatchedTime m j }
          if j.state = .dispatched then sliceRuns j m else m
      | none => putJob m { j with lapsed := false, sliceFor := none }

/-- SCHEDULING_DECISION (R267): at a decision point, and every millisecond of network time. -/
def execSchedulingDecision (s : State) : Res :=
  s.gragor (fun m =>
    if !(m.sched.due || m.sched.lastMs != m.time.now / msUnit) then m
    else
      let m := { m with sched := { m.sched with due := false, lastMs := m.time.now / msUnit } }
      if !dispatching m then m
      else
        let m := (m.sched.jobs.map (·.id)).foldl nextSlice m
        let w := ((schedOrder m).foldl (walkJob m) (⟨[], [], []⟩, [])).1
        let m := { m with sched := { m.sched with jobs := m.sched.jobs.map (fun j =>
          { j with granted := w.receives.contains j.id && j.state != .dispatched && j.state != .queued }) } }
        w.displaced.foldl (fun m h => parkJob h m) m)

/-- SHARE_PERIOD_BOUNDARY (R268, R285): network time has left the share period. -/
def execSharePeriodBoundary (s : State) : Res :=
  s.gragor (fun m => if m.sched.period != m.time.now / (100 * msUnit) then startSharePeriod false m else m)

/-! ### Admission and dispatch (R263, R266) -/

/-- JOB_ADMISSION (R263): the oldest queued job of a context. -/
def execJobAdmission (k : Nat) (s : State) : Res :=
  s.gragor (fun m =>
    match m.sched.jobs.find? (fun j => j.ctx == k && j.state == .queued) with
    | none => m
    | some j =>
      if hasAdmitted m k || kvBusyCtx m k || owesCommit m k || !admitting m || ctxHeld m k then m
      else
        let v := m.ctx k
        let m := putJob m { j with
          state := .ready, admitted := m.sched.nextAdmit, seed := v.seed, step := v.step, mode := v.mode }
        { m with sched := { m.sched with nextAdmit := m.sched.nextAdmit + 1, due := true } })

/-- Any parked job's state that a core still holds in place goes to its save slot before another use (R269). -/
def evict (c : Nat) (id : Nat) (m : Module) : Module :=
  let held := m.sched.jobs.any (fun j => j.id != id && j.inPlace.contains c)
  let m1 := if held then countCore m c else m
  { m1 with sched := { m1.sched with jobs := m1.sched.jobs.map (fun j =>
    if j.id != id && j.inPlace.contains c then
      { j with inPlace := j.inPlace.filter (fun x => x != c), saves := j.saves ++ [saveOf m c] }
    else j) } }

/-- The graft table takes effect at a dispatch (R54, R55, R337). -/
def graftCore (c : Nat) (m : Module) : Module := m.updCore c (fun k => { k with tested := true, graft := graftOf k.failed })

/-- A first dispatch onto one core: its image is loaded (R266 step 1). -/
def firstLoad (j : Job) (m : Module) (c : Nat) : Module :=
  match imageOf m j.ctx (j.slots.getD c 0) with
  | some i => loadImage c i (graftCore c (evict c j.id m))
  | none => m

/-- The image of a core of a job, as bytes. -/
def jobImage (m : Module) (j : Job) (c : Nat) : List Byte :=
  ((imageOf m j.ctx (j.slots.getD c 0)).map (imageBytes m)).getD []

/-- A job's engines at job start on one core. DESIGN CHOICE (notes/assumptions/95): where a core fails at its start and its image's
ENGINE_MASK names no engine, there is no engine to record the fault of, and none is recorded; R103 names one in each case. -/
def firstStart (j : Job) (go : Bool) (m : Module) (c : Nat) : Module :=
  let bs := jobImage m j c
  let fault := initFault m c bs
  (List.range 64).foldl (fun m e =>
    if (m.core c).mask.getLsbD e then m.setEng c e (startEngine m j c e bs fault go)
    else m.updEng c e (fun v => { (stopEngine v) with opSeq := v.opSeq })) m

/-- A SYNCWAIT that has been released, which no later decrease holds again (R113). -/
def released (v : Engine) : Bool := match v.hold with | .sync _ _ _ r => r | _ => false

/-- An engine goes on where it was parked or forced (R99, R270). -/
def resumeEngine (m : Module) (j : Job) (c e : Nat) : Engine :=
  let v := writeSpecial m j c e (m.eng c e)
  if v.run = .parked || v.run = .forced then { v with run := .issuing, hold := if released v then v.hold else .free } else v

/-- A later dispatch onto one core (R266): restored from the save slot, unless the core still holds the state. -/
def resumeCore (j : Job) (m : Module) (c : Nat) : Module :=
  let m := if j.inPlace.contains c then m
    else match j.saves.find? (fun v => v.core == c) with
      | some v => restoreCore v (evict c j.id m)
      | none => m
  let m := graftCore c m
  (bitsOf (m.core c).mask).foldl (fun m e => m.setEng c e (resumeEngine m j c e)) m

/-- A core carries a job. -/
def occupy (j : Job) (m : Module) (c : Nat) : Module :=
  m.updCore c (fun v => { v with job := some j.id, ctx := some j.ctx, parkReq := false, stopReq := false })

/-- A slice of a job that is dispatched begins to run (R273). -/
def countSlice (j : Job) (m : Module) : Module := if inSlice j && dispatchedTime m j = j.sliceStart then sliceRuns j m else m

/-- A core has its ageing baseline (R355), and no lowering of its set point is pending (R358). -/
def coreReady (m : Module) (c : Nat) : Bool :=
  let p := m.health.plans.get {} c
  p.base.isSome && !p.lower

/-- JOB_DISPATCH (R266, R103): a job that has received its cores starts on all of them together, once each is free and
drained (R270 step 2). -/
def execJobDispatch (id : Nat) (s : State) : Res :=
  s.gragor (fun m =>
    match findJob m id with
    | none => m
    | some j =>
      let cs := bitsOf j.mask
      if !(j.granted && (j.state = .ready || j.state = .parked) && dispatching m && !ctxHeld m j.ctx)
          || !cs.all (fun c => (m.core c).job.isNone && coreDrained m c && coreUsable m c && coreReady m c) then m
      else
        let m := countSlice j m
        let m :=
          if j.loaded then cs.foldl (resumeCore j) m
          else
            let m := cs.foldl (firstLoad j) m
            let m := cs.foldl (fun m c => countInit c (jobImage m j c) m) m
            let bad := cs.any (fun c => (initFault m c (jobImage m j c)).isSome)
            cs.foldl (firstStart j (!bad)) m
        let m := cs.foldl (occupy j) m
        putJob m { j with
          state := .dispatched, loaded := true, granted := false, inPlace := [], saves := [], parkAt := none, forcedAt := none
          dispatchedAt := m.time.elapsed, firstDispatch := some (j.firstDispatch.getD m.time.elapsed)
          cycleAt := if j.firstDispatch.isSome then j.cycleAt else m.time.cycles })

/-! ### Pre-emption (R269, R270) -/

/-- An engine has stopped where it can be saved (R99, R270): parked, forced and drained, halted, or halting with its drain
done after a forced stop. -/
def stoppedFor (late : Bool) (v : Engine) : Bool :=
  (v.run = .parked || (v.run = .forced && v.inflight = 0) || v.run = .halted)
    || (late && v.run = .halting && !anyLeft v && v.inflight = 0)

/-- A core carries the parked job no longer; its state stays in place. -/
def leaveCore (m : Module) (c : Nat) : Module := m.updCore c (fun v => { v with job := none, ctx := none, parkReq := false, stopReq := false })

/-- The cores another job is about to use (R269), or every core during an entry (R340). -/
def aboutToUse (m : Module) (id : Nat) (c : Nat) : Bool :=
  entering m || m.safety.gtPending.contains c || (m.core c).marginHeld || (m.core c).thermalHeld || m.sched.jobs.any (fun j => j.id != id && j.granted && j.mask.getLsbD c)

/-- JOB_PARKED (R269, R274): every engine of the job has parked or been forced and its cores' movers hold no descriptor; the cores
about to be used are saved. -/
def execJobParked (id : Nat) (s : State) : Res :=
  s.gragor (fun m =>
    match findJob m id with
    | none => m
    | some j =>
      match j.parkAt with
      | none => m
      | some _ =>
        let cs := bitsOf j.mask
        if j.state != .dispatched || ctxHeld m j.ctx || !(jobEngines m j).all (fun p => stoppedFor j.forcedAt.isSome (m.eng p.1 p.2))
            || !cs.all (fun c => (m.core c).mover.isEmpty) then m
        else
          let out := cs.filter (aboutToUse m id)
          let cl := m.client j.client
          let ctr := bump cl.ctr 7
          let m1 := (out.foldl countCore m).setClient j.client { cl with
            used := cl.used + periodTime m j
            ctr := ctr.put 0 12 (min (ctr.get 0 12 + countTime m j) ((2 ^ 64 - 1) * usUnit)) }
          let m1 := putJob m1 { j with
            state := .parked, parkAt := none, forcedAt := none, granted := false, preemptions := j.preemptions + 1
            dispatched := dispatchedTime m j, inPlace := cs.filter (fun c => !out.contains c), saves := out.map (saveOf m) }
          let m1 := cs.foldl heldOff (cs.foldl leaveCore m1)
          { m1 with
            sched := { m1.sched with due := true }
            power := if entering m then { m1.power with parked := m1.power.parked + 1 } else m1.power })

/-- Force one engine (R270 step 1): it stops before its next bundle. A bundle that is held has had no effect; one of which some
slots have issued goes on to its end, and so does the drain of a HALT. -/
def forceEngine (m : Module) (p : Nat × Nat) : Module :=
  let v := m.eng p.1 p.2
  if !slotRun v then m
  else match v.hold with
    | .push q => withdrawPush q (.engine p.1 p.2) (m.setEng p.1 p.2 { (unissue v) with run := .forced, hold := .free, told := false })
    | .pop _ | .slots | .queue _ => m.setEng p.1 p.2 { (unissue v) with run := .forced, hold := .free, told := false }
    | h =>
      if anyLeft v || v.run = .halting then m
      else m.setEng p.1 p.2 { v with run := .forced, told := false, hold := if released v then h else .free }

/-- Stop every engine of a job as in step 1 of R270: no bundle opens on its cores, and the engines between two bundles are forced. -/
def stopEngines (j : Job) (m : Module) : Module :=
  let m := (jobEngines m j).foldl forceEngine m
  let m := (bitsOf j.mask).foldl (fun m c => if (m.core c).job = some j.id then m.updCore c (fun k => { k with stopReq := true }) else m) m
  match findJob m j.id with
  | some i => putJob m { i with forcedAt := some (i.forcedAt.getD m.time.elapsed) }
  | none => m

/-- FORCED_PREEMPTION (R270): YIELD_WAIT_US after the request, the engines not yet parked stop before their next bundle. It counts
once; raised again, it stops the engines that had a bundle open. -/
def execForcedPreemption (id : Nat) (s : State) : Res :=
  s.gragor (fun m =>
    match findJob m id with
    | none => m
    | some j =>
      match j.parkAt with
      | none => m
      | some t =>
        if j.state = .dispatched && passed m t ((m.ctx j.ctx).yieldWait * usUnit)
            && (jobEngines m j).any (fun p => slotRun (m.eng p.1 p.2)) then
          let cl := m.client j.client
          stopEngines j (if j.forcedAt.isSome then m else m.setClient j.client { cl with ctr := bump cl.ctr 8 })
        else m)

/-! ### Inheritance (R272, R273) -/

/-- The holder of the binding of a context that covers an object. -/
def holderOf (m : Module) (k obj : Nat) : Option Nat :=
  ((m.ctx k).binds.find? (fun b => decide (b.base ≤ obj) && decide (obj < b.base + b.count))).map (·.holder)

/-- A holder's READY or PARKED job of a lower effective priority inherits p (R272). -/
def inherit (h p : Nat) (wait : Nat × Nat × Nat) (m : Module) : Module :=
  match admittedOf m h with
  | some j =>
    if (j.state = .ready || j.state = .parked) && effPrio m j < p then
      putJob m { j with inherited := p, sliceFor := some wait, sliceStart := dispatchedTime m j, lapsed := false, waitDone := false }
    else m
  | none => m

/-- Inheritance along a chain of bindings, to a depth, not returning to a context already in it (R272). -/
def inheritChain : Nat → List Nat → Nat → (Nat × Nat × Nat) → Nat → Module → Module
  | 0, _, _, _, _, m => m
  | n + 1, seen, p, wait, h, m =>
    if seen.contains h then m
    else ((m.ctx h).binds.map (·.holder)).foldl (fun m g => inheritChain n (h :: seen) p wait g m) (inherit h p wait m)

/-- INHERITANCE_REPORT (R272): a SYNCWAIT of a DISPATCHED job held for 20 µs or longer on a bound object. -/
def execInheritanceReport (c : Fin 32) (e : Fin 64) (s : State) : Res :=
  s.gragor (fun m =>
    match (m.eng c e).hold, ((m.core c).job).bind (findJob m) with
    | .sync obj thr since false, some j =>
      match holderOf m j.ctx obj with
      | some h =>
        if j.state = .dispatched && passed m since (20 * usUnit) then
          let m := inheritChain 8 [j.ctx] (effPrio m j) (j.id, obj, thr) h m
          { m with sched := { m.sched with due := true } }
        else m
      | none => m
    | _, _ => m)

/-- INHERIT_SLICE_END (R273): the wait is released, or the slice time has been DISPATCHED; the inherited priority lapses. -/
def execInheritSliceEnd (id : Nat) (s : State) : Res :=
  s.gragor (fun m =>
    match findJob m id with
    | none => m
    | some j =>
      let ended (j : Job) : Module := let m := putJob m j; { m with sched := { m.sched with due := true } }
      if !inSlice j then m
      else if !waitHeld m j then ended { j with inherited := 0, sliceFor := none }
      else if (m.ctx j.ctx).inheritSlice * usUnit ≤ dispatchedTime m j - j.sliceStart then
        ended { j with inherited := 0, lapsed := true }
      else m)

/-! ### Outcomes (R275 to R279) -/

/-- JOB_COMPLETE (R275, R100): every engine in every ENGINE_MASK has stopped. -/
def execJobComplete (id : Nat) (s : State) : Res :=
  s.gragor (fun m =>
    match findJob m id with
    | some j =>
      if j.state = .dispatched && !ctxHeld m j.ctx && (jobEngines m j).all (fun p => (m.eng p.1 p.2).run = .halted) then jobOutcome j 0 0 {} m else m
    | none => m)

/-- RUN_LIMIT_TIMEOUT (R277): of an admitted job, on its cores or not (Table 12-1). -/
def execRunLimitTimeout (id : Nat) (s : State) : Res :=
  s.gragor (fun m =>
    match findJob m id with
    | some j =>
      if j.state != .queued && !ctxHeld m j.ctx && j.runLimit != 0 && decide (j.runLimit * usUnit ≤ dispatchedTime m j) then abortJob j 0x31 m
      else m
    | none => m)

/-- The faulted engines of a job, lowest core and engine first, with their records. -/
def faultsOf (m : Module) (j : Job) : List (Nat × Nat × EFault) :=
  (jobEngines m j).filterMap (fun p => ((m.eng p.1 p.2).fault).map (fun f => (p.1, p.2, f)))

/-- Whether an engine has come to its stop: it issues nothing more and nothing of it is in flight (R270 steps 1 and 2). -/
def atRest (v : Engine) : Bool := v.inflight = 0 && v.run != .issuing && (v.run != .halting || !anyLeft v)

/-- JOB_FAULT (R278): the job's engines stop; once all have stopped, the lowest fault is recorded, the others counted, the job
ends as faulted and its context is torn down. Raised before that, it stops what it can and ends there (notes/assumptions/82). -/
def execJobFault (id : Nat) (s : State) : Res :=
  s.gragor (fun m =>
    match findJob m id with
    | none => m
    | some j =>
      let hw := (m.ctx j.ctx).hwFault
      let faulted := hw != 0 || !(faultsOf m j).isEmpty
      let m := if faulted && j.state != .queued && !ctxHeld m j.ctx then stopEngines j m else m
      let fs := faultsOf m j
      let rec_ : Option (CtxFault × Nat) := match fs with
        | (c, e, f) :: rest =>
          some ({ job := j.id, core := c, eng := e, kind := f.kind, status := f.status, pc := f.pc, desc := BitVec.toNat (BitVec.ofNat 32 f.desc) },
            rest.length + (if hw = 0 then 0 else 1))
        | [] => if hw = 0 then none else some ({ job := j.id, kind := hw }, 0)
      match rec_ with
      | none => m
      | some (f, extra) =>
        if j.state = .queued || ctxHeld m j.ctx || !(jobEngines m j).all (fun p => atRest (m.eng p.1 p.2)) then m
        else
          let m := jobOutcome j 2 0x32 f m
          let m := m.updCtx j.ctx (fun v => { v with
            fault := f, hwFault := 0, extraFaults := min 0xFF (v.extraFaults + extra) })
          if (m.ctx j.ctx).state = 1 then tearDown j.ctx j.id m else m)

/-! ### Class 0x04 commands (R280, R281) -/

/-- The save regions of the contexts other than one, and every KV pool region. -/
def takenRegions (m : Module) (k : Nat) : List (Nat × Nat) :=
  ((List.range 64).filter (fun i => i != k && (m.ctx i).state != 0)).map (fun i => ((m.ctx i).saveBase, (m.ctx i).saveBytes))
    ++ ((List.range 32).filter (fun n => (m.pool n).live)).flatMap (fun n => poolRegions (m.pool n))

/-- CTX_CREATE (R257 to R259, R144). -/
def execCtxCreate (n : Nat) (s : State) : Res :=
  s.act (command 0x0400 n
    (fun ps m =>
      let k := leAt ps 0 1
      let base := leAt ps 16 8
      let bytes := leAt ps 24 8
      [badLen ps 32, (k > 63 || leAt ps 1 1 > 15 || leAt ps 2 1 > 7, 0x22), resv ps 3 1, resv ps 12 4,
        (leAt ps 4 4 < 10 || leAt ps 4 4 > 500 || leAt ps 8 4 < 25 || leAt ps 8 4 > 10000, 0x22),
        (base % mib != 0 || bytes % mib != 0 || bytes < (nCores m + 1) * mib, 0x22),
        (foreign m n k || (leAt ps 1 1 = 15 && n != 14), 0x24), ((m.ctx k).state != 0, 0x23),
        (0xE00000000 < base + bytes || (takenRegions m k).any (fun r => overlaps base bytes r.1 r.2), 0x24)])
    (fun ps m => respond n 0 [] (m.setCtx (leAt ps 0 1)
      { state := 1, client := n, cloche := leAt ps 1 1, maxPrio := leAt ps 2 1, yieldWait := leAt ps 4 4
        inheritSlice := leAt ps 8 4, saveBase := leAt ps 16 8, saveBytes := leAt ps 24 8 })))

/-- Image loads of a context that have not completed end with its destruction. -/
def dropLoads (k : Nat) (m : Module) : Module :=
  (List.range 16).foldl (fun m i =>
    match (m.ctx k).images.get none i with
    | some v => if v.loaded then m else imageFails k i 0x33 v.bytes m
    | none => m) m

/-- The queue bindings of a context are freed (R280): the queues it owns are unbound and FREE, as SQ_DESTROY leaves them
(Table 8-5), and an endpoint of another's queue that named it names no context (64). -/
def freeBindings (k : Nat) (m : Module) : Module :=
  unbind { m with queues := (m.queues.filter (fun p => !(p.2.state != 0 && p.2.owner == k))).map (fun p => (p.1, { p.2 with
    prodId := if p.2.prodKind = 0 && p.2.prodId = k && p.2.state != 0 then 64 else p.2.prodId
    consId := if p.2.consKind = 0 && p.2.consId = k && p.2.state != 0 then 64 else p.2.consId })) }

/-- Destroy a context (R280): it becomes FREE when its last window is closed. -/
def destroyCtx (k : Nat) (m : Module) : Module :=
  let m := if (m.ctx k).state = 1 then tearDown k 0 m else m
  let m := freeBindings k (dropLoads k (destroyPools k m))
  let m := m.updCtx k (fun v => { v with ranges := [], images := [], records := [], destroying := true })
  destroyDone k m

/-- CTX_DESTROY (R280): deferred. -/
def execCtxDestroy (n : Nat) (s : State) : Res :=
  s.act (command 0x0401 n
    (fun ps m => [badLen ps 8, resv ps 1 7] ++ ctxParam ps n m ++ [((m.ctx (leAt ps 0 1)).destroying, 0x23)])
    (fun ps m => accept n (leAt ps 0 1) (destroyCtx (leAt ps 0 1)) m))

/-- Whether the source of an image is permitted (R260): a device range the context may read, or a granted cold-frame range. -/
def sourceHeld (m : Module) (k a n : Nat) : Bool :=
  if 0x10000000000 ≤ a then coldCovered m a n else (pieces a n).all (fun p => ctxHolds m k .read p.1 p.2)

/-- IMG_LOAD (R260): deferred. -/
def execImgLoad (n : Nat) (s : State) : Res :=
  s.act (command 0x0402 n
    (fun ps m =>
      let k := leAt ps 0 1
      [badLen ps 24, (k > 63 || leAt ps 1 1 > 15 || leAt ps 16 4 % 16 != 0, 0x22), resv ps 2 6, resv ps 20 4,
        (foreign m n k, 0x24), ((m.ctx k).state != 1 || (imageOf m k (leAt ps 1 1)).isSome
          || (leAt ps 8 8 < 0x10000000000 && asleepAt m (leAt ps 8 8) (leAt ps 16 4)), 0x23),
        (!sourceHeld m k (leAt ps 8 8) (leAt ps 16 4), notHeld)])
    (fun ps m => accept n (16 * leAt ps 0 1 + leAt ps 1 1) (fun m => m.updCtx (leAt ps 0 1) (fun v => { v with
      images := v.images.put none (leAt ps 1 1)
        (some { base := 0, bytes := leAt ps 16 4, crc := 0, loaded := false, srcAddr := leAt ps 8 8, startAt := m.time.elapsed }) })) m))

/-- Whether a loaded image is in a slot. -/
def slotLoaded (m : Module) (k slot : Nat) : Bool := match imageOf m k slot with | some i => i.loaded | none => false

/-- Whether a queued or admitted job names an image slot. -/
def slotNamed (m : Module) (k slot : Nat) : Bool :=
  m.sched.jobs.any (fun j => j.ctx == k && (bitsOf j.mask).any (fun c => j.slots.getD c 0 = slot))

/-- IMG_DROP (R280). -/
def execImgDrop (n : Nat) (s : State) : Res :=
  s.act (command 0x0403 n
    (fun ps m => [badLen ps 8, (leAt ps 1 1 > 15, 0x22), resv ps 2 6] ++ ctxParam ps n m
      ++ [(!slotLoaded m (leAt ps 0 1) (leAt ps 1 1) || slotNamed m (leAt ps 0 1) (leAt ps 1 1), 0x23)])
    (fun ps m => respond n 0 [] (m.updCtx (leAt ps 0 1) (fun v => { v with images := v.images.put none (leAt ps 1 1) none }))))

/-- A client's outstanding jobs (R264). -/
def outstanding (m : Module) (n : Nat) : Nat := (m.sched.jobs.filter (fun j => j.client == n)).length

/-- The parameters of JOB_SUBMIT break Table 12-5. -/
def jobBad (ps : List Byte) (m : Module) : Bool :=
  let k := leAt ps 0 1
  let mask := leAt ps 4 4
  k > 63 || leAt ps 1 1 > 7 || ((m.ctx k).state != 0 && decide ((m.ctx k).maxPrio < leAt ps 1 1))
    || mask = 0 || mask ≥ 2 ^ nCores m || leAt ps 8 4 > 10000000
    || (List.range 32).any (fun c => if mask / 2 ^ c % 2 = 1 then leAt ps (48 + c) 1 > 15 else leAt ps (48 + c) 1 != 0)

/-- The job of a JOB_SUBMIT. -/
def jobOf (ps : List Byte) (n tag : Nat) (m : Module) : Job :=
  { id := m.sched.nextJob, ctx := leAt ps 0 1, client := n, tag := tag, prio := leAt ps 1 1
    mask := BitVec.ofNat 32 (leAt ps 4 4), runLimit := leAt ps 8 4
    args := (List.range 8).map (fun i => BitVec.ofNat 32 (leAt ps (16 + 4 * i) 4))
    slots := (List.range 32).map (fun c => leAt ps (48 + c) 1), state := .queued, admitted := 0
    seed := 0, step := 0, mode := 0, acceptedAt := m.time.elapsed, firstDispatch := none, dispatchedAt := 0, dispatched := 0
    preemptions := 0, retries := 0, inherited := 0, sliceFor := none, sliceStart := 0, parkAt := none, granted := false
    inPlace := [], saves := [], loaded := false }

/-- The JOB_ID after one (R261): 0 is skipped. -/
def nextJobId (id : Nat) : Nat := if id ≥ 0xFFFFFFFF then 1 else id + 1

/-- Whether a core refuses a submission (R56, R350, R360, R362). -/
def coreRefused (m : Module) (c : Nat) : Bool :=
  (m.core c).withdrawn || m.power.offByCmd.getLsbD c || (m.core c).marginHeld || (m.core c).thermalHeld

/-- JOB_SUBMIT is refused with BUSY, and counted (R264, R247). -/
def jobBusy (m : Module) (n : Nat) : Bool :=
  decide ((m.client n).qb ≤ outstanding m n) || decide (256 ≤ (m.host.deferred.filter (fun d => d.client == n)).length)

/-- JOB_SUBMIT (R261, R264): deferred. -/
def execJobSubmit (n : Nat) (s : State) : Res :=
  s.act (command 0x0404 n
    (fun ps m =>
      let k := leAt ps 0 1
      let cs := bitsOf (BitVec.ofNat 32 (leAt ps 4 4))
      [badLen ps 80, resv ps 2 2, resv ps 12 4, (jobBad ps m, 0x22), (foreign m n k, 0x24),
        ((m.ctx k).state != 1 || cs.any (fun c => !slotLoaded m k (leAt ps (48 + c) 1)), 0x23),
        (cs.any (coreRefused m), 0x11)])
    (fun ps m =>
      let cl := m.client n
      if jobBusy m n then respond n 0x10 [] (m.setClient n { cl with ctr := bump cl.ctr 1 })
      else
        let j := jobOf ps n (reqTag m n) m
        accept n j.id (fun m =>
          let m := m.setClient n { cl with ctr := bump cl.ctr 0 }
          { m with sched := { m.sched with jobs := m.sched.jobs ++ [j], nextJob := nextJobId j.id } }) m))

/-- The outstanding job that JOB_ABORT names (R276). -/
def abortTarget (ps : List Byte) (m : Module) : Option Job :=
  m.sched.jobs.find? (fun j => j.ctx == leAt ps 0 1 && (if leAt ps 1 1 = 0 then j.tag == leAt ps 2 2 else j.id == leAt ps 4 4))

/-- The record that JOB_ABORT names (R276). -/
def abortRecord (ps : List Byte) (m : Module) : Option JobRecord :=
  (m.ctx (leAt ps 0 1)).records.find? (fun r => if leAt ps 1 1 = 0 then r.tag == leAt ps 2 2 else r.jobId == leAt ps 4 4)

/-- JOB_ABORT (R276). -/
def execJobAbort (n : Nat) (s : State) : Res :=
  s.act (command 0x0405 n
    (fun ps m =>
      [badLen ps 8, (leAt ps 0 1 > 63 || leAt ps 1 1 > 1, 0x22),
        ((abortTarget ps m).isNone && (abortRecord ps m).isNone, 0x22)] ++ ctxParam ps n m)
    (fun ps m =>
      match abortTarget ps m, abortRecord ps m with
      | some j, _ => abortJob j 0x30 (respond n 0 (fields 8 [(0, 4, j.id), (4, 1, 1)]) m)
      | none, some r => respond n 2 (fields 8 [(0, 4, r.jobId), (4, 1, r.outcome)]) m
      | none, none => m))

/-- JOB_STATE of Table 12-6. -/
def jobStateCode (j : Option Job) : Nat :=
  match j with
  | none => 0
  | some j => match j.state with
    | .queued => 0
    | .ready => 1
    | .dispatched => 2
    | .parked => 3

/-- CTX_STATUS (Table 12-6); a FREE context does not exist (R244). -/
def execCtxStatus (n : Nat) (s : State) : Res :=
  s.act (command 0x0406 n
    (fun ps m => [badLen ps 8, resv ps 1 7, (leAt ps 0 1 > 63, 0x22), (foreign m n (leAt ps 0 1), 0x24),
      ((m.ctx (leAt ps 0 1)).state = 0, 0x23)])
    (fun ps m =>
      let k := leAt ps 0 1
      let v := m.ctx k
      let j := admittedOf m k
      let f := v.fault
      respond n 0 (fields 40 [(0, 1, v.state), (1, 1, v.cloche), (2, 1, v.maxPrio), (3, 1, v.client),
        (4, 1, (m.sched.jobs.filter (fun j => j.ctx == k && j.state == .queued)).length), (5, 1, jobStateCode j),
        (6, 1, (j.map (effPrio m)).getD 0), (7, 1, v.extraFaults), (8, 4, (j.map (·.id)).getD 0),
        (12, 2, (maskOf 16 ((List.range 16).filter (slotLoaded m k))).toNat),
        (16, 4, ((roomStarts m k).map (roomAt m k)).foldl max 0), (20, 4, f.job), (24, 1, f.core), (25, 1, f.eng),
        (26, 1, f.kind), (27, 1, f.status), (28, 2, f.pc), (32, 4, f.desc)]) m))

/-- The shares of all clients once a client has another (R268). -/
def shareSum (m : Module) (n share : Nat) : Nat :=
  ((List.range 15).map (fun c => if c = n then share else (m.client c).share)).foldl (· + ·) 0

/-- SCHED_CLIENT (R264, R268). -/
def execSchedClient (n : Nat) (s : State) : Res :=
  s.act (command 0x0407 n
    (fun ps m =>
      let fl := leAt ps 1 1
      [badLen ps 8, (leAt ps 0 1 > 14 || fl > 3, 0x22), resv ps 6 2,
        ((fl % 2 = 1 && (leAt ps 2 2 < 1 || leAt ps 2 2 > 64)) || (fl / 2 = 1 && leAt ps 4 2 > 800), 0x22),
        (n != 14 && (fl / 2 = 1 || (fl % 2 = 1 && leAt ps 0 1 != n)), 0x24),
        (fl / 2 = 1 && decide (800 < shareSum m (leAt ps 0 1) (leAt ps 4 2)), 0x11)])
    (fun ps m =>
      let fl := leAt ps 1 1
      let cl := m.client (leAt ps 0 1)
      respond n 0 [] (m.setClient (leAt ps 0 1) { cl with
        qb := if fl % 2 = 1 then leAt ps 2 2 else cl.qb
        share := if fl / 2 = 1 then leAt ps 4 2 else cl.share })))

/-- DISPATCHED_US of a client: what its counter holds and what its dispatched jobs have run since. -/
def dispatchedUs (m : Module) (n : Nat) : Nat :=
  ((m.client n).ctr.get 0 12 + ((m.sched.jobs.filter (fun j => j.client == n)).map (countTime m)).foldl (· + ·) 0) / usUnit

/-- SCHED_STATUS (Table 12-7). -/
def execSchedStatus (n : Nat) (s : State) : Res :=
  s.act (command 0x0408 n
    (fun ps _ => [badLen ps 8, (leAt ps 0 1 > 14 || leAt ps 1 1 > 1, 0x22), resv ps 2 6,
      (n != 14 && leAt ps 0 1 != n, 0x24)])
    (fun ps m =>
      let k := leAt ps 0 1
      let c := (m.client k).ctr
      let data := fields 72 ((List.range 7).map (fun i => (4 * i, 4, c.get 0 i))
        ++ [(28, 4, outstanding m k), (32, 4, c.get 0 7), (36, 4, c.get 0 8), (40, 4, c.get 0 9), (44, 4, c.get 0 10),
            (48, 8, c.get 0 11), (56, 8, min (dispatchedUs m k) (2 ^ 64 - 1)), (64, 2, (m.client k).qb), (66, 2, (m.client k).share)])
      respond n 0 data (if leAt ps 1 1 = 1 then
        m.setClient k { (m.client k) with ctr := [], clearedAt := m.time.elapsed } else m)))

/-- Whether a range lies in the sync ranges of a context. -/
def rangeOwned (m : Module) (k base count : Nat) : Bool := count != 0 && (List.range count).all (fun i => syncOwned m k (base + i))

/-- A binding with a given range. -/
def hasBind (m : Module) (k base count : Nat) : Bool := (m.ctx k).binds.any (fun b => b.base == base && b.count == count)

/-- SEM_BIND (R272). -/
def execSemBind (n : Nat) (s : State) : Res :=
  s.act (command 0x0409 n
    (fun ps m =>
      let k := leAt ps 0 1
      let h := leAt ps 1 1
      [badLen ps 8, (k > 63 || (h > 63 && h != 0xFF) || leAt ps 4 4 + leAt ps 2 2 > 65536, 0x22),
        (!rangeOwned m k (leAt ps 4 4) (leAt ps 2 2) || (h = 0xFF && !hasBind m k (leAt ps 4 4) (leAt ps 2 2)), 0x22)]
        ++ ctxParam ps n m
        ++ [(h != 0xFF && foreign m n h, 0x24), (h != 0xFF && (m.ctx h).state = 0, 0x23),
            (h != 0xFF && decide (16 ≤ (m.ctx k).binds.length), 0x11)])
    (fun ps m =>
      let base := leAt ps 4 4
      let count := leAt ps 2 2
      respond n 0 [] (m.updCtx (leAt ps 0 1) (fun v => { v with
        binds := if leAt ps 1 1 = 0xFF then v.binds.filter (fun b => !(b.base == base && b.count == count))
          else v.binds ++ [⟨base, count, leAt ps 1 1⟩] }))))

end Sys2Proof.Machine
end

