-- ==== Sys2Proof/Machine/HostLink.lean ====
section
/-!
DEFINITION. Host links and runners (chapter 15): the PCIe endpoint (R316 to R321), the I3C ports (R322 to R326) with the
comparison of attached identities (R413, R414), CSI-2 transmit (R327 to R329), the runners (R330 to R332) and the class 0x0E
commands (R333, R334).
-/

namespace Sys2Proof.Machine

/-- Count in Table 15-5: 0 CPL_TIMEOUTS, 1 to 4 RETRIES, 5 to 8 RETRAINS, 9 NO_ROUTE, 10 and 11 TX_FRAMES, 12 and 13
TX_MALFORMED. -/
def linkCount (i : Nat) (m : Module) : Module := { m with links := { m.links with ctr := bump m.links.ctr i } }

/-- A deferred command of a class 0x0E code completes, and every other that waits for the same thing. -/
def finishAll (code key rc : Nat) (m : Module) : Module :=
  (m.host.deferred.filter (fun d => d.code == code && d.key == key)).foldl (fun m _ => finish code key rc [] m) m

/-! ### PCIe endpoint (R316 to R321) -/

/-- PCIE_LINK (Table 15-5). -/
def pcieLink (m : Module) : Nat := m.links.pcieSpeed * 16 + m.links.pcieWidth

/-- Whether the endpoint may train (R402, R429): PD_PCIE on, PERST# released, and not before Gragor starts where BOOT_SRC
keeps the boot ROM from training it. -/
def mayTrain (m : Module) : Bool :=
  domOn m 43 && !m.links.perst
    && (m.host.bootSrc = 0 || m.host.bootSrc = 2 || (m.host.bootSrc = 1 && (2 ≤ m.host.gState && m.host.gState ≤ 4)))

/-- A link state of R316. -/
def linkStateOk (speed width : Nat) : Bool :=
  (speed = 0 && width = 0) || (1 ≤ speed && speed ≤ 5 && (width = 1 || width = 2 || width = 4 || width = 8))

/-- The link is at a speed and width; a change posts event 0x0E10 (R318). -/
def setLink (speed width : Nat) (m : Module) : Module :=
  let n := { m with links := { m.links with pcieSpeed := speed, pcieWidth := width } }
  if pcieLink n = pcieLink m then m else event 0x0E10 0 [(0, 1, pcieLink n)] n

/-- PCIE_LINK_CHANGE (R316, R318). -/
def execPcieLinkChange (speed width : Nat) (s : State) : Res :=
  s.act (fun m => if linkStateOk speed width && (mayTrain m || speed = 0) then setLink speed width m else m)

/-- MSIX_UNMASK (R316, R317): the host enables MSI-X, writes the message of a vector into its table entry and unmasks it; a
pending message is sent. -/
def execMsixUnmask (v : MsixEntry) (s : State) : Res :=
  let ⟨v, addr, data⟩ := v
  s.act (fun m =>
    if v < 16 && m.links.pcieSpeed != 0 then
      let m := { m with host := { m.host with
        msixOn := true, msixMask := setBit m.host.msixMask v false, msixTab := m.host.msixTab.put (0, 0) v (addr, data) } }
      if m.host.msixPba.getLsbD v then
        sendMsix v { m with host := { m.host with msixPba := setBit m.host.msixPba v false } }
      else m
    else m)

/-- The byte of BAR2 at an offset (Table 15-1): the MSI-X table, 16 bytes a vector (address, data, vector control with the mask
in bit 0), and the pending-bit array. -/
def bar2Byte (m : Module) (off : Nat) : Byte :=
  if off < 256 then
    let e := m.host.msixTab.get (0, 0) (off / 16)
    (leBytes 8 e.1.toNat ++ leBytes 4 e.2.toNat ++ leBytes 4 (if m.host.msixMask.getLsbD (off / 16) then 1 else 0)).getD (off % 16) 0
  else if 0x1000 ≤ off then (leBytes 2 m.host.msixPba.toNat).getD (off - 0x1000) 0
  else 0

/-- Whether the commit in progress has transfers over the cold frame. -/
def swapping (m : Module) : Option Plan := m.kv.plan.filter (fun pl => !(pl.outs.isEmpty && pl.ins.isEmpty))

/-- Whether an image load from the cold frame is under way in a slot. -/
def coldLoad (m : Module) (k slot : Nat) : Option Image :=
  match imageOf m k slot with
  | some i => if !i.loaded && 0x10000000000 ≤ i.srcAddr then some i else none
  | none => none

/-- The completion timeout of a cold-frame request (R321). -/
def cplTimeout : Nat := 50 * msUnit

/-- COLD_FRAME_TIMEOUT (R321): `what` is 16 × context + slot for an image load, 1,024 for the swaps of the commit in
progress, 1,025 for an IMAGE_FETCH. No request of a transfer times out before 50 ms from the transfer's start. -/
def execColdFrameTimeout (what : Nat) (s : State) : Res :=
  s.gragor (fun m =>
    if what < 1024 then
      match coldLoad m (what / 16) (what % 16) with
      | some i => if passed m i.startAt cplTimeout then imageFails (what / 16) (what % 16) 0x32 i.bytes (linkCount 0 m) else m
      | none => m
    else if what = 1024 then
      match swapping m with
      | some pl => if passed m pl.startAt cplTimeout then endCommit 0x32 pl.pool (linkCount 0 m) else m
      | none => m
    else if what = 1025 && m.boot.fetching.head?.any (fun f => passed m f.2.2 cplTimeout) then
      finish 0x0D02 0 0x32 [] (linkCount 0 { m with boot := { m.boot with fetching := m.boot.fetching.drop 1 } })
    else m)

/-- The grants in use. -/
def grantsIn (m : Module) : List Nat := (List.range 64).filter (fun g => (m.links.grants.get none g).isSome)

/-- PCIE_GRANT (R319). -/
def execPcieGrant (n : Nat) (s : State) : Res :=
  s.act (command 0x0E01 n
    (fun ps m =>
      let g := leAt ps 0 1
      let l := leAt ps 1 1
      let base := leAt ps 8 8
      [badLen ps 24, (g > 63 || l < 12 || l > 40, 0x22), resv ps 2 6,
        (base % 2 ^ l != 0 || leAt ps 16 8 % 4096 != 0 || base < 0x10000000000 || 0x20000000000 < base + 2 ^ l, 0x22),
        ((grantsIn m).any (fun i => i != g && (match m.links.grants.get none i with
          | some o => overlaps base (2 ^ l) o.coldBase (2 ^ o.log2) | none => false)), 0x22),
        (notHostSafety n, 0x24), ((m.links.grants.get none g).isSome, 0x23)])
    (fun ps m => respond n 0 [] { m with links := { m.links with
      grants := m.links.grants.put none (leAt ps 0 1) (some ⟨leAt ps 8 8, leAt ps 1 1, leAt ps 16 8, false⟩) } }))

/-- A grant is withdrawn (R320 steps 1 and 2): the commits that use it end, its cold slots are dropped, and no new request
to it is issued. -/
def withdrawGrant (g : Nat) (m : Module) : Module :=
  match m.links.grants.get none g with
  | some v =>
    let m := withdrawCold v.coldBase (2 ^ v.log2) m
    { m with links := { m.links with grants := m.links.grants.put none g (some { v with closing := true }) } }
  | none => m

/-- PCIE_UNGRANT (R320): deferred. -/
def execPcieUngrant (n : Nat) (s : State) : Res :=
  s.act (command 0x0E02 n
    (fun ps m =>
      let g := leAt ps 0 1
      [badLen ps 8, (g > 63, 0x22), resv ps 1 7, (notHostSafety n, 0x24),
        ((match m.links.grants.get none g with | some v => v.closing | none => true), 0x23)])
    (fun ps m => accept n (leAt ps 0 1) (withdrawGrant (leAt ps 0 1)) m))

/-- Whether requests to a cold-frame range may be outstanding: an image load or an IMAGE_FETCH from it is under way (R320). -/
def rangeBusy (m : Module) (a n : Nat) : Bool :=
  (List.range 1024).any (fun w => (coldLoad m (w / 16) (w % 16)).any (fun i => overlaps i.srcAddr i.bytes a n))
    || m.boot.fetching.any (fun f => overlaps f.1 f.2.1 a n)

/-- PCIE_UNGRANT_COMPLETE (R320 steps 3 and 4): every request to the range has ended. -/
def execPcieUngrantComplete (g : Nat) (s : State) : Res :=
  s.gragor (fun m =>
    match m.links.grants.get none g with
    | some v =>
      if v.closing && !rangeBusy m v.coldBase (2 ^ v.log2) then finish 0x0E02 g 0 [] { m with links := { m.links with grants := m.links.grants.put none g none } } else m
    | none => m)

/-! ### I3C target port (R322 to R324) -/

/-- The provisional ID of the target port (R322). -/
def i3cPid (m : Module) : BitVec 48 :=
  BitVec.ofNat 48 (0x2F2A * 2 ^ 33 + m.host.part * 2 ^ 16 + m.host.moduleId * 2 ^ 12 + m.host.serialNo.toNat % 2 ^ 12)

/-- The BCR: IBI capable, with a payload (R322); the bits the manual does not name are free. -/
def i3cBcr (m : Module) : Byte := ((free m).setWidth 8 &&& 0xF9) ||| 0x06

/-- I3C_ADDRESS_ASSIGN (R322): ENTDAA, which reads the provisional ID and the BCR, or SETDASA to a static address, which the
port takes where it is its own, 0x28 + MODULE_ID. -/
def execI3cAddressAssign (addr : Nat) (static : Option Nat) (s : State) : Res :=
  s.act (fun m =>
    if domOn m 37 && domOn m 47 && addr < 128 then
      let n := { m with host := { m.host with i3cAddr := some addr } }
      match static with
      | none => freeNext (emit (.i3cId (i3cPid m) (i3cBcr m)) n)
      | some a => if a = 0x28 + m.host.moduleId then n else m
    else m)

/-- I3C_PRIVATE_WRITE (R323, R239). -/
def execI3cPrivateWrite (off : Nat) (bs : List Byte) (s : State) : Res :=
  s.act (fun m =>
    if reached .i3c m && off < 0x10000 && bs.length ≤ 512 then
      windowWrite .i3c off (bs.take (0x10000 - off)) { m with host := { m.host with i3cOff := off } }
    else m)

/-- I3C_PRIVATE_READ (R323). -/
def execI3cPrivateRead (n : Nat) (s : State) : Res :=
  s.act (fun m =>
    if reached .i3c m then
      emit (.i3c ((List.range n).map (fun i => windowByte m ((m.host.i3cOff + i) % 0x10000))))
        { m with host := { m.host with i3cOff := (m.host.i3cOff + n) % 0x10000 } }
    else m)

/-- I3C_ENEC (R324): in-band interrupts are enabled or disabled; with PD_LS off the port is high impedance (R421). -/
def execI3cEnec (enable : Bool) (s : State) : Res :=
  s.act (fun m =>
    if reached .i3c m then
      let m := { m with host := { m.host with ibiOn := enable } }
      if enable then raiseIbi m else m
    else m)

/-- I3C_IBI_ACCEPTED (R324): the raised source is pending no longer, and the next may be raised. -/
def execI3cIbiAccepted (n : Nat) (s : State) : Res :=
  s.act (fun m =>
    if domOn m 47 && m.host.ibiRaised = some n then
      let m := { m with host := { m.host with ibiRaised := none, ibiPend := setBit m.host.ibiPend n false } }
      if m.host.ibiOn then raiseIbi m else m
    else m)

/-! ### Attached identities (R325, R326, R413, R414) -/

/-- Whether an identity record is valid (R326). -/
def recordValid (bs : List Byte) : Bool :=
  bs.length = 256 && leAt bs 0 4 = 0x4B5A4944 && leAt bs 4 2 = 1 && leAt bs 6 2 = 256 && zeros ((bs.drop 13).take 3)
    && leAt bs 252 4 = (crc32c (bs.take 252)).toNat

/-- The state of a slot (R413): 0 absent, 1 INVALID, 2 valid. -/
def slotState : Option (List Byte) → Nat
  | none => 0
  | some bs => if recordValid bs then 2 else 1

/-- The digest of a slot (R413); zero where it has none. -/
def slotDigest (r : Option (List Byte)) : BitVec 256 :=
  match r with
  | some bs => if recordValid bs then Config.sha256 bs else 0
  | none => 0

/-- The record of a slot in the last scan. -/
def slotRec (m : Module) (i : Nat) : Option (List Byte) := (m.links.ids.getD i none)

/-- A digest as bytes, the first the most significant, as its standard writes it (R404). -/
def digestBytes (n : Nat) (v : Nat) : List Byte := (leBytes n v).reverse

/-- BUILD_DIGEST (R413). -/
def buildDigest (m : Module) : BitVec 384 :=
  Config.sha384 ((List.range 16).flatMap (fun i =>
    leBytes 1 (slotState (slotRec m i)) ++ digestBytes 32 (slotDigest (slotRec m i)).toNat))

/-- The copy of the accepted build in force (R413, R354): the one with the higher sequence number among those whose CRC matches. -/
def buildInForce (b : Boot) : BuildCopy :=
  if b.buildA.crcOk && (!b.buildB.crcOk || decide (b.buildB.seq ≤ b.buildA.seq)) then b.buildA
  else if b.buildB.crcOk then b.buildB else {}

/-- The accepted build: (state, digest) of the 16 slots; none before the first is stored. -/
def acceptedBuild (m : Module) : Option (List (Nat × BitVec 256)) := (buildInForce m.boot).slots

/-- ADDED, REMOVED, CHANGED and INVALID (R413). -/
def buildMasks (m : Module) : List W16 :=
  let old := fun i => match acceptedBuild m with | some b => b.getD i (0, 0) | none => (0, 0)
  let new := fun i => slotState (slotRec m i)
  let pick := fun (p : Nat → Bool) => maskOf 16 ((List.range 16).filter p)
  [pick (fun i => new i != 0 && (old i).1 = 0), pick (fun i => new i = 0 && (old i).1 != 0),
    pick (fun i => new i = 2 && (old i).1 = 2 && slotDigest (slotRec m i) != (old i).2), pick (fun i => new i = 1)]

/-- Event 0x0D10 (R414). -/
def buildEvent (m : Module) : Module :=
  event 0x0D10 0 ((List.range 4).map (fun i => (2 * i, 2, ((m.boot.masks.getD i 0).toNat)))) m

/-- Compare the last scan with the accepted build (R413, R414): a difference is told at the first comparison after READY, and later
where it is another than the last. The scan that BUILD_ACCEPT has accepted differs in nothing, whatever INVALID slots it has, until
one comes that is another scan. -/
def compareBuild (m : Module) : Module :=
  let same := m.boot.quiet = some m.links.ids
  let k : List W16 := if same then [0, 0, 0, 0] else buildMasks m
  let told := k.any (· != 0) && (!m.boot.compared || k != m.boot.masks)
  let m := { m with boot := { m.boot with masks := k, compared := true, quiet := if same then m.boot.quiet else none } }
  if told then buildEvent m else m

/-- HL_ID_SCAN (R325): deferred. -/
def execHlIdScan (n : Nat) (s : State) : Res :=
  s.act (command 0x0E08 n
    (fun ps _ => [badLen ps 8, resv ps 0 8, (notHostSafety n, 0x24)])
    (fun _ m => accept n 0 id m))

/-- HL_ID_SCAN_COMPLETE (R325, R326, R413, R414): what the 16 addresses returned. -/
def execHlIdScanComplete (recs : List (Option (List Byte))) (s : State) : Res :=
  s.gragor (fun m =>
    if (findDeferred m 0x0E08 0).isSome then
      let m := compareBuild { m with links := { m.links with ids := recs.take 16 } }
      finish 0x0E08 0 0
        (leBytes 2 (maskOf 16 ((List.range 16).filter (fun i => slotState (slotRec m i) = 2))).toNat) m
    else m)

/-- HL_ID_READ (R333). -/
def execHlIdRead (n : Nat) (s : State) : Res :=
  s.act (command 0x0E09 n
    (fun ps _ => [badLen ps 8, (leAt ps 0 1 > 1 || leAt ps 1 1 < 0x50 || leAt ps 1 1 > 0x57, 0x22), resv ps 2 6])
    (fun ps m =>
      let r := slotRec m (8 * leAt ps 0 1 + (leAt ps 1 1 - 0x50))
      respond n 0 (fields 8 [(0, 1, slotState r)] ++ setBytes (List.replicate 256 0) 0 (r.getD [])) m))

/-! ### CSI-2 transmit (R327 to R329) -/

def Module.txPort (m : Module) (p : Nat) : TxPort := m.links.tx.get {} p
def Module.setTx (m : Module) (p : Nat) (v : TxPort) : Module := { m with links := { m.links with tx := m.links.tx.put {} p v } }

/-- A value of CSI_TX_CONFIG out of range (Table 15-4). -/
def txBad (ps : List Byte) : Bool :=
  let line := leAt ps 12 2
  leAt ps 0 1 > 1 || phyBad (leAt ps 1 1) (leAt ps 2 1) (leAt ps 8 4) || leAt ps 3 1 > 15 || leAt ps 4 1 < 0x30
    || leAt ps 4 1 > 0x37 || leAt ps 6 2 > 511 || line % 8 != 0 || line < 64 || line > 16384 || leAt ps 14 2 > 16
    || leAt ps 16 2 < 1 || leAt ps 16 2 > 8192

/-- CSI_TX_CONFIG (R327 to R329). -/
def execCsiTxConfig (n : Nat) (s : State) : Res :=
  s.act (command 0x0E03 n
    (fun ps m =>
      let q := m.queue (leAt ps 6 2)
      let t := m.txPort (leAt ps 0 1)
      [badLen ps 24, (txBad ps, 0x22), resv ps 5 1, resv ps 18 6,
        (q.state != 0 && decide (capacity q < (leAt ps 14 2 + leAt ps 16 2) * leAt ps 12 2 / 8), 0x22),
        (notHostSafety n, 0x24),
        (t.running || t.stopping || q.state = 0 || q.consKind != 3 || q.consId != leAt ps 0 1 || !q.auto, 0x23)])
    (fun ps m => respond n 0 [] (m.setTx (leAt ps 0 1) { (m.txPort (leAt ps 0 1)) with
      live := true, phy := leAt ps 1 1, lanes := leAt ps 2 1, vc := leAt ps 3 1, dtype := leAt ps 4 1, queue := leAt ps 6 2
      rate := leAt ps 8 4, lineBytes := leAt ps 12 2, metaLines := leAt ps 14 2, dataLines := leAt ps 16 2, told := false })))

/-- What CSI_TX_RUN starts: a start takes effect at once, a stop is requested. -/
def txRun (p run : Nat) (m : Module) : Module :=
  let t := m.txPort p
  if run = 1 then finish 0x0E04 p 0 [] (m.setTx p { t with running := true }) else m.setTx p { t with stopping := true }

/-- CSI_TX_RUN (R333): deferred. -/
def execCsiTxRun (n : Nat) (s : State) : Res :=
  s.act (command 0x0E04 n
    (fun ps m =>
      let t := m.txPort (leAt ps 0 1)
      [badLen ps 8, (leAt ps 0 1 > 1 || leAt ps 1 1 > 1, 0x22), resv ps 2 6, (notHostSafety n, 0x24),
        (!t.live || t.stopping, 0x23), (leAt ps 1 1 = 1 && entering m, 0x10)])
    (fun ps m => accept n (leAt ps 0 1) (txRun (leAt ps 0 1) (leAt ps 1 1)) m))

/-- CSI_TX_STOP_COMPLETE (R333): after the frame in progress has ended. -/
def execCsiTxStopComplete (port : Nat) (s : State) : Res :=
  s.act (fun m =>
    if (m.txPort port).stopping && (m.txPort port).frame.isNone then
      finish 0x0E04 port 0 [] (m.setTx port { (m.txPort port) with running := false, stopping := false })
    else m)

/-- A word as it is popped, with its parity error. -/
structure TxWord where
  data : W64
  tag : BitVec 8
  parity : Bool

/-- Pop the words of the first packet (R328): groups are read back from the spill region as the head empties. -/
def popPacket : Nat → Nat → Module → List TxWord → Module × List TxWord
  | 0, _, m, ws => (m, ws)
  | n + 1, q, m, ws =>
    let m := if (m.queue q).head.isEmpty && refillDue (m.queue q) then refill q m else m
    match (m.queue q).head with
    | [] => (m, ws)
    | w :: _ =>
      let r := popWords q 1 m
      let d := r.2.headD w
      let ws := ws ++ [⟨d.data, d.tag, w.perr⟩]
      if d.tag.getLsbD 4 || (r.1.queue q).state != 1 then (r.1, ws) else popPacket n q r.1 ws

/-- Cut bytes into lines. -/
def linesOf (n len : Nat) (bs : List Byte) : List (List Byte) := (List.range n).map (fun i => (bs.drop (i * len)).take len)

/-- The status line (Table 15-3). -/
def statusLine (t : TxPort) (at_ : Nat) (ws : List TxWord) : List Byte :=
  fields t.lineBytes [(0, 8, secOf at_), (8, 4, nsOf at_), (12, 2, t.num),
    (14, 1, (if ws.any (fun w => w.tag.getLsbD 6) then 1 else 0) + (if ws.any (·.parity) then 2 else 0)), (16, 2, t.queue)]

/-- A CSI-2 packet of a port (R327): a short one carries a number, a long one a payload and its CRC. -/
def csiPacket (t : TxPort) (dtype count : Nat) (payload : Option (List Byte)) : CsiOut :=
  { vc := t.vc, dtype := dtype, count := count, check := Config.csiHeaderCheck t.phy t.vc dtype count
    payload := payload.map (fun p => (p, crc16 p)) }

/-- The packets of a frame before its Frame End, in the order of Table 15-3: Frame Start, embedded data lines, then lines of the
port's user type. -/
def csiFrame (t : TxPort) (embedded lines : List (List Byte)) : List CsiOut :=
  csiPacket t 0x00 t.num none :: embedded.map (fun l => csiPacket t 0x12 l.length (some l))
    ++ lines.map (fun l => csiPacket t t.dtype l.length (some l))

/-- Frame End (R327). -/
def csiFrameEnd (t : TxPort) : CsiOut := csiPacket t 0x01 t.num none

/-- How long a frame takes on the port's lanes at its rate (R191, R329; notes/assumptions/42): its lines with 6 bytes each of header
and CRC, and its short packets; D-PHY carries a bit, C-PHY 16 bits in 7 symbols. -/
def frameTime (t : TxPort) : Nat :=
  let bits := 8 * ((1 + t.metaLines + t.dataLines) * (t.lineBytes + 6) + 8)
  (if t.phy = 0 then bits * 1000 else bits * 7000 / 16) * nsUnit / (max 1 t.rate * max 1 t.lanes)

/-- One frame, or a malformed packet (R328, R329). -/
def txFrame (p : Nat) (m : Module) : Module :=
  let t := m.txPort p
  let q := t.queue
  let r := popPacket (occupancy (m.queue q)) q m []
  let v := r.1.queue q
  let at_ := (((v.eops.filter (fun e => decide (e.1 < v.main.rp))).getLast?).map Prod.snd).getD 0
  let m := r.1.setQueue q { v with eops := v.eops.filter (fun e => decide (v.main.rp ≤ e.1)) }
  let isMeta := fun (w : TxWord) => (w.tag.extractLsb' 0 4).toNat = 15
  let md := (r.2.filter isMeta).flatMap (fun w => leBytes 8 w.data.toNat)
  let data := (r.2.filter (fun w => !isMeta w)).flatMap (fun w => leBytes 8 w.data.toNat)
  if md.length = t.metaLines * t.lineBytes && data.length = t.dataLines * t.lineBytes then
    let frame := csiFrame t (statusLine t at_ r.2 :: linesOf t.metaLines t.lineBytes md) (linesOf t.dataLines t.lineBytes data)
    let m := emit (.csi p frame) (linkCount (10 + p) m)
    m.setTx p { t with
      num := if t.num ≥ 65535 then 1 else t.num + 1, frame := some (csiFrameEnd t, m.time.elapsed + frameTime t) }
  else
    let m := linkCount (12 + p) m
    if t.told then m else event 0x0E12 0 [(0, 1, p)] (m.setTx p { t with told := true })

/-- The Frame End of a frame whose time on the lanes is over is sent (R327), which kicks a watchdog (R373). -/
def frameEnd (m : Module) (p : Nat) : Module :=
  match (m.txPort p).frame with
  | some (e, t) => if t ≤ m.time.elapsed then kickSource 4 p (emit (.csi p [e]) (m.setTx p { (m.txPort p) with frame := none })) else m
  | none => m

/-- What time brings where no command comes (notes/assumptions/3): a cycle of the time counter, and the ends of CSI-2 frames. -/
def tick (m : Module) : Module := [0, 1].foldl frameEnd (tscCycle m)

/-- CSI_TX_FRAME (R328, R329): a packet's EOP word is valid, and the port's lanes are free: it pops no faster than its line rate. -/
def execCsiTxFrame (port : Nat) (s : State) : Res :=
  s.act (fun m =>
    let t := m.txPort port
    let v := m.queue t.queue
    if port < 2 && t.running && !t.stopping && t.frame.isNone && domOn m 46 && domOn m 40 && v.state = 1 && v.consKind = 3 && v.consId = port
        && v.eops.any (fun e => decide (v.main.rp ≤ e.1)) then txFrame port m
    else m)

/-! ### Runners (R330 to R332) -/

/-- Event 0x0E11 (R330). -/
def runnerEvent (r : Nat) (m : Module) : Module :=
  let v := m.runner r
  event 0x0E11 0 [(0, 1, r), (1, 1, v.state), (2, 1, v.width), (3, 1, v.peer.getD 0xFF)] m

/-- A mover descriptor in service that crosses a runner fails with LINK_FAILED (R331). -/
def failMoverOn (r : Nat) (m : Module) (c : Nat) : Module :=
  match (m.core c).mover with
  | j :: _ =>
    if j.started && j.done < groupsOf j && (j.srcPeer = some r || j.dstPeer = some r) then failGroup c j j.srcPeer.isSome 0xA m else m
  | [] => m

/-- Whether a transit packet that runner r has received waits before its egress e: that retrains, or a closed bridge is on the
way (R332, R393). -/
def transitWaits (m : Module) (r e : Nat) : Bool := 8 ≤ (m.runner e).retryRun || pathBlocked m (partOfRunner r) (partOfRunner e)

/-- The operation of a packet in transit, as received at runner r. -/
def transitOp (r : Nat) (p : TransitPacket) : Option PeerOp := p.op.map (fun o => { o with runner := r })

/-- A packet in transit leaves the ingress for its transit buffer: the credits its module spent on this runner return (R126, R332). -/
def transitCredits (r : Nat) (p : TransitPacket) (m : Module) : Module := (transitOp r p).elim m (fun o => returnCredits o m)

/-- A packet in transit (R332): sent on with its count, held in this ingress's buffer of its count where it waits or (`stays`) does
not move for now (R388), or discarded with NO_ROUTE; none where that buffer of 64 has no room. -/
def transit (r : Nat) (stays : Bool) (since : Nat) (p : TransitPacket) (m : Module) : Option Module :=
  match if p.crossed < 4 then routeTo m p.dest else none with
  | some e =>
    if !stays && !transitWaits m r e then some (sendRunner e (.transit { p with crossed := p.crossed + 1 }) m)
    else if ((m.runner r).transit.filter (fun q => q.1.crossed == p.crossed)).length < 64 then
      some (m.setRunner r { (m.runner r) with transit := (m.runner r).transit ++ [(p, since)] })
    else none
  | none => some ((transitOp r p).elim (linkCount 9 m) (fun o => answerPeer o 2 [] [] (linkCount 9 m)))

/-- The packets the transit buffers hold go on where they can, in their order (R332). -/
def drainTransit (m : Module) : Module :=
  (List.range 4).foldl (fun m r =>
    (m.runner r).transit.foldl (fun m p => (transit r false p.2 p.1 m).getD m) (m.setRunner r { (m.runner r) with transit := [] })) m

/-- A runner goes down (R331): every operation in flight across it ends with LINK_FAILED, and what waits to cross it goes with it. -/
def runnerFails (r : Nat) (m : Module) : Module :=
  if (m.runner r).state = 0 then m
  else
    let m := drainTransit (runnerEvent r (m.setRunner r { transit := (m.runner r).transit }))
    let m := { m with fab := { m.fab with
      ops := m.fab.ops.map (fun o =>
        if offModule m o && o.runner = some r && o.phase = 2 then { o with phase := 3, status := 0xA } else o)
      credits := m.fab.credits.map (fun p => if p.1 / 64 = r then (p.1, { p.2 with waiting := [] }) else p)
      own := m.fab.own.upd {} r (fun v => { v with waiting := [] }) } }
    finishAll 0x0E05 r 0x31 ((List.range 32).foldl (failMoverOn r) m)

/-- RUNNER_UP (R330): deferred. -/
def execRunnerUp (n : Nat) (s : State) : Res :=
  s.act (command 0x0E05 n
    (fun ps m => [badLen ps 8, (leAt ps 0 1 > 3, 0x22), resv ps 1 7, (notHostSafety n, 0x24), (entering m, 0x10)])
    (fun ps m => accept n (leAt ps 0 1) (fun m =>
      let r := leAt ps 0 1
      if (m.runner r).state = 2 then finish 0x0E05 r 0 [] m
      else if (m.runner r).state = 1 then m
      else runnerEvent r (m.setRunner r { state := 1, transit := (m.runner r).transit })) m))

/-- RUNNER_TRAINED (R330): the lanes that trained (0, 4 or 8) and the MODULE_ID of the other end. -/
def execRunnerTrained (r width peer : Nat) (s : State) : Res :=
  s.act (fun m =>
    if r < 4 && domOn m 44 && (m.runner r).state = 1 && peer < 16 then
      if (width = 4 || width = 8) && peer != m.host.moduleId then
        finishAll 0x0E05 r 0 (runnerEvent r (m.setRunner r { state := 2, width := width, peer := some peer, transit := (m.runner r).transit }))
      else if width = 0 || width = 4 || width = 8 then
        finishAll 0x0E05 r 0x31 (runnerEvent r (m.setRunner r { transit := (m.runner r).transit }))
      else m
    else m)

/-- RUNNER_DOWN (R333, R331). -/
def execRunnerDown (n : Nat) (s : State) : Res :=
  s.act (command 0x0E06 n
    (fun ps _ => [badLen ps 8, (leAt ps 0 1 > 3, 0x22), resv ps 1 7, (notHostSafety n, 0x24)])
    (fun ps m => respond n 0 [] (runnerFails (leAt ps 0 1) m)))

/-- RUNNER_ROUTE (R332). -/
def execRunnerRoute (n : Nat) (s : State) : Res :=
  s.act (command 0x0E07 n
    (fun ps m =>
      [badLen ps 16, ((List.range 16).any (fun i => leAt ps i 1 > 3 && leAt ps i 1 != 0xFF)
        || leAt ps m.host.moduleId 1 != 0xFF, 0x22), (notHostSafety n, 0x24)])
    (fun ps m => respond n 0 [] { m with links := { m.links with route := (List.range 16).map (fun i => leAt ps i 1) } }))

/-- A good packet is taken (R331): it is acknowledged, and the next one is awaited. -/
def linkTake (r seq : Nat) (m : Module) : Module :=
  let v := m.runner r
  emit (.linkAck r seq) (m.setRunner r { v with rx := seq + 1, rxBad := v.rxBad.filter (fun b => decide (seq < b)) })

/-- A packet with a wrong CRC is not taken (R331): until it comes again, none after it is. -/
def linkBad (r seq : Nat) (m : Module) : Module :=
  let v := m.runner r
  if seq < v.rx then m else m.setRunner r { v with rxBad := some (min seq (v.rxBad.getD seq)) }

/-- What a packet received at runner r brings (R332, R124): an operation for this module's windows waits for its check, in the order of
arrival; one for another module is in transit. -/
def linkDeliver (r : Nat) (stays : Bool) (p : TransitPacket) (m : Module) : Option Module :=
  if p.dest = m.host.moduleId then some ((transitOp r p).elim m (fun o => addOp m (peerRop o)))
  else (transit r stays m.time.elapsed p m).map (transitCredits r p)

/-- RUNNER_PACKET_RECEIVE (R331, R332): a good packet not seen before is taken and acknowledged, where there is room for it; one taken
before, which a lost acknowledgement repeats, is acknowledged again. -/
def execRunnerPacketReceive (r : Nat) (p : LinkArrival) (s : State) : Res :=
  s.act (fun m =>
    let v := m.runner r
    if !(r < 4 && domOn m 44 && v.state = 2 && p.packet.dest < 16) then m
    else if !p.crcOk then linkBad r p.seq m
    else if p.seq < v.rx then emit (.linkAck r p.seq) m
    else if v.rxBad.any (fun b => decide (b < p.seq)) then m
    else
      let m := if p.waits then m else drainTransit m
      ((linkDeliver r p.waits p.packet m).map (linkTake r p.seq)).getD m)

/-- A retry is counted for each context with a packet in the replay, in its jobs that have begun (R145, Table 6-2). -/
def countRetry (ps : List Sent) (m : Module) : Module :=
  let on (j : Job) : Bool := j.firstDispatch.isSome && ps.any (fun p => match p.packet with | .own q => q.body.context == j.ctx | _ => false)
  { m with sched := { m.sched with jobs := m.sched.jobs.map (fun j => if on j then { j with retries := sat32 (j.retries + 1) } else j) } }

/-- The replay buffer goes out again, in its order and under the same numbers (R331). -/
def replayAll (r : Nat) (m : Module) : Module :=
  let v := m.runner r
  let sent := v.replay.map (fun p => { p with at_ := m.time.elapsed })
  sent.foldl (fun m p => emit (.runner r p.seq (Config.linkCrc p.seq p.packet) p.packet) m) (m.setRunner r { v with replay := sent })

/-- Whether a failure of a packet in the replay buffer can have been found (R331): a wrong CRC, or an acknowledgement that is missing
1 µs after it was sent. -/
def retryFound (m : Module) (r : Nat) (f : LinkRetry) : Bool :=
  (m.runner r).replay.any (fun p => p.seq == f.seq && (!f.silent || passed m p.at_ usUnit))

/-- RUNNER_RETRY (R331): the packet of a sequence number failed its CRC or was not acknowledged; those before it were. It and
every later one are replayed, unless this is its eighth retry in a row: then the runner retrains. -/
def execRunnerRetry (r : Nat) (f : LinkRetry) (s : State) : Res :=
  s.act (fun m =>
    let v := m.runner r
    if r < 4 && v.state = 2 && v.retryRun < 8 && retryFound m r f then
      let left := v.replay.filter (fun p => decide (f.seq ≤ p.seq))
      let run := if v.retrySeq = some f.seq then v.retryRun + 1 else 1
      let m := linkCount (1 + r) (countRetry left (m.setRunner r { v with replay := left, retrySeq := some f.seq, retryRun := run }))
      if run < 8 then replayAll r m else m
    else m)

/-- The packets that waited for a retrain are sent, in their order (R121, R331). -/
def sendQueued (r : Nat) (m : Module) : Module :=
  (m.runner r).queue.foldl (fun m p => sendNow r p m) (m.setRunner r { (m.runner r) with queue := [] })

/-- RUNNER_RETRAIN (R331): eight retries of one packet; a retrain that succeeds resumes the replay, the third in a row that
fails takes the runner down. -/
def execRunnerRetrain (r : Nat) (ok : Bool) (s : State) : Res :=
  s.act (fun m =>
    let v := m.runner r
    if r < 4 && v.state = 2 && v.retryRun = 8 then
      let m := linkCount (5 + r) m
      if ok then drainTransit (sendQueued r (replayAll r (m.setRunner r { v with retryRun := 0, retrySeq := none, failRun := 0 })))
      else if v.failRun + 1 < 3 then m.setRunner r { v with failRun := v.failRun + 1 }
      else runnerFails r m
    else m)

/-! ### HL_STATUS (R333, R334) -/

/-- A runner's field of RUNNERS (Table 15-5). -/
def runnerCode (v : Runner) : Nat := if v.state < 2 then v.state else if v.width = 4 then 2 else 3

/-- HL_STATUS (Table 15-5): the nibble of a runner that has no peer is open. -/
def execHlStatus (n : Nat) (s : State) : Res :=
  s.act (command 0x0E00 n
    (fun ps _ => [badLen ps 8, (leAt ps 0 1 > 1, 0x22), resv ps 1 7])
    (fun ps m =>
      let rs := List.range 4
      let data := fields 68 ([(0, 1, pcieLink m), (1, 1, (rs.map (fun r => runnerCode (m.runner r) * 4 ^ r)).foldl (· + ·) 0),
          (2, 2, (rs.map (fun r => ((m.runner r).peer.getD ((free m).toNat / 16 ^ r % 16)) * 16 ^ r)).foldl (· + ·) 0),
          (4, 8, (maskOf 64 (grantsIn m)).toNat), (12, 4, m.links.ctr.get 0 0)]
        ++ (List.range 13).map (fun i => (16 + 4 * i, 4, m.links.ctr.get 0 (i + 1))))
      let m := freeNext m
      respond n 0 data (if leAt ps 0 1 = 1 then { m with links := { m.links with ctr := [] } } else m)))

end Sys2Proof.Machine
end

