-- ==== Sys2Proof/Machine/Crypto.lean ====
section
/-!
DEFINITION. Keys, signatures and stored records of chapter 20: the formats of R404, the keys derived from the device secret (R408),
leaves (R410), certificates (R409), the RPMB record (R406), firmware images and their checks (R403), and the accepted build's two
copies (R413). What the named standards compute inside these formats is uninterpreted (notes/assumptions/10).
-/

namespace Sys2Proof.Machine

/-- n bytes of a byte string from an offset; what is not there reads 0. -/
def part (bs : List Byte) (off n : Nat) : List Byte := (List.range n).map (fun i => bs.getD (off + i) 0)

/-- The number that some bytes of a byte string spell, the first the most significant, as the standards of R404 have it. -/
def beField (bs : List Byte) (off n : Nat) : Nat := leNat (part bs off n).reverse

/-! ### ECDSA (R404) -/

/-- A public key as bytes: X, then Y. -/
def pointBytes (p : Nat × Nat) : List Byte := digestBytes 48 p.1 ++ digestBytes 48 p.2

/-- Whether 96 bytes, r and then s, verify a message under a P-384 key. -/
def ecdsaGood (pub : Nat × Nat) (msg sig : List Byte) : Bool :=
  Config.p384Verify pub (Config.sha384 msg) (beField sig 0 48, beField sig 48 48)

/-! ### HSS (R404) -/

/-- An LMS public key from I and T[1]: LMS type 6 and LM-OTS type 3 before them; 56 bytes. -/
def lmsKey (tree : List Byte) : List Byte := digestBytes 4 6 ++ digestBytes 4 3 ++ part tree 0 48

/-- Whether 2,508 bytes are an LMS signature of a message under a key of 56: the types of both, a leaf of the tree of height 10, and the
standard's own check. -/
def lmsGood (key msg sig : List Byte) : Bool :=
  beField key 0 4 = 6 && beField key 4 4 = 3 && beField sig 4 4 = 3 && beField sig 2184 4 = 6 && beField sig 0 4 < 1024
    && Config.lmsVerify (part key 8 48) (beField sig 0 4) msg (part sig 8 2176) (part sig 2188 320)

/-- Whether 5,076 bytes are an HSS signature of a message under a key of 60, with L = 2: one signed public key, which the first LMS
signature signs and whose tree the second is of. -/
def hssGood (key msg sig : List Byte) : Bool :=
  beField key 0 4 = 2 && beField sig 0 4 = 1 && lmsGood (part key 4 56) (part sig 2512 56) (part sig 4 2508)
    && lmsGood (part sig 2512 56) msg (part sig 2568 2508)

/-! ### The module's keys (R408) -/

/-- The device secret, which the PUF yields from the helper data. -/
def deviceSecret : BitVec 256 := Config.pufSecret Config.helperData

/-- The order of P-384. -/
def p384Order : Nat :=
  0xFFFFFFFFFFFFFFFFFFFFFFFFFFFFFFFFFFFFFFFFFFFFFFFFC7634D81F4372DDF581A0DB248B0A77AECEC196ACCC52973

/-- The identity key: 64 derived bytes as FIPS 186-5 Appendix A.2.1 takes them to a scalar from 1 to the order less 1. -/
def identityScalar : Nat := beField (Config.hkdf deviceSecret .identity 64) 0 64 % (p384Order - 1) + 1

/-- The HSS seeds and identifiers of both levels (32 and 16 bytes each), and the RPMB key. -/
def hssSeed : List Byte := Config.hkdf deviceSecret .hss 96
def rpmbKey : List Byte := Config.hkdf deviceSecret .rpmb 32

/-- The LMS public key of a tree: level 0 has one, level 1 one for each leaf of that. -/
def lmsPub (level tree : Nat) : List Byte := lmsKey (Config.lmsTree hssSeed level tree)

/-- The module's public keys as a certificate has them (Table 20-5): ECDSA_PUB and HSS_PUB. -/
def identityKeys : List Byte := pointBytes (Config.p384Public identityScalar) ++ digestBytes 4 2 ++ lmsPub 0 0

/-- The module's ECDSA signature of a message. -/
def ecdsaSign (msg : List Byte) : List Byte := pointBytes (Config.p384Sign identityScalar (Config.sha384 msg))

/-- An LMS signature by a leaf of a tree of the module's. -/
def lmsSignature (level tree leaf : Nat) (msg : List Byte) : List Byte :=
  let x := Config.lmsSign hssSeed level tree leaf msg
  digestBytes 4 leaf ++ digestBytes 4 3 ++ part x.1 0 2176 ++ digestBytes 4 6 ++ part x.2 0 320

/-- The module's HSS signature with leaf N (R410): q0 = N div 1,024 of the top tree signs the key of bottom tree q0, whose leaf
q1 = N mod 1,024 signs the message. -/
def hssSign (n : Nat) (msg : List Byte) : List Byte :=
  digestBytes 4 1 ++ lmsSignature 0 0 (n / 1024) (lmsPub 1 (n / 1024)) ++ lmsPub 1 (n / 1024) ++ lmsSignature 1 (n / 1024) (n % 1024) msg

/-! ### Certificates (R409) -/

/-- Bytes 0 to 255 of a certificate (Table 20-5): SERIAL, IDENT and CORE_ENABLE are the module's in its own, zero in the CA's. -/
def certHead (m : Module) (i : Nat) : List Byte :=
  let own := fun v => if i = 0 then v else 0
  setBytes (fields 256 [(0, 4, 0x4B5A4345), (4, 2, 1), (6, 1, i), (8, 8, own m.host.serialNo.toNat), (16, 4, own (identWord m)),
    (20, 4, own m.host.coreEnable.toNat), (24, 8, Config.certNotBefore i)]) 32 (part (Config.certKeys i) 0 156)

/-- A certificate: 5,428 bytes. -/
def certificate (m : Module) (i : Nat) : List Byte :=
  certHead m i ++ part (Config.certSignatures i (certHead m i)) 0 5172

/-! ### The RPMB record (R406) -/

/-- The record's 256 bytes. -/
def rpmbRecord (lms svn count : Nat) : List Byte := fields 256 [(0, 4, svn), (4, 4, lms), (8, 4, count)]

/-- An authenticated write of the record: LMS_NEXT, FW_SVN and BOOT_COUNT, with the tag of the key of R408. -/
def rpmbWrite (lms svn count : Nat) (m : Module) : Module :=
  { m with boot := { m.boot with
    lmsNext := lms, rpmbSvn := svn, bootCount := count, rpmbAuth := Config.rpmbTag rpmbKey (rpmbRecord lms svn count) } }

/-! ### Images (R403) -/

/-- MAGIC, FORMAT, the reserved fields, BODY_BYTES and ENTRY (Table 20-3). -/
def formatOk (h : List Byte) : Bool :=
  let body := leAt h 8 4
  leAt h 0 4 = 0x4B5A4657 && leAt h 4 2 = 1 && zeros (part h 6 2) && zeros (part h 24 8) && zeros (part h 80 176)
    && body % 16 = 0 && 4096 ≤ body && body ≤ 1572864 && leAt h 20 4 % 4 = 0 && leAt h 20 4 < body

/-- The image checks of Table 20-4, in order: the REASON of the first that fails, or 0. -/
def imageReason (rpmbSvn : Nat) (bs : List Byte) : Nat :=
  let h := part bs 0 256
  let body := leAt h 8 4
  if !formatOk h then 2
  else if part h 32 48 != digestBytes 48 (Config.sha384 (part bs 256 body)).toNat then 3
  else if leAt h 12 4 < rpmbSvn then 4
  else if !ecdsaGood Config.firmwareEcdsa h (part bs (256 + body) 96) then 5
  else if !hssGood Config.firmwareHss h (part bs (352 + body) 5076) then 6
  else 0

/-- The staged bytes. -/
def stagedImage (m : Module) : List Byte := (List.range m.boot.staged).map (fun i => m.boot.staging.get 0 i)

/-! ### The accepted build (R413) -/

/-- The slots of the last scan, as the accepted build stores them: state and digest. -/
def scannedSlots (m : Module) : List (Nat × BitVec 256) :=
  (List.range 16).map (fun i => (slotState (slotRec m i), slotDigest (slotRec m i)))

/-- Write the accepted build (R354): the copy that is not in force takes it under the next sequence number; a write that fails leaves
that copy without a matching CRC, and the other in force. -/
def buildWrite (ok : Bool) (m : Module) : Module :=
  let b := m.boot
  let c : BuildCopy := { seq := (buildInForce b).seq + 1, crcOk := ok, slots := some (scannedSlots m) }
  if b.buildA.crcOk && (!b.buildB.crcOk || decide (b.buildB.seq ≤ b.buildA.seq)) then { m with boot := { b with buildB := c } }
  else { m with boot := { b with buildA := c } }

end Sys2Proof.Machine
end

