-- ==== Sys2Proof/Machine/Launch.lean ====
section
/-!
DEFINITION. What Trellis, the CAN FD controllers and the Ethernet ports share: base ticks (R217), input maps (R213), hand-overs to message
objects (R304, R306) and offers to launch-time queues (R293, R295).
-/

namespace Sys2Proof.Machine

/-! ### Signals (R213, R305) -/

/-- Size of a map's FORMAT: 0 int16, 1 uint16, 2 int32, 3 binary32 (R213). -/
def mapBytes (format : Nat) : Nat := if format < 2 then 2 else 4

/-- The value v of R213. -/
def mapValue (format : Nat) (bs : List Byte) : W32 :=
  if format = 0 then flOfInt (BitVec.ofInt 32 (leIntAt bs 0 2))
  else if format = 1 then flOfInt (BitVec.ofNat 32 (leAt bs 0 2))
  else if format = 2 then flOfInt (BitVec.ofNat 32 (leAt bs 0 4))
  else flush (BitVec.ofNat 32 (leAt bs 0 4))

/-- Whether a loop is due at a whole microsecond: an instant of its grid after its start (R217). -/
def loopDue (l : Loop) (us : Nat) : Bool :=
  l.state != .off && us % l.cfg.periodUs = l.cfg.phaseUs && decide (l.startAt < us * usUnit)

/-- Every loop is OFF. -/
def allOff (m : Module) : Bool := (List.range 64).all (fun i => (m.loop i).state = .off)

/-- The base tick after the last one: the tables are snapshot for the loops due at it (R217). -/
def baseTick (m : Module) : Module :=
  let us := m.trl.lastUs + 1
  let due := (List.range 64).filter (fun i => loopDue (m.loop i) us)
  let sn : Snapshot := { us := us, signals := m.trl.signals, policy := m.trl.policy, banks := m.trl.banks, due := due }
  { m with trl := { m.trl with lastUs := us, snaps := if due.isEmpty then m.trl.snaps else m.trl.snaps ++ [sn] } }

/-- Take the snapshots of the ticks that have passed before the tables change, so that an update is in the snapshot of the
next tick (R217). -/
def catchUp (m : Module) : Module :=
  if allOff m then m
  else (List.range ((m.time.now - 1) / usUnit - m.trl.lastUs)).foldl (fun m _ => baseTick m) m

/-- Set a signal (R213, R217). -/
def setSignal (i : Nat) (v : W32) (time : Nat) (m : Module) : Module :=
  let m := catchUp m
  { m with trl := { m.trl with signals := m.trl.signals.put {} i ⟨v, time⟩ } }

/-- The maps of an object, ascending. -/
def mapsOf (m : Module) (k obj : Nat) : List InMap :=
  ((List.range 128).filterMap (fun i => m.trl.maps.get none i)).filter (fun p => p.controller == k && p.object == obj)

/-- Every map of an object updates its signal from a stored frame (R213); the Bool says that some map's bytes pass the
received length (R305). -/
def updateSignals (k obj len : Nat) (data : List Byte) (sof : Nat) (m : Module) : Module × Bool :=
  let ms := mapsOf m k obj
  let ok := ms.filter (fun p => decide (p.byte + mapBytes p.format ≤ len))
  (ok.foldl (fun m p =>
      setSignal p.signal (flAdd (flMul (mapValue p.format ((data.drop p.byte).take 4)) p.scale) p.offset) sof m) m,
    decide (ok.length < ms.length))

/-! ### CAN hand-overs (R304, R306) -/

/-- Count in a controller, in the order of Table 14-9. -/
def canCount (k i : Nat) (m : Module) : Module := m.setCan k { (m.canCtl k) with ctr := bump (m.canCtl k).ctr i }

def Module.canObj (m : Module) (k o : Nat) : CanObj := (m.canCtl k).objs.get {} o
def Module.setCanObj (m : Module) (k o : Nat) (v : CanObj) : Module :=
  m.setCan k { (m.canCtl k) with objs := (m.canCtl k).objs.put {} o v }

/-- A hand-over meets the object's state (R306). -/
def canHandOver (k o : Nat) (p : CanPend) (m : Module) : Module :=
  let v := m.canObj k o
  match v.onBus, v.pending, v.newer with
  | some _, _, none => m.setCanObj k o { v with newer := some p }
  | some _, _, some _ => canCount k 8 (m.setCanObj k o { v with newer := some p, last := 3 })
  | none, none, _ => m.setCanObj k o { v with pending := some p }
  | none, some _, _ => canCount k 8 (m.setCanObj k o { v with pending := some p, last := 3 })

/-- Whether an object is a Trellis-owned TX object (R304). -/
def trellisOwned (m : Module) (k o : Nat) : Bool := (m.canObj k o).dir = 2 && (m.canObj k o).owner = 15

/-- A loop's bytes go into an object's payload (R231, R304). -/
def canPayload (k o byte : Nat) (bs : List Byte) (m : Module) : Module :=
  if trellisOwned m k o then m.setCanObj k o { (m.canObj k o) with data := setBytes (m.canObj k o).data byte bs } else m

/-- Trellis hands an object's payload over for a launch time (R304, R306). -/
def canTrellis (k o at_ : Nat) (m : Module) : Module :=
  if trellisOwned m k o then
    canHandOver k o ⟨at_, (m.canObj k o).data.take (m.canObj k o).len, true, false⟩ m
  else canCount k 12 m

/-! ### Ethernet launch-time queues (R293, R295) -/

/-- Count in a port, in the order of Table 13-6. -/
def ethCount (p i : Nat) (m : Module) : Module := m.setPort p { (m.port p) with ctr := bump (m.port p).ctr i }

def Module.lq (m : Module) (p q : Nat) : LaunchQueue := (m.port p).queues.get {} q
def Module.setLq (m : Module) (p q : Nat) (v : LaunchQueue) : Module :=
  m.setPort p { (m.port p) with queues := (m.port p).queues.put {} q v }

/-- INT_TX of a port in tenths of a nanosecond (Table 13-2). -/
def intTx (p : Nat) : Nat := if p < 2 then 425 else 960
/-- INT_RX of a port in tenths of a nanosecond (Table 13-2). -/
def intRx (p : Nat) : Nat := if p < 2 then 512 else 1120
/-- INT_TX + TX_LAT in counter units (R288, R294). -/
def txDelay (m : Module) (p : Nat) : Nat := intTx p * nsUnit / 10 + (m.port p).txLat * 2 ^ 48
/-- INT_RX + RX_LAT in counter units (R288). -/
def rxDelay (m : Module) (p : Nat) : Nat := intRx p * nsUnit / 10 + (m.port p).rxLat * 2 ^ 48

/-- A capture taken `age` half nanoseconds ago: time-stamps resolve 0.5 ns of the counter (R288, R289, R311). -/
def captured (m : Module) (age : Nat) : Nat := (m.time.now / 2 ^ 63 - age) * 2 ^ 63
/-- The egress time-stamp of a frame begun now (R288). -/
def egressStamp (m : Module) (p : Nat) : Nat := captured m 0 + txDelay m p

/-- Whether a frame begun now would be late (R295): its egress time-stamp exceeds L + LATE_NS. -/
def lateNow (m : Module) (p q : Nat) (f : LaunchFrame) : Bool :=
  decide (f.at_ + (m.lq p q).lateNs * nsUnit < egressStamp m p)

/-- Event 0x0912, once for a queue since its configuration or a counter clear (R295). -/
def tellLate (p q at_ : Nat) (m : Module) : Module :=
  let v := m.lq p q
  if v.told then m
  else event 0x0912 0 [(0, 1, p), (1, 1, q), (4, 4, secOf at_), (8, 4, nsOf at_)] (m.setLq p q { v with told := true })

/-- Offer a frame to a launch-time queue (R293, R295). -/
def ethOffer (p q : Nat) (bs : List Byte) (at_ : Nat) (m : Module) : Module :=
  let v := m.lq p q
  let f : LaunchFrame := ⟨bs, at_, false⟩
  if v.frames.length ≥ 32 then ethCount p 5 m
  else if lateNow m p q f then
    let m := tellLate p q at_ m
    if v.policy = 0 then ethCount p 6 m
    else m.setLq p q { (m.lq p q) with frames := v.frames ++ [{ f with late := true }] }
  else m.setLq p q { v with frames := v.frames ++ [f] }

end Sys2Proof.Machine
end

