-- ==== Sys2Proof/Machine/Can.lean ====
section
/-!
DEFINITION. The CAN FD controllers (chapter 14): modes (R300), reception (R305, R310), transmission (R306 to R309), errors
(R312, R313) and the class 0x0A commands (R314, R315).
-/

namespace Sys2Proof.Machine

/-! ### Configuration fields (Table 14-7) -/

def canCfgAt (v : CanCtl) (off n : Nat) : Nat := leAt v.cfg off n
def canAutoRecover (v : CanCtl) : Bool := canCfgAt v 1 1 / 4 % 2 = 1
def canTdcOn (v : CanCtl) : Bool := canCfgAt v 1 1 / 2 % 2 = 1
/-- TX_LAT and RX_LAT in counter units (R311). -/
def canTxLat (v : CanCtl) : Nat := canCfgAt v 12 4 * 2 ^ 48
def canRxLat (v : CanCtl) : Nat := canCfgAt v 16 4 * 2 ^ 48
/-- The reader of a queue (Table 14-7). -/
def canReader (v : CanCtl) (q : Nat) : Nat := canCfgAt v (20 + q) 1

/-! ### Errors and modes (R300, R312, R313) -/

/-- The error state of two counters (R312). -/
def errOfCounts (tec recc : Nat) : Nat := if 255 < tec then 2 else if 128 ≤ tec || 128 ≤ recc then 1 else 0

/-- The error state changes: event 0x0A10, and a bus-off is counted (R312). -/
def canErrTo (k st : Nat) (m : Module) : Module :=
  let v := m.canCtl k
  if v.err = st then m
  else
    let m := event 0x0A10 0 [(0, 1, k), (1, 1, v.err), (2, 1, st), (3, 1, min v.tec 255), (4, 1, min v.recc 255)]
      (m.setCan k { v with err := st, recovering := false })
    if st = 2 then canCount k 15 m else m

/-- The counters take new values (R312): a bus-off lasts until recovery. They change in NORMAL only (Table 14-2). -/
def canErrors (k tec recc : Nat) (m : Module) : Module :=
  let v := m.canCtl k
  if v.mode = 1 && v.err != 2 then
    canErrTo k (errOfCounts tec recc) (m.setCan k { v with tec := tec, recc := min recc 255 })
  else m

/-- Both counters to zero and error active (R300, R313). -/
def canActive (k : Nat) (m : Module) : Module :=
  canErrTo k 0 (m.setCan k { (m.canCtl k) with tec := 0, recc := 0 })

/-- Entering OFF cancels every pending transmission (R300): LAST is 4. -/
def canCancel (k : Nat) (m : Module) : Module :=
  (List.range 128).foldl (fun m o =>
    let v := m.canObj k o
    if v.pending.isSome || v.newer.isSome then
      let m := m.setCanObj k o { v with pending := none, newer := none, last := 4 }
      let m := if v.pending.isSome then canCount k 11 m else m
      if v.newer.isSome then canCount k 11 m else m
    else m) m

/-- A controller takes a mode (R300); leaving OFF releases its TXD latch, once it drives that recessive, with PD_LS on (R346,
Table 16-6). -/
def canModeTo (k mode : Nat) (m : Module) : Module :=
  let v := { (m.canCtl k) with flagTx := false }
  let m1 := m.setCan k { v with mode := mode }
  if v.mode != 0 && mode = 0 then canCancel k (m1.setCan k { v with mode := 0, integrated := false })
  else if v.mode = 0 && mode != 0 then
    let m2 := canActive k (m1.setCan k { v with mode := mode, integrated := false, recovering := false })
    if m2.power.levels.getLsbD (1 + k) && domOn m2 47 then
      { m2 with power := { m2.power with latches := setBit m2.power.latches (1 + k) false } }
    else m2
  else m1

/-- Whether an object of a controller has a frame on the bus. -/
def canBusy (m : Module) (k : Nat) : Bool := (List.range 128).any (fun o => (m.canObj k o).onBus.isSome)

/-- CAN_MODE_EFFECT (R300, R314): at the end of the frame on the bus, or at once when idle. -/
def execCanModeEffect (k : Nat) (s : State) : Res :=
  s.act (fun m =>
    match (m.canCtl k).modeReq with
    | mode :: rest =>
      if k < 4 && domOn m 47 && !canBusy m k then
        finish 0x0A01 k 0 [] (canModeTo k mode (m.setCan k { (m.canCtl k) with modeReq := rest }))
      else m
    | [] => m)

/-- CAN_BUS_INTEGRATED (R300): 11 consecutive recessive bits. -/
def execCanBusIntegrated (k : Nat) (s : State) : Res :=
  s.act (fun m =>
    let v := m.canCtl k
    if k < 4 && domOn m 47 && v.mode != 0 && !v.integrated then m.setCan k { v with integrated := true } else m)

/-- CAN_BUSOFF_RECOVERY (R313): 128 occurrences of 11 consecutive recessive bits. -/
def execCanBusoffRecovery (k : Nat) (s : State) : Res :=
  s.act (fun m =>
    let v := m.canCtl k
    if k < 4 && domOn m 47 && v.mode != 0 && v.err = 2 && (canAutoRecover v || v.recovering) then canActive k m else m)

/-- Whether a controller takes part on its bus: PD_LS on, so that its signals are not held (R345), out of OFF, integrated
and not bus-off. -/
def canLive (m : Module) (k : Nat) : Bool :=
  let v := m.canCtl k
  decide (k < 4) && domOn m 47 && v.mode != 0 && v.integrated && v.err != 2

/-- Whether a controller acknowledges frames (Table 14-2). -/
def canAcks (mode : Nat) : Bool := mode = 1 || mode = 2

/-- A valid frame of another node is acknowledged (Table 14-2). -/
def canAck (k : Nat) (m : Module) : Module := if canAcks (m.canCtl k).mode then emit (.canAck k) m else m

/-- An error frame is sent in NORMAL only (Table 14-2). -/
def canErrorFrame (k : Nat) (m : Module) : Module := if (m.canCtl k).mode = 1 then emit (.canError k) m else m

/-- An overload frame is sent in NORMAL only (Table 14-2). -/
def canOverloadFrame (k : Nat) (m : Module) : Module := if (m.canCtl k).mode = 1 then emit (.canOverload k) m else m

/-- The error flag last sent is a transmitter's, or a new frame or a receiver's error has followed it. -/
def canFlagTx (k : Nat) (b : Bool) (m : Module) : Module := m.setCan k { (m.canCtl k) with flagTx := b }

/-- The counters after an error of a controller that is not sending a frame (R312), as ISO 11898-1 has them: a receiver's error adds 1
to the receive error counter; a dominant bit after its error flag (`after`) or a bit error while it sends a flag (`flag`) adds 8, to
the transmit error counter where the flag was a transmitter's. -/
def canErrorCounts (v : CanCtl) (after flag : Bool) : Nat × Nat :=
  if !(after || flag) then (v.tec, v.recc + 1) else if v.flagTx then (v.tec + 8, v.recc) else (v.tec, v.recc + 8)

/-- CAN_BUS_ERROR (R312, R315), while the controller sends no frame; a protocol exception (`exc`, Table 14-1) makes it integrate
again (notes/assumptions/39). -/
def execCanBusError (k : Nat) (after flag exc : Bool) (s : State) : Res :=
  s.act (fun m =>
    let v := m.canCtl k
    if canLive m k && !canBusy m k then
      if exc then canCount k 16 (m.setCan k { v with integrated := false })
      else
        let c := canErrorCounts v after flag
        canErrors k c.1 c.2 (canErrorFrame k (canCount k 14 (canFlagTx k (v.flagTx && (after || flag)) m)))
    else m)

/-! ### Reception (R305, R310) -/

/-- (frame ID XOR ID) AND MASK is zero and the IDE agree. -/
def idMatches (ide : Bool) (id mask : BitVec 29) (f : CanFrame) : Bool := ide == f.ide && (f.id ^^^ id) &&& mask == 0

/-- An identifier or mask has bits above its width (Table 14-6). -/
def idBad (v : Nat) (ide : Bool) : Bool := v ≥ (if ide then 2 ^ 29 else 2 ^ 11)

/-- A LEN that some DLC encodes (Table 14-8). -/
def lenOk (l : Nat) : Bool := l ≤ 8 || [12, 16, 20, 24, 32, 48, 64].contains l

/-- Whether a frame has a format of Table 14-1: a remote or classical frame without BRS or ESI and at most 8 bytes, an FD frame
of a length some DLC encodes, an identifier of its width. -/
def canFrameOk (f : CanFrame) : Bool :=
  (if f.fdf then !f.remote && lenOk f.data.length else !f.brs && !f.esi && decide (f.data.length ≤ 8))
    && (!f.remote || f.data.isEmpty) && !idBad f.id.toNat f.ide

/-- The record of a received frame (Table 14-5), its start of frame captured at `stamp` (R311). -/
def rxRecord (v : CanCtl) (stamp : Nat) (f : CanFrame) : CanRec :=
  { time := stamp - canRxLat v, len := min f.data.length 64
    flags := maskOf 4 ((if f.ide then [0] else []) ++ (if f.fdf then [1] else []) ++ (if f.brs then [2] else [])
      ++ (if f.esi then [3] else []))
    id := f.id, data := setBytes (List.replicate 64 0) 0 (f.data.take 64) }

/-- A frame is offered to the filters (R310). An accepted one may wake the module (Table 16-3). -/
def canFilterFrame (k : Nat) (f : CanFrame) (m : Module) : Module :=
  let v := m.canCtl k
  let hit := (List.range 64).findSome? (fun i =>
    let g := v.filters.get {} i
    if g.action != 0 && idMatches g.ide g.id g.mask f then some g.action else none)
  let accept (q : Nat) (l : List CanRec) (put : List CanRec → CanCtl) : Module :=
    if l.length ≥ 32 then canCount k 4 m
    else
      let m := canCount k 2 (m.setCan k (put (l ++ [rxRecord v (captured m f.age) f])))
      let m := if l.isEmpty then event 0x0A11 0 [(0, 1, k), (1, 1, q)] m else m
      if m.power.wakeMask.getLsbD (2 + k) then wakeTowards 0x27 m.power.wakeTo m else m
  match hit with
  | some 1 => accept 0 v.q0 (fun l => { v with q0 := l })
  | some 2 => accept 1 v.q1 (fun l => { v with q1 := l })
  | _ => canCount k 3 m

/-- The lowest-numbered RX object a frame matches (R305). -/
def rxObject (v : CanCtl) (f : CanFrame) : Option Nat :=
  (List.range 128).find? (fun o =>
    let x := v.objs.get {} o
    x.dir = 1 && idMatches x.ide x.id x.mask f)

/-- An RX object stores a frame, and the input maps of the object update their signals (R305, R213). -/
def rxStore (k o : Nat) (f : CanFrame) (m : Module) : Module :=
  let v := m.canObj k o
  let r := rxRecord (m.canCtl k) (captured m f.age) f
  let m := m.setCanObj k o { v with data := r.data, last := 1, count := sat32 (v.count + 1), lastFrame := r }
  let p := updateSignals k o r.len r.data r.time m
  if p.2 then canCount k 13 p.1 else p.1

/-- What a successful reception takes from the receive error counter (R312, ISO 11898-1: one, and from above 127 to a value
from 119 to 127 the standard leaves open; notes/assumptions). -/
def rxGood (k : Nat) (m : Module) : Module :=
  let v := m.canCtl k
  if 127 < v.recc then freeNext (canErrors k v.tec (119 + (free m).toNat % 9) m)
  else canErrors k v.tec (v.recc - 1) m

/-- CAN_RX_FRAME (R299, R300, R305, R310, R315): a valid frame of another node. An overload condition that follows it is answered with
an overload frame (Table 14-2). -/
def execCanRxFrame (k : Nat) (f : CanFrame) (s : State) : Res :=
  s.act (fun m =>
    let v := m.canCtl k
    if !(canLive m k && !canBusy m k && canFrameOk f) then m
    else
      let m := rxGood k (canCount k 0 (canAck k (canFlagTx k false m)))
      let m := if f.overload then canOverloadFrame k m else m
      if f.remote then canCount k 5 m
      else match rxObject v f with
        | none => canFilterFrame k f m
        | some o =>
          let m := rxStore k o f m
          if (m.canObj k o).copy then canFilterFrame k f m else canCount k 1 m)

/-! ### Transmission (R306 to R309) -/

/-- The arbitration key (R307) as one number: base identifier, IDE, the 18 further bits. -/
def canKey (x : CanObj) : Nat :=
  if x.ide then x.id.toNat / 2 ^ 18 * 2 ^ 19 + 2 ^ 18 + x.id.toNat % 2 ^ 18 else x.id.toNat % 2 ^ 11 * 2 ^ 19

/-- Whether a frame that begins now begins after L + LATE_NS (R309). -/
def canLateNow (m : Module) (x : CanObj) (p : CanPend) : Bool := decide (p.at_ + x.lateNs * nsUnit < m.time.now)

/-- Whether a pending frame has become late (R309): its SOF has not begun by L + LATE_NS, which is now. -/
def canLateAt (m : Module) (x : CanObj) (p : CanPend) : Bool := decide (p.at_ + x.lateNs * nsUnit ≤ m.time.now)

/-- The transmit time-stamp of a frame whose SOF is driven now (R311). -/
def canStamp (m : Module) (v : CanCtl) : Nat := captured m 0 + canTxLat v

/-- Event 0x0A12, once for a controller since its configuration or a counter clear (R309). -/
def canTell (k o at_ : Nat) (m : Module) : Module :=
  let v := m.canCtl k
  if v.told then m
  else event 0x0A12 0 [(0, 1, k), (1, 1, o), (4, 4, secOf at_), (8, 4, nsOf at_)] (m.setCan k { v with told := true })

/-- The objects whose pending frame is due and not to be dropped, with their keys (R307, R308): a SOF driven now has a transmit
time-stamp at or past L. -/
def canDue (m : Module) (k : Nat) : List (Nat × Nat) :=
  (List.range 128).filterMap (fun o =>
    let x := m.canObj k o
    match x.pending with
    | some p => if p.at_ ≤ canStamp m (m.canCtl k) && (x.lateSend || !(p.late || canLateNow m x p)) then some (o, canKey x) else none
    | none => none)

/-- The one with the lowest key, the lower object number where two are equal (R307). -/
def lowestKey : List (Nat × Nat) → Option Nat
  | [] => none
  | (o, k) :: t => some ((t.foldl (fun b x => if x.2 < b.2 then x else b) (o, k)).1)

/-- CAN_TX_START (R307, R308, R303): the frame begins; the operand is the loop delay the transmitter measures. -/
def execCanTxStart (k : Nat) (tdcMeas : Nat) (s : State) : Res :=
  s.act (fun m =>
    let v := m.canCtl k
    if !(canLive m k && v.mode = 1) || canBusy m k then m
    else match lowestKey (canDue m k) with
      | none => m
      | some o =>
        let x := m.canObj k o
        match x.pending with
        | none => m
        | some p =>
          let late := p.late || canLateNow m x p
          let m := if late then canTell k o p.at_ m else m
          let m := m.setCanObj k o { x with
            pending := none, onBus := some { p with late := late }, sof := canStamp m v }
          let m := canFlagTx k false m
          if canTdcOn v && x.fdf && x.brs then m.setCan k { (m.canCtl k) with tdcMeas := tdcMeas % 256 } else m)

/-- The record of a sent frame (Table 14-5). -/
def txRecord (x : CanObj) (p : CanPend) (passive : Bool) : CanRec :=
  { time := x.sof, len := p.data.length
    flags := maskOf 4 ((if x.ide then [0] else []) ++ (if x.fdf then [1] else []) ++ (if x.brs then [2] else [])
      ++ (if x.fdf && passive then [3] else []))
    id := x.id, data := setBytes (List.replicate 64 0) 0 p.data }

/-- A frame ends in success (R306, R309, R315). -/
def txGood (k o : Nat) (p : CanPend) (m : Module) : Module :=
  let x := m.canObj k o
  let v := m.canCtl k
  let m := m.setCanObj k o { x with
    onBus := none, pending := x.newer, newer := none, last := 1, count := sat32 (x.count + 1)
    lastFrame := txRecord x p (v.err = 1) }
  let m := emit (.can k o p.data) (canCount k 6 m)
  canErrors k (v.tec - 1) v.recc (if p.late then canCount k 10 m else m)

/-- A frame ends in lost arbitration or an error (R306): a newer hand-over replaces it, else it is retried. -/
def txRetry (k o : Nat) (p : CanPend) (m : Module) : Module :=
  let x := m.canObj k o
  match x.newer with
  | some q => canCount k 8 (m.setCanObj k o { x with onBus := none, pending := some q, newer := none, last := 3 })
  | none => m.setCanObj k o { x with onBus := none, pending := some p }

/-- A frame whose controller's domain goes off ends unsent: its TXD is held recessive (R345, R421). -/
def canCut (m : Module) (k : Nat) : Module :=
  (List.range 128).foldl (fun m o => match (m.canObj k o).onBus with | some p => txRetry k o p m | none => m) m

/-- CAN_TX_END (R306, R312): 0 success, 1 lost arbitration, 2 an error that adds 8 to the transmit error counter, 3 an
error for which ISO 11898-1 adds nothing. With PD_LS off no frame is on the bus (R345). -/
def execCanTxEnd (k : Nat) (outcome : Nat) (s : State) : Res :=
  s.act (fun m =>
    match (List.range 128).find? (fun o => (m.canObj k o).onBus.isSome) with
    | none => m
    | some o =>
      match (m.canObj k o).onBus with
      | none => m
      | some p =>
        if !domOn m 47 then m
        else if outcome = 0 then txGood k o p m
        else if outcome = 1 then txRetry k o p (canCount k 7 m)
        else if outcome = 2 then
          let v := m.canCtl k
          canErrors k (v.tec + 8) v.recc (txRetry k o p (canErrorFrame k (canCount k 14 (canFlagTx k true m))))
        else if outcome = 3 then txRetry k o p (canErrorFrame k (canCount k 14 (canFlagTx k true m)))
        else m)

/-- CAN_FRAME_LATE (R309): dropped and counted, or it stays pending, in every mode. -/
def execCanFrameLate (k : Nat) (obj : Nat) (s : State) : Res :=
  s.act (fun m =>
    let x := m.canObj k obj
    match x.pending with
    | some p =>
      if canLateAt m x p && !p.late then
        let m := canTell k obj p.at_ m
        if x.lateSend then m.setCanObj k obj { x with pending := some { p with late := true } }
        else canCount k 9 (m.setCanObj k obj { x with pending := none, last := 2 })
      else m
    | none => m)

/-! ### Class 0x0A commands (R314, R315) -/

/-- The nominal and data bits of a configuration, in CAN cycles (R301). -/
def nomBit (ps : List Byte) : Nat := leAt ps 2 1 * (1 + leAt ps 4 2 + leAt ps 6 1)
def dataBit (ps : List Byte) : Nat := leAt ps 3 1 * (1 + leAt ps 8 1 + leAt ps 9 1)

/-- A field of Table 14-7 is out of range. -/
def canCfgBad (ps : List Byte) : Bool :=
  let out (off n lo hi : Nat) : Bool := leAt ps off n < lo || leAt ps off n > hi
  out 0 1 0 3 || out 1 1 0 7 || out 2 1 1 32 || out 3 1 1 32 || out 4 2 2 256 || out 6 1 2 128 || out 7 1 1 (leAt ps 6 1)
    || out 8 1 1 32 || out 9 1 1 16 || out 10 1 1 (leAt ps 9 1) || out 11 1 0 127 || out 20 1 0 14 || out 21 1 0 14

/-- The rates break R301, R302 or R303. -/
def canRateBad (ps : List Byte) : Bool :=
  1 + leAt ps 4 2 + leAt ps 6 1 < 8 || nomBit ps < 80 || dataBit ps < 10 || dataBit ps > nomBit ps
    || (leAt ps 1 1 % 2 = 1 && nomBit ps < 640) || (leAt ps 1 1 / 2 % 2 = 0 && dataBit ps < 40)

/-- CAN_CONFIG (R301 to R303, Table 14-7). -/
def execCanConfig (n : Nat) (s : State) : Res :=
  s.act (command 0x0A00 n
    (fun ps m => [badLen ps 24, (canCfgBad ps || canRateBad ps, 0x22), resv ps 22 2, (notHostSafety n, 0x24),
      ((m.canCtl (leAt ps 0 1)).mode != 0, 0x23)])
    (fun ps m => respond n 0 [] (m.setCan (leAt ps 0 1) { (m.canCtl (leAt ps 0 1)) with
      cfg := ps.take 22, configured := true, told := false })))

/-- CAN_MODE (R300, R314): deferred. -/
def execCanMode (n : Nat) (s : State) : Res :=
  s.act (command 0x0A01 n
    (fun ps m => [badLen ps 8, (leAt ps 0 1 > 3 || leAt ps 1 1 > 3, 0x22), resv ps 2 6, (notHostSafety n, 0x24),
      (!(m.canCtl (leAt ps 0 1)).configured, 0x23)])
    (fun ps m => accept n (leAt ps 0 1) (fun m => m.setCan (leAt ps 0 1) { (m.canCtl (leAt ps 0 1)) with
      modeReq := (m.canCtl (leAt ps 0 1)).modeReq ++ [leAt ps 1 1] }) m))

/-- The parameters of CAN_OBJ_CONFIG break Table 14-8 or R304. Table 14-8 gives COPY for RX and LATE_POLICY for TX and does not
say that the other DIR must have the bit zero: the model accepts both (DESIGN CHOICE, notes/assumptions/67). -/
def canObjBad (ps : List Byte) : Bool :=
  let dir := leAt ps 2 1
  let fl := leAt ps 4 1
  let ide := fl % 2 = 1
  leAt ps 0 1 > 3 || leAt ps 1 1 > 127 || dir > 2 || fl > 31 || !zeros ((ps.drop 6).take 2) || !zeros ((ps.drop 20).take 4)
    || (if dir = 0 then !zeros (ps.drop 3)
        else
          idBad (leAt ps 8 4) ide || idBad (leAt ps 12 4) ide
            || (if dir = 1 then leAt ps 3 1 != 0 || leAt ps 5 1 != 0 || leAt ps 16 4 != 0 || !zeros (ps.drop 24)
                else leAt ps 3 1 > 15 || !lenOk (leAt ps 5 1) || (leAt ps 5 1 > 8 && fl / 2 % 2 = 0)
                  || leAt ps 12 4 != 0 || leAt ps 16 4 > 10000000))

/-- A Trellis loop that is not OFF names an object (R314). -/
def loopNames (m : Module) (k o : Nat) : Bool :=
  (List.range 64).any (fun i =>
    let l := m.loop i
    l.state != .off && l.cfg.outKind = 0 && l.cfg.outUnit = k && l.cfg.outObj = o)

/-- CAN_OBJ_CONFIG (R304, Table 14-8): COUNT and LAST begin again. -/
def execCanObjConfig (n : Nat) (s : State) : Res :=
  s.act (command 0x0A02 n
    (fun ps m =>
      let k := leAt ps 0 1
      let o := leAt ps 1 1
      let x := m.canObj k o
      [badLen ps 88, (canObjBad ps, 0x22), (notHostSafety n, 0x24),
        (x.pending.isSome || x.onBus.isSome || !(mapsOf m k o).isEmpty || loopNames m k o, 0x23)])
    (fun ps m =>
      let fl := leAt ps 4 1
      let x := m.canObj (leAt ps 0 1) (leAt ps 1 1)
      respond n 0 [] (m.setCanObj (leAt ps 0 1) (leAt ps 1 1) { x with
        dir := leAt ps 2 1, owner := leAt ps 3 1, ide := fl % 2 = 1, fdf := fl / 2 % 2 = 1, brs := fl / 4 % 2 = 1
        copy := fl / 8 % 2 = 1, lateSend := fl / 16 % 2 = 1, len := leAt ps 5 1, id := BitVec.ofNat 29 (leAt ps 8 4)
        mask := BitVec.ofNat 29 (leAt ps 12 4), lateNs := leAt ps 16 4, data := ps.drop 24, last := 0, count := 0 })))

/-- Whether a client owns an object: TX objects alone have owners (R304). -/
def ownsObj (x : CanObj) (n : Nat) : Bool := x.dir = 2 && n == x.owner

/-- CAN_OBJ_SEND (R306, R308). -/
def execCanObjSend (n : Nat) (s : State) : Res :=
  s.act (command 0x0A03 n
    (fun ps m =>
      let x := m.canObj (leAt ps 0 1) (leAt ps 1 1)
      [badLen ps 88, (leAt ps 0 1 > 3 || leAt ps 1 1 > 127 || leAt ps 2 1 > 1, 0x22), resv ps 3 5, resv ps 20 4,
        (if leAt ps 2 1 = 1 then decide (1000000000 ≤ leAt ps 16 4) else leAt ps 8 8 != 0 || leAt ps 16 4 != 0, 0x22),
        (!ownsObj x n && n != 14, 0x24), (x.dir != 2 || x.owner = 15, 0x23)])
    (fun ps m =>
      let k := leAt ps 0 1
      let o := leAt ps 1 1
      let x := m.canObj k o
      let at_ := if leAt ps 2 1 = 1 then instant (leAt ps 8 8) (leAt ps 16 4) else m.time.now
      respond n 0 [] (canHandOver k o ⟨at_, (ps.drop 24).take x.len, false, false⟩
        (m.setCanObj k o { x with data := ps.drop 24 }))))

/-- A record as its 80 bytes (Table 14-5). -/
def recBytes (r : CanRec) : List Byte :=
  setBytes (fields 80 [(0, 4, secOf r.time), (4, 4, nsOf r.time), (8, 2, r.time / 2 ^ 48), (10, 1, r.len),
    (11, 1, r.flags.toNat), (12, 4, r.id.toNat)]) 16 r.data

/-- STATE of an object (Table 14-6). -/
def objState (x : CanObj) : Nat := if x.dir = 2 then (if x.onBus.isSome then 4 else if x.pending.isSome then 3 else 2) else x.dir

/-- CAN_OBJ_READ (R314): a read of an RX object clears its LAST. -/
def execCanObjRead (n : Nat) (s : State) : Res :=
  s.act (command 0x0A04 n
    (fun ps m => [badLen ps 8, (leAt ps 0 1 > 3 || leAt ps 1 1 > 127, 0x22), resv ps 2 6,
      (!ownsObj (m.canObj (leAt ps 0 1) (leAt ps 1 1)) n && notHostSafety n, 0x24)])
    (fun ps m =>
      let k := leAt ps 0 1
      let o := leAt ps 1 1
      let x := m.canObj k o
      respond n 0 (fields 8 [(0, 1, objState x), (1, 1, x.last), (4, 4, x.count)] ++ recBytes x.lastFrame)
        (if x.dir = 1 then m.setCanObj k o { x with last := 0 } else m)))

/-- CAN_FILTER (R310). -/
def execCanFilter (n : Nat) (s : State) : Res :=
  s.act (command 0x0A05 n
    (fun ps _ => [badLen ps 12, (leAt ps 0 1 > 3 || leAt ps 1 1 > 63 || leAt ps 2 1 > 3 || leAt ps 3 1 > 1
      || idBad (leAt ps 4 4) (leAt ps 3 1 = 1) || idBad (leAt ps 8 4) (leAt ps 3 1 = 1), 0x22), (notHostSafety n, 0x24)])
    (fun ps m => respond n 0 [] (m.setCan (leAt ps 0 1) { (m.canCtl (leAt ps 0 1)) with
      filters := (m.canCtl (leAt ps 0 1)).filters.put {} (leAt ps 1 1)
        { action := leAt ps 2 1, ide := leAt ps 3 1 = 1, id := BitVec.ofNat 29 (leAt ps 4 4)
          mask := BitVec.ofNat 29 (leAt ps 8 4) } })))

/-- CAN_RX_READ (R310): pops frames in arrival order. -/
def execCanRxRead (n : Nat) (s : State) : Res :=
  s.act (command 0x0A06 n
    (fun ps m => [badLen ps 8, (leAt ps 0 1 > 3 || leAt ps 1 1 > 1 || leAt ps 2 1 < 1 || leAt ps 2 1 > 6, 0x22), resv ps 3 5,
      (n != canReader (m.canCtl (leAt ps 0 1)) (leAt ps 1 1) && n != 14, 0x24)])
    (fun ps m =>
      let k := leAt ps 0 1
      let v := m.canCtl k
      let l := if leAt ps 1 1 = 0 then v.q0 else v.q1
      let out := l.take (leAt ps 2 1)
      let rest := l.drop (leAt ps 2 1)
      respond n 0 (fields 8 [(0, 1, out.length)] ++ out.flatMap recBytes)
        (m.setCan k (if leAt ps 1 1 = 0 then { v with q0 := rest } else { v with q1 := rest }))))

/-- CAN_RECOVER (R313). -/
def execCanRecover (n : Nat) (s : State) : Res :=
  s.act (command 0x0A07 n
    (fun ps m => [badLen ps 8, (leAt ps 0 1 > 3, 0x22), resv ps 1 7, (notHostSafety n, 0x24),
      ((m.canCtl (leAt ps 0 1)).err != 2 || canAutoRecover (m.canCtl (leAt ps 0 1)), 0x23)])
    (fun ps m => respond n 0 [] (m.setCan (leAt ps 0 1) { (m.canCtl (leAt ps 0 1)) with recovering := true })))

/-- CAN_STATUS (Table 14-9, R315): the clear flag acts after the response is formed. -/
def execCanStatus (n : Nat) (s : State) : Res :=
  s.act (command 0x0A08 n
    (fun ps _ => [badLen ps 8, (leAt ps 0 1 > 3 || leAt ps 1 1 > 1, 0x22), resv ps 2 6])
    (fun ps m =>
      let k := leAt ps 0 1
      let v := m.canCtl k
      let data := fields 76 ([(0, 1, v.mode), (1, 1, v.err), (2, 1, min v.tec 255), (3, 1, v.recc), (4, 1, v.q0.length),
        (5, 1, v.q1.length), (6, 1, v.tdcMeas)] ++ (List.range 17).map (fun i => (8 + 4 * i, 4, v.ctr.get 0 i)))
      respond n 0 data (if leAt ps 1 1 = 1 then m.setCan k { v with ctr := [], told := false } else m)))

end Sys2Proof.Machine
end

