-- ==== Sys2Proof/Machine/Time.lean ====
section
/-!
DEFINITION. Network time and Ethernet (chapter 13): the step (R284, R285), the servo (R286), the timing instance (R287), PPS
(R289, R290), the ports (R292 to R296) and the class 0x09 commands (R297, R298).
-/

namespace Sys2Proof.Machine

/-! ### The step (R284, R285) -/

/-- Some launch-time queue holds a frame (R284). -/
def launchHeld (m : Module) : Bool := (List.range 4).any (fun p => (List.range 8).any (fun q => !(m.lq p q).frames.isEmpty))

/-- Some message object has a launch time pending (R284). -/
def canLaunchHeld (m : Module) : Bool :=
  (List.range 4).any (fun k => (List.range 128).any (fun o => (m.canObj k o).pending.isSome || (m.canObj k o).newer.isSome))

/-- Some Trellis loop is not OFF (R284). -/
def loopOn (m : Module) : Bool := (List.range 64).any (fun i => (m.loop i).state != .off)

/-- One second in counter units. -/
def secUnit : Nat := 1000 * msUnit

/-- The second whose PPS_OUT instant was reached last (R290). -/
def ppsSecond (m : Module) : Option Nat :=
  let o := m.time.ppsOffsetNs * nsUnit
  if o ≤ m.time.now then some ((m.time.now - o) / secUnit) else none

/-- The last PPS_OUT instant before the counter's value: a value that is an instant itself (its FRAC zero) is still to fire
(R290, R291). -/
def ppsBefore (m : Module) : Option Nat :=
  let o := m.time.ppsOffsetNs * nsUnit
  match ppsSecond m with
  | some n => if decide ((m.time.now - o) % secUnit < 2 ^ 48) then (if n = 0 then none else some (n - 1)) else some n
  | none => none

/-- The last golden instant (R375): t mod PERIOD_US = PHASE_US, in whole microseconds of network time. -/
def goldenInstant (m : Module) : Option Nat :=
  let u := nowUs m
  if m.safety.gtPeriod = 0 || u < m.safety.gtPhase then none
  else some (u - (u - m.safety.gtPhase) % m.safety.gtPeriod)

/-- The last golden instant before the counter's value: a value that is an instant itself (its FRAC zero) is still to come. -/
def goldenBefore (m : Module) : Option Nat :=
  match goldenInstant m with
  | some t => if m.time.now - t * usUnit < 2 ^ 48 then (if t < m.safety.gtPeriod then none else some (t - m.safety.gtPeriod)) else some t
  | none => none

/-- The step (R284, R285): the counter takes its new value, the step is closed, event 0x0910; the share period ends, and
PPS_OUT, the base ticks and the golden slots (R375) go on from the new value. -/
def stepTo (new : Nat) (m : Module) : Module :=
  let old := m.time.now
  let m := { m with time := { m.time with now := new % timeMod, stepped := true, stepClosed := true } }
  let m := { m with
    time := { m.time with ppsLastSec := ppsBefore m }
    trl := { m.trl with lastUs := nowUs m }
    safety := { m.safety with gtLast := goldenBefore m } }
  let m := event 0x0910 0 [(0, 4, secOf old), (4, 4, nsOf old), (8, 4, secOf new), (12, 4, nsOf new)] m
  startSharePeriod true m

/-! ### The servo (R286) -/

/-- The servo's state changes: event 0x0911. -/
def servoTo (st : Nat) (m : Module) : Module :=
  if m.time.servo = st then m
  else event 0x0911 0 [(0, 1, m.time.servo), (1, 1, st)] { m with time := { m.time with servo := st } }

/-- An interval of counter units in seconds, in binary32 (R286). -/
def secFloat (u : Nat) : W32 :=
  flRound false (u * 2 ^ 100 / secUnit) (-100) (u * 2 ^ 100 % secUnit != 0)

/-- 10^−9 in binary32. -/
def f1e9 : W32 := 0x3089705F
/-- 0.0005 in binary32. -/
def f0005 : W32 := 0x3A03126F
/-- The largest |RATE| (R283). -/
def rateMax : Int := 140737488

/-- round_to_even of a binary32 number, clamped to the limits of RATE (R286); `open_` serves where the number is a NaN, for
which the manual states no result. -/
def rateOf (x : W32) (open_ : Nat) : Int :=
  if isNan x then (open_ % 281474977 : Nat) - rateMax
  else if isInf x then (if isNeg x then -rateMax else rateMax)
  else
    let r : Int := natRound (flMant x) (flExp x)
    max (-rateMax) (min rateMax (if isNeg x then -r else r))

/-- e, the new acc and the new RATE of an offset in counter units and an interval in binary32 seconds (R286). -/
def servoLaw (t : Time) (o : Int) (dt : W32) (open_ : Nat) : W32 × Int :=
  let e := flDiv (flMul (flRoundInt (-o) (-64) false) f1e9) dt
  let acc := flMin (flMax (flAdd t.acc (flMul t.gi e)) (flNeg f0005)) f0005
  (acc, rateOf (flMul (flAdd acc (flMul t.gp e)) 0x57800000) open_)

/-- The law runs on a measurement. -/
def servoRun (o : Int) (dt : W32) (m : Module) : Module :=
  let r := servoLaw m.time o dt (free m).toNat
  freeNext { m with time := { m.time with acc := r.1, rate := r.2 } }

/-- Whether |o| is at most a number of nanoseconds. -/
def offWithin (o : Int) (ns : Nat) : Bool := o.natAbs ≤ ns * nsUnit

/-- Counts of consecutive measurements and the changes they bring (R286). -/
def servoCount (o : Int) (m : Module) : Module :=
  let t := m.time
  let inn := offWithin o t.lockNs
  let m := { m with time := { t with inLock := if inn then t.inLock + 1 else 0, outLock := if inn then 0 else t.outLock + 1 } }
  if m.time.servo = 0 then servoTo (if m.time.inLock ≥ 8 then 2 else 1) m
  else if m.time.servo = 1 && decide (8 ≤ m.time.inLock) then servoTo 2 m
  else if m.time.servo = 2 && decide (8 ≤ m.time.outLock) then servoTo 1 m
  else m

/-- An offset in whole nanoseconds, int32, saturating; which neighbour stands for half a nanosecond is open (R297). -/
def offsetNs (o : Int) (up : Bool) : Int :=
  let r := o / (nsUnit : Int) + (if o % (nsUnit : Int) != 0 && up then 1 else 0)
  max (-2147483648) (min 2147483647 r)

/-- The condition that defers the automatic step: 1 to 4, or 0 for none (R286). -/
def deferCond (o : Int) (m : Module) : Nat :=
  if launchHeld m then 1 else if canLaunchHeld m then 2 else if loopOn m then 3
  else if decide (m.time.stepMinNs * nsUnit ≤ o.natAbs) && decide ((m.time.now : Int) - o < 0) then 4 else 0

/-- The first PTP measurement under AUTO_STEP with the step open: it decides the step (R286). -/
def autoStep (o : Int) (m : Module) : Module :=
  let c := deferCond o m
  if c != 0 then
    event 0x0914 0 [(0, 1, c), (4, 4, leNat (leInt 4 (offsetNs o false)))]
      (servoTo 1 { m with time := { m.time with inLock := 0, outLock := 0 } })
  else
    let m := { m with time := { m.time with firstMeas := false } }
    servoCount o (if m.time.stepMinNs * nsUnit ≤ o.natAbs then stepTo ((m.time.now : Int) - o).toNat m
      else { m with time := { m.time with stepClosed := true } })

/-- A measurement: an offset in counter units and an interval in binary32 seconds (R286). -/
def measure (o : Int) (dt : W32) (m : Module) : Module :=
  let m := freeNext { m with time := { m.time with
    offsetNs := offsetNs o ((free m).getLsbD 0), lastMeas := some m.time.elapsed } }
  if m.time.mode = 1 && m.time.firstMeas && m.time.autoStep && !m.time.stepClosed then autoStep o m
  else servoCount o (servoRun o dt { m with time := { m.time with firstMeas := false } })

/-- SERVO_TIMEOUT (R286): no measurement for 3 s. -/
def execServoTimeout (s : State) : Res :=
  s.act (fun m =>
    match m.time.lastMeas with
    | some t =>
      if m.time.mode != 0 && m.time.servo != 0 && passed m t (3 * secUnit) then
        servoTo 0 { m with time := { m.time with inLock := 0, outLock := 0 } }
      else m
    | none => m)

/-! ### PPS (R289, R290) -/

/-- The signed distance of a capture from the nearest whole second (R286); `up` chooses at the half second. -/
def ppsOffset (c : Nat) (up : Bool) : Int :=
  let r := c % secUnit
  if 2 * r < secUnit || (2 * r = secUnit && !up) then (r : Int) else (r : Int) - secUnit

/-- PPS_IN_EDGE (R289, R286): a selected edge, captured to the counter at 0.5 ns resolution, `age` half nanoseconds ago. One less
than 0.5 s after the edge before it is not given to the servo. -/
def execPpsInEdge (rising : Bool) (age : Nat) (s : State) : Res :=
  s.act (fun m =>
    if m.time.ppsInEdge = (if rising then 1 else 2) then
      let c := captured m age
      let at_ := m.time.elapsed - age * 2 ^ 63
      let far := match m.time.ppsLastEdge with | some t => decide (t + secUnit / 2 ≤ at_) | none => true
      let m := { m with time := { m.time with ppsCaptureNs := nsOf c, ppsCount := m.time.ppsCount + 1, ppsLastEdge := some at_ } }
      if far && m.time.mode = 2 then
        let dt := match m.time.lastMeas with | some t => secFloat (m.time.elapsed - t) | none => lo32 (free m)
        measure (ppsOffset c ((free m).getLsbD 32)) dt (freeNext m)
      else m
    else m)

/-- The PPS_OUT latch is released once OUT_EN is set and the block drives the held level (Table 16-6, R346). -/
def ppsRelease (m : Module) : Module :=
  if m.time.ppsOutEn && m.time.ppsOut == m.power.levels.getLsbD 5 then
    { m with power := { m.power with latches := setBit m.power.latches 5 false } }
  else m

/-- PPS_OUT is driven to a level. -/
def ppsDrive (level : Bool) (m : Module) : Module :=
  ppsRelease (if m.time.ppsOut = level then m else emit (.pps level) { m with time := { m.time with ppsOut := level } })

/-- PPS_OUT_EDGE (R290, R291): PPS_OUT rises at its instant, or falls PPS_WIDTH_MS after it rose: a width is no alignment to the
counter's value, so that a step does not move the fall (notes/assumptions/37). -/
def execPpsOutEdge (s : State) : Res :=
  s.act (fun m =>
    let t := m.time
    if !t.ppsOutEn then m
    else if t.ppsOut then (if t.ppsFallAt ≤ t.elapsed then ppsDrive false m else m)
    else if (ppsSecond m).isSome && ppsSecond m != t.ppsLastSec then
      ppsDrive true { m with time := { t with
        ppsLastSec := ppsSecond m
        ppsFallAt := t.elapsed + t.ppsWidthMs * msUnit - (t.now - t.ppsOffsetNs * nsUnit) % secUnit } }
    else m)

/-! ### Ethernet ports (R292 to R296) -/

/-- A port works: enabled, its link up and PD_ETH on. -/
def ethWorks (m : Module) (p : Nat) : Bool := decide (p < 4) && (m.port p).enable && (m.port p).link && domOn m 45

/-- The EtherType of a frame. -/
def etherType (bs : List Byte) : Nat := (bs.getD 12 0).toNat * 256 + (bs.getD 13 0).toNat

/-- A PAUSE frame: EtherType 0x8808, opcode 1 (R292 names it; notes/assumptions/18). -/
def isPause (bs : List Byte) : Bool := etherType bs = 0x8808 && beAt bs 14 = 1

/-- A received frame is bad (R292): its FCS, its length with FCS, or a PAUSE frame. -/
def frameBad (f : EthFrame) : Bool :=
  f.fcs != crc32 f.bytes || isPause f.bytes || decide (f.bytes.length + 4 < 64) || decide (1522 < f.bytes.length + 4)

/-- A filter matches a frame (R296). -/
def filterMatches (v : EthFilter) (bs : List Byte) : Bool :=
  (zeros v.mac || v.mac == bs.take 6) && (v.ethertype = 0 || v.ethertype = etherType bs)

/-- The time-stamp of a received frame (R288). -/
def ingressStamp (m : Module) (p : Nat) (f : EthFrame) : Nat := captured m f.age - rxDelay m p

/-- A slot of a ring (R296): the time-stamp, the length and the frame. -/
def slotBytes (m : Module) (p : Nat) (f : EthFrame) : List Byte :=
  let t := ingressStamp m p f
  leBytes 4 (secOf t) ++ leBytes 4 (nsOf t) ++ leBytes 2 (t / 2 ^ 48) ++ leBytes 2 f.bytes.length ++ leBytes 4 0 ++ f.bytes

/-- Filter i of a port. -/
def Module.filter (m : Module) (p i : Nat) : Option EthFilter := (m.port p).filters.get none i
def Module.setFilter (m : Module) (p i : Nat) (v : Option EthFilter) : Module :=
  m.setPort p { (m.port p) with filters := (m.port p).filters.put none i v }

/-- A frame is delivered to a filter's ring (R296). -/
def ringDeliver (p i : Nat) (v : EthFilter) (f : EthFrame) (m : Module) : Module :=
  let at_ := v.base + 64 + v.n % v.slots * 2048
  let bs := slotBytes m p f
  let sid := sidOf m v.ctx 0x26
  if !(fwAllows m sid .read v.base 8 && fwAllows m sid .write at_ bs.length) then
    ethCount p 4 (ctxFault v.ctx 4
      (if fwAllows m sid .read v.base 8 then countRefused sid .write at_ bs.length m else countRefused sid .read v.base 8 m))
  else
    let consumed := leNat (memBytes m.mem v.base 8)
    let m := countReads 1 (v.base / 8) false m
    if v.n < consumed + v.slots then
      let m := unitWrite 0x26 v.ctx at_ bs m
      let m := ethCount p 1 (m.setFilter p i (some { v with n := v.n + 1 }))
      if syncOwned m v.ctx v.sync then syncAdd v.sync 1 m else ctxFault v.ctx 4 m
    else ethCount p 4 m

/-- ETH_RX_FRAME (R292, R296): frames of EtherType 0x88F7 are PTP_FRAME_RECEIVE's. -/
def execEthRxFrame (p : Nat) (f : EthFrame) (s : State) : Res :=
  s.act (fun m =>
    if !ethWorks m p then m
    else if frameBad f then ethCount p 2 m
    else if etherType f.bytes = 0x88F7 then m
    else
      match (List.range 16).findSome? (fun i =>
        (m.filter p i).bind (fun v => if filterMatches v f.bytes then some (i, v) else none)) with
      | some (i, v) => ringDeliver p i v f m
      | none => ethCount p 3 m)

/-- Whether a frame of a queue is due (R294): begun now its egress time-stamp meets L. -/
def launchDue (m : Module) (p : Nat) (f : LaunchFrame) : Bool := decide (f.at_ ≤ egressStamp m p)

/-- G of a port (Table 13-2): the alignment of its frame starts, within which R294 places a due frame's time-stamp. -/
def egressAlign (p : Nat) : Nat := (if p < 2 then 64 else 80) * nsUnit / 10

/-- A byte time of a port (R292): 0.8 ns at 10 Gb/s, 8 ns at 1 Gb/s. -/
def byteTime (p : Nat) : Nat := (if p < 2 then 8 else 80) * nsUnit / 10

/-- The port can begin a frame (R294): its line is idle and its inter-frame gap complete. -/
def lineFree (m : Module) (p : Nat) : Bool := decide ((m.port p).freeAt ≤ m.time.elapsed)

/-- A frame goes onto the wire with its FCS and its egress time-stamp (R288, R292): the line is taken for the preamble, the
frame, the FCS and the gap, 8 + 4 + 12 byte times beside the frame's own (R295's worked example). -/
def sendFrame (p : Nat) (timing : Bool) (bs : List Byte) (m : Module) : Module :=
  emit (.eth p timing (bs ++ leBytes 4 (crc32 bs).toNat) (egressStamp m p))
    (m.setPort p { (m.port p) with freeAt := m.time.elapsed + (bs.length + 24) * byteTime p })

/-- The highest-numbered queue whose head is due (R294). -/
def dueQueue (m : Module) (p : Nat) : Option (Nat × LaunchFrame) :=
  (List.range 8).reverse.findSome? (fun q =>
    (m.lq p q).frames.head?.bind (fun f => if launchDue m p f then some (q, f) else none))

/-- A launch frame leaves its queue: sent, or discarded when it is late under DROP (R294, R295). -/
def sendLaunch (p q : Nat) (f : LaunchFrame) (m : Module) : Module :=
  let v := m.lq p q
  let late := f.late || lateNow m p q f
  let m := if late then tellLate p q f.at_ m else m
  let m := m.setLq p q { (m.lq p q) with frames := v.frames.drop 1 }
  if late && v.policy = 0 then ethCount p 6 m
  else
    let m := if late then ethCount p 7 m else m
    ethCount p 0 (sendFrame p false f.bytes m)

/-- ETH_TX_START (R294): the port, its line free, begins its next frame. -/
def execEthTxStart (p : Nat) (s : State) : Res :=
  s.act (fun m =>
    if !(ethWorks m p && lineFree m p) then m
    else match dueQueue m p with
      | some (q, f) => sendLaunch p q f m
      | none =>
        match (m.port p).timing with
        | bs :: rest => ethCount p 0 (sendFrame p true bs (m.setPort p { (m.port p) with timing := rest }))
        | [] => m)

/-- LAUNCH_FRAME_LATE (R295): the frames of a queue that are late now and were not before. -/
def execLaunchFrameLate (p q : Nat) (s : State) : Res :=
  s.act (fun m =>
    if p < 4 && q < 8 then
      let late := (m.lq p q).frames.filter (fun f => !f.late && lateNow m p q f)
      match late with
      | [] => m
      | f :: _ =>
        let m1 := tellLate p q f.at_ m
        let v := m1.lq p q
        if v.policy = 0 then
          late.foldl (fun m _ => ethCount p 6 m)
            (m1.setLq p q { v with frames := v.frames.filter (fun f => !lateNow m p q f) })
        else m1.setLq p q { v with frames := v.frames.map (fun f => { f with late := f.late || lateNow m p q f }) }
    else m)

/-- The one speed of a port's links, in Mb/s (R292). -/
def ethSpeed (p : Nat) : Nat := if p < 2 then 10000 else 1000

/-- ETH_LINK_CHANGE (R292, R295): the link is at a speed in Mb/s, 0 for none; at another speed than the port's it is reported
as down. A change posts event 0x0913. -/
def execEthLinkChange (p : Nat) (speed : Nat) (s : State) : Res :=
  s.act (fun m =>
    let up : Bool := speed = ethSpeed p
    if p < 4 && (m.port p).link != up && (!up || domOn m 45) then
      event 0x0913 0 [(0, 1, p), (1, 1, if up then 1 else 0)] (m.setPort p { (m.port p) with link := up })
    else m)

/-! ### The timing instance (R287) -/

/-- Whether a port takes part in the timing instance. -/
def ptpPort (m : Module) (p : Nat) : Bool := decide (p < 4) && ((m.time.ptp.getD 2 0).getLsbD p)

/-- The fixed bytes of a message of Table 13-1 by its IEEE 1588 type; 0 for another type (notes/assumptions/85). -/
def ptpBody (kind : Nat) : Nat :=
  if kind = 0 || kind = 1 || kind = 8 || kind = 12 then 44
  else if kind = 2 || kind = 3 || kind = 9 || kind = 10 then 54
  else if kind = 11 then 64 else 0

/-- The TLVs of a message: type and value. -/
def ptpTlvs : Nat → List Byte → List (Nat × List Byte)
  | 0, _ => []
  | n + 1, b => if b.length < 4 then [] else (beAt b 0, (b.drop 4).take (beAt b 2)) :: ptpTlvs n (b.drop (4 + beAt b 2))

/-- The message type of a timing frame. -/
def ptpKind (bs : List Byte) : Nat := (bs.getD 14 0).toNat % 16

/-- The messages of a profile (Table 13-1): 0 delay request-response; 1 peer-to-peer and 2 IEEE 802.1AS. -/
def ptpMessages (profile : Nat) : List Nat := if profile = 0 then [0, 1, 8, 9, 11, 12] else [0, 2, 3, 8, 10, 11, 12]

/-- Whether a frame lies inside the subset of Table 13-1 for the configured profile and domain (R287), in the frame layout of
IEEE 1588-2019, which the table names (notes/assumptions/85). -/
def ptpInSubset (cfg bs : List Byte) : Bool :=
  let b := bs.drop 14
  let kind := ptpKind bs
  let profile := leAt cfg 0 1
  let len := beAt b 2
  let tlvs := ptpTlvs len ((b.take len).drop (ptpBody kind))
  (ptpMessages profile).contains kind && ptpBody kind ≤ len && len ≤ b.length
    && (b.getD 0 0).toNat / 16 = (if profile = 2 then 1 else 0) && (b.getD 1 0).toNat % 16 = 2 && (b.getD 4 0).toNat = leAt cfg 1 1
    && !tlvs.any (fun t => t.1 == 0x8009 || t.1 == 0x0009)
    && (kind != 12 || tlvs.any (fun t => t.1 == 3 && t.2.take 6 == [0x00, 0x80, 0xC2, 0x00, 0x00, 0x02]))

/-- Whether the instance may send a frame: inside the subset, two-step (Table 13-1), and of no more than 1,522 bytes with its FCS
(R292). -/
def ptpSendable (cfg bs : List Byte) : Bool :=
  etherType bs = 0x88F7 && ptpInSubset cfg bs && ((ptpKind bs != 0 && ptpKind bs != 3) || (bs.getD 20 0).getLsbD 1)
    && bs.length ≤ 1518

/-- Whether a message is one that only a master port sends: Sync, Follow_Up, Delay_Resp and Announce (notes/assumptions/85). -/
def ptpOfMaster (kind : Nat) : Bool := kind = 0 || kind = 8 || kind = 9 || kind = 11

/-- One message joins its port's timing queue, padded to the 64 bytes that a frame has at least with its FCS (R292): what the padding
holds is open. -/
def ptpQueue (m : Module) (x : Nat × List Byte) : Module :=
  if ptpPort m x.1 && ptpSendable m.time.ptp x.2 && (!ptpOfMaster (ptpKind x.2) || m.time.roles.getD x.1 0 = 1) then
    freeSkip (m.setPort x.1 { (m.port x.1) with
      timing := (m.port x.1).timing ++ [x.2 ++ freeBytes m (60 - x.2.length)] }) (60 - x.2.length)
  else m

/-- The messages the instance sends join the timing queues. -/
def ptpSend (l : List (Nat × List Byte)) (m : Module) : Module := l.foldl ptpQueue m

/-- The timer of a port: 0 Sync, 1 delay request and 2 Announce sent, 3 Announce received. -/
def ptpTimer (m : Module) (p k : Nat) : Nat := m.time.ptpTimers.get 0 (4 * p + k)
/-- A timer begins again. -/
def ptpRestart (p : Nat) (m : Module) (k : Nat) : Module :=
  { m with time := { m.time with ptpTimers := m.time.ptpTimers.put 0 (4 * p + k) m.time.elapsed } }

/-- LOG_INTERVALS k as an interval, log2 s: 0 Sync, 1 delay request, 2 Announce, 3 Announce receipt timeout (Tables 13-1, 13-5). -/
def ptpInterval (m : Module) (k : Nat) : Nat :=
  let l := leIntAt m.time.ptp (8 + k) 1
  if l < 0 then secUnit / 2 ^ (-l).toNat else secUnit * 2 ^ l.toNat

/-- The timer a message belongs to: a Follow_Up goes with its Sync. -/
def ptpTimed (kind : Nat) : Option Nat :=
  if kind = 0 || kind = 8 then some 0 else if kind = 1 || kind = 2 then some 1 else if kind = 11 then some 2 else none

/-- A role of Table 13-4 under SLAVE_ONLY, which admits no master (Table 13-5): `other` stands in for one. -/
def slaveRole (only : Bool) (r other : Nat) : Nat := if only && r = 1 then (if other = 1 then 2 else other) else r

/-- The state a port takes from the profile; with SLAVE_ONLY it is never a master, and keeps the state it has (R287, Table 13-5). -/
def ptpRole (m : Module) (o : PtpOutcome) (p : Nat) : Nat :=
  if !ptpPort m p then 0 else slaveRole (leAt m.time.ptp 6 1 = 1) (o.roles.getD p 0 % 4) (m.time.roles.getD p 0)

/-- What the profile makes of an event (R287): port states, the grandmaster and the messages it sends. -/
def ptpOutcome (o : PtpOutcome) (m : Module) : Module :=
  ptpSend o.send { m with time := { m.time with roles := (List.range 4).map (ptpRole m o), gm := o.gm } }

/-- PTP_FRAME_RECEIVE (R287, R296, R286): a good frame of EtherType 0x88F7, inside the subset or counted as ignored, as is one
that comes while Gragor does not run (R298; notes/assumptions/85). An offset it yields, less the port's delayAsymmetry, is a
measurement in PTP mode. -/
def execPtpFrameReceive (p : Nat) (f : EthFrame) (o : PtpOutcome) (s : State) : Res :=
  s.act (fun m =>
    if !ethWorks m p || frameBad f || etherType f.bytes != 0x88F7 then m
    else if !(m.host.gState = 3 && ptpPort m p && ptpInSubset m.time.ptp f.bytes) then ethCount p 8 m
    else
      let m := ptpOutcome o (ethCount p 1 (if ptpKind f.bytes = 11 then ptpRestart p m 3 else m))
      match o.offset with
      | some (x, dt) => if m.time.mode = 1 then measure (x - (m.port p).asym * 2 ^ 48) (secFloat dt) m else m
      | none => m)

/-- ANNOUNCE_RECEIPT_TIMEOUT (R287): no Announce for the receipt timeout, which Table 13-1 gives as log2 s; the best master clock
algorithm of the profile changes port states. -/
def execAnnounceReceiptTimeout (p : Nat) (o : PtpOutcome) (s : State) : Res :=
  s.act (fun m =>
    if ptpPort m p && m.host.gState = 3 && passed m (ptpTimer m p 3) (ptpInterval m 3) then
      ptpOutcome o (ptpRestart p m 3)
    else m)

/-- The interval timers of a port that have run out. -/
def ptpDue (m : Module) (p : Nat) : List Nat := (List.range 3).filter (fun k => passed m (ptpTimer m p k) (ptpInterval m k))

/-- PTP_INTERVAL_EXPIRY (R287): the port's messages whose interval has run out are sent. -/
def execPtpIntervalExpiry (p : Nat) (o : PtpOutcome) (s : State) : Res :=
  s.act (fun m =>
    if ptpPort m p && m.host.gState = 3 then
      let due := ptpDue m p
      ptpSend (o.send.filter (fun x => x.1 == p && (ptpTimed (ptpKind x.2)).any due.contains)) (due.foldl (ptpRestart p) m)
    else m)

/-! ### Class 0x09 commands (R297, R298) -/

/-- TIME_STATUS (Table 13-4). -/
def execTimeStatus (n : Nat) (s : State) : Res :=
  s.act (command 0x0900 n
    (fun ps _ => [badLen ps 8, resv ps 0 8])
    (fun _ m =>
      let t := m.time
      respond n 0 (fields 40 [(0, 8, secOf t.now), (8, 4, nsOf t.now), (12, 2, t.now / 2 ^ 48),
        (14, 1, (if t.stepClosed then 1 else 0) + (if t.stepped then 2 else 0) + 4 * t.mode + 16 * t.servo),
        (15, 1, t.roles.getD 0 0 + 4 * t.roles.getD 1 0 + 16 * t.roles.getD 2 0 + 64 * t.roles.getD 3 0),
        (16, 8, leNat (leInt 8 t.rate)), (24, 4, leNat (leInt 4 t.offsetNs)), (28, 4, t.ppsCaptureNs),
        (32, 8, t.gm.toNat)]) m))

/-- The counter after a TIME_STEP, as an integer (R284). -/
def stepTarget (ps : List Byte) (m : Module) : Int :=
  if leAt ps 0 1 = 0 then instant (leAt ps 8 8) (leAt ps 16 4)
  else (m.time.now : Int) + (leIntAt ps 8 8 * 1000000000 + leIntAt ps 16 4) * (nsUnit : Int)

/-- NS of a TIME_STEP is out of range. -/
def stepNsBad (ps : List Byte) : Bool :=
  if leAt ps 0 1 = 0 then 1000000000 ≤ leAt ps 16 4 else 1000000000 ≤ (leIntAt ps 16 4).natAbs

/-- TIME_STEP (R284). -/
def execTimeStep (n : Nat) (s : State) : Res :=
  s.act (command 0x0901 n
    (fun ps m => [badLen ps 24, (leAt ps 0 1 > 1, 0x22), resv ps 1 7, resv ps 20 4,
      (stepNsBad ps || decide (stepTarget ps m < 0), 0x22), (notHostSafety n, 0x24),
      (m.time.stepClosed || launchHeld m || canLaunchHeld m || loopOn m, 0x23)])
    (fun ps m => respond n 0 [] (stepTo (stepTarget ps m).toNat m)))

/-- TIME_CLOSE_STEP (R284). -/
def execTimeCloseStep (n : Nat) (s : State) : Res :=
  s.act (command 0x0902 n
    (fun ps m => [badLen ps 8, resv ps 0 8, (notHostSafety n, 0x24), (m.time.stepClosed, 0x23)])
    (fun _ m => respond n 0 [] { m with time := { m.time with stepClosed := true } }))

/-- TIME_RATE (R283). -/
def execTimeRate (n : Nat) (s : State) : Res :=
  s.act (command 0x0903 n
    (fun ps m => [badLen ps 8, (decide (rateMax < (leIntAt ps 0 8).natAbs), 0x22), (notHostSafety n, 0x24),
      (m.time.mode != 0, 0x23)])
    (fun ps m => respond n 0 [] { m with time := { m.time with rate := leIntAt ps 0 8 } }))

/-- A gain from 0 to 1 (Table 13-3). -/
def gainBad (w : W32) : Bool := !(flLe 0 w && flLe w 0x3F800000)

/-- The servo takes a mode (R286): a change clears acc, and the next measurement is its first. -/
def servoMode (mode : Nat) (m : Module) : Module :=
  if m.time.mode = mode then m
  else servoTo 0 { m with time := { m.time with
    mode := mode, acc := 0, firstMeas := true, lastMeas := none, inLock := 0, outLock := 0 } }

/-- TIME_SERVO (R286). -/
def execTimeServo (n : Nat) (s : State) : Res :=
  s.act (command 0x0904 n
    (fun ps _ => [badLen ps 24, (leAt ps 0 1 > 2 || leAt ps 1 1 > 1, 0x22), resv ps 2 2, resv ps 20 4,
      (gainBad (BitVec.ofNat 32 (leAt ps 12 4)) || gainBad (BitVec.ofNat 32 (leAt ps 16 4)), 0x22), (notHostSafety n, 0x24)])
    (fun ps m => respond n 0 [] (servoMode (leAt ps 0 1) { m with time := { m.time with
      autoStep := leAt ps 1 1 = 1, lockNs := leAt ps 4 4, stepMinNs := leAt ps 8 4
      gp := BitVec.ofNat 32 (leAt ps 12 4), gi := BitVec.ofNat 32 (leAt ps 16 4) } })))

/-- A LOG_INTERVALS field is out of range (Table 13-1). -/
def logBad (ps : List Byte) (off : Nat) (lo hi : Int) : Bool := decide (leIntAt ps off 1 < lo) || decide (hi < leIntAt ps off 1)

/-- PTP_CONFIG (R287, Table 13-5). What role a port that takes part shows before the profile gives it one is open; under SLAVE_ONLY
it is not a master's. -/
def execPtpConfig (n : Nat) (s : State) : Res :=
  s.act (command 0x0905 n
    (fun ps m => [badLen ps 12, (leAt ps 0 1 > 2 || leAt ps 1 1 > (if leAt ps 0 1 = 2 then 0 else 127) || leAt ps 2 1 > 15
        || leAt ps 5 1 < 6 || leAt ps 6 1 > 1, 0x22), resv ps 7 1,
      (logBad ps 8 (-7) 0 || logBad ps 9 (-7) 0 || logBad ps 10 0 3 || logBad ps 11 2 10, 0x22),
      (notHostSafety n, 0x24), (m.time.mode != 0, 0x23)])
    (fun ps m =>
      let f := (free m).toNat
      respond n 0 [] (freeNext { m with time := { m.time with
        ptp := ps, ptpTimers := (List.range 16).foldl (fun t k => t.put 0 k m.time.elapsed) [], 
        roles := (List.range 4).map (fun p =>
          if leAt ps 2 1 / 2 ^ p % 2 = 1 then slaveRole (leAt ps 6 1 = 1) (f / 4 ^ p % 4) 2 else 0) } })))

/-- PPS_CONFIG (R289, R290): enabled, PPS_OUT is low until its next instant; disabled, it is driven low. -/
def execPpsConfig (n : Nat) (s : State) : Res :=
  s.act (command 0x0906 n
    (fun ps _ => [badLen ps 8, (leAt ps 0 1 > 1 || leAt ps 1 1 > 2 || leAt ps 2 2 < 1 || leAt ps 2 2 > 500
      || leAt ps 4 4 ≥ 1000000000, 0x22), (notHostSafety n, 0x24)])
    (fun ps m =>
      let m := { m with time := { m.time with
        ppsOutEn := leAt ps 0 1 = 1, ppsInEdge := leAt ps 1 1, ppsWidthMs := leAt ps 2 2, ppsOffsetNs := leAt ps 4 4 } }
      let m := { m with time := { m.time with ppsLastSec := ppsSecond m } }
      respond n 0 [] (if m.time.ppsOutEn then ppsRelease m else ppsDrive false m)))

/-- ETH_PORT (R297). -/
def execEthPort (n : Nat) (s : State) : Res :=
  s.act (command 0x0907 n
    (fun ps m => [badLen ps 24, (leAt ps 0 1 > 3 || leAt ps 1 1 > 1, 0x22), resv ps 20 4, (notHostSafety n, 0x24),
      (!(m.port (leAt ps 0 1)).timing.isEmpty
        || (List.range 8).any (fun q => !(m.lq (leAt ps 0 1) q).frames.isEmpty), 0x23)])
    (fun ps m => respond n 0 [] (m.setPort (leAt ps 0 1) { (m.port (leAt ps 0 1)) with
      enable := leAt ps 1 1 = 1, mac := (ps.drop 2).take 6, txLat := leAt ps 8 4, rxLat := leAt ps 12 4
      asym := leIntAt ps 16 4 })))

/-- ETH_QUEUE (R295). -/
def execEthQueue (n : Nat) (s : State) : Res :=
  s.act (command 0x0908 n
    (fun ps m => [badLen ps 8, (leAt ps 0 1 > 3 || leAt ps 1 1 > 7 || leAt ps 2 1 > 1, 0x22), resv ps 3 1,
      (leAt ps 4 4 > 1000000, 0x22), (notHostSafety n, 0x24), (!(m.lq (leAt ps 0 1) (leAt ps 1 1)).frames.isEmpty, 0x23)])
    (fun ps m => respond n 0 [] (m.setLq (leAt ps 0 1) (leAt ps 1 1)
      { frames := [], policy := leAt ps 2 1, lateNs := leAt ps 4 4, told := false })))

/-- Whether the bytes of a ring lie within a context's permissions (R296). -/
def ringHeld (m : Module) (k a n : Nat) : Bool := regionHeld m k a n

/-- ETH_RX_BIND (R296, R297). -/
def execEthRxBind (n : Nat) (s : State) : Res :=
  s.act (command 0x0909 n
    (fun ps m =>
      let k := leAt ps 2 1
      let slots := leAt ps 12 4
      let old := ((m.filter (leAt ps 0 1) (leAt ps 1 1)).map (·.ctx)).getD 64
      [badLen ps 32, (leAt ps 0 1 > 3 || leAt ps 1 1 > 15 || (k > 63 && k != 0xFF), 0x22), resv ps 3 1, resv ps 26 6,
        ((slots < 16 || slots > 4096 || slots != 2 ^ slots.log2 || leAt ps 16 8 % 64 != 0), 0x22),
        (if k = 0xFF then decide (old < 64) && foreign m n old else foreign m n k, 0x24),
        (k != 0xFF && ((m.ctx k).state = 0 || asleepAt m (leAt ps 16 8) (64 + slots * 2048)), 0x23),
        (k != 0xFF && (!ringHeld m k (leAt ps 16 8) (64 + slots * 2048) || !syncOwned m k (leAt ps 24 2)), notHeld)])
    (fun ps m => respond n 0 [] (m.setFilter (leAt ps 0 1) (leAt ps 1 1)
      (if leAt ps 2 1 = 0xFF then none
       else some { ctx := leAt ps 2 1, ethertype := leAt ps 4 2, mac := (ps.drop 6).take 6, slots := leAt ps 12 4
                   base := leAt ps 16 8, sync := leAt ps 24 2, n := 0 }))))

/-- ETH_STATUS (Table 13-6, R298): the clear flag acts after the response is formed. -/
def execEthStatus (n : Nat) (s : State) : Res :=
  s.act (command 0x090A n
    (fun ps _ => [badLen ps 8, (leAt ps 0 1 > 3 || leAt ps 1 1 > 1, 0x22), resv ps 2 6])
    (fun ps m =>
      let p := leAt ps 0 1
      let v := m.port p
      let data := fields 44 ((0, 1, if v.link then 1 else 0) :: (List.range 9).map (fun i => (8 + 4 * i, 4, v.ctr.get 0 i)))
      respond n 0 data (if leAt ps 1 1 = 1 then
          m.setPort p { v with
            ctr := [], queues := (List.range 8).foldl (fun t q => t.upd {} q (fun x => { x with told := false })) v.queues }
        else m)))

end Sys2Proof.Machine
end

