-- ==== Sys2Proof/Machine/Trellis.lean ====
section
/-!
DEFINITION. Trellis (chapter 10): policy packets (R214, R215), base ticks (R217), the evaluation of a loop (R218 to R233),
the trace (R234, R235) and the class 0x08 commands (R236, R237).
-/

namespace Sys2Proof.Machine

/-! ### Policy packets (R214, R215) -/

/-- Count: 0 COMMITTED, 1 DISCARDED, 2 STATUS_DROPPED. -/
def trlCount (k : Nat) (m : Module) : Module := { m with trl := { m.trl with ctr := bump m.trl.ctr k } }

/-- The open packet, or a stray word, is discarded and counted once. -/
def discardPacket (m : Module) : Module := trlCount 1 { m with trl := { m.trl with packet := none } }

/-- A packet is committed at its EOP (R215), after the snapshots of the ticks that have passed (R217). -/
def commitPacket (p : OpenPacket) (m : Module) : Module :=
  let m := catchUp m
  let vals := p.words.flatMap (fun w => [lo32 w, hi32 w])
  trlCount 0 { m with trl := { m.trl with
    packet := none
    policy := Tab.putRow (0 : W32) m.trl.policy (64 * p.kind) vals
    banks := m.trl.banks.put 0 p.kind (m.time.now + 1) } }

/-- A word joins the open packet; its EOP ends it. -/
def joinPacket (p : OpenPacket) (w : SqWord) (m : Module) : Module :=
  let kind := w.tag.toNat % 16
  let q : OpenPacket :=
    ⟨p.kind, p.words ++ [w.data], p.bad || w.tag.getLsbD 6 || kind != p.kind || decide (8 ≤ kind) || decide (32 ≤ p.words.length)⟩
  if w.tag.getLsbD 4 then (if q.bad then discardPacket m else commitPacket q m)
  else { m with trl := { m.trl with packet := some q } }

/-- Trellis reads a word (R215). -/
def policyWord (w : SqWord) (m : Module) : Module :=
  if w.tag.getLsbD 5 then
    joinPacket ⟨w.tag.toNat % 16, [], false⟩ w (if m.trl.packet.isSome then discardPacket m else m)
  else match m.trl.packet with
    | some p => joinPacket p w m
    | none => discardPacket m

/-- POLICY_WORD_READ (R215, R216): a word of the policy queue, while it is ACTIVE and its head holds one. -/
def execPolicyWordRead (s : State) : Res :=
  s.act (fun m =>
    match m.trl.policyQ with
    | none => m
    | some q =>
      if domOn m 38 && domOn m 40 && consumedBy (m.queue q) 2 0 && (m.queue q).state = 1 && decide (0 < occupancy (m.queue q)) && headHas (m.queue q) 1 then
        let p := popWords q 1 m
        p.2.foldl (fun m w => policyWord w m) p.1
      else m)

/-- TRELLIS_TICK (R217, R291): the next base tick that network time has reached. No tick matters while every loop is OFF. -/
def execTrellisTick (s : State) : Res :=
  s.act (fun m =>
    if allOff m then { m with trl := { m.trl with lastUs := nowUs m } }
    else if m.trl.lastUs < nowUs m then baseTick m
    else m)

/-! ### The stage law (R220 to R222, R227) -/

/-- What one stage computes (R220). -/
structure StageOut where
  r : W32
  y : W32
  e : W32
  i : W32
  p : W32
  d : W32
  f : W32
  c : W32
  v : W32
  sat : Int
  u : W32

/-- A signal's value in a snapshot. -/
def Snapshot.signal (sn : Snapshot) (i : Nat) : Signal := sn.signals.get {} i

/-- A measurement of a stage in a snapshot. -/
def measOf (l : Loop) (sn : Snapshot) (s : Nat) : Signal := sn.signal ((l.cfg.stage.getD s {}).meas)

/-- n (R220). -/
def sampleNumber (l : Loop) (sn : Snapshot) : Nat := (sn.us - l.cfg.phaseUs) / l.cfg.periodUs

/-- One stage of the law (R220). -/
def stageLaw (l : Loop) (sn : Snapshot) (s : Nat) (r : W32) : StageOut :=
  let c := l.cfg.stage.getD s {}
  let st := l.stage.getD s {}
  let y := (measOf l sn s).val
  let e := flSub r y
  let i := if (st.sat = 1 && flLt 0 e) || (st.sat = -1 && flLt e 0) then st.i
    else flMin (flMax (flAdd st.i (flMul c.kit e)) c.imin) c.imax
  let p := flMul c.kp e
  let d := if l.first then 0 else flMul c.kdt (flSub st.yprev y)
  let f := if c.ffIndex = 0xFFFF then 0 else flMul c.kff (sn.policy.get 0 c.ffIndex)
  let corr := if s = l.cfg.rcStage && l.state = .run then
      l.table.get 0 ((sampleNumber l sn + l.cfg.rcLead) % l.cfg.rcLen) else 0
  let v := flAdd (flAdd (flAdd (flAdd p i) d) f) corr
  { r := r, y := y, e := e, i := i, p := p, d := d, f := f, c := corr, v := v
    sat := if flLt c.umax v then 1 else if flLt v c.umin then -1 else 0
    u := flMin (flMax v c.umin) c.umax }

/-- Stages s to s + k − 1, each with the output of the one before as its reference; false where a v is a NaN, which ends the
sample with no u of its stage (R222). -/
def stagesFrom (l : Loop) (sn : Snapshot) : Nat → Nat → W32 → List StageOut × Bool
  | 0, _, _ => ([], true)
  | k + 1, s, r =>
    let o := stageLaw l sn s r
    if isNan o.v then ([{ o with u := qnan }], false)
    else
      let t := stagesFrom l sn k (s + 1) o.u
      (o :: t.1, t.2)

/-- Whether the bank of an index was committed after a time, as the snapshot holds it. -/
def bankSince (sn : Snapshot) (idx at_ : Nat) : Bool := decide (at_ + 1 < sn.banks.get 0 (idx / 64))

/-- r0 (R221): REF_CONST, the policy, or the hold value until the bank's first commit since the start. -/
def refOf (l : Loop) (sn : Snapshot) : W32 :=
  if l.cfg.refIndex = 0xFFFF then l.cfg.refConst
  else if bankSince sn l.cfg.refIndex l.startAt then sn.policy.get 0 l.cfg.refIndex
  else l.holdVal.getD (measOf l sn 0).val

/-- The ramped reference and whether it has reached its target (R227). -/
def rampOf (l : Loop) (sn : Snapshot) : W32 × Bool :=
  if l.first then ((measOf l sn 0).val, false)
  else
    let r0 := refOf l sn
    let diff := flSub r0 l.q
    if flLe (flAbs diff) l.cfg.rampStep then (r0, true)
    else if isNan diff then (qnan, false)
    else (if flLt l.q r0 then flAdd l.q l.cfg.rampStep else flSub l.q l.cfg.rampStep, false)

/-! ### Supervision, faults and the command (R223, R226, R228 to R231) -/

/-- Count in a loop: 0 SAMPLES, 1 MISSES, 2 FAULTS, 3 SUPPRESSED, 4 ARMED_WAITS, 5 FAULT_INSTANTS. -/
def loopCount (i k : Nat) (m : Module) : Module := m.setLoop i { (m.loop i) with ctr := bump (m.loop i).ctr k }

/-- A loop enters FAULT (R230): 1 NO_MEAS, 2 STALE, 3 MODEL, 4 ARITH, 5 PARITY. -/
def loopFault (i cause n : Nat) (m : Module) : Module :=
  let m := loopCount i 2 (m.setLoop i { (m.loop i) with state := .fault, cause := cause })
  let m := { m with trl := { m.trl with trace := { m.trl.trace with faults := addOnce m.trl.trace.faults i } } }
  let m := event 0x0810 0 [(0, 1, i), (1, 1, cause), (8, 8, n)] m
  if (m.loop i).cfg.flags.getLsbD 2 then raiseCause 3 m else m

/-- The number of a state (Table 10-1). -/
def loopCode : LoopState → Nat
  | .off => 0
  | .armed => 1
  | .ramp => 2
  | .run => 3
  | .fault => 4

/-- What an evaluation gives: the command written, if any; the state it was evaluated in; what the law computed; the
residual. -/
structure Eval where
  m : Module
  cmd : Option W32
  shown : LoopState
  outs : List StageOut := []
  res : W32 := qnan

/-- FAULT_ACTION (R230): what a loop in FAULT writes for an instant. -/
def faultCmd (l : Loop) : Option W32 :=
  if l.cfg.faultAction = 0 then (if l.wrote then some l.lastU else none)
  else if l.cfg.faultAction = 1 then some l.cfg.safeValue
  else none

/-- An instant in FAULT, or at which a loop enters it before a command of the law is written (R230, R237). -/
def faultInstant (i : Nat) (m : Module) : Eval :=
  let m := loopCount i 5 m
  { m := m, cmd := faultCmd (m.loop i), shown := .fault }

/-- A measurement is fresh and finite at an instant (R226). -/
def measFresh (l : Loop) (sn : Snapshot) : Bool :=
  (List.range l.cfg.stages).all (fun s => decide (l.prevAt < (measOf l sn s).time) && isFin (measOf l sn s).val)

/-- The model check (R229): the residual, where there is a history. -/
def residualOf (l : Loop) (y : W32) : Option W32 :=
  if l.cfg.flags.getLsbD 3 then
    l.hist.map (fun h => flAbs (flSub y (flAdd (flAdd (flMul l.cfg.modelA h.1) (flMul l.cfg.modelB h.2)) l.cfg.modelC)))
  else none

/-- The repetitive-controller update (R223). -/
def rcUpdate (l : Loop) (n : Nat) (e : W32) : Tab W32 :=
  let k := n % l.cfg.rcLen
  let x := flAdd (flMul l.cfg.rcForget (l.table.get 0 k)) (flMul l.cfg.rcGain e)
  l.table.put 0 k (flMin (flMax x (flNeg l.cfg.rcLimit)) l.cfg.rcLimit)

/-- The law ran: the loop's new state (R220, R223, R227). -/
def lawState (l : Loop) (n : Nat) (outs : List StageOut) (q : W32) (toRun : Bool) : Loop :=
  let e := ((outs[l.cfg.rcStage]?).map (·.e)).getD 0
  let u := ((outs.getLast?).map (·.u)).getD 0
  { l with
    stage := outs.map (fun o => ⟨o.i, o.sat, o.y⟩)
    q := q, first := false, lastN := n, lastU := u, wrote := true
    table := if l.state = .run && l.cfg.flags.getLsbD 1 && decide (l.cfg.rcStage < l.cfg.stages) then rcUpdate l n e else l.table
    hist := some (((outs[l.cfg.supStage]?).map (·.y)).getD 0, u)
    state := if l.state = .ramp && toRun then .run else l.state }

/-- The law runs, or finds a NaN (R220, R222, R229). -/
def runLaw (i : Nat) (sn : Snapshot) (m : Module) : Eval :=
  let l := m.loop i
  let l := if l.first then { l with holdVal := some (measOf l sn 0).val } else l
  let n := sampleNumber l sn
  let rq := if l.state = .ramp then rampOf l sn else (refOf l sn, false)
  match stagesFrom l sn l.cfg.stages 0 rq.1 with
  | (outs, false) =>
    { faultInstant i (loopFault i 4 n (m.setLoop i { (m.loop i) with lastN := n })) with outs := outs }
  | (outs, true) =>
    let y := ((outs[l.cfg.supStage]?).map (·.y)).getD 0
    let res := residualOf l y
    let bad := match res with
      | some r => isNan r || flLt l.cfg.resMax r
      | none => false
    let cnt := if res.isNone then l.resCnt else if bad then l.resCnt + 1 else 0
    let q := if l.state = .ramp then rq.1 else l.q
    let l2 := { lawState l n outs q rq.2 with resCnt := cnt }
    let m := loopCount i 0 (m.setLoop i l2)
    { m := if bad && decide (l.cfg.resCount ≤ cnt) then loopFault i 3 n m else m
      cmd := some l2.lastU, shown := l.state, outs := outs, res := res.getD qnan }

/-- A sample in RAMP or RUN (R228); a parity error found in the loop faults it first (R230). -/
def sample (i : Nat) (fresh : Bool) (sn : Snapshot) (m : Module) : Eval :=
  let l := m.loop i
  let miss := if fresh then 0 else l.missCnt + 1
  let watch := l.cfg.staleSamples != 0 && l.cfg.refIndex != 0xFFFF
  let stale := if watch && !bankSince sn l.cfg.refIndex l.sampleAt then l.staleCnt + 1 else 0
  let m := m.setLoop i { l with missCnt := miss, staleCnt := stale, sampleAt := sn.us * usUnit }
  let n := sampleNumber l sn
  if l.parity then faultInstant i (loopFault i 5 n m)
  else if !fresh && l.cfg.measMiss ≤ miss then faultInstant i (loopFault i 1 n m)
  else if watch && l.cfg.staleSamples ≤ stale then faultInstant i (loopFault i 2 n m)
  else if !fresh then { m := loopCount i 1 m, cmd := some l.lastU, shown := l.state }
  else runLaw i sn m

/-- A due loop at its instant, by its state (R225, R226, R228, R230). -/
def evaluate (i : Nat) (sn : Snapshot) (m : Module) : Eval :=
  let l := m.loop i
  let fresh := measFresh l sn
  let m := m.setLoop i { l with prevAt := sn.us * usUnit }
  match l.state with
  | .off => { m := m, cmd := none, shown := .off }
  | .fault => faultInstant i m
  | .armed =>
    if fresh then sample i true sn (m.setLoop i { (m.loop i) with state := .ramp, missCnt := 0 })
    else
      let m := m.setLoop i { (m.loop i) with missCnt := l.missCnt + 1 }
      if l.cfg.measMiss ≤ l.missCnt + 1 then faultInstant i (loopFault i 1 (sampleNumber l sn) m)
      else { m := loopCount i 4 m, cmd := none, shown := .armed }
  | .ramp => sample i fresh sn m
  | .run => sample i fresh sn m

/-- The command's bytes (R231). -/
def cmdBytes (c : LoopCfg) (u : W32) : List Byte :=
  let x := (flToInt (flMul u c.outScale)).toInt
  if c.outFormat = 0 then leBytes 4 u.toNat
  else if c.outFormat = 1 then leInt 2 (max (-32768) (min 32767 x))
  else leInt 4 x

/-! ### Launching (R231, R232) -/

/-- Whether two loops write one CAN object or one Ethernet template (R232). -/
def sameTarget (a b : LoopCfg) : Bool :=
  a.outKind = b.outKind && (if a.outKind = 0 then a.outUnit = b.outUnit && a.outObj = b.outObj else a.outTemplate = b.outTemplate)

/-- The object or frame of a loop's group is launched once every writer of the instant has been evaluated; while a writer
wrote nothing it is not, and a suppressed launch is counted in the lowest such writer (R232). -/
def launchGroup (c : LoopCfg) (sn : Snapshot) (m : Module) : Snapshot × Module :=
  let inGroup := fun i => sameTarget (m.loop i).cfg c
  if sn.due.any inGroup then (sn, m)
  else
    let wrote := sn.wrote.filter (fun w => inGroup w.1)
    let silent := sortBy (fun a b => decide (a ≤ b)) (sn.silent.filter inGroup)
    let rest := { sn with wrote := sn.wrote.filter (fun w => !inGroup w.1), silent := sn.silent.filter (fun i => !inGroup i) }
    let at_ := (sn.us + c.launchUs) * usUnit
    match wrote, silent with
    | [], _ => (rest, m)
    | _ :: _, i :: _ => (rest, loopCount i 3 m)
    | _ :: _, [] =>
      if c.outKind = 0 then (rest, canTrellis c.outUnit c.outObj at_ m)
      else
        let frame := wrote.foldl (fun f w => setBytes f (m.loop w.1).cfg.outByte w.2) (m.trl.templates.get [] c.outTemplate)
        (rest, ethOffer c.outUnit c.outObj frame at_ m)

/-! ### Status packets and the trace (R233 to R235) -/

/-- The two-word status packet (R233). -/
def statusPacket (i : Nat) (sn : Snapshot) (ev : Eval) (u : W32) (m : Module) : Module :=
  let l := m.loop i
  match m.trl.statusQ with
  | none => m
  | some q =>
    let v := m.queue q
    if !(producedBy v 2 0 && canAccept v 2) then trlCount 2 m
    else
      let e := if ev.shown = .fault then qnan else ((ev.outs.head?).map (·.e)).getD qnan
      let w0 := i * 2 ^ 58 + loopCode ev.shown * 2 ^ 55 + sampleNumber l sn % 2 ^ 55
      acceptWords q [{ data := BitVec.ofNat 64 w0, tag := mkTag false true false 1, perr := false },
        { data := e ++ u, tag := mkTag false false true 2, perr := false }] m

/-- The value of a quantity (R234). -/
def probeValue (ev : Eval) (p : Probe) : W32 :=
  match p.quantity, ev.outs[p.stage]? with
  | 9, _ => ev.res
  | 10, _ => ev.cmd.getD qnan
  | _, none => qnan
  | 0, some o => o.r
  | 1, some o => o.y
  | 2, some o => o.e
  | 3, some o => o.i
  | 4, some o => o.p
  | 5, some o => o.d
  | 6, some o => o.f
  | 7, some o => o.c
  | _, some o => o.u

/-- The ring stops when no record is left to take (R235). -/
def traceFreeze (m : Module) : Module :=
  let t := m.trl.trace
  match t.trig with
  | some (idx, 0) =>
    if t.frozen then m
    else event 0x0811 0 [(0, 2, idx)] { m with trl := { m.trl with trace := { t with frozen := true, armed := false } } }
  | _ => m

/-- Append a record; the ring keeps 16,384 (R234). -/
def traceAppend (r : TraceRec) (t : Trace) : Trace :=
  let drop := t.ring.length + 1 - 16384
  { t with ring := (t.ring ++ [r]).drop drop, trig := t.trig.map (fun x => (x.1 - drop, x.2 - 1)) }

/-- Whether a record of TRIG_PROBE triggers (R235). -/
def traceHit (t : Trace) (p : Nat) (v : W32) : Bool :=
  p = t.trigProbe &&
    (if t.cond = 1 then flLt t.level v else if t.cond = 2 then flLt v t.level
     else if t.cond = 3 then !t.faults.isEmpty else if t.cond = 4 then t.faults.contains t.trigLoop else false)

/-- One enabled probe of the loop records (R234, R235). -/
def traceProbe (i : Nat) (sn : Snapshot) (ev : Eval) (m : Module) (p : Nat) : Module :=
  let t := m.trl.trace
  let pr := t.probes.getD p {}
  if !t.armed || t.frozen || !t.en.getLsbD p || pr.loop != i then m
  else
    let v := probeValue ev pr
    let at_ := sn.us * usUnit
    let t2 := traceAppend ⟨BitVec.ofNat 32 (secOf at_), BitVec.ofNat 32 (nsOf at_), v, p, loopCode ev.shown⟩ t
    let t3 := if t.trig.isNone && traceHit t p v then { t2 with trig := some (t2.ring.length - 1, t.post) } else t2
    traceFreeze { m with trl := { m.trl with trace := t3 } }

/-! ### LOOP_EVALUATION (R218) -/

/-- The lowest-numbered due loop, in its oldest snapshot (R218). -/
def nextDue (m : Module) : Option (Nat × Nat) :=
  (m.trl.snaps.zipIdx.flatMap (fun s => s.1.due.map (fun i => (i, s.2)))).foldl
    (fun best x => match best with
      | none => some x
      | some b => if x.1 < b.1 then some x else some b) none

/-- Replace the snapshot at a position; one with nothing left goes. -/
def putSnap (k : Nat) (sn : Snapshot) (m : Module) : Module :=
  let l := m.trl.snaps.zipIdx.map (fun s => if s.2 = k then sn else s.1)
  { m with trl := { m.trl with snaps := l.filter (fun s => !(s.due.isEmpty && s.wrote.isEmpty && s.silent.isEmpty)) } }

/-- Evaluate one loop of a snapshot and act on its command (R218, R230 to R235, R373). -/
def evalAct (i k : Nat) (sn : Snapshot) (m : Module) : Module :=
  let c := (m.loop i).cfg
  let ev := evaluate i sn m
  let m := ev.m
  let sn := { sn with due := sn.due.filter (fun j => j != i) }
  let r := match ev.cmd with
    | none => (({ sn with silent := sn.silent ++ [i] } : Snapshot), m)
    | some u =>
      let bs := cmdBytes c u
      let m := m.setLoop i { (m.loop i) with lastU := u, wrote := true }
      let m := if c.outKind = 0 then canPayload c.outUnit c.outObj c.outByte bs m else m
      (({ sn with wrote := sn.wrote ++ [(i, bs)] } : Snapshot), kickSource 2 i m)
  let g := launchGroup c r.1 r.2
  let m := putSnap k g.1 g.2
  let m := match ev.cmd with
    | some u => if c.flags.getLsbD 0 then statusPacket i sn ev u m else m
    | none => m
  (List.range 16).foldl (traceProbe i sn ev) m

/-- Take the ticks up to now, the one that now falls on included. -/
def catchUpNow (m : Module) : Module :=
  if allOff m then m else (List.range (nowUs m - m.trl.lastUs)).foldl (fun m _ => baseTick m) m

/-- Evaluate a loop at every instant up to now, so that each is counted before the loop starts or stops (R237): the loops due are
taken in their order, the lower-numbered ones first (R218). -/
def settleLoop (i : Nat) (m : Module) : Module :=
  let m := catchUpNow m
  (List.range (m.trl.snaps.map (fun s => s.due.length)).sum).foldl (fun m _ =>
    if m.trl.snaps.any (fun s => s.due.contains i) then
      match nextDue m with
      | some (j, k) => (m.trl.snaps[k]?).elim m (fun sn => evalAct j k sn m)
      | none => m
    else m) m

/-- LOOP_EVALUATION (R218, R220). -/
def execLoopEvaluation (s : State) : Res :=
  s.act (fun m =>
    match nextDue m with
    | some (i, k) => (m.trl.snaps[k]?).elim m (fun sn => evalAct i k sn m)
    | none => m)

/-! ### Class 0x08 commands (R236, R237) -/

/-- TRL_CONFIG (R214, R233, R236): an open packet of the old binding is discarded and counted with it (R237). -/
def execTrlConfig (n : Nat) (s : State) : Res :=
  s.act (command 0x0800 n
    (fun ps m =>
      let pq := m.queue (leAt ps 0 2)
      let sq := m.queue (leAt ps 2 2)
      [badLen ps 8, (leAt ps 0 2 > 511 || (leAt ps 2 2 > 511 && leAt ps 2 2 != 0xFFFF), 0x22), resv ps 4 4,
        (!allOff m || pq.state = 0 || !pq.auto || pq.consKind != 2 || pq.consId != 0
          || (leAt ps 2 2 != 0xFFFF && (sq.state = 0 || sq.prodKind != 2)), 0x23)])
    (fun ps m =>
      let m := if m.trl.packet.isSome then discardPacket m else m
      respond n 0 [] { m with trl := { m.trl with
        policyQ := some (leAt ps 0 2), statusQ := if leAt ps 2 2 = 0xFFFF then none else some (leAt ps 2 2) } }))

/-- Whether a loop that is not OFF reads a signal. -/
def signalRead (m : Module) (sig : Nat) : Bool :=
  (List.range 64).any (fun i => let l := m.loop i
    l.state != .off && (l.cfg.stage.take l.cfg.stages).any (fun st => st.meas == sig))

/-- Whether an input map other than k names a signal. -/
def mapNames (m : Module) (k sig : Nat) : Bool :=
  (List.range 128).any (fun i => i != k && (m.trl.maps.get none i).any (fun p => p.signal == sig))

/-- The input map that TRL_INPUT_MAP describes. -/
def inMapOf (ps : List Byte) : InMap :=
  { controller := leAt ps 2 1, object := leAt ps 3 1, byte := leAt ps 4 1, format := leAt ps 5 1, signal := leAt ps 6 2
    scale := BitVec.ofNat 32 (leAt ps 8 4), offset := BitVec.ofNat 32 (leAt ps 12 4) }

/-- TRL_INPUT_MAP (R213, R236). -/
def execTrlInputMap (n : Nat) (s : State) : Res :=
  s.act (command 0x0801 n
    (fun ps m =>
      let p := inMapOf ps
      let k := leAt ps 0 1
      [badLen ps 16, (k > 127 || leAt ps 1 1 > 1 || p.controller > 3 || p.object > 127 || p.byte > 60 || p.format > 3
          || p.signal > 255 || p.byte + mapBytes p.format > 64 || mapNames m k p.signal, 0x22),
        (signalRead m p.signal, 0x23)])
    (fun ps m => respond n 0 [] { m with trl := { m.trl with
      maps := m.trl.maps.put none (leAt ps 0 1) (if leAt ps 1 1 = 1 then some (inMapOf ps) else none) } }))

/-- A binary32 parameter. -/
def f32 (ps : List Byte) (off : Nat) : W32 := BitVec.ofNat 32 (leAt ps off 4)

/-- A stage block (Table 10-5). -/
def stageCfgOf (ps : List Byte) (o : Nat) : StageCfg :=
  { meas := leAt ps o 2, ffIndex := leAt ps (o + 2) 2, kp := f32 ps (o + 4), kit := f32 ps (o + 8), kdt := f32 ps (o + 12)
    kff := f32 ps (o + 16), imin := f32 ps (o + 20), imax := f32 ps (o + 24), umin := f32 ps (o + 28), umax := f32 ps (o + 32)
    iInit := f32 ps (o + 36) }

/-- The configuration of Table 10-4. -/
def loopCfgOf (ps : List Byte) : LoopCfg :=
  { stages := leAt ps 1 1, rcStage := leAt ps 2 1, flags := BitVec.ofNat 4 (leAt ps 3 1), periodUs := leAt ps 4 4
    phaseUs := leAt ps 8 4, launchUs := leAt ps 12 4, refIndex := leAt ps 16 2, staleSamples := leAt ps 18 2, refConst := f32 ps 20
    rampStep := f32 ps 24, safeValue := f32 ps 28, faultAction := leAt ps 32 1, measMiss := leAt ps 33 1, resCount := leAt ps 34 1
    supStage := leAt ps 35 1, modelA := f32 ps 36, modelB := f32 ps 40, modelC := f32 ps 44, resMax := f32 ps 48
    rcLen := leAt ps 52 2, rcLead := leAt ps 54 2, rcGain := f32 ps 56, rcForget := f32 ps 60, rcLimit := f32 ps 64
    outKind := leAt ps 68 1, outUnit := leAt ps 69 1, outObj := leAt ps 70 1, outFormat := leAt ps 71 1, outByte := leAt ps 72 1
    outTemplate := leAt ps 73 1, outScale := f32 ps 76
    stage := (List.range (leAt ps 1 1)).map (fun s => stageCfgOf ps (80 + 48 * s)) }

/-- A parameter is finite and not subnormal (Table 10-3). -/
def paramOk (w : W32) : Bool := isFin w && !isSub w

/-- Size of OUT_FORMAT (R231). -/
def outBytes (c : LoopCfg) : Nat := if c.outFormat = 1 then 2 else 4

/-- A stage block breaks Table 10-5 or the limits of Table 10-3. -/
def stageBad (ps : List Byte) (o : Nat) : Bool :=
  let c := stageCfgOf ps o
  c.meas > 255 || (c.ffIndex > 511 && c.ffIndex != 0xFFFF) || !zeros ((ps.drop (o + 40)).take 8)
    || !([c.kp, c.kit, c.kdt, c.kff, c.imin, c.imax, c.umin, c.umax, c.iInit].all paramOk)
    || !flLe c.imin c.iInit || !flLe c.iInit c.imax || !flLt c.umin c.umax

/-- A parameter of TRL_LOOP_CONFIG is bad (Tables 10-3 to 10-5). -/
def loopBad (ps : List Byte) (c : LoopCfg) : Bool :=
  let last := c.stage.getLastD {}
  leAt ps 0 1 > 63 || c.stages < 1 || c.stages > 3 || (c.rcStage ≥ c.stages && c.rcStage != 0xFF) || leAt ps 3 1 > 15
    || c.periodUs < 25 || c.periodUs > 1000000 || c.phaseUs ≥ c.periodUs || (c.refIndex > 511 && c.refIndex != 0xFFFF)
    || c.faultAction > 2 || c.measMiss < 1 || c.resCount < 1 || c.supStage ≥ c.stages || c.rcLen < 1 || c.rcLen > 4096
    || c.rcLead ≥ c.rcLen || c.outKind > 1 || c.outUnit > 3 || c.outObj > (if c.outKind = 0 then 127 else 7) || c.outFormat > 2
    || c.outByte + outBytes c > (if c.outKind = 0 then 64 else 128)
    || c.outTemplate > (if c.outKind = 0 then 0 else 63) || leAt ps 74 2 != 0
    || !([c.refConst, c.safeValue, c.modelA, c.modelB, c.modelC, c.resMax, c.rcGain, c.rcForget, c.rcLimit, c.outScale].all paramOk)
    || !(c.rampStep = 0x7F800000 || (paramOk c.rampStep && flLt 0 c.rampStep)) || !flLe 0 c.rcLimit
    || (List.range 3).any (fun s => if s < c.stages then stageBad ps (80 + 48 * s) else !zeros ((ps.drop (80 + 48 * s)).take 48))
    || !flLe last.umin c.safeValue || !flLe c.safeValue last.umax

/-- TRL_LOOP_CONFIG (R224, R225, R236). -/
def execTrlLoopConfig (n : Nat) (s : State) : Res :=
  s.act (command 0x0802 n
    (fun ps m =>
      let l := m.loop (leAt ps 0 1)
      [badLen ps 224, (loopBad ps (loopCfgOf ps), 0x22), (l.client.any (fun c => c != n), 0x24), (l.state != .off, 0x23)])
    (fun ps m => respond n 0 [] (m.setLoop (leAt ps 0 1)
      { (m.loop (leAt ps 0 1)) with client := some n, cfg := loopCfgOf ps, table := [], stage := [], parity := false })))

/-- LOOP at 0: in range, last configured by this client. -/
def loopParam (ps : List Byte) (n : Nat) (m : Module) : List (Bool × Nat) :=
  [(leAt ps 0 1 > 63, 0x22), ((m.loop (leAt ps 0 1)).client != some n, 0x24)]

/-- ceil(W(L)) + 1 (R218, R219). -/
def minLaunch (i : Nat) : Nat := (5 + 3 * (i + 2) + 9) / 10 + 1

/-- R219, and the Ethernet output that passes its template (R236), for a loop that has been configured. -/
def startBad (m : Module) (i : Nat) : Bool :=
  let c := (m.loop i).cfg
  (m.loop i).client.isSome &&
    (c.launchUs < minLaunch i || c.launchUs > c.periodUs
      || (c.outKind = 1 && c.outByte + outBytes c > (m.trl.templates.get [] c.outTemplate).length))

/-- Another loop that is not OFF writes the same object or template in a way R232 forbids. -/
def groupBad (m : Module) (i : Nat) : Bool :=
  let c := (m.loop i).cfg
  (List.range 64).any (fun j =>
    let o := (m.loop j).cfg
    j != i && (m.loop j).state != .off && sameTarget c o &&
      (c.periodUs != o.periodUs || c.phaseUs != o.phaseUs || c.launchUs != o.launchUs || c.outUnit != o.outUnit
        || c.outObj != o.outObj || overlaps c.outByte (outBytes c) o.outByte (outBytes o)))

/-- The first-use state (R226). -/
def firstUse (m : Module) (l : Loop) : Loop :=
  { l with
    state := .armed, stage := l.cfg.stage.map (fun s => ⟨s.iInit, 0, 0⟩), q := 0, holdVal := none, startAt := m.time.now
    sampleAt := m.time.now, prevAt := m.time.now, first := true, missCnt := 0, staleCnt := 0, resCnt := 0, hist := none
    wrote := false }

/-- TRL_LOOP_START (R217, R219, R226, R232, R236). -/
def execTrlLoopStart (n : Nat) (s : State) : Res :=
  s.act (command 0x0803 n
    (fun ps m =>
      let i := leAt ps 0 1
      [badLen ps 8, resv ps 1 7, (startBad m i, 0x22)] ++ loopParam ps n m ++
        [(((m.loop i).state != .off && (m.loop i).state != .fault) || !m.time.stepClosed || groupBad m i, 0x23),
          (entering m, 0x10)])
    (fun ps m =>
      let i := leAt ps 0 1
      let m := settleLoop i m
      let m := if allOff m then { m with trl := { m.trl with lastUs := nowUs m } } else m
      respond n 0 [] (m.setLoop i (firstUse m (m.loop i)))))

/-- A loop that stops writes for no instant any more; a launch that waited for it alone goes out (R225, R232). -/
def dropWriter (i : Nat) (m : Module) : Module :=
  let c := (m.loop i).cfg
  let drop := fun (sn : Snapshot) => { sn with
    due := sn.due.filter (fun j => j != i), wrote := sn.wrote.filter (fun w => w.1 != i), silent := sn.silent.filter (fun j => j != i) }
  let had := fun (sn : Snapshot) => sn.due.contains i || sn.silent.contains i || sn.wrote.any (fun w => w.1 == i)
  let r := m.trl.snaps.foldl (fun (r : List Snapshot × Module) sn =>
    if had sn then let g := launchGroup c (drop sn) r.2; (r.1 ++ [g.1], g.2) else (r.1 ++ [sn], r.2)) ([], m)
  { r.2 with trl := { r.2.trl with snaps := r.1.filter (fun s => !(s.due.isEmpty && s.wrote.isEmpty && s.silent.isEmpty)) } }

/-- TRL_LOOP_STOP (R225, R236). -/
def execTrlLoopStop (n : Nat) (s : State) : Res :=
  s.act (command 0x0804 n
    (fun ps m => [badLen ps 8, resv ps 1 7] ++ loopParam ps n m)
    (fun ps m =>
      let i := leAt ps 0 1
      let m := settleLoop i m
      respond n 0 [] (dropWriter i (m.setLoop i { (m.loop i) with state := .off }))))

/-- LOOP, FIRST and COUNT of the table commands. -/
def rcParam (ps : List Byte) : Bool × Nat :=
  (leAt ps 1 1 != 0 || leAt ps 6 2 != 0 || leAt ps 4 2 < 1 || leAt ps 4 2 > 64 || leAt ps 2 2 + leAt ps 4 2 > 4096, 0x22)

/-- TRL_RC_LOAD (R224, R236). -/
def execTrlRcLoad (n : Nat) (s : State) : Res :=
  s.act (command 0x0805 n
    (fun ps m =>
      let l := m.loop (leAt ps 0 1)
      [(decide (ps.length < 6), 0x21), badLen ps (8 + 4 * leAt ps 4 2), rcParam ps] ++ loopParam ps n m ++
        [(l.state != .off && l.state != .fault, 0x23)])
    (fun ps m =>
      let l := m.loop (leAt ps 0 1)
      respond n 0 [] (m.setLoop (leAt ps 0 1) { l with
        table := Tab.putRow (0 : W32) l.table (leAt ps 2 2) ((List.range (leAt ps 4 2)).map (fun j => f32 ps (8 + 4 * j))) })))

/-- TRL_RC_READ (R224, R236). -/
def execTrlRcRead (n : Nat) (s : State) : Res :=
  s.act (command 0x0806 n
    (fun ps m => [badLen ps 8, rcParam ps] ++ loopParam ps n m)
    (fun ps m => respond n 0 ((Tab.row (0 : W32) (m.loop (leAt ps 0 1)).table (leAt ps 2 2) (leAt ps 4 2)).flatMap
      (fun w => leBytes 4 w.toNat)) m))

/-- TRL_SIGNAL_SET (R213, R236). -/
def execTrlSignalSet (n : Nat) (s : State) : Res :=
  s.act (command 0x0807 n
    (fun ps m => [badLen ps 8, (leAt ps 0 2 > 255, 0x22), resv ps 2 2, (mapNames m 128 (leAt ps 0 2), 0x23)])
    (fun ps m => respond n 0 [] (setSignal (leAt ps 0 2) (f32 ps 4) m.time.now m)))

/-- TRL_TEMPLATE (R231, R236). -/
def execTrlTemplate (n : Nat) (s : State) : Res :=
  s.act (command 0x0808 n
    (fun ps m =>
      let k := leAt ps 0 1
      [(decide (ps.length < 2), 0x21), badLen ps (8 + leAt ps 1 1), (k > 63 || leAt ps 1 1 < 60 || leAt ps 1 1 > 128, 0x22),
        resv ps 2 6,
        ((List.range 64).any (fun i => let l := m.loop i
          l.state != .off && l.cfg.outKind == 1 && l.cfg.outTemplate == k), 0x23)])
    (fun ps m => respond n 0 [] { m with trl := { m.trl with templates := m.trl.templates.put [] (leAt ps 0 1) (ps.drop 8) } }))

/-- Probe i of TRL_TRACE_CONFIG. -/
def probeOf (ps : List Byte) (i : Nat) : Probe := ⟨leAt ps (16 + 4 * i) 1, leAt ps (17 + 4 * i) 1, leAt ps (18 + 4 * i) 1⟩

/-- TRIG_PROBE, COND, TRIG_LOOP, FLAGS or a probe out of range. -/
def traceBad (ps : List Byte) : Bool :=
  leAt ps 2 1 > 15 || leAt ps 3 1 > 4 || leAt ps 4 1 > 63 || leAt ps 5 1 > 3 || leAt ps 12 4 != 0
    || (List.range 16).any (fun i => let p := probeOf ps i
        p.loop > 63 || p.stage > 2 || p.quantity > 10 || leAt ps (19 + 4 * i) 1 != 0)

/-- TRL_TRACE_CONFIG (R235, R236): FLAGS bit 0 re-arms and discards the ring; bit 1 triggers now. -/
def execTrlTraceConfig (n : Nat) (s : State) : Res :=
  s.act (command 0x0809 n
    (fun ps _ => [badLen ps 80, (traceBad ps, 0x22)])
    (fun ps m =>
      let t := { m.trl.trace with
        en := BitVec.ofNat 16 (leAt ps 0 2), probes := (List.range 16).map (probeOf ps), trigProbe := leAt ps 2 1, cond := leAt ps 3 1
        trigLoop := leAt ps 4 1, post := leAt ps 6 2, level := f32 ps 8 }
      let t := if leAt ps 5 1 % 2 = 1 then { t with armed := true, frozen := false, trig := none, faults := [], ring := [] } else t
      let t := if leAt ps 5 1 / 2 = 1 && t.armed && !t.frozen && t.trig.isNone then
        { t with trig := some (t.ring.length - 1, t.post) } else t
      respond n 0 [] (traceFreeze { m with trl := { m.trl with trace := t } })))

/-- A trace record (R234). -/
def traceBytes (r : TraceRec) : List Byte := fields 16 [(0, 4, r.sec.toNat), (4, 4, r.ns.toNat), (8, 4, r.value.toNat), (12, 1, r.probe), (13, 1, r.state)]

/-- TRL_TRACE_READ (R236). -/
def execTrlTraceRead (n : Nat) (s : State) : Res :=
  s.act (command 0x080A n
    (fun ps _ => [badLen ps 8, (leAt ps 0 2 ≥ 16384, 0x22), resv ps 2 6])
    (fun ps m =>
      let r := (m.trl.trace.ring.drop (leAt ps 0 2)).take 16
      respond n 0 (fields 8 [(0, 1, r.length)] ++ r.flatMap traceBytes) m))

/-- The TRL_STATUS response (Table 10-6). -/
def loopData (m : Module) (i : Nat) : List Byte :=
  let l := m.loop i
  let c := fun k => l.ctr.get 0 k
  let t := fun k => m.trl.ctr.get 0 k
  fields 56 [(0, 1, loopCode l.state), (1, 1, l.cause), (8, 8, l.lastN), (16, 4, l.lastU.toNat), (20, 4, c 0), (24, 4, c 1),
    (28, 4, c 2), (32, 4, c 3), (36, 4, t 0), (40, 4, t 1), (44, 4, t 2), (48, 4, c 4), (52, 4, c 5)]

/-- TRL_STATUS (R237). -/
def execTrlStatus (n : Nat) (s : State) : Res :=
  s.act (command 0x080B n
    (fun ps _ => [badLen ps 8, (leAt ps 0 1 > 63 || leAt ps 1 1 > 1, 0x22), resv ps 2 6])
    (fun ps m =>
      let i := leAt ps 0 1
      let d := loopData m i
      respond n 0 d (if leAt ps 1 1 = 1 then
          { m.setLoop i { (m.loop i) with ctr := [] } with trl := { (m.setLoop i { (m.loop i) with ctr := [] }).trl with ctr := [] } }
        else m)))

end Sys2Proof.Machine
end

