-- ==== Sys2Proof/Machine/Power.lean ====
section
/-!
DEFINITION. Power domains and clocks (chapter 16): what a domain loses when it is off (R337), the ageing log and the
self-test that several chapters use (R54, R56, R354), who refuses (R339, R382, R350), entries to Hold, Sleep and Off (R340,
R341), wakes (R343, R344), the hold latches (R345, R346) and the class 0x02 commands (R349 to R351).
-/

namespace Sys2Proof.Machine

/-! ### The log and the self-test (R54, R56, R354) -/

/-- The self-test of a core (R54): the physical engines it finds failed, and the graft table they give. -/
def selfTest (c : Nat) (found : List Nat) (m : Module) : Module :=
  let m := withdrawBad c (found.foldl (engineFails c 0) m)
  m.updCore c (fun v => { v with tested := true, graft := graftOf v.failed })

/-- What a list of (core, physical engine) says of one core. -/
def foundOn (found : List (Nat × Nat)) (c : Nat) : List Nat := (found.filter (fun p => p.1 == c)).map Prod.snd

/-! ### Domains (R335, R337) -/

/-- The domains of Table 16-1 that exist. -/
def validDomain (m : Module) (d : Nat) : Bool := d < nCores m || (32 ≤ d && d < 50)

/-- The domains a state keeps on (Table 16-1); Off keeps PD_CP and PD_AON until its cut-off (R340). -/
def keeps (target : Nat) : List Nat :=
  if target = 2 then [36, 37, 38, 40, 41, 42, 43, 45, 47, 48, 49] else if target = 3 then [37, 47, 49] else [37, 49]

/-- The Ethernet links are down (R419, R292). -/
def ethDown (m : Module) : Module :=
  (List.range 4).foldl (fun m p =>
    if (m.port p).link then event 0x0913 0 [(0, 1, p)] (m.setPort p { (m.port p) with link := false }) else m) m

/-- A domain is switched off (R337, R419): a core's and a quadrant's contents are lost, and a port's links go down. -/
def domainOff (m : Module) (d : Nat) : Module :=
  let m := { m with power := { m.power with on := setBit m.power.on d false } }
  if d < 32 then coreOff d m
  else if d < 36 then { m with mem := memClear m.mem (storeBase + (d - 32) * quadBytes) quadBytes }
  else if d = 47 then (List.range 4).foldl canCut m
  else if d = 43 then setLink 0 0 m
  else if d = 44 then (List.range 4).foldl (fun m r => runnerFails r m) m
  else if d = 45 then ethDown m
  else m

/-- A chip-store quadrant is written to zero (R337), whatever it held. -/
def zeroQuad (q : Nat) (m : Module) : Module := { m with mem := memClear m.mem (storeBase + q * quadBytes) quadBytes }

/-- A domain is switched on (R337): a quadrant is written to zero before any access, and a core repeats its self-test. -/
def domainOn (found : List (Nat × Nat)) (m : Module) (d : Nat) : Module :=
  if domOn m d then m
  else
    let m := { m with power := { m.power with on := setBit m.power.on d true } }
    if d < 32 then selfTest d (foundOn found d) m
    else if d < 36 then zeroQuad (d - 32) m
    else m

/-- The domains a target switches off now, in descending ID. -/
def toSwitch (m : Module) (target : Nat) : List Nat :=
  ((List.range 50).filter (fun d => domOn m d && !(keeps target).contains d)).reverse

/-! ### Refusals (Table 16-2, R382) -/

/-- The jobs admitted, with the unit that refuses for each: the lowest logical core of its mask. -/
def jobRefusal (m : Module) : Option (Nat × Nat × Nat) :=
  (List.range 32).findSome? (fun c =>
    (m.sched.jobs.find? (fun j => j.state != .queued && (bitsOf j.mask).head? == some c)).map (fun j => (c, 1, j.ctx)))

/-- The first of some numbers that meets a test, as a refusal. -/
def refuseFirst (n unit reason : Nat) (p : Nat → Bool) : Option (Nat × Nat × Nat) :=
  ((List.range n).find? p).map (fun i => (unit, reason, i))

/-- The chip-store quadrant a range touches. -/
def inQuad (q a n : Nat) : Bool := overlaps a n (storeBase + q * quadBytes) quadBytes

/-- Whether a quadrant holds something that is in use (Table 16-2, unit 0x2A). -/
def quadUsed (m : Module) (q : Nat) : Bool :=
  (List.range 512).any (fun i => (m.queue i).state != 0 && (queueRegions (m.queue i)).any (fun r => inQuad q r.1 r.2))
    || (List.range 256).any (fun w => (m.window w).state = 1 && inQuad q (m.window w).base (2 ^ (m.window w).log2))
    || (List.range 16).any (fun i =>
      let c := (m.stream i).cfg
      (m.stream i).state != 0 && c.conceal = 2 && inQuad q c.refBase (c.wIn * c.hIn * channelsOf i c))
    || (List.range 4).any (fun p => (List.range 16).any (fun f =>
      match (m.port p).filters.get none f with | some v => inQuad q v.base (64 + v.slots * 2048) | none => false))

/-- The safety policy (R382). -/
def safetyForbids (m : Module) (target : Nat) : Bool :=
  (target != 2 && !m.safety.asserted)
    || (List.range 64).any (fun k =>
      let w := m.safety.wdogs.get {} k
      (w.state = 1 || w.state = 2) && !(target = 2 && (w.source = 2 || w.source = 5)))

/-- A loop that is not OFF, a running stream, a runner not down, a running transmit port: the units' refusals. -/
def loopRefusal (m : Module) : Option (Nat × Nat × Nat) := refuseFirst 64 0x22 5 (fun i => (m.loop i).state != .off)
def streamRefusal (m : Module) : Option (Nat × Nat × Nat) := refuseFirst 16 0x21 4 (fun i => (m.stream i).state = 2)
def runnerRefusal (m : Module) : Option (Nat × Nat × Nat) := refuseFirst 4 0x25 7 (fun r => (m.runner r).state != 0)
def txRefusal (m : Module) : Option (Nat × Nat × Nat) := refuseFirst 2 0x28 9 (fun p => (m.txPort p).running)

/-- A port whose launch-time queues hold a frame refuses (Table 16-2, unit 0x26). -/
def holdsLaunch (m : Module) (p : Nat) : Bool := (List.range 8).any (fun q => !(m.lq p q).frames.isEmpty)

/-- Who refuses a target, in ascending unit ID (R339): unit, reason, object. -/
def refusal (m : Module) (target : Nat) (park : Bool) : Option (Nat × Nat × Nat) :=
  let deep := target != 2
  ([if park then none else jobRefusal m,
    refuseFirst 32 0x20 2 (kvBusy m),
    if deep then (m.host.deferred.head?).map (fun d => (0x20, 3, d.client)) else none,
    streamRefusal m,
    if deep then loopRefusal m else none,
    if deep then refuseFirst 512 0x23 6 (fun q => (m.queue q).state = 1 && occupancy (m.queue q) != 0) else none,
    runnerRefusal m,
    if deep then refuseFirst 4 0x26 8 (holdsLaunch m) else none,
    txRefusal m,
    if safetyForbids m target then some (0x29, 10, 0) else none,
    refuseFirst 4 0x2A 11 (quadUsed m)]).findSome? id

/-- A 16-bit counter by unit that saturates (R351). -/
def bump16 (t : Tab Nat) (k : Nat) : Tab Nat := t.put 0 k (min 0xFFFF (t.get 0 k + 1))

/-- A refusal is recorded and counted (R339). -/
def recordRefusal (r : Nat × Nat × Nat) (m : Module) : Module :=
  { m with power := { m.power with
    lastRefuser := r.1, lastReason := r.2.1, lastObject := r.2.2, refusedBy := bump16 m.power.refusedBy r.1 } }

/-! ### Entries (R340, R341) -/

/-- Step 2 of R340: every dispatched job is asked to park, and the state that cores hold in place is written to its save
slots. -/
def parkAll (m : Module) : Module :=
  let m := (List.range 32).foldl (fun m c => evict c 0 m) m
  (m.sched.jobs.map (·.id)).foldl (fun m id => parkJob id m) m

/-- An entry is accepted (R340). -/
def startEntry (target unit : Nat) (m : Module) : Module :=
  parkAll { m with power := { m.power with entry := some target, entryUnit := unit, parked := 0, abortDue := none } }

/-- Whether parking is complete: no job dispatched, and every core drained. -/
def allParked (m : Module) : Bool :=
  m.sched.jobs.all (fun j => j.state != .dispatched) && (List.range 32).all (coreDrained m)

/-- STATE of Table 16-9: Idle while no job is dispatched in Run (R336). -/
def stateCode (m : Module) : Nat :=
  if m.power.state = 0 && m.sched.jobs.all (fun j => j.state != .dispatched) then 1 else m.power.state

/-- The payload of a PWR_STATE completion (Table 16-10). -/
def statePayload (m : Module) (unit reason parked : Nat) : List Byte :=
  fields 24 [(0, 1, stateCode m), (1, 1, unit), (2, 1, reason), (4, 2, min parked 0xFFFF)]

/-- A latch captures its signal's level (R345); one that is held keeps its own. -/
def hold (p : Power) (i : Nat) (level : Bool) : Power :=
  if p.latches.getLsbD i then p else { p with latches := setBit p.latches i true, levels := setBit p.levels i level }

/-- The latches that capture when an entry to a target isolates its domains (R345, Table 16-6, R340): PD_SAFE's for Sleep and Off,
PD_LS's, recessive, for Off. PD_AON's captures at the cut-off. -/
def capture (target : Nat) (p : Power) (asserted : Bool) : Power :=
  if target = 2 then p
  else
    let p := hold p 0 (!asserted)
    if target = 3 then p else [1, 2, 3, 4].foldl (fun p i => hold p i true) p

/-- The module is in another state (R351): event 0x0210. A wake from Hold to Hold changes none. -/
def stateIs (new cause : Nat) (m : Module) : Module :=
  if m.power.state = new then m
  else event 0x0210 0 [(0, 1, m.power.state), (1, 1, new), (2, 1, cause)] { m with power := { m.power with state := new } }

/-- Steps 3 to 6 of R340. A golden slot that runs ends here without a verdict, for no unit ends it (notes/assumptions/47). -/
def finishEntry (target : Nat) (m : Module) : Module :=
  let m := { m with power := capture target m.power m.safety.asserted }
  let m := (toSwitch m target).foldl domainOff m
  let old := m.power.state
  let m := { m with
    power := { m.power with
      entry := none, state := target, onFio := m.power.onFio || target != 2
      offAt := if target = 4 then some m.time.elapsed else none }
    safety := { m.safety with gtPending := [], gtJobs := [] }
    mem := { m.mem with selfRefresh := target != 2 } }
  let m := finish 0x0201 0 0 (statePayload m 0xFF 0 m.power.parked) m
  event 0x0210 0 [(0, 1, old), (1, 1, target), (2, 1, m.power.entryUnit)] m

/-- POWER_ENTRY_COMPLETE (R340). -/
def execPowerEntryComplete (s : State) : Res :=
  s.gragor (fun m =>
    match m.power.entry with
    | some t => if allParked m && m.power.abortDue.isNone then finishEntry t m else m
    | none => m)

/-- Whether an engine of a core has not stopped 1 ms after its forced pre-emption began (R341). -/
def notQuiet (m : Module) (c : Nat) : Bool :=
  match ((m.core c).job).bind (findJob m) with
  | some j =>
    match j.forcedAt with
    | some t => passed m t msUnit
        && (bitsOf (m.core c).mask).any (fun e => !stoppedFor true (m.eng c e) || (m.eng c e).inflight != 0)
    | none => false
  | none => false

/-- Who caused an abort, if it may happen now (R341). -/
def abortCause (reason unit : Nat) (m : Module) : Option Nat :=
  if reason = 16 then m.power.abortDue
  else if reason = 17 then (if unit < 32 && notQuiet m unit then some unit else none)
  else if reason = 18 then some 0x2C else none

/-- An entry is aborted (R341): the domains it has switched off, the first `off` of them, are switched on again. -/
def abortEntry (target reason unit off : Nat) (found : List (Nat × Nat)) (m : Module) : Module :=
  let ds := (toSwitch m target).take off
  let m := ds.reverse.foldl (domainOn found) (ds.foldl domainOff m)
  let m := { m with
    power := { m.power with
      entry := none, abortDue := none, lastAborter := unit, abortReason := reason, abortedBy := bump16 m.power.abortedBy unit }
    sched := { m.sched with due := true } }
  finish 0x0201 0 0x30 (statePayload m unit reason m.power.parked) m

/-- POWER_ENTRY_ABORT (R341): `off` domains have been switched off, which follows the parking. -/
def execPowerEntryAbort (reason unit off : Nat) (failed : List (Nat × Nat)) (s : State) : Res :=
  s.gragor (fun m =>
    match m.power.entry, abortCause reason unit m with
    | some t, some u => if off = 0 || allParked m then abortEntry t reason u off failed m else m
    | _, _ => m)

/-- POWER_ENTRY_REQUEST (R338, R339, R351): an internal request for Hold is asked of the units, always with PARK. In Hold it has
reached its state; outside Run it waits. -/
def execPowerEntryRequest (fromSafety : Bool) (s : State) : Res :=
  s.gragor (fun m =>
    let who := if fromSafety then 2 else 1
    if !m.power.waiting.contains who || m.power.entry.isSome || m.power.waking.isSome then m
    else
      let taken := { m with power := { m.power with waiting := m.power.waiting.erase who } }
      if m.power.state = 2 then taken
      else if m.power.state != 0 then m
      else match refusal taken 2 true with
        | some r => recordRefusal r taken
        | none => startEntry 2 (if fromSafety then 0x29 else 0x20) taken)

/-! ### Wakes (R343, R344) -/

/-- WAKE_AT (R343, R291): network time has reached it. -/
def execWakeAt (s : State) : Res :=
  s.act (fun m =>
    match m.power.wakeAt with
    | some t =>
      if m.power.wakeMask.getLsbD 1 && decide (t ≤ m.time.now) && domOn m 49
          && (m.power.entry = some 2 || m.power.entry = some 3 || (m.power.entry.isNone && (m.power.state = 2 || m.power.state = 3))) then
        wakeTowards 0x2C m.power.wakeTo { m with power := { m.power with wakeAt := none } }
      else m
    | none => m)

/-- The latch of SAFE_FAULT# is released: its block drives the held level (R344 step 6, R346). -/
def releaseSafe (m : Module) : Module :=
  if m.power.levels.getLsbD 0 == !m.safety.asserted then
    { m with power := { m.power with latches := setBit m.power.latches 0 false } }
  else m

/-- Steps 1 to 4 of R344: from Sleep to Hold's domains, with what was copied restored. -/
def leaveSleep (m : Module) : Module :=
  let m := [48, 36, 41, 42, 40].foldl (domainOn []) m
  let m := { m with power := { m.power with onFio := false }, mem := { m.mem with selfRefresh := false } }
  let m := (List.range 512).foldl (fun m q => if (m.queue q).state = 1 then comparePos q m else m) m
  let m := [38, 45, 43].foldl (domainOn []) m
  servoTo 0 { m with time := { m.time with inLock := 0, outLock := 0 } }

/-- Step 5 of R344: the domains of Run, but for those switched off by PWR_DOMAIN and cores held out of service. -/
def runDomains (m : Module) : List Nat :=
  (List.range 47).filter (fun d => validDomain m d && !m.power.offByCmd.getLsbD d
    && !(d < 32 && ((m.core d).marginHeld || (m.core d).thermalHeld)))

/-- WAKE_SEQUENCE (R344): `failed` is what the self-tests of the cores switched on find. -/
def execWakeSequence (failed : List (Nat × Nat)) (s : State) : Res :=
  s.gragor (fun m =>
    match m.power.waking with
    | some t =>
      let m := if m.power.state = 3 then leaveSleep m else m
      let m := if t = 0 then (runDomains m).foldl (domainOn failed) m else m
      let m := releaseSafe { m with safety := { m.safety with gtLast := goldenInstant m } }
      let m := stateIs t m.power.wakeCause { m with power := { m.power with waking := none }, sched := { m.sched with due := true } }
      finish 0x0201 0 0 (statePayload m 0xFF 0 0) m
    | none => m)

/-! ### Class 0x02 commands (R349 to R351) -/

/-- PWR_STATUS (Table 16-9). -/
def execPwrStatus (n : Nat) (s : State) : Res :=
  s.act (command 0x0200 n
    (fun ps _ => [badLen ps 8, (leAt ps 0 1 > 1, 0x22), resv ps 1 7])
    (fun ps m =>
      let p := m.power
      let data := fields 24 [(0, 1, stateCode m), (1, 1, p.entry.getD 0xFF), (2, 1, p.wakeCause), (3, 1, p.latches.toNat),
          (4, 1, p.lastRefuser), (5, 1, p.lastReason), (6, 2, p.lastObject), (8, 8, p.on.toNat), (16, 1, p.lastAborter),
          (17, 1, p.abortReason), (20, 4, p.wakeMask.toNat)]
        ++ (List.range 45).flatMap (fun u => leBytes 2 (p.refusedBy.get 0 u))
        ++ (List.range 45).flatMap (fun u => leBytes 2 (p.abortedBy.get 0 u)) ++ leBytes 4 0
      respond n 0 data (if leAt ps 0 1 = 1 then
        { m with power := { p with
          refusedBy := [], abortedBy := [], lastRefuser := 0xFF, lastReason := 0xFF, lastObject := 0xFFFF, lastAborter := 0xFF
          abortReason := 0xFF } }
        else m)))

/-- Whether a target is a wake (Table 16-3): Run from Hold or Sleep, Hold from Sleep. -/
def isWake (m : Module) (target : Nat) : Bool := m.power.state != 0 && (target = 0 || (target = 2 && m.power.state = 3))

/-- PWR_STATE (R338 to R344): deferred. -/
def execPwrState (n : Nat) (s : State) : Res :=
  s.act (command 0x0201 n
    (fun ps m =>
      let t := leAt ps 0 1
      [badLen ps 8, (t = 1 || t > 4 || leAt ps 1 1 > 1, 0x22), resv ps 2 6, (notHostSafety n, 0x24),
        (t = m.power.state, 0x23), (entering m || m.power.waking.isSome || m.power.state = 4, 0x10),
        (decide ((m.host.deferred.filter (fun d => d.client == n)).length ≥ 256), 0x10)])
    (fun ps m =>
      let t := leAt ps 0 1
      if isWake m t then accept n 0 (wakeTowards 0x20 t) m
      else match refusal m t (leAt ps 1 1 = 1) with
        | some r => respond n 0x25 [] (recordRefusal r m)
        | none => accept n 0 (startEntry t 0x20) m))

/-- The domains PWR_DOMAIN switches (R350). -/
def switchable (m : Module) (d : Nat) : Bool :=
  d < nCores m || (32 ≤ d && d < 36) || d = 38 || d = 39 || d = 44 || d = 45 || d = 46

/-- Who refuses to have a domain switched off (R350). -/
def domainRefusal (m : Module) (d : Nat) : Option (Nat × Nat × Nat) :=
  if d < 32 then (m.sched.jobs.find? (fun j => j.mask.getLsbD d)).map (fun j => (d, 1, j.ctx))
  else if d < 36 then (if quadUsed m (d - 32) then some (0x2A, 11, d - 32) else none)
  else if d = 38 then loopRefusal m
  else if d = 39 then streamRefusal m
  else if d = 44 then runnerRefusal m
  else if d = 45 then refuseFirst 4 0x26 8 (fun p => holdsLaunch m p || (m.port p).enable)
  else txRefusal m

/-- A domain is switched off by PWR_DOMAIN, and stays off (R344, R350). -/
def switchOff (d : Nat) (m : Module) : Module :=
  domainOff { m with power := { m.power with offByCmd := setBit m.power.offByCmd d true } } d

/-- A switch is accepted (R350): a domain that goes off is off from now on. -/
def startSwitch (d : Nat) (on : Bool) (m : Module) : Module :=
  let m := if on then m else switchOff d m
  { m with power := { m.power with domainReq := m.power.domainReq ++ [(d, on)] } }

/-- PWR_DOMAIN (R350): deferred. -/
def execPwrDomain (n : Nat) (s : State) : Res :=
  s.act (command 0x0202 n
    (fun ps m =>
      [badLen ps 8, (!switchable m (leAt ps 0 1) || leAt ps 1 1 > 1, 0x22), resv ps 2 6, (notHostSafety n, 0x24),
        (m.power.state != 0 || entering m, 0x23),
        (decide ((m.host.deferred.filter (fun d => d.client == n)).length ≥ 256), 0x10)])
    (fun ps m =>
      let d := leAt ps 0 1
      match if leAt ps 1 1 = 0 then domainRefusal m d else none with
      | some r => respond n 0x25 [] (recordRefusal r m)
      | none => accept n d (startSwitch d (leAt ps 1 1 = 1)) m))

/-- Whether a domain that is switched on is usable now: in Run, and not a core that is held (R350, R360, R362). -/
def usable (m : Module) (d : Nat) : Bool :=
  m.power.state = 0 && m.power.entry.isNone && !(d < 32 && ((m.core d).marginHeld || (m.core d).thermalHeld))

/-- A domain that PWR_DOMAIN switches on is on (R337, R54), but where a later command has switched it off: it is then off again
(notes/assumptions/45). -/
def switchOn (found : List Nat) (d : Nat) (m : Module) : Module :=
  let m := domainOn (found.map (fun p => (d, p))) { m with power := { m.power with offByCmd := setBit m.power.offByCmd d false } } d
  if (m.power.domainReq.find? (fun r => r.1 == d)).any (fun r => !r.2) then switchOff d m else m

/-- PWR_DOMAIN_COMPLETE (R350, R337, R54): the oldest switch of domain d, which completes when a domain switched on is usable;
`failed` is what a core's self-test finds. -/
def execPwrDomainComplete (d : Nat) (failed : List Nat) (s : State) : Res :=
  s.gragor (fun m =>
    match m.power.domainReq.find? (fun r => r.1 == d) with
    | none => m
    | some r =>
      if r.2 && !usable m d then m
      else
        let m := { m with power := { m.power with domainReq := m.power.domainReq.erase r } }
        let m := if r.2 then switchOn failed d m else m
        finish 0x0202 d 0 [] { m with sched := { m.sched with due := true } })

/-- PWR_WAKE_CONFIG (R343). -/
def execPwrWakeConfig (n : Nat) (s : State) : Res :=
  s.act (command 0x0203 n
    (fun ps _ =>
      [badLen ps 24, (leAt ps 0 4 > 63 || (leAt ps 4 1 != 0 && leAt ps 4 1 != 2) || leAt ps 16 4 ≥ 1000000000, 0x22),
        resv ps 5 3, resv ps 20 4, (notHostSafety n, 0x24)])
    (fun ps m => respond n 0 [] { m with power := { m.power with
      wakeMask := BitVec.ofNat 6 (leAt ps 0 4), wakeTo := leAt ps 4 1, wakeAt := some (instant (leAt ps 8 8) (leAt ps 16 4)) } }))

/-- The present frequency of each clock domain in kHz (Table 16-7); 0 when stopped. -/
def clockTable (m : Module) : List Nat :=
  let on := fun d f => if domOn m d then f else 0
  let eng := if stateCode m = 0 && (List.range 32).any (domOn m) then (if m.power.bin = 0 then 2200000 else 1760000) else 0
  let ddr := domOn m 41 || domOn m 42
  [eng, eng, on 36 1100000, if (List.range 4).any (fun q => domOn m (32 + q)) then 1100000 else 0,
    on 37 (if m.power.onFio then 200000 else 1100000), on 40 1100000, on 43 1100000, on 44 1100000,
    if ddr then 1600000 else 0, if ddr then 800000 else 0, on 39 550000, on 38 550000, on 48 550000, on 49 400000, on 46 400000,
    on 45 400000, on 47 80000, on 49 100000]

/-- CLK_STATUS (R349). -/
def execClkStatus (n : Nat) (s : State) : Res :=
  s.act (command 0x0204 n
    (fun ps _ => [badLen ps 8, resv ps 0 8])
    (fun _ m => respond n 0 ((clockTable m).flatMap (leBytes 4) ++ leBytes 1 (if m.power.onFio then 3 else 0)) m))

end Sys2Proof.Machine
end

