-- ==== Sys2Proof/Machine/Health.lean ====
section
/-!
DEFINITION. Health, ageing and profiles (chapter 17): the monitors (R352, R353), the ageing log (R354 to R356), the margin
planner (R357, R358), frequency bins (R359 to R361), thermal responses (R362, R363), stored profiles (R365, R366) and the class
0x01 commands (R367, R368).
-/

namespace Sys2Proof.Machine

/-! ### The profile in use (R365, R366) -/

/-- Whether a profile is valid as number i (R365, Table 17-3). -/
def profileValid (i : Nat) (bs : List Byte) : Bool :=
  bs.length = 128 && leAt bs 0 4 = 0x4B5A5046 && leAt bs 4 2 = 1 && leAt bs 6 1 = i && leAt bs 7 1 < 4
    && leAt bs 24 4 < 2 ^ 30 && 70 ≤ leAt bs 28 1 && leAt bs 28 1 ≤ 105 && 80 ≤ leAt bs 29 1 && leAt bs 29 1 ≤ 115
    && leAt bs 28 1 < leAt bs 29 1 && leAt bs 30 1 ≤ 2 && (leAt bs 31 1 = 0 || leAt bs 31 1 = 2) && leAt bs 32 4 < 64
    && zeros ((bs.drop 36).take 88) && leAt bs 124 4 = (crc32c (bs.take 124)).toNat

/-- The default profile (R366). -/
def defaultProfile : List Byte := fields 128 [(28, 1, 100), (29, 1, 110)]

/-- The bytes of the profile in use. -/
def profileBytes (m : Module) : List Byte := match m.health.profile with | some p => p.2 | none => defaultProfile

def warnAt (m : Module) : Int := (leAt (profileBytes m) 28 1 : Nat)
def hotAt (m : Module) : Int := (leAt (profileBytes m) 29 1 : Nat)
def binPolicy (m : Module) : Nat := leAt (profileBytes m) 30 1
/-- DEBUG_LOCK of the profile in use. -/
def locked (m : Module) : Bool := leAt (profileBytes m) 7 1 % 2 = 1

/-! ### The margin planner (R357, R358) -/

/-- The plan of core c, or of store quadrant q at 32 + q. -/
def Module.plan (m : Module) (i : Nat) : Plan17 := m.health.plans.get {} i
def Module.setPlan (m : Module) (i : Nat) (v : Plan17) : Module :=
  { m with health := { m.health with plans := m.health.plans.put {} i v } }

/-- The temperature sensor of a core (its physical position) or quadrant (Table 17-1). -/
def sensorOf (m : Module) (i : Nat) : Nat := if i < 32 then posOfCore m i else i

/-- t_add of a reading (R357); a sensor that has not been read adds nothing. -/
def tAddOf : Option Int → Nat
  | some t => if t < 0 then 20 else if 100 < t then 10 else 0
  | none => 0

def tAdd (m : Module) (i : Nat) : Nat := tAddOf (m.health.temps.get none (sensorOf m i))

/-- age (R357): 5 × ceil(D ÷ 2,000) with a baseline, else 40; 0 for a quadrant. -/
def ageOf (m : Module) (i : Nat) : Nat :=
  if 32 ≤ i then 0 else if (m.plan i).base.isSome then 5 * (((m.plan i).d + 1999) / 2000) else 40

/-- v_req in a bin (R357). -/
def vReqIn (m : Module) (bin i : Nat) : Nat :=
  780 + 20 * (m.plan i).cls - (if bin = 1 then 60 else 0) + tAdd m i + ageOf m i

def vReq (m : Module) (i : Nat) : Nat := vReqIn m m.power.bin i

/-- Consent to a bin change is given (R360, R361). -/
def consent (bin : Nat) (m : Module) : Module :=
  { m with health := { m.health with binPending := 2, binTarget := bin, consentAt := some m.time.elapsed } }

/-- Steps 1 and 2 of R360: every job whose mask names the core is parked and saved, and its domain is then switched off. -/
def holdCore (c : Nat) (m : Module) : Module :=
  let m := evict c 0 m
  let ids := (m.sched.jobs.filter (fun j => j.mask.getLsbD c)).map (·.id)
  heldOff (ids.foldl (fun m id => parkJob id m) m) c

/-- A margin hold (R360). -/
def marginHold (c : Nat) (m : Module) : Module :=
  let m := holdCore c (m.updCore c (fun v => { v with marginHeld := true }))
  if binPolicy m = 0 then
    event 0x0112 0 [(0, 1, c), (2, 2, vReq m c)]
      (if m.power.bin = 0 && m.health.binPending = 0 then { m with health := { m.health with binPending := 1 } } else m)
  else if binPolicy m = 1 && m.power.bin = 0 && m.health.binPending != 2 then consent 1 m
  else m

/-- Gragor plans a core or quadrant again (R358): a raise at once, a lowering when no job is dispatched on the core. -/
def replan (i : Nat) (m : Module) : Module :=
  let v := vReq m i
  let p := m.plan i
  if 950 < v then (if i < 32 && !(m.core i).marginHeld then marginHold i m else m)
  else if p.vset ≤ v then m.setPlan i { p with vset := v, lower := false }
  else if i < 32 then m.setPlan i { p with lower := true }
  else m.setPlan i { p with vset := v }

/-- Every enabled core and every quadrant. -/
def planned (m : Module) : List Nat := List.range (nCores m) ++ [32, 33, 34, 35]

/-- VSET_LOWER (R358): a pending lowering, while no job is dispatched on the core. -/
def execVsetLower (c : Fin 32) (s : State) : Res :=
  s.gragor (fun m =>
    let p := m.plan c
    if p.lower && (m.core c).job.isNone then m.setPlan c { p with vset := min p.vset (vReq m c), lower := false } else m)

/-! ### Monitors (R352, R353) -/

/-- The set point of a domain, in mV (R357). -/
def setPointOf (m : Module) (d : Nat) : Nat := if d < 36 then (m.plan d).vset else (Config.setPoint d).toNat

/-- VOLTAGE_EXCURSION (R353): a reading of a domain, held for 2 µs: outside ±5 % it is an excursion, below −10 % the safety
block raises VOLTAGE. -/
def execVoltageExcursion (d mv : Nat) (s : State) : Res :=
  s.act (fun m =>
    if d < 50 && domOn m d && mv < 0x10000 then
      let sp := setPointOf m d
      let low := decide (10 * mv < 9 * sp)
      let m := { m with
        health := { m.health with volts := m.health.volts.put 0 d mv }
        safety := { m.safety with lowVolt := setBit m.safety.lowVolt d low } }
      let m := if m.host.gState = 3 && (decide (20 * mv < 19 * sp) || decide (21 * sp < 20 * mv)) then
          event 0x0111 0 [(0, 1, d), (2, 2, mv)] { m with health := { m.health with ctr := bump m.health.ctr 2 } }
        else m
      if low then raiseCause 4 m else m
    else m)

/-- The plan index a process monitor serves: the core at a position, or the quadrant. -/
def monitored (m : Module) (i : Nat) : Option Nat := if i < 32 then coreAtPos m i else if i < 36 then some i else none

/-- PROCESS_SAMPLE (R352, R358). -/
def execProcessSample (i cls : Nat) (s : State) : Res :=
  s.gragor (fun m =>
    match monitored m i with
    | some k =>
      if cls < 4 && domOn m k then
        let m := { m with health := { m.health with classes := m.health.classes.put none i (some cls) } }
        replan k (m.setPlan k { (m.plan k) with cls := cls })
      else m
    | none => m)

/-- d of R356. -/
def ageD (r0 ratios : List Nat) : Nat :=
  (List.range 4).foldl (fun d i =>
    let b := r0.getD i 0
    max d (if b = 0 then 0 else (ratios.getD i 0 - b) * 1000000 / b)) 0

/-- AGEING_READING (R356, R358): the four ratios of a core. -/
def execAgeingReading (c : Fin 32) (ratios : List Nat) (s : State) : Res :=
  s.gragor (fun m =>
    if decide (c.val < nCores m) && domOn m c && ratios.length = 4 && ratios.all (fun r => r < 2 ^ 32) then
      let p := m.plan c
      match p.base with
      | none => replan c (m.setPlan c { p with ratios := ratios })
      | some r0 =>
        let d := max p.d (ageD r0 ratios)
        let m := m.setPlan c { p with ratios := ratios, d := d }
        replan c (logPut 2 c (leBytes 4 d ++ ratios.flatMap (fun r => leBytes 3 (r / 256))) m)
    else m)

/-- The median of 16 readings (R355): the mean of the middle two; how half a unit rounds is open. -/
def median (l : List Nat) (up : Nat) : Nat :=
  let s := sortBy (fun a b => decide (a ≤ b)) l
  (s.getD 7 0 + s.getD 8 0 + up) / 2

/-- BASELINE_TAKE (R355): 16 readings of each of a core's four pairs, before its first dispatch. -/
def execBaselineTake (c : Fin 32) (readings : List (List Nat)) (s : State) : Res :=
  s.gragor (fun m =>
    if decide (c.val < nCores m) && domOn m c && (m.plan c).base.isNone && (m.core c).job.isNone && readings.length = 4
        && readings.all (fun l => l.length = 16 && l.all (fun r => r < 2 ^ 32)) then
      let up := (free m).toNat % 2
      let r0 := readings.map (fun l => median l up)
      logPut 1 c (r0.flatMap (leBytes 4)) ((freeNext m).setPlan c { (m.plan c) with base := some r0, d := 0 })
    else m)

/-! ### Thermal responses (R362, R363) -/

/-- Event 0x0110 and its count (R362): level 1 or 2. -/
def thermalEvent (i : Nat) (t : Int) (level : Nat) (m : Module) : Module :=
  event 0x0110 0 [(0, 1, i), (1, 1, (BitVec.ofInt 8 t).toNat), (2, 1, level)]
    { m with health := { m.health with ctr := bump m.health.ctr (level - 1) } }

/-- A reading at HOT or above is reached (R362). -/
def hotResponse (i : Nat) (m : Module) : Module :=
  if i < 32 then
    match coreAtPos m i with
    | some c => holdCore c (m.updCore c (fun v => { v with thermalHeld := true }))
    | none => m
  else askHold 1 { m with health := { m.health with holdRetry := some m.time.elapsed } }

/-- Whether the reading of a core's sensor is below HOT − 10 °C (R362). -/
def isCool (m : Module) (c : Nat) : Bool :=
  match m.health.temps.get none (sensorOf m c) with | some t => decide (t < hotAt m - 10) | none => false

/-- How long the core of a sensor has been below HOT − 10 °C (R362): every sample counts, also those that Gragor does not answer. -/
def coolTrack (i : Nat) (t : Int) (m : Module) : Module :=
  match if i < 32 then coreAtPos m i else none with
  | some c =>
    let p := m.plan c
    if t < hotAt m - 10 then
      (if (m.core c).thermalHeld && p.coolSince.isNone then m.setPlan c { p with coolSince := some m.time.elapsed } else m)
    else m.setPlan c { p with coolSince := none }
  | none => m

/-- Whether a reading rises to a limit. -/
def rises (old : Option Int) (t lim : Int) : Bool :=
  decide (lim ≤ t) && (match old with | some o => decide (o < lim) | none => true)

/-- Gragor's responses to a reading (R362, R358). -/
def thermalResponse (i : Nat) (old : Option Int) (t : Int) (m : Module) : Module :=
  let m := if rises old t (warnAt m) then thermalEvent i t 1 m else m
  let m := if rises old t (hotAt m) then hotResponse i (thermalEvent i t 2 m) else m
  match if i < 36 then monitored m i else none with
  | some k => if tAddOf old != tAddOf (some t) then replan k m else m
  | none => m

/-- The thermal trip (R363): SAFE_FAULT# is asserted, every latch captures, and every domain but PD_AON is switched off, so Gragor
runs no more. -/
def thermalTrip (i : Nat) (t : Int) (m : Module) : Module :=
  let m := raiseCause 5 m
  let m := { m with
    host := { m.host with gState := 0 }
    power := { hold (capture 4 m.power m.safety.asserted) 5 m.time.ppsOut with tripped := true }
    health := { m.health with tripRec := some (i, t) } }
  ((List.range 49).filter (domOn m)).reverse.foldl domainOff m

/-- JUNCTION_TEMP_SAMPLE (R352, R362, R363): Gragor answers what has changed since the reading it last answered, so a rise or a
crossing that comes while it restarts waits for the first sample after READY. -/
def execJunctionTempSample (i : Nat) (t : Int) (s : State) : Res :=
  s.act (fun m =>
    if i < 48 && domOn m 49 && !m.power.tripped && decide (-128 < t) && decide (t < 128) && (32 ≤ i || (coreAtPos m i).isSome) then
      let run := if 125 ≤ t then m.health.tripRun.get 0 i + 1 else 0
      let m := { m with health := { m.health with temps := m.health.temps.put none i (some t), tripRun := m.health.tripRun.put 0 i run } }
      let m := if m.host.gState = 3 then
          thermalResponse i (m.health.answered.get none i) t { m with health := { m.health with answered := m.health.answered.put none i (some t) } }
        else m
      let m := coolTrack i t m
      if 2 ≤ run then thermalTrip i t m else m
    else m)

/-- THERMAL_HOLD_RETRY (R362): every 10 ms while a sensor that is no core's stays at HOT or above. -/
def execThermalHoldRetry (s : State) : Res :=
  s.gragor (fun m =>
    match m.health.holdRetry with
    | some t =>
      if !passed m t (10 * msUnit) then m
      else if (List.range 16).any (fun i => match m.health.temps.get none (32 + i) with | some x => decide (hotAt m ≤ x) | none => false) then
        askHold 1 { m with health := { m.health with holdRetry := some m.time.elapsed } }
      else { m with health := { m.health with holdRetry := none } }
    | none => m)

/-- A core that was held is in service again (R337): its domain is switched on in Run, unless something else keeps it off. -/
def coreBack (found : List (Nat × Nat)) (c : Nat) (m : Module) : Module :=
  let v := m.core c
  if m.power.state = 0 && !m.power.offByCmd.getLsbD c && !v.marginHeld && !v.thermalHeld then
    let m := domainOn found m c
    { m with sched := { m.sched with due := true } }
  else m

/-- CORE_THERMAL_RETURN (R362): `failed` is what the core's self-test finds. -/
def execCoreThermalReturn (c : Fin 32) (failed : List Nat) (s : State) : Res :=
  s.gragor (fun m =>
    match (m.plan c).coolSince with
    | some t =>
      if (m.core c).thermalHeld && !domOn m c && isCool m c && passed m t (100 * msUnit) then
        let m := (m.setPlan c { (m.plan c) with coolSince := none }).updCore c (fun v => { v with thermalHeld := false })
        coreBack (failed.map (fun p => (c.val, p))) c m
      else m
    | none => m)

/-! ### Frequency bins (R359 to R361) -/

/-- BIN_CHANGE (R361): after consent, while no job is dispatched; `failed` is what the self-tests of the cores switched on
find. -/
def execBinChange (failed : List (Nat × Nat)) (s : State) : Res :=
  s.gragor (fun m =>
    if m.health.binPending = 2 && m.sched.jobs.all (fun j => j.state != .dispatched) then
      let old := m.power.bin
      let new := m.health.binTarget
      let m := { m with
        power := { m.power with bin := new }
        health := { m.health with binPending := 0, consentAt := none, binForce := false, binLog := new }
        sched := { m.sched with due := true } }
      let m := (planned m).foldl (fun m i => replan i m) m
      let m := ((List.range 32).filter (fun c => (m.core c).marginHeld && decide (vReq m c ≤ 950))).foldl
        (fun m c => coreBack failed c (replan c (m.updCore c (fun v => { v with marginHeld := false })))) m
      event 0x0113 0 [(0, 1, old), (1, 1, new)] (logPut 4 0x2C (leBytes 1 old ++ leBytes 1 new) m)
    else m)

/-- BIN_CHANGE_FORCE (R361): 1 s after consent every dispatched job is asked to park. -/
def execBinChangeForce (s : State) : Res :=
  s.gragor (fun m =>
    match m.health.consentAt with
    | some t =>
      if m.health.binPending = 2 && !m.health.binForce && passed m t (1000 * msUnit)
          && m.sched.jobs.any (fun j => j.state == .dispatched) then
        (m.sched.jobs.map (·.id)).foldl (fun m id => parkJob id m) { m with health := { m.health with binForce := true } }
      else m
    | none => m)

/-! ### Class 0x01 commands (R367, R368) -/

/-- The clients that PROFILE_WRITE, PROFILE_SELECT and HLTH_BIN are accepted from. -/
def profileDenied (m : Module) (n : Nat) : Bool := n != 14 && (locked m || n != 0)

/-- The hottest sensor, the lowest index of equals. -/
def hottest (m : Module) : Option (Nat × Int) :=
  (List.range 48).foldl (fun b i =>
    match m.health.temps.get none i, b with
    | some t, some x => if x.2 < t then some (i, t) else b
    | some t, none => some (i, t)
    | none, _ => b) none

/-- HLTH_STATUS (Table 17-5): with no reading the hottest sensor is open. -/
def execHlthStatus (n : Nat) (s : State) : Res :=
  s.act (command 0x0100 n
    (fun ps _ => [badLen ps 8, (leAt ps 0 1 > 1, 0x22), resv ps 1 7])
    (fun ps m =>
      let h := m.health
      let cs := List.range (nCores m)
      let based := (cs.filter (fun c => (m.plan c).base.isSome)).length
      let hot := (hottest m).getD ((free m).toNat % 256, ((free m).toNat / 256 % 256 : Nat))
      let data := fields 32 [(0, 1, (h.profile.map Prod.fst).getD 0xFF), (1, 1, h.source), (2, 1, m.power.bin), (3, 1, h.binPending),
        (4, 1, if based = 0 then 0 else if based < cs.length then 1 else 2), (5, 1, hot.1), (6, 1, (BitVec.ofInt 8 hot.2).toNat),
        (8, 4, (maskOf 32 (cs.filter (fun c => (m.core c).thermalHeld))).toNat),
        (12, 4, (maskOf 32 (cs.filter (fun c => (m.core c).marginHeld))).toNat),
        (16, 4, h.ctr.get 0 0), (20, 4, h.ctr.get 0 1), (24, 4, h.ctr.get 0 2), (28, 4, h.ctr.get 0 3)]
      respond n 0 data (freeNext (if leAt ps 0 1 = 1 then { m with health := { h with ctr := [] } } else m))))

/-- HLTH_SENSORS (Table 17-4). -/
def execHlthSensors (n : Nat) (s : State) : Res :=
  s.act (command 0x0101 n
    (fun ps _ => [badLen ps 8, resv ps 0 8])
    (fun _ m =>
      let t := (List.range 48).flatMap (fun i => match m.health.temps.get none i with
        | some x => leBytes 1 (BitVec.ofInt 8 x).toNat | none => [0x80])
      let v := (List.range 50).flatMap (fun d => leBytes 2 (if domOn m d then m.health.volts.get 0 d else 0))
      let c := (List.range 36).flatMap (fun i => leBytes 1
        (if (monitored m i).any (domOn m) then (m.health.classes.get none i).getD 0xFF else 0xFF))
      respond n 0 (t ++ v ++ c) m))

/-- HLTH_PLAN (Table 17-4). -/
def execHlthPlan (n : Nat) (s : State) : Res :=
  s.act (command 0x0102 n
    (fun ps m => [badLen ps 8, (leAt ps 0 1 ≥ nCores m, 0x22), resv ps 1 7])
    (fun ps m =>
      let c := leAt ps 0 1
      let p := m.plan c
      let v := m.core c
      respond n 0 (fields 28 ([(0, 2, p.vset), (2, 2, vReq m c), (4, 1, p.cls), (5, 1, tAdd m c), (6, 1, ageOf m c),
        (7, 1, (if p.base.isSome then 1 else 0) + (if v.thermalHeld then 2 else 0) + (if v.marginHeld then 4 else 0)), (8, 4, p.d)]
        ++ (List.range 4).map (fun i => (12 + 4 * i, 4, p.ratios.getD i 0)))) m))

/-- HLTH_BIN (R360, R361). -/
def execHlthBin (n : Nat) (s : State) : Res :=
  s.act (command 0x0103 n
    (fun ps m => [badLen ps 8, (leAt ps 0 1 > 1, 0x22), resv ps 1 7, (profileDenied m n, 0x24),
      (leAt ps 0 1 = m.power.bin || (leAt ps 0 1 = 0 && (List.range (nCores m)).any (fun c => decide (950 < vReqIn m 0 c))), 0x23)])
    (fun ps m => respond n 0 [] (consent (leAt ps 0 1) m)))

/-- A log record as bytes (Table 17-2). -/
def logBytes (r : LogRec) : List Byte :=
  fields 16 [(0, 1, r.type), (1, 1, r.unit), (4, 4, r.seq), (8, 8, r.time)] ++ r.data

/-- A region of the log. -/
def logRegion (m : Module) (region : Nat) : List LogRec := if region = 0 then m.health.logFixed.recs else m.health.logRing.recs

/-- HLTH_LOG_READ (R354, Table 17-4). -/
def execHlthLogRead (n : Nat) (s : State) : Res :=
  s.act (command 0x0104 n
    (fun ps m => [badLen ps 16, (leAt ps 0 1 > 1 || leAt ps 8 1 < 1 || leAt ps 8 1 > 15, 0x22), resv ps 1 3, resv ps 9 7,
      (!(logRegion m (leAt ps 0 1)).any (fun r => r.seq = leAt ps 4 4), 0x22)])
    (fun ps m =>
      let rs := ((logRegion m (leAt ps 0 1)).filter (fun r => decide (leAt ps 4 4 ≤ r.seq))).take (leAt ps 8 1)
      respond n 0 (fields 8 [(0, 1, rs.length)] ++ rs.flatMap logBytes) m))

/-- The stored bytes of a profile; a profile never written is zeros. -/
def storedProfile (m : Module) (i : Nat) : List Byte := setBytes (List.replicate 128 0) 0 (m.health.profiles.get [] i)

/-- PROFILE_READ (R365). -/
def execProfileRead (n : Nat) (s : State) : Res :=
  s.act (command 0x0105 n
    (fun ps _ => [badLen ps 8, (leAt ps 0 1 > 3, 0x22), resv ps 1 7])
    (fun ps m =>
      let bs := storedProfile m (leAt ps 0 1)
      respond n 0 (fields 8 [(0, 1, if profileValid (leAt ps 0 1) bs then 1 else 0)] ++ bs) m))

/-- PROFILE_WRITE (R365, R367): deferred. -/
def execProfileWrite (n : Nat) (s : State) : Res :=
  s.act (command 0x0106 n
    (fun ps m => [badLen ps 136, (leAt ps 0 1 > 3, 0x22), resv ps 1 7, (!profileValid (leAt ps 0 1) (ps.drop 8), 0x22),
      (profileDenied m n, 0x24)])
    (fun ps m => accept n (leAt ps 0 1) (fun m =>
      { m with health := { m.health with writing := m.health.writing ++ [(leAt ps 0 1, ps.drop 8)] } }) m))

/-- PROFILE_WRITE_COMPLETE (R367): both copies are written. -/
def execProfileWriteComplete (s : State) : Res :=
  s.gragor (fun m =>
    match m.health.writing with
    | (i, bs) :: rest =>
      finish 0x0106 i 0 [] { m with health := { m.health with writing := rest, profiles := m.health.profiles.put [] i bs } }
    | [] => m)

/-- PROFILE_SELECT (R366): the override for the next power-on, with its record. -/
def execProfileSelect (n : Nat) (s : State) : Res :=
  s.act (command 0x0107 n
    (fun ps m => [badLen ps 8, (leAt ps 0 1 > 1 || leAt ps 1 1 > 3, 0x22), resv ps 2 6, (profileDenied m n, 0x24),
      (!profileValid (leAt ps 1 1) (storedProfile m (leAt ps 1 1)), 0x23)])
    (fun ps m =>
      let old := m.health.override.getD m.host.profileStrap
      let sel := if leAt ps 0 1 = 1 then some (leAt ps 1 1) else none
      let m := logPut 6 0x2C (leBytes 1 old ++ leBytes 1 (sel.getD m.host.profileStrap)) m
      respond n 0 [] { m with health := { m.health with override := sel } }))

/-- HLTH_ENGINES (R54). -/
def execHlthEngines (n : Nat) (s : State) : Res :=
  s.act (command 0x0108 n
    (fun ps m => [badLen ps 8, (leAt ps 0 1 ≥ nCores m, 0x22), resv ps 1 7])
    (fun ps m =>
      let v := m.core (leAt ps 0 1)
      respond n 0 (setBytes (List.replicate 16 0) 0 (leBytes 9 (maskOf 68 v.failed).toNat) ++ v.graft.flatMap (leBytes 1)) m))

end Sys2Proof.Machine
end

