-- ==== Sys2Proof/Machine/SafetyBlock.lean ====
section
/-!
DEFINITION. The safety block (chapter 18): region entries (R370), window watchdogs (R373, R374), the golden tile (R375 to
R377), the diverse checker's timeouts (R378), SAFE_FAULT# (R381) and the class 0x0B commands (R385, R386).
-/

namespace Sys2Proof.Machine

/-! ### Causes present (Table 18-3) -/

/-- Whether a queue that raises QUEUE is FAULTED: one bound to Trellis, a CSI-2 port or a checker channel. -/
def queueCause (m : Module) (q : Nat) : Bool :=
  let v := m.queue q
  v.state = 3 && (v.prodKind = 2 || v.consKind = 2 || v.consKind = 3 || tapped m q)

/-- Whether a cause is present, under the last column of Table 18-3. -/
def causePresent (m : Module) (bit : Nat) : Bool :=
  if bit = 0 then (List.range 64).any (fun k => let w := m.safety.wdogs.get {} k; w.state = 3 && w.action.getLsbD 0)
  else if bit = 2 then (List.range 8).any (fun c => (m.checker c).tripped && (m.checker c).action.getLsbD 0)
  else if bit = 3 then (List.range 64).any (fun i => (m.loop i).state = .fault && (m.loop i).cfg.flags.getLsbD 2)
  else if bit = 4 then m.safety.lowVolt != 0
  else if bit = 6 then (List.range 512).any (queueCause m)
  else m.safety.sticky.getLsbD bit

/-- PRESENT (Table 18-6). -/
def present_ (m : Module) : BitVec 13 := maskOf 13 ((List.range 13).filter (causePresent m))

/-! ### Watchdogs (R374) -/

/-- WDOG_EXPIRY (R374): FIRST_US or MAX_US has passed without a kick; a kick exactly at the limit is in time. -/
def execWdogExpiry (k : Nat) (s : State) : Res :=
  s.act (fun m =>
    let w := m.safety.wdogs.get {} k
    let dt := m.time.elapsed - w.since
    if k ≥ 64 || !domOn m 48 then m
    else if w.state = 1 && decide (w.firstUs * usUnit < dt) then wdogTrip k 3 m
    else if w.state = 2 && decide (w.maxUs * usUnit < dt) then wdogTrip k 2 m
    else m)

/-! ### The golden tile (R375 to R377) -/

/-- Whether the golden tile passes over a core. -/
def goldenSkips (m : Module) (c : Nat) : Bool :=
  (m.core c).withdrawn || (m.core c).marginHeld || (m.core c).thermalHeld || !domOn m c

/-- The rotation from a core (R375): the cores taken, how many were passed over, and the next core. -/
def goldenRotate (m : Module) : Nat → Nat → Nat → List Nat × Nat × Nat
  | 0, _, c => ([], 0, c)
  | n + 1, want, c =>
    if want = 0 then ([], 0, c)
    else
      let next := (c + 1) % nCores m
      if goldenSkips m c then
        let r := goldenRotate m n want next
        (r.1, r.2.1 + 1, r.2.2)
      else
        let r := goldenRotate m n (want - 1) next
        (c :: r.1, r.2.1, r.2.2)

/-- The jobs whose state a core holds: the one that runs there, and a parked one in place. -/
def jobsOn (m : Module) (c : Nat) : List (Nat × Nat) :=
  ((m.sched.jobs.filter (fun j => (m.core c).job == some j.id || j.inPlace.contains c)).map (fun j => (c, j.id)))

/-- A core is taken for the slot (R376): its jobs are parked and saved. -/
def goldenTake (m : Module) (c : Nat) : Module :=
  let js := jobsOn m c
  let m := evict c 0 m
  let m := { m with safety := { m.safety with gtPending := addOnce m.safety.gtPending c, gtJobs := m.safety.gtJobs ++ js } }
  js.foldl (fun m j => parkJob j.2 m) m

/-- The elapsed time of a golden instant that has passed. -/
def goldenAt (m : Module) (t : Nat) : Nat := m.time.elapsed - (m.time.now - t * usUnit)

/-- An instant has come that Gragor has not taken, in a state that does not suspend the slots. -/
def goldenNew (m : Module) : Option Nat :=
  if m.safety.gtOn && m.power.state = 0 && goldenInstant m != m.safety.gtLast then goldenInstant m else none

/-- No verdict exists at the late limit of the slot (R377): the GOLDEN cause, once. -/
def goldenMissed (m : Module) : Module :=
  if (m.safety.gtLost || !m.safety.gtPending.isEmpty) && !m.safety.gtLate then
    raiseCause 1 { m with safety := { m.safety with gtLate := true, gtLost := false } }
  else m

/-- An instant between the last one taken and this one was not taken: no verdict came for it (R377). -/
def goldenOver (m : Module) (t : Nat) : Bool := m.safety.gtLast.any (fun l => decide (l + m.safety.gtPeriod < t))

/-- GOLDEN_SLOT (R375, R376): an instant has come that is not the last one taken, and its late limit has not passed. ACTION is that of
the slot from here on (R385). -/
def execGoldenSlot (s : State) : Res :=
  s.gragor (fun m =>
    match goldenNew m with
    | none => m
    | some t =>
      if passed m (goldenAt m t) (1000 * usUnit) then m
      else
        let r := goldenRotate m (nCores m) m.safety.gtCores m.safety.gtNext
        let m := if passed m m.safety.gtAt (1000 * usUnit) then goldenMissed m else m
        let m := if goldenOver m t then raiseCause 1 m else m
        let m := { m with safety := { m.safety with
          gtLast := some t, gtNext := r.2.2, gtAt := goldenAt m t, gtRun := m.safety.gtAction, gtLate := false
          gtCount := m.safety.gtCount + 1, ctr := bumpBy m.safety.ctr 5 r.2.1 } }
        r.1.foldl goldenTake m)

/-- ACTION of the golden tile, as it was when the slot began (R385). -/
def goldenAction (m : Module) : Module :=
  let m := if m.safety.gtRun.getLsbD 0 then raiseCause 1 m else m
  if m.safety.gtRun.getLsbD 1 then askHold 2 m else m

/-- The job displaced from a core is torn down with fault kind 0x06 (R377). -/
def goldenTear (c e : Nat) (m : Module) (id : Nat) : Module :=
  match findJob m id with
  | none => m
  | some j =>
    let f : CtxFault := { job := id, core := c, eng := e, kind := 6 }
    let m := jobOutcome j 2 0x32 f m
    let m := m.updCtx j.ctx (fun v => { v with fault := f })
    if (m.ctx j.ctx).state = 1 then tearDown j.ctx id m else m

/-- A permanent fault of logical engine e (R377, R54 to R56). -/
def goldenPermanent (c e : Nat) (m : Module) : Module :=
  let m := withdrawBad c (engineFails c 6 m ((m.core c).graft.getD e e))
  let m := event 0x0B11 0 [(0, 1, c), (1, 1, e), (2, 1, 2)] (safeCount 4 m)
  let m := ((m.safety.gtJobs.filter (fun j => j.1 == c)).map Prod.snd).foldl (goldenTear c e) m
  goldenAction m

/-- A transient fault (R377): three on one core within 1,000 periods count as permanent. -/
def goldenTransient (c e : Nat) (m : Module) : Module :=
  let m := event 0x0B11 0 [(0, 1, c), (1, 1, e), (2, 1, 1)] (safeCount 3 m)
  let l := ((c, m.safety.gtCount) :: m.safety.gtTrans).filter (fun x => decide (m.safety.gtCount < x.2 + 1000))
  let m := { m with safety := { m.safety with gtTrans := l } }
  if (l.filter (fun x => x.1 == c)).length ≥ 3 then goldenPermanent c e m else m

/-- The signature of an engine is the expected one. -/
def signed_ (sigs : List (BitVec 64)) (e : Nat) : Bool := sigs.getD e 0 == Config.goldenSignature e

/-- GOLDEN_VERDICT (R377): the signatures of a core's engines, and those of the retest where one was needed. -/
def execGoldenVerdict (c : Fin 32) (sigs retest : List (BitVec 64)) (s : State) : Res :=
  s.gragor (fun m =>
    if m.safety.gtPending.contains c.val && domOn m c && (m.core c).job.isNone && coreDrained m c && sigs.length = 64
        && retest.length = 64 then
      let m := safeCount 2 m
      let bad := (List.range 64).filter (fun e => !signed_ sigs e)
      let m := bad.foldl (fun m e => if signed_ retest e then goldenTransient c e m else goldenPermanent c e m) m
      { m with
        safety := { m.safety with
          gtPending := m.safety.gtPending.erase c.val, gtJobs := m.safety.gtJobs.filter (fun j => j.1 != c.val) }
        mem := clearCoreMem c m.mem
        sched := { m.sched with due := true } }
    else m)

/-- GOLDEN_LATE_LIMIT (R377): 1,000 µs after an instant that Gragor has not taken, or after the instant of a slot of which a core
has no verdict, the GOLDEN cause is raised. The safety block judges it, whether or not Gragor runs. -/
def execGoldenLateLimit (s : State) : Res :=
  s.act (fun m =>
    if !domOn m 48 then m
    else match goldenNew m with
    | some t =>
      if passed m (goldenAt m t) (1000 * usUnit) then
        raiseCause 1 { m with safety := { m.safety with gtLast := some t, gtAt := goldenAt m t, gtLate := true, gtLost := false } }
      else m
    | none => if passed m m.safety.gtAt (1000 * usUnit) then goldenMissed m else m)

/-! ### The checker's timeouts (R378) -/

/-- The oldest complete packet of a side whose partner is missing after PAIR_US. -/
def overdue (m : Module) (c : Checker) (own other : List ChkPacket) : Bool :=
  match own with
  | p :: _ => p.done && passed m p.at_ (c.pairUs * usUnit + 1) && !((other.head?.map (·.done)).getD false)
  | [] => false

/-- CHECKER_PAIR_TIMEOUT (R378, R380): the pair disagrees, and the partner will be discarded. -/
def execCheckerPairTimeout (ch : Nat) (s : State) : Res :=
  s.act (fun m =>
    let c := m.checker ch
    if ch ≥ 8 || !c.enable || c.tripped || !domOn m 48 then m
    else if overdue m c c.bufP c.bufC then
      checkerVerdict ch (some 0xFF) (m.setChecker ch { c with bufP := c.bufP.drop 1, lateC := c.lateC + 1 })
    else if overdue m c c.bufC c.bufP then
      checkerVerdict ch (some 0xFF) (m.setChecker ch { c with bufC := c.bufC.drop 1, lateP := c.lateP + 1 })
    else m)

/-! ### Faults of hardware (Table 18-3) -/

/-- CLOCK_MONITOR_FAULT: cause 9. -/
def execClockMonitorFault (s : State) : Res := s.act (fun m => if domOn m 48 then raiseCause 9 m else m)

/-- SAFETY_BLOCK_DISAGREEMENT: 0 comparators disagree, 1 the self-test fails (SELF). From 2 on the fault is one of the firewall's
second copy of the region table: it loses entry `what − 2`, and every transfer that only this entry allows is then refused and
raises FIREWALL, until SAFE_REGION writes the entry again (R372, notes/assumptions/84). -/
def execSafetyBlockDisagreement (what : Nat) (s : State) : Res :=
  s.act (fun m =>
    if !domOn m 48 then m
    else if what = 0 then raiseCause 10 m
    else if what = 1 then raiseCause 10 { m with safety := { m.safety with selfTest := 2 } }
    else { m with safety := { m.safety with regionsB := m.safety.regionsB.put {} (what - 2) {} } })

/-! ### Class 0x0B commands (R385, R386) -/

/-- SAFE_STATUS (Table 18-6). -/
def execSafeStatus (n : Nat) (s : State) : Res :=
  s.act (command 0x0B00 n
    (fun ps _ => [badLen ps 8, (leAt ps 0 1 > 1, 0x22), resv ps 1 7])
    (fun ps m =>
      let f := m.safety
      let ct := fun i => f.ctr.get 0 i
      let wd := ((List.range 64).map (fun k => (f.wdogs.get {} k).state * 4 ^ k)).foldl (· + ·) 0
      let data := fields 96 ([(0, 1, if f.asserted then 1 else 0), (1, 1, f.selfTest), (4, 4, f.latched.toNat), (8, 4, (present_ m).toNat),
          (12, 4, ct 0), (16, 16, wd), (32, 4, ct 1), (36, 4, ct 2), (40, 4, ct 3), (44, 4, ct 4), (48, 4, ct 5), (52, 1, f.gtNext),
          (53, 1, (maskOf 8 ((List.range 8).filter (fun c => (m.checker c).tripped))).toNat), (88, 4, ct 14), (92, 4, ct 15)]
        ++ (List.range 8).map (fun i => (56 + 4 * i, 4, ct (6 + i))))
      respond n 0 data (if leAt ps 0 1 = 1 then { m with safety := { f with ctr := [] } } else m)))

/-- Whether a region entry covers a context (R370). -/
def covers (m : Module) (cloche k i : Nat) : Bool := k = i || (k = 0xFF && (m.ctx i).state != 0 && (m.ctx i).cloche = cloche)

/-- A range that lies in usable DDR4, the chip store or one scratchpad. -/
def oneRegion (m : Module) (a n : Nat) : Bool :=
  match placeRange m a n with
  | .ddr | .store | .spad _ => true
  | _ => false

/-- The region entry SAFE_REGION's parameters give; RIGHTS 0 clears it (R370). -/
def regionOf (ps : List Byte) : Region :=
  if leAt ps 4 1 = 0 then {}
  else
    { base := leAt ps 8 8, pages := leAt ps 16 4, cloche := leAt ps 3 1, ctx := leAt ps 2 1
      rights := BitVec.ofNat 3 (leAt ps 4 1), share := BitVec.ofNat 16 (leAt ps 6 2) }

/-- SAFE_REGION (R370, R385): both copies of the table take the entry (R372); BASE and PAGES are checked also where RIGHTS 0 clears
it. Mailbox 14 may name any context (R257); another client that names a FREE one is told BAD_STATE (R244 steps 6 and 7). -/
def execSafeRegion (n : Nat) (s : State) : Res :=
  s.act (command 0x0B01 n
    (fun ps m =>
      let k := leAt ps 2 1
      let cl := leAt ps 3 1
      let r := leAt ps 4 1
      let base := leAt ps 8 8
      let pages := leAt ps 16 4
      let old := m.safety.regions.get {} (leAt ps 0 2)
      [badLen ps 24, (leAt ps 0 2 > 1023 || (k > 63 && k != 0xFF) || cl > 15 || r > 7, 0x22), resv ps 5 1, resv ps 20 4,
        (base % 4096 != 0 || pages < 1 || pages > 2 ^ 24 || !oneRegion m base (4096 * pages), 0x22),
        (n != 14 && (cl = 15 || k = 0xFF || foreign m n k), 0x24), (n != 14 && (m.ctx k).state = 0, 0x23),
        ((List.range 64).any (fun i => hasAdmitted m i && (covers m cl k i || (old.rights != 0 && covers m old.cloche old.ctx i))), 0x23)])
    (fun ps m =>
      respond n 0 [] { m with safety := { m.safety with
        regions := m.safety.regions.put {} (leAt ps 0 2) (regionOf ps), regionsB := m.safety.regionsB.put {} (leAt ps 0 2) (regionOf ps) } }))

/-- The largest SRC_ID of a source (R373). -/
def srcLimit (src : Nat) : Nat := [65535, 511, 63, 15, 1, 65535].getD src 0

/-- The watchdog SAFE_WDOG's parameters give, armed or off from an elapsed time (R373, R374). -/
def wdogOf (ps : List Byte) (now : Nat) : Wdog :=
  { state := leAt ps 6 1, source := leAt ps 1 1, action := BitVec.ofNat 3 (leAt ps 2 1), ctx := leAt ps 3 1
    srcId := leAt ps 4 2, minUs := leAt ps 8 4, maxUs := leAt ps 12 4, firstUs := leAt ps 16 4, since := now }

/-- SAFE_WDOG (R373, R374). -/
def execSafeWdog (n : Nat) (s : State) : Res :=
  s.act (command 0x0B02 n
    (fun ps m =>
      let w := m.safety.wdogs.get {} (leAt ps 0 1)
      [badLen ps 24, (leAt ps 0 1 > 63 || leAt ps 1 1 > 5 || leAt ps 2 1 > 7 || (leAt ps 3 1 > 63 && leAt ps 3 1 != 0xFF)
          || srcLimit (leAt ps 1 1) < leAt ps 4 2 || leAt ps 6 1 > 1 || leAt ps 12 4 < 10 || leAt ps 12 4 > 10000000
          || leAt ps 12 4 ≤ leAt ps 8 4, 0x22), resv ps 7 1, resv ps 20 4, (n != 14, 0x24),
        (leAt ps 6 1 = 1 && (w.state = 1 || w.state = 2), 0x23)])
    (fun ps m =>
      let ws := m.safety.wdogs.put {} (leAt ps 0 1) (wdogOf ps m.time.elapsed)
      respond n 0 [] { m with safety := { m.safety with wdogs := ws } }))

/-- SAFE_KICK (R373). -/
def execSafeKick (n : Nat) (s : State) : Res :=
  s.act (command 0x0B03 n
    (fun ps m => [badLen ps 8, (leAt ps 0 1 > 63, 0x22), resv ps 1 7, (n != 14, 0x24),
      ((m.safety.wdogs.get {} (leAt ps 0 1)).source != 5, 0x23)])
    (fun ps m => respond n 0 [] (wdogKick (leAt ps 0 1) m)))

/-- SAFE_GOLDEN (R375, R385): in effect from the next instant; a slot that runs keeps its ACTION. -/
def execSafeGolden (n : Nat) (s : State) : Res :=
  s.act (command 0x0B04 n
    (fun ps _ => [badLen ps 16, (leAt ps 0 1 > 1 || leAt ps 1 1 < 1 || leAt ps 1 1 > 8 || leAt ps 2 1 > 3 || leAt ps 4 4 < 2000
        || leAt ps 4 4 > 1000000 || leAt ps 4 4 ≤ leAt ps 8 4, 0x22), resv ps 3 1, resv ps 12 4, (n != 14, 0x24)])
    (fun ps m =>
      let m := { m with safety := { m.safety with
        gtOn := leAt ps 0 1 = 1, gtCores := leAt ps 1 1, gtAction := BitVec.ofNat 2 (leAt ps 2 1), gtPeriod := leAt ps 4 4
        gtPhase := leAt ps 8 4 } }
      respond n 0 [] { m with safety := { m.safety with gtLast := goldenInstant m } }))

/-- SAFE_CHECK (R378 to R380): enabling resets pairing and the counts. -/
def execSafeCheck (n : Nat) (s : State) : Res :=
  s.act (command 0x0B05 n
    (fun ps m =>
      [badLen ps 24, (leAt ps 0 1 > 7 || leAt ps 1 1 > 1 || leAt ps 2 1 > 3 || leAt ps 3 1 < 1 || leAt ps 4 2 > 511 || leAt ps 6 2 > 511
          || leAt ps 20 1 > 64, 0x22), resv ps 21 3, (n != 14, 0x24),
        (leAt ps 1 1 = 1 && ((m.queue (leAt ps 4 2)).state = 0 || (m.queue (leAt ps 6 2)).state = 0), 0x23)])
    (fun ps m => respond n 0 [] (m.setChecker (leAt ps 0 1)
      { enable := leAt ps 1 1 = 1, action := BitVec.ofNat 2 (leAt ps 2 1), runMax := leAt ps 3 1, winMax := leAt ps 20 1
        primary := leAt ps 4 2, check := leAt ps 6 2, absTol := BitVec.ofNat 32 (leAt ps 8 4), relTol := BitVec.ofNat 32 (leAt ps 12 4)
        pairUs := leAt ps 16 4 })))

/-- SAFE_CLEAR (R381): the signal is released and LATCHED cleared. -/
def execSafeClear (n : Nat) (s : State) : Res :=
  s.act (command 0x0B06 n
    (fun ps m => [badLen ps 8, resv ps 0 8, (n != 14, 0x24), (m.safety.selfTest != 1 || present_ m != 0, 0x23)])
    (fun _ m =>
      let was := m.safety.asserted
      let m := { m with safety := { m.safety with asserted := false, latched := 0 } }
      respond n 0 (leBytes 4 0) (if was then event 0x0B14 0 [] m else m)))

/-- SAFE_ASSERT (R381): cause 11. -/
def execSafeAssert (n : Nat) (s : State) : Res :=
  s.act (command 0x0B07 n
    (fun ps _ => [badLen ps 8, resv ps 0 8, (n != 14, 0x24)])
    (fun _ m => respond n 0 [] (raiseCause 11 m)))

end Sys2Proof.Machine
end

