-- ==== Sys2Proof/Machine/Recovery.lean ====
section
/-!
DEFINITION. Hangs, resets and recovery (chapter 19): the hangs a command reports (R387, R388), the context reset (R391), the
partition reset (R393), what survives (R394), fabric abort (R395), the Gragor restart (R396, R397) and the class 0x0C commands
(R398, R399).
-/

namespace Sys2Proof.Machine

/-! ### What a reset meets (R388, R393, R394) -/

/-- Write words so that each 16-byte unit of DDR4 holds its old or its new value (R393 step 4, Table 19-5): which, is a
free bit a unit. `go` is the choice of the unit the first word lies in. -/
def mixPut : Nat → Bool → List (W64 × Bool) → Module → Module
  | _, _, [], m => m
  | w, go, d :: ds, m =>
    let b := if w % 2 = 0 then (free m).getLsbD 0 else go
    let m := if w % 2 = 0 then freeNext m else m
    mixPut (w + 1) b ds (if b then writeWords w [d] m else m)

/-- Whether a reset of a partition runs, or a Gragor restart, which is one of all four: a unit of DDR4 then keeps its old or takes its
new value (R393 step 4, Table 19-5). -/
def unitsKept (m : Module) : Bool := m.rcv.partRst.isSome || m.host.gState = 4

/-- Whether an address lies in the partition that is reset, whose memories are zero (Table 19-5). -/
def inReset (m : Module) (a : Nat) : Bool :=
  m.host.gState = 4 || (m.rcv.partRst.isSome && partOfAddr m a = m.rcv.partRst.map (·.part))

/-- What a put that never completes leaves in its range (Table 19-5, R122): DDR4 old or new units under a partition reset; zero what
that reset clears; otherwise undefined bytes. No increment is applied. -/
def partialPut (o : ROp) (m : Module) : Module :=
  if !(o.kind = 0 || o.kind = 4) || o.phase != 1 || offModule m o then m
  else if unitsKept m && placeOf m o.target = .ddr then
    let b := bringWords o o.len m
    mixPut (o.target / 8) ((free b.1).getLsbD 0) b.2 (freeNext b.1)
  else if inReset m o.target then m
  else undefineAt o.target o.len m

/-- What an operation that never completes leaves (R122, Table 19-5): LOCAL of a get or an atomic, or the target of a put. -/
def spoilOp (o : ROp) (m : Module) : Module :=
  if o.kind = 1 || o.kind = 2 then (if o.peer.isSome then m else opUndefined o 8 m) else partialPut o m

/-- The packets of an operation or a group that wait for credits are withdrawn. -/
def dropWaiting (id : Nat) (m : Module) : Module :=
  { m with fab := { m.fab with
    credits := m.fab.credits.map (fun p => (p.1, { p.2 with waiting := p.2.waiting.filter (fun k => k.op != id) })) } }

/-- The window an operation passed is done with it (R125). -/
def leaveWindow (o : ROp) (m : Module) : Module :=
  match o.window with
  | some w => windowDone w m
  | none => m

/-- Packets held at a bridge toward a reset partition complete at their issuer with TARGET_RESET (R393 step 5). -/
def releaseHeld (m : Module) (id : Nat) : Module :=
  match findOp m id with
  | none => m
  | some o => if o.peer.isSome then endPeer o 8 (spoilOp o m) else endFailed o 8 (spoilOp o m)

/-- Packets inside the partition are lost (R393 step 4), as is a response held toward it (step 5): the issuer gets nothing back, and
its slot stays occupied. -/
def loseOp (m : Module) (id : Nat) : Module :=
  match findOp m id with
  | none => m
  | some o =>
    let m := dropWaiting id (leaveWindow o (partialPut o m))
    if o.peer.isSome then dropOp m id else putOp m { o with phase := 4, window := none }

/-- Whether an operation of a reset context may still take effect: nothing closed is in its way, its class lets it (R119), and no
earlier operation of its engine that the class waits for has ended without effect (`missed`, Table 19-5). -/
def mayStill (m : Module) (missed : List ROp) (o : ROp) : Bool :=
  o.phase = 1 && !offModule m o && !opBlocked m o && mayEffect m o
    && missed.all (fun i => i.core != o.core || i.eng != o.eng || o.cls = 0
      || (o.cls = 1 && (i.cls = 0 || opModule m i != opModule m o)))

/-- An operation of a reset context that has not completed (R394): it takes effect now, as a free bit says, or never, and its range
is then left as `spoilOp` has it. The list gathers those without effect. -/
def abandonOp (acc : Module × List ROp) (o : ROp) : Module × List ROp :=
  let m := freeNext acc.1
  let done := o.phase = 2 && !offModule m o
  let go := mayStill m acc.2 o && (free acc.1).getLsbD 0
  let m := if done then m else if go then (opEffect o m).1 else spoilOp o m
  (dropOp (dropWaiting o.id ((leaveWindow o m).updEng o.core o.eng freeSlot)) o.id, if done || go then acc.2 else acc.2 ++ [o])

/-- The operations that a test names are abandoned, oldest first. -/
def abandonOps (p : ROp → Bool) (m : Module) : Module :=
  ((m.fab.ops.filter (fun o => o.peer.isNone && p o)).foldl abandonOp (m, [])).1

/-- What a row that never completes leaves at a destination in this module, as with a put (Table 19-5). -/
def spoilRow (j : MoverJob) (m : Module) (r : Nat) : Module :=
  let a := j.dstAt + r * j.dstStride
  if unitsKept m && placeOf m a = .ddr then
    let d := if j.srcPeer.isSome then (freeSkip m (2 * (j.rowBytes / 8)), freeWords m (j.rowBytes / 8)) else rowWords j r m
    mixPut (a / 8) ((free d.1).getLsbD 0) d.2 (freeNext d.1)
  else if inReset m a then m
  else undefineAt a j.rowBytes m

/-- The rows of the group in progress, of a descriptor that is abandoned. -/
def undefineRows (j : MoverJob) (m : Module) : Module :=
  if !j.started || j.dstPeer.isSome then m else (groupRows j).foldl (spoilRow j) m

/-- The descriptors of a core's mover are abandoned. -/
def abandonMovers (m : Module) (c : Nat) : Module :=
  (m.core c).mover.foldl (fun m j =>
    endMover c j (if j.done < groupsOf j then undefineRows j m else m)) m

/-- The mover of a core has a packet held at a bridge toward the partition that is reset: its descriptor in service fails with
TARGET_RESET (R393 step 5). -/
def releaseMover (m : Module) (c : Nat) : Module :=
  match (m.core c).mover with
  | j :: _ => failMover c j 8 (undefineRows j m)
  | [] => m

/-- A packet of a core's mover is lost: its descriptor in service never completes, and the slot stays occupied. -/
def loseMover (m : Module) (c : Nat) : Module :=
  match (m.core c).mover with
  | j :: _ => putHead c { j with lost := true } ((j.tag.elim id dropWaiting) (undefineRows j m))
  | [] => m

/-- The way of a packet in a transit buffer: the partitions of its ingress and of its egress (R332). -/
def transitWay (m : Module) (r i : Nat) : Option (Nat × Nat) :=
  match (m.runner r).transit[i]? with
  | some p => (routeTo m p.1.dest).map (fun e => (partOfRunner r, partOfRunner e))
  | none => none

/-- The packets of the transit buffers that some places name leave them: `answer` sends the status TARGET_RESET back (R393 step 5). -/
def takeTransit (ps : List FabricPacket) (answer : Bool) (m : Module) : Module :=
  (List.range 4).foldl (fun m r =>
    let l := (m.runner r).transit.zipIdx
    let gone := l.filter (fun x => ps.contains (.transit r x.2))
    let m := m.setRunner r { (m.runner r) with transit := (l.filter (fun x => !ps.contains (.transit r x.2))).map Prod.fst }
    if answer then gone.foldl (fun m x => (transitOp r x.1.1).elim m (fun o => answerPeer o 8 [] [] m)) m else m) m

/-- Whether a packet can wait at a bridge into partition n (R388); the stream-queue manager's come from router 13 (Table 5-2). A
packet in transit that carries no operation is a response. -/
def canHold (m : Module) (n : Nat) (p : FabricPacket) : Bool :=
  match p with
  | .op id => (findOp m id).any (heldInto m n)
  | .mover c => (m.core c).mover.head?.any (moverInto m n c)
  | .transit r i => (transitWay m r i).any (fun w => enters w.1 w.2 n) && (m.runner r).transit[i]?.any (fun p => p.1.op.isSome)
  | .sqm => n != 1

/-- Whether a packet can be inside partition n (R393 step 4). -/
def canLose (m : Module) (n : Nat) (p : FabricPacket) : Bool :=
  match p with
  | .op id => (findOp m id).any (insidePart m n)
  | .mover c => (m.core c).mover.head?.any (moverInside m n c)
  | .transit r i => (transitWay m r i).any (fun w => passes w.1 w.2 n)
  | .sqm => true

/-- Whether a response can wait at a bridge into partition n (R393 step 5). -/
def canAnswer (m : Module) (n : Nat) (p : FabricPacket) : Bool :=
  match p with
  | .op id => (findOp m id).any (responseInto m n)
  | .mover c => (m.core c).mover.head?.any (moverInto m n c)
  | .transit r i => (transitWay m r i).any (fun w => enters w.1 w.2 n)
  | .sqm => n != 1

/-- As many packets as there can be of one: a word each at the least (notes/assumptions/49). -/
def packetBound (m : Module) (p : FabricPacket) : Nat :=
  match p with
  | .op id => match findOp m id with | some o => max 1 (o.len / 8) | none => 0
  | .mover c => match (m.core c).mover with | j :: _ => (groupRows j).length * (j.rowBytes / 8) + 9 | [] => 0
  | .transit _ _ => 1
  | .sqm => 512

/-- A list of packets that can be, each as often as it has packets. -/
def packetsOk (m : Module) (ok : FabricPacket → Bool) (ps : List FabricPacket) : Bool :=
  ps.all (fun p => ok p && decide (ps.count p ≤ packetBound m p))

/-- Since when a packet is on its way. -/
def sinceOf (m : Module) (p : FabricPacket) : Nat :=
  match p with
  | .op id => match findOp m id with | some o => o.since | none => m.time.elapsed
  | .mover c => match (m.core c).mover with | j :: _ => j.since | [] => m.time.elapsed
  | .transit r i => match (m.runner r).transit[i]? with | some p => p.2 | none => m.time.elapsed
  | .sqm => 0

/-- A packet held toward the partition under reset completes with TARGET_RESET (R393 step 5); those in transit are answered together
(`takeTransit`), and the stream-queue manager keeps its words (Table 19-5). -/
def releasePacket (m : Module) (p : FabricPacket) : Module :=
  match p with
  | .op id => releaseHeld m id
  | .mover c => releaseMover m c
  | .transit _ _ | .sqm => m

/-- A packet inside the partition under reset, or a response held toward it, is lost. -/
def losePacket (m : Module) (p : FabricPacket) : Module :=
  match p with
  | .op id => loseOp m id
  | .mover c => loseMover m c
  | .transit _ _ | .sqm => m

/-! ### Stopping, freezing, capturing (R391 steps 1 to 3, R393 steps 1 to 3) -/

/-- Issue stops on every engine of a core (R270 step 1): what holds it stays to be seen by the capture. -/
def stopIssue (m : Module) (c : Nat) : Module :=
  (bitsOf (m.core c).mask).foldl (fun m e => m.updEng c e (fun v =>
    if v.run = .issuing || v.run = .halting then { v with run := .forced } else v)) m

/-- A queue becomes FROZEN (R187). -/
def freezeQueue (m : Module) (q : Nat) : Module :=
  let v := m.queue q
  if v.state = 1 then m.setQueue q { v with state := 2 } else m

/-- A queue leaves FROZEN (R187): ACTIVE where the copies agree and no reset partition held its regions, else FAULTED. -/
def thawQueue (lost : Bool) (m : Module) (q : Nat) : Module :=
  let v := m.queue q
  if v.state != 2 then m
  else if lost || v.main != v.shadow then faultQueue q m
  else m.setQueue q { v with state := 1 }

/-- Whether a stream keeps its reference in partition n (R209). -/
def refInPart (n i : Nat) (s : Stream) : Bool :=
  s.state != 0 && s.cfg.conceal = 2 && touchesPart n s.cfg.refBase (s.cfg.wIn * s.cfg.hIn * channelsOf i s.cfg)

/-- Whether a stream's queue is owned by a context (R209). -/
def ownedBy (m : Module) (k : Nat) (s : Stream) : Bool :=
  (m.queue s.cfg.queue).state != 0 && (m.queue s.cfg.queue).owner == k

/-- Whether a context's reset freezes a queue: it is bound to the context (R187), or an intake stream's that the context owns
(R209). -/
def ctxFreezes (m : Module) (k q : Nat) : Bool :=
  boundTo (m.queue q) k || ((m.queue q).state != 0 && (m.queue q).prodKind = 1 && (m.queue q).owner = k)

/-- Whether a reset of partition n, with its contexts, freezes a queue (R187, R209). -/
def partFreezes (m : Module) (n : Nat) (ks : List Nat) (q : Nat) : Bool :=
  queueInPart (m.queue q) n || ks.any (fun k => ctxFreezes m k q)
    || (List.range 16).any (fun i => (m.stream i).cfg.queue = q && refInPart n i (m.stream i))

/-- Whether the partition reset under way keeps a queue FROZEN. -/
def frozenByPart (m : Module) (q : Nat) : Bool := m.rcv.partRst.any (fun r => partFreezes m r.part (bitsOf r.ctxs) q)

/-- Whether the context reset under way keeps a queue FROZEN. -/
def frozenByCtx (m : Module) (q : Nat) : Bool := m.rcv.ctxRst.any (fun r => ctxFreezes m r.ctx q)

/-- Freeze some queues, and stop the streams that produce into them and the running streams a test names, whose queues are FROZEN too
(R187, R209). -/
def freezeAll (qs : List Nat) (also : Nat → Stream → Bool) (m : Module) : Module :=
  let ss := (List.range 16).filter (fun i =>
    (m.stream i).state = 2 && (qs.contains (m.stream i).cfg.queue || also i (m.stream i)))
  ss.foldl (fun m i => resetStream i m) ((qs ++ ss.map (fun i => (m.stream i).cfg.queue)).foldl freezeQueue m)

/-- The queues bound to a context. -/
def queuesOf (m : Module) (k : Nat) : List Nat := (List.range 512).filter (fun q => boundTo (m.queue q) k)

/-- The queues of R187 for a partition reset. -/
def queuesIn (m : Module) (n : Nat) (ks : List Nat) : List Nat :=
  (List.range 512).filter (fun q => queueInPart (m.queue q) n || ks.any (boundTo (m.queue q)))

/-! ### What R391 does from step 5 -/

/-- The engine state of a core is cleared (R391 step 6). -/
def clearEngines (m : Module) (c : Nat) : Module :=
  let m := (List.range 64).foldl (fun m e => m.setEng c e {}) m
  m.updCore c (fun v => { v with mover := [], red := [], fired := [], grids := [], bundles := 0, mask := 0, parkReq := false, stopReq := false })

/-- Steps 5 to 8 of R391 for context k: torn down when ACTIVE, cleared, its queues thawed, ACTIVE again; a FREE one stays FREE (R257,
notes/assumptions/100). -/
def resetFrom5 (capture : Nat) (m : Module) (k : Nat) : Module :=
  let cs := coresOf m k
  let m := abandonOps (fun o => o.ctx == k) m
  let m := cs.foldl abandonMovers m
  let v := m.ctx k
  let m := if v.state = 1 then tearDown k 0 m
    else if v.groupAuto && v.group != 0 then fabricOriginate v.group false m else m
  let m := cs.foldl clearEngines m
  let m := ((List.range 512).filter (fun q => ctxFreezes m k q && !frozenByPart m q)).foldl (thawQueue false) m
  let m := m.updCtx k (fun v => { v with state := if v.destroying || v.state = 0 then v.state else 1, hwFault := 0 })
  let m := event 0x0C11 0 [(0, 1, 0), (1, 1, k), (4, 4, capture)] m
  { m with
    rcv := { m.rcv with
      ctr := bump m.rcv.ctr 1, ctxWaiting := setBit m.rcv.ctxWaiting k false, ctxCause := m.rcv.ctxCause.put 0 k 0
      partRst := m.rcv.partRst.map (fun p => { p with left := setBit p.left k false }) }
    sched := { m.sched with due := true } }

/-! ### Hangs (R387, R388) -/

/-- The operations of an engine that are in flight. -/
def opsOf (m : Module) (c e : Nat) : List ROp := m.fab.ops.filter (fun o => o.peer.isNone && o.core == c && o.eng == e)

/-- Whether everything of an engine that is not drained can wait at bridges into partition n (R388): its operations, and, where the
mover holds a descriptor of it, the one in service. -/
def allHeld (m : Module) (n c e : Nat) : Bool :=
  let os := opsOf m c e
  let mine := (m.core c).mover.any (fun j => j.eng == e)
  n < 4 && (!os.isEmpty || mine) && os.all (heldInto m n) && (!mine || canHold m n (.mover c))

/-- QUIESCE_TIMEOUT (R387, R388): 1 ms after its forced stop began an engine is not drained; `into` is the partition into
which all its undrained operations wait at bridges, where they do. -/
def execQuiesceTimeout (c : Fin 32) (e : Fin 64) (into : Option Nat) (s : State) : Res :=
  s.gragor (fun m =>
    let v := m.eng c e
    match (m.core c).ctx, ((m.core c).job).bind (findJob m) with
    | some k, some j =>
      match j.forcedAt with
      | some t =>
        if !slotRun v && v.inflight != 0 && !v.told && passed m t msUnit then
          let m := m.setEng c e { v with told := true }
          match into.filter (fun n => allHeld m n c e) with
          | some n => hang true n 3 v.inflight none m
          | none => hang false k 2 0 none m
        else m
      | none => m
    | _, _ => m)

/-- BRIDGE_STALL (R387, R388): the packet at the head of a bridge queue into partition n has waited BRIDGE_MS, which it can have done
only when it has been on its way so long (notes/assumptions/49); `held` are the packets that wait there, in the queue's order. -/
def execBridgeStall (n : Nat) (held : List FabricPacket) (s : State) : Res :=
  s.gragor (fun m =>
    if n < 4 && packetsOk m (fun p => canHold m n p || canAnswer m n p) held && held.head?.any (fun p => passed m (sinceOf m p) (m.rcv.bridgeMs * msUnit)) then
      hang true n 3 held.length none m
    else m)

/-- FABRIC_ERROR (R387): an uncorrectable error in a router's or bridge's own buffers. -/
def execFabricError (n : Nat) (s : State) : Res := s.gragor (fun m => if n < 4 then hang true n 4 0 none m else m)

/-! ### The context reset (R391) -/

/-- The operations of a context that a reset waits for. -/
def liveOps (m : Module) (k : Nat) : List ROp := m.fab.ops.filter (fun o => o.peer.isNone && o.ctx == k && o.phase != 4)

/-- The descriptors of an engine that a lost one keeps in its mover (R393 step 4). -/
def stuckMovers (m : Module) (c e : Nat) : Nat :=
  if (m.core c).mover.head?.any (·.lost) then ((m.core c).mover.filter (fun j => j.eng == e)).length else 0

/-- Whether every engine of a context is drained, but for what a partition reset has lost (R391 step 4). -/
def ctxDrained (m : Module) (k : Nat) : Bool :=
  (liveOps m k).isEmpty && (coresOf m k).all (fun c => (List.range 64).all (fun e =>
    (m.eng c e).inflight ≤ (opsOf m c e).length + stuckMovers m c e))

/-- Whether a context has something that can be held toward partition n or be lost in it (R390). -/
def mayStick (m : Module) (k n : Nat) : Bool :=
  n < 4 && ((liveOps m k).any (fun o => heldInto m n o || insidePart m n o || responseInto m n o)
    || (coresOf m k).any (fun c => canHold m n (.mover c) || canLose m n (.mover c)))

/-- The recovery of a context that is due now (R389): the oldest, or one that a partition reset's step 6 asks for. -/
def dueCtx (m : Module) (k : Nat) : Option RecItem :=
  let mine := m.rcv.queue.find? (fun r => !r.part && r.obj == k)
  match m.rcv.partRst, m.rcv.queue.head? with
  | some p, _ => if p.hit.contains k && (m.ctx k).state = 2 then mine else none
  | none, some h => if !h.part && h.obj = k then mine else none
  | none, none => none

/-- CONTEXT_RESET (R391 steps 1 to 3): the streams stop whose queue is bound to the context (R391) or owned by it (R209). -/
def execContextReset (ctx : Nat) (s : State) : Res :=
  s.gragor (fun m =>
    if m.power.entry.isSome || m.rcv.ctxRst.isSome then m
    else match dueCtx m ctx with
      | none => m
      | some r =>
        let m := resetCommits false ctx m
        let m := (coresOf m ctx).foldl stopIssue m
        let m := freezeAll (queuesOf m ctx) (fun _ s => ownedBy m ctx s) m
        let m := keepCapture r.capture (captureBytes m r.capture 0 r.cause false ctx [ctx] 0 false) m
        { m with rcv := { m.rcv with
          queue := m.rcv.queue.erase r, ctxRst := some { ctx := ctx, capture := r.capture, since := m.time.elapsed, by_ := r.by_ } } })

/-- FLAGS bit 1 of a kept capture: slots undrained at 1 ms (Table 19-2). -/
def flagUndrained (id : Nat) (m : Module) : Module :=
  { m with rcv := { m.rcv with captures := m.rcv.captures.map (fun c =>
    if c.id = id && leAt c.bytes 38 2 / 2 % 2 = 0 then { c with bytes := setBytes c.bytes 38 (leBytes 2 (leAt c.bytes 38 2 + 2)) } else c) } }

/-- A context reset escalates to a partition (R390): under PART_ACTION, unless its reset is due or awaited already. -/
def escalate (m : Module) (n : Nat) : Module :=
  if recovering m true n || m.rcv.partWaiting.getLsbD n then m else hang true n 3 0 none m

/-- The end of a context reset (R391 steps 5 to 8). -/
def endCtxReset (r : CtxRst) (m : Module) : Module :=
  let m := resetFrom5 r.capture { m with rcv := { m.rcv with ctxRst := none } } r.ctx
  if r.by_.isSome then finish 0x0C02 r.ctx 0 (leBytes 4 r.capture) m else m

/-- CONTEXT_RESET_DRAIN (R391 steps 4 to 8, R390): after 1 ms the reset escalates to the partitions in which the drain finds
operations of it held or lost; where it finds none and has escalated to none, it resumes, which R391's 2 ms ask for
(notes/assumptions/48). -/
def execContextResetDrain (d : DrainCheck) (s : State) : Res :=
  s.gragor (fun m =>
    match m.rcv.ctxRst with
    | none => m
    | some r =>
      if r.ctx != d.ctx then m
      else if ctxDrained m r.ctx then endCtxReset r m
      else if passed m r.since msUnit then
        let ns := (d.into.filter (mayStick m r.ctx)).dedup
        let m := flagUndrained r.capture m
        if ns.isEmpty && !r.escalated then endCtxReset r m
        else ns.foldl escalate { m with rcv := { m.rcv with ctxRst := some { r with escalated := r.escalated || !ns.isEmpty } } }
      else m)

/-! ### The partition reset (R393) -/

/-- The recovery of a partition that is due now (R389, R390): the oldest, or, while an undrained context reset waits, that of a
partition where something of its context can be held or lost. -/
def duePart (m : Module) (n : Nat) : Option RecItem :=
  let mine := m.rcv.queue.find? (fun r => r.part && r.obj == n)
  match m.rcv.ctxRst, m.rcv.queue.head? with
  | some c, _ => if passed m c.since msUnit && mayStick m c.ctx n then mine else none
  | none, some h => if h.part && h.obj = n then mine else none
  | none, none => none

/-- Step 4 for one core: what it had issued is lost, before any memory is cleared. -/
def dropIssued (m : Module) (c : Nat) : Module := dropPushes c (abandonMovers (abandonOps (fun o => o.core == c) m) c)

/-- Step 4 for one core: its engines, scratchpad and program store. -/
def clearCore (m : Module) (c : Nat) : Module :=
  clearEngines { m with mem := memClear (memClear m.mem (spadBase c) 0x80000) (progBase c) 0x10000 } c

/-- Step 4 for some cores. -/
def resetCores (cs : List Nat) (m : Module) : Module := cs.foldl clearCore (cs.foldl dropIssued m)

/-- A partition's quadrant is zero with valid check bits. -/
def clearQuad (n : Nat) (m : Module) : Module := { m with mem := memClear m.mem (storeBase + n * quadBytes) quadBytes }

/-- The cores of a partition. -/
def coresIn (m : Module) (n : Nat) : List Nat := (List.range (nCores m)).filter (fun c => partOfCore m c == n)

/-- Contexts whose admitted job has a faulted engine or a fault of another unit. -/
def faultedCtxs (m : Module) : List Nat :=
  (List.range 64).filter (fun k => match admittedOf m k with
    | some j => !(faultsOf m j).isEmpty || (m.ctx k).hwFault != 0
    | none => false)

/-- Steps 1 to 3 of R393 for one partition and its contexts, but for the edge: issue stops, queues freeze (`freeze`), and the capture is
taken. -/
def stopPart (n : Nat) (ks : List Nat) (freeze : Module → Module) (r : RecItem) (packets : Nat) (m : Module) : Module :=
  let m := freeze ((ks.flatMap (coresOf m)).foldl stopIssue m)
  keepCapture r.capture (captureBytes m r.capture 1 r.cause true n ks packets false) m

/-- Contexts that step 5 has faulted are reset next under CTX_ACTION AUTO (R393 step 6), each with a capture of its own. -/
def queueHit (cause : Nat) (hit : List Nat) (m : Module) : Module :=
  if m.rcv.ctxAction = 0 then m
  else
    let items := hit.zipIdx.map (fun p => ({ part := false, obj := p.1, capture := m.rcv.nextCapture + p.2, cause := cause, by_ := none } : RecItem))
    { m with rcv := { m.rcv with
      queue := items ++ m.rcv.queue, nextCapture := m.rcv.nextCapture + items.length
      partRst := m.rcv.partRst.map (fun p => { p with hit := hit }) } }

/-- PARTITION_RESET (R393 steps 1 to 5): `held` are the packets held at bridges toward n, `lost` those inside n, `responses` what of the
responses is held toward n (notes/assumptions/49). -/
def execPartitionReset (n : Nat) (held lost responses : List FabricPacket) (s : State) : Res :=
  s.gragor (fun m =>
    if m.power.entry.isSome || m.rcv.partRst.isSome || 4 ≤ n || !packetsOk m (canHold m n) held
        || !lost.all (fun p => canLose m n p && !held.contains p) || !responses.all (fun p => canAnswer m n p && !held.contains p) then m
    else match duePart m n with
      | none => m
      | some r =>
        let ks := ctxsInPart m n
        let m := resetCommits true n m
        let m := { m with fab := { m.fab with bridgeClosed := m.fab.bridgeClosed.put false n true } }
        let freeze := fun m => freezeAll (queuesIn m n ks) (fun i s => refInPart n i s || ks.any (fun k => ownedBy m k s)) m
        let m := stopPart n ks freeze r held.length m
        let m := { m with
          mem := { m.mem with partRefresh := setBit m.mem.partRefresh n true }
          rcv := { m.rcv with
            queue := m.rcv.queue.erase r
            partRst := some { part := n, capture := r.capture, by_ := r.by_, ctxs := maskOf 64 ks, hit := [], left := maskOf 64 ks }
            ctr := bumpBy m.rcv.ctr 3 held.length } }
        let m := (lost ++ responses).dedup.foldl losePacket m
        let m := clearQuad n (resetCores (coresIn m n) m)
        let before := faultedCtxs m
        let m := takeTransit (lost ++ responses) false (takeTransit held true (held.dedup.foldl releasePacket m))
        let hit := (faultedCtxs m).filter (fun k => !before.contains k && !ks.contains k && (m.rcv.ctxRst.map (·.ctx)) != some k)
        queueHit r.cause hit m)

/-- Whether step 6 is done with the contexts that step 5 faulted. -/
def hitDone (m : Module) (p : PartRst) : Bool :=
  p.hit.all (fun k => !m.rcv.queue.any (fun r => !r.part && r.obj == k) && !(m.rcv.ctxRst.any (fun c => c.ctx == k && !passed m c.since msUnit)))

/-- PARTITION_RESET_COMPLETE (R393 steps 6 and 7): `failed` is what the self-tests find, (core, physical engine). -/
def execPartitionResetComplete (n : Nat) (failed : List (Nat × Nat)) (s : State) : Res :=
  s.gragor (fun m =>
    match m.rcv.partRst with
    | none => m
    | some p =>
      if p.part != n || !hitDone m p then m
      else
        let ks := (bitsOf p.left).filter (fun k => (m.rcv.ctxRst.map (·.ctx)) != some k)
        let m := clearQuad n (ks.foldl (resetFrom5 p.capture) m)
        let m := ((coresIn m n).filter (domOn m)).foldl (fun m c => selfTest c (foundOn failed c) m) m
        let m := { m with
          fab := { m.fab with bridgeClosed := m.fab.bridgeClosed.put false n false }
          mem := { m.mem with partRefresh := setBit m.mem.partRefresh n false }
          rcv := { m.rcv with
            partRst := none, partWaiting := setBit m.rcv.partWaiting n false, partCause := m.rcv.partCause.put 0 n 0
            ctr := bump m.rcv.ctr 2 }
          sched := { m.sched with due := true } }
        let m := ((List.range 512).filter (fun q => !frozenByCtx m q || queueInPart (m.queue q) n)).foldl
          (fun m q => thawQueue (queueInPart (m.queue q) n) m q) m
        let m := event 0x0C11 0 [(0, 1, 1), (1, 1, n), (4, 4, p.capture)] (drainTransit m)
        if p.by_.isSome then finish 0x0C03 n 0 (fields 24 [(0, 4, p.capture), (8, 8, p.ctxs.toNat)]) m else m)

/-! ### The Gragor restart (R396, R397) -/

/-- An intake stream at a restart (R397): the sample in progress, and each that is held in the sieve's buffer up to its EOP word, is
discarded and counted in TRUNCATED (Table 9-7). -/
def restartStream (s : Stream) : Stream :=
  let open_ := s.state = 2 && (match s.frame with | some f => f.admitted | none => false)
  { ctr := bumpBy s.ctr 7 ((s.remainder.filter (fun w => w.tag.getLsbD 4)).length + if open_ then 1 else 0) }

/-- The peripheral endpoints end (R397), and the queues are FREE (R396 step 4). -/
def endPeripherals (m : Module) : Module :=
  { m with
    streams := m.streams.map (fun p => (p.1, restartStream p.2))
    links := { m.links with tx := [] }
    trl := { m.trl with policyQ := none, statusQ := none, packet := none }
    time := { m.time with ports := m.time.ports.map (fun p => (p.1, { p.2 with filters := [] })) }
    queues := [] }

/-- Deferred commands that a restart ends without a completion, by client (R246, R252): with those of a restart before it
that has not reached READY. -/
def endedByClient (m : Module) : Tab Nat :=
  (List.range 15).foldl (fun t n => t.put 0 n (min 255 ((if m.host.gState = 4 then m.host.ended.get 0 n else 0)
    + (m.host.deferred.filter (fun d => d.client == n)).length))) []

/-- An image in eMMC that is no valid one (R407): erased, or the first bytes of the new one, which the checks refuse for their form. -/
def brokenImage (m : Module) (bs : List Byte) : List Byte :=
  let cut := bs.take ((free m).toNat / 4 % (bs.length + 1))
  if formatOk (part cut 0 256) then [] else cut

/-- An install that a restart or a power loss ends (R407): before step 2 eMMC is unchanged, as it is where the staged image fails its
checks; after it no valid image is left. How far it had come is open. -/
def breakInstall (m : Module) : Module :=
  if !m.boot.installing then m
  else
    let bs := stagedImage m
    let late := imageReason m.boot.rpmbSvn bs = 0 && (free m).getLsbD 0
    freeNext { m with boot := { m.boot with
      installing := false, emmcValid := m.boot.emmcValid && !late, emmc := if late then brokenImage m bs else m.boot.emmc } }

/-- An attestation that ends while its leaf is being written (R410, R411): whether the write took place is open. -/
def breakAttest (m : Module) : Module :=
  if m.boot.attests.isEmpty || 2 ^ 20 ≤ m.boot.lmsNext then m
  else
    let b := m.boot
    freeNext (if (free m).getLsbD 0 then rpmbWrite (b.lmsNext + 1) b.rpmbSvn b.bootCount { m with boot := { b with attests := [] } }
      else { m with boot := { b with attests := [] } })

/-- Every operation in flight is gone (R396 step 2): those of peers are answered with TARGET_RESET. -/
def restartOp (m : Module) (o : ROp) : Module :=
  if o.peer.isSome then endPeer o 8 (partialPut o m) else dropOp (partialPut o m) o.id

/-- Packets in transit that wait to cross a bridge are held at it (R396 step 2). -/
def restartTransit (m : Module) : Module :=
  takeTransit ((List.range 4).flatMap (fun r => ((List.range (m.runner r).transit.length).filter (fun i =>
    (transitWay m r i).any (fun w => w.1 != w.2))).map (.transit r))) true m

/-- Steps 1 to 3 of R393 on one partition, for a restart (notes/assumptions/50): the cause and the count of packets held are open, and
R397 says how the streams end. -/
def restartStop (m : Module) (n : Nat) : Module :=
  let ks := ctxsInPart m n
  let id := m.rcv.nextCapture
  stopPart n ks (fun m => (queuesIn m n ks).foldl freezeQueue m) ⟨true, n, id, (free m).toNat % 256, none⟩ ((free m).toNat / 256 % 2 ^ 32)
    (freeNext { m with rcv := { m.rcv with nextCapture := id + 1 } })

/-- The hangs a restart clears (R399): contexts and partitions whose recovery runs, is due or is awaited. -/
def hungCtxs (m : Module) : Nat := ((List.range 64).filter (fun k => m.rcv.ctxWaiting.getLsbD k || recovering m false k)).length
def hungParts (m : Module) : Nat := ((List.range 4).filter (fun n => m.rcv.partWaiting.getLsbD n || recovering m true n)).length

/-- What a Gragor restart clears of Gragor's own state (R264, R281, R396, R411); a golden slot that it cuts gets no verdict (R377). -/
def restartState (m : Module) : Module :=
  { m with
    fab := { sync := m.fab.sync, nextOp := m.fab.nextOp }
    sched := { due := true }
    kv := {}
    mem := { m.mem with partRefresh := BitVec.allOnes 4 }
    host := { m.host with
      gState := 4, restarts := min 0xFFFF (m.host.restarts + 1), deferred := [], readyReason := 2
      mbx := m.host.mbx.map (fun p => (p.1, { p.2 with ctr := [] })), evtLost := 0 }
    power := { m.power with entry := none, abortDue := none, waking := none, waiting := [], domainReq := [], parked := 0 }
    health := { m.health with binPending := 0, consentAt := none, binForce := false, writing := [] }
    safety := { m.safety with gtLost := m.safety.gtLost || !m.safety.gtPending.isEmpty, gtPending := [], gtJobs := [] }
    rcv := { m.rcv with
      queue := [], ctxRst := none, partRst := none, ctxWaiting := 0, partWaiting := 0, ctxCause := [], partCause := []
      aborts := [], ctr := bumpBy (bumpBy m.rcv.ctr 1 (hungCtxs m)) 2 (hungParts m) }
    boot := { m.boot with attests := [], fetching := [] } }

/-- A Gragor restart (R396): steps 1 to 4 of R393 on every partition, and everything of Gragor's is discarded. -/
def gragorRestart (m : Module) : Module :=
  let ended := endedByClient m
  let m := (List.range 4).foldl restartStop (breakAttest (breakInstall { m with host := { m.host with ended := ended } }))
  let m := { m with host := { m.host with gState := 4 } }
  let m := restartTransit (m.fab.ops.foldl restartOp m)
  let m := resetCores (List.range (nCores m)) m
  let m := (List.range 32).foldl (fun m c => m.updCore c (fun v => { v with job := none, ctx := none })) m
  let m := (List.range 4).foldl (fun m n => clearQuad n m) m
  restartState (endPeripherals m)

/-- GRAGOR_RESTART (R396, R398): OK, then the restart. -/
def execGragorRestart (n : Nat) (s : State) : Res :=
  s.act (command 0x0C07 n
    (fun ps _ => [badLen ps 8, resv ps 0 8, (notHostSafety n, 0x24)])
    (fun _ m => gragorRestart (respond n 0 [] m)))

/-- GRAGOR_DEADLINE_MISS (R390). -/
def execGragorDeadlineMiss (s : State) : Res := s.gragor gragorRestart

/-- LOCKSTEP_MISMATCH (R381, R390): the cause is raised; Gragor, where it runs, restarts. -/
def execLockstepMismatch (s : State) : Res :=
  s.act (fun m =>
    if !domOn m 37 then m
    else
      let m := if domOn m 48 then raiseCause 8 m else m
      if 2 ≤ m.host.gState && m.host.gState ≤ 4 then gragorRestart m else m)

/-! ### Fabric abort (R395) -/

/-- FABRIC_GROUP (R395, R398). -/
def execFabricGroup (n : Nat) (s : State) : Res :=
  s.act (command 0x0C05 n
    (fun ps m =>
      let k := leAt ps 0 1
      [badLen ps 8, (k > 63 || leAt ps 1 1 > 1, 0x22), resv ps 4 4, (n != 14 && foreign m n k, 0x24), ((m.ctx k).state != 1, 0x23)])
    (fun ps m => respond n 0 [] (m.updCtx (leAt ps 0 1) (fun v => { v with group := leAt ps 2 2, groupAuto := leAt ps 1 1 = 1 }))))

/-- FABRIC_ABORT (R395): deferred. -/
def execFabricAbort (n : Nat) (s : State) : Res :=
  s.act (command 0x0C06 n
    (fun ps _ => [badLen ps 8, (leAt ps 0 2 = 0, 0x22), resv ps 2 6, (notHostSafety n, 0x24)])
    (fun ps m => accept n (leAt ps 0 2) (fabricOriginate (leAt ps 0 2) true) m))

/-- FABRIC_ABORT_NOTICE (R395 step 3): acted on once for each origin and sequence; the credit it used returns to its sender (R126). -/
def execFabricAbortNotice (runner origin g seq : Nat) (s : State) : Res :=
  s.gragor (fun m =>
    if !(runner < 4 && (m.runner runner).state = 2 && origin < 16 && 0 < g && g < 65536) then m
    else
      let m := sendRunner runner (.credit 64 1) m
      if m.rcv.seen.contains (origin, seq) then m
      else
        let r := abortGroup g m
        let m := { r.1 with rcv := { r.1.rcv with seen := (origin, seq) :: r.1.rcv.seen, ctr := bump r.1.rcv.ctr 5 } }
        let m := sendNotice origin g seq runner m
        let m := (answerRoute m runner origin).elim m (fun e => sendRunner e (.noticeReply origin 1 seq) m)
        event 0x0C12 0 [(0, 1, origin), (2, 2, g), (4, 4, r.2)] m)

/-- The modules the route table names. -/
def routed (m : Module) : List Nat := (List.range 16).filter (fun i => m.links.route.getD i 0xFF != 0xFF)

/-- FABRIC_ABORT_COMPLETE (R395 step 4): the oldest abort; every module named has replied, or 10 ms have passed. -/
def execFabricAbortComplete (replied : BitVec 16) (s : State) : Res :=
  s.gragor (fun m =>
    match m.rcv.aborts with
    | [] => m
    | (g, t) :: rest =>
      if (bitsOf replied).all (fun i => (routed m).contains i)
          && ((routed m).all (fun i => replied.getLsbD i) || passed m t (10 * msUnit)) then
        finish 0x0C06 g 0 (leBytes 2 replied.toNat) { m with rcv := { m.rcv with aborts := rest } }
      else m)

/-! ### Class 0x0C commands (R398, R399) -/

/-- RUNNING of Table 19-7. -/
def recoveryRunning (m : Module) : Nat := if m.rcv.partRst.isSome then 2 else if m.rcv.ctxRst.isSome then 1 else 0

/-- RCV_STATUS (Table 19-7). -/
def execRcvStatus (n : Nat) (s : State) : Res :=
  s.act (command 0x0C00 n
    (fun ps _ => [badLen ps 8, (leAt ps 0 1 > 1, 0x22), resv ps 1 7])
    (fun ps m =>
      let r := m.rcv
      let data := fields 44 ([(0, 1, recoveryRunning m), (1, 1, r.ctxAction), (2, 1, r.partAction), (3, 1, r.partWaiting.toNat),
          (4, 2, r.bridgeMs), (8, 8, r.ctxWaiting.toNat), (16, 4, ((r.captures.head?).map (·.id)).getD 0)]
        ++ (List.range 6).map (fun i => (20 + 4 * i, 4, r.ctr.get 0 i)))
      respond n 0 data (if leAt ps 0 1 = 1 then { m with rcv := { r with ctr := [] } } else m)))

/-- RCV_POLICY (R398). -/
def execRcvPolicy (n : Nat) (s : State) : Res :=
  s.act (command 0x0C01 n
    (fun ps _ => [badLen ps 8, (leAt ps 0 1 > 1 || leAt ps 1 1 > 1 || leAt ps 2 2 < 1 || leAt ps 2 2 > 1000, 0x22), resv ps 4 4,
      (notHostSafety n, 0x24)])
    (fun ps m => respond n 0 [] { m with rcv := { m.rcv with
      ctxAction := leAt ps 0 1, partAction := leAt ps 1 1, bridgeMs := leAt ps 2 2 } }))

/-- A reset is commanded (R387, R389): of an object that awaits one, for the cause it has; else a hang with cause HOST. -/
def commandReset (part : Bool) (obj n : Nat) (m : Module) : Module :=
  let waiting := if part then m.rcv.partWaiting.getLsbD obj else m.rcv.ctxWaiting.getLsbD obj
  let by_ := some (n, reqTag m n)
  if waiting then
    let cause := if part then m.rcv.partCause.get 0 obj else m.rcv.ctxCause.get 0 obj
    { m with rcv := { m.rcv with
      nextCapture := m.rcv.nextCapture + 1, queue := m.rcv.queue ++ [⟨part, obj, m.rcv.nextCapture, cause, by_⟩] } }
  else hang part obj 5 0 by_ m

/-- CTX_RESET (R389, R391): deferred. -/
def execCtxReset (n : Nat) (s : State) : Res :=
  s.act (command 0x0C02 n
    (fun ps m =>
      let k := leAt ps 0 1
      [badLen ps 8, (k > 63, 0x22), resv ps 1 7, (n != 14 && foreign m n k, 0x24), ((m.ctx k).state = 0, 0x23),
        (recovering m false k, 0x10)])
    (fun ps m => accept n (leAt ps 0 1) (commandReset false (leAt ps 0 1) n) m))

/-- PART_RESET (R389, R393): deferred. -/
def execPartReset (n : Nat) (s : State) : Res :=
  s.act (command 0x0C03 n
    (fun ps m => [badLen ps 8, (leAt ps 0 1 > 3, 0x22), resv ps 1 7, (notHostSafety n, 0x24), (recovering m true (leAt ps 0 1), 0x10)])
    (fun ps m => accept n (leAt ps 0 1) (commandReset true (leAt ps 0 1) n) m))

/-- Bytes of a record a command reads: RETURNED, 6 reserved bytes, then at most 496 bytes from OFFSET. -/
def readPart (bs : List Byte) (off : Nat) : List Byte :=
  let part := (bs.drop off).take 496
  leBytes 2 part.length ++ leBytes 6 0 ++ part

/-- RCV_CAPTURE_READ (R392, R398). -/
def execRcvCaptureRead (n : Nat) (s : State) : Res :=
  s.act (command 0x0C04 n
    (fun ps m =>
      let c := m.rcv.captures.find? (fun c => c.id == leAt ps 0 4)
      [badLen ps 8, ((c.map (fun c => decide (c.bytes.length ≤ leAt ps 4 4))).getD true, 0x22)])
    (fun ps m =>
      match m.rcv.captures.find? (fun c => c.id == leAt ps 0 4) with
      | some c => respond n 0 (readPart c.bytes (leAt ps 4 4)) m
      | none => m))

end Sys2Proof.Machine
end

