-- ==== Sys2Proof/Machine/Boot.lean ====
section
/-!
DEFINITION. Start-up, firmware images, identity and attestation (chapter 20), and the pins and input power of chapter 21: the
sequence of R401, the checks of Table 20-4, READY (R252), the class 0x0D commands (R415), RESET#, WAKE#, PERST#, the TAP.
-/

namespace Sys2Proof.Machine

/-! ### Images (R403) -/

/-- Staging is cleared (R415). -/
def clearStaging (m : Module) : Module := { m with boot := { m.boot with staging := [], staged := 0, stagedBy := 0 } }

/-- An image starts (Table 20-1): GRAGOR_STATE STARTING, and CP and AON run from the root dividers. -/
def startImage (bs : List Byte) (source : Nat) (m : Module) : Module :=
  let h := part bs 0 256
  clearStaging { m with
    host := { m.host with gState := 2, fwVersion := BitVec.ofNat 32 (leAt h 16 4) }
    power := { m.power with onFio := false }
    boot := { m.boot with source := source, svn := leAt h 12 4, header := h } }

/-- The largest image (R403). -/
def maxImage : Nat := 1578292

/-! ### Power-on, RESET# and WAKE# from Off (R401, R427) -/

/-- The failed engines of a core, as the engine-failure records of the copy in force have them (R54, R354). -/
def loggedFailed (rs : List LogRec) (c : Nat) : List Nat :=
  (rs.filter (fun r => r.type == 3 && r.unit == c)).map (fun r => leAt r.data 0 1)

/-- A core after every field is at its Reset value: what eMMC keeps stays (R54, R66). -/
def rebornCore (rs : List LogRec) (c : Nat) (v : Core) : Core :=
  { failed := loggedFailed rs c, progErrors := v.progErrors, withdrawn := (loggedFailed rs c).length > 4 }

/-- The newest record of a type about a unit. -/
def lastRecord (rs : List LogRec) (type unit : Nat) : Option LogRec := rs.reverse.find? (fun r => r.type == type && r.unit == unit)

/-- A core's baseline, its degradation, and the bin, as the log has them (Table 17-2, R355, R356, R361). -/
def loggedBase (rs : List LogRec) (c : Nat) : Option (List Nat) :=
  (lastRecord rs 1 c).map (fun r => (List.range 4).map (fun i => leAt r.data (4 * i) 4))
def loggedAge (rs : List LogRec) (c : Nat) : Nat := ((lastRecord rs 2 c).map (fun r => leAt r.data 0 4)).getD 0
def loggedBin (rs : List LogRec) : Nat := ((lastRecord rs 4 0x2C).map (fun r => leAt r.data 1 1)).getD 0

/-- The SEQ after the newest record of the log. -/
def nextSeq (fixed ring : List LogRec) : Nat := (fixed ++ ring).foldl (fun n r => max n (r.seq + 1)) 0

/-- What the eMMC keeps of the health log and profiles, as Gragor reads it at the next boot (R354 to R356, R361, R365, R366). -/
def rebornHealth (m : Module) : Health :=
  let h := m.health
  let fixed := { h.logFixed with at_ := none }
  let ring := { h.logRing with at_ := none }
  { plans := (List.range 32).foldl (fun t c => match loggedBase fixed.recs c with
      | some r => t.put {} c { base := some r, d := loggedAge ring.recs c }
      | none => t) []
    logFixed := fixed, logRing := ring, logSeq := nextSeq fixed.recs ring.recs, poweredBefore := poweredTime m
    logFirst := if fixed.recs.isEmpty && ring.recs.isEmpty then none else h.logFirst, profiles := h.profiles, override := h.override, binLog := loggedBin fixed.recs }

/-- Every field is at its Reset value (R8), but for what is not state of the powered module: the fixed identity, the eMMC and
RPMB, the host's pins and memory, and the model's own logs. -/
def reborn (m : Module) : Module :=
  let m := breakAttest (breakInstall m)
  { cores := m.cores.map (fun p => (p.1, rebornCore m.health.logFixed.recs p.1 p.2))
    host := { part := m.host.part, grade := m.host.grade, stepping := m.host.stepping, coreEnable := m.host.coreEnable
              serialNo := m.host.serialNo }
    links := { perst := m.links.perst }
    power := { input := m.power.input }
    health := rebornHealth m
    boot := { emmc := m.boot.emmc, rpmbSvn := m.boot.rpmbSvn, lmsNext := m.boot.lmsNext, bootCount := m.boot.bootCount
              rpmbAuth := m.boot.rpmbAuth, buildA := m.boot.buildA, buildB := m.boot.buildB }
    hostMem := m.hostMem, wire := m.wire, freeCount := m.freeCount }

/-- GRAGOR_STATE and REASON after a check that failed. -/
def bootStop (state reason : Nat) (m : Module) : Module :=
  { m with host := { m.host with gState := state }, boot := { m.boot with reason := reason } }

/-- The checks of Table 20-4 as the boot ROM makes them at start-up (R402, R403, R406). -/
def bootChecks (b : BootInput) (m : Module) : Module :=
  if m.host.bootSrc = 3 then bootStop 5 9 m
  else if b.fail = 8 then bootStop 5 8 m
  else if b.fail = 7 then bootStop 5 7 m
  else
    let m := rpmbWrite m.boot.lmsNext m.boot.rpmbSvn ((m.boot.bootCount + 1) % 2 ^ 32) m
    if m.host.bootSrc != 0 then bootStop 1 0 m
    else if m.boot.emmc.isEmpty || b.fail = 1 then bootStop 1 1 m
    else
      let r := imageReason m.boot.rpmbSvn m.boot.emmc
      if r = 0 then startImage m.boot.emmc 0 { m with boot := { m.boot with emmcValid := true } } else bootStop 1 r m

/-- The sequence of R401 up to STARTING, WAIT_IMAGE or HALTED: straps sampled (R426), the root PLL locked (R348), the boot
ROM's checks made. -/
def startUp (reason : Nat) (b : BootInput) (m : Module) : Module :=
  let m := reborn m
  let src := b.bootSrc % 4
  bootChecks b { m with
    host := { m.host with moduleId := b.moduleId % 16, bootSrc := src, profileStrap := b.profile % 4, readyReason := reason }
    power := { m.power with
      locked := true, bin := m.health.binLog
      on := if src = 0 || src = 2 then setBit m.power.on 43 true else m.power.on } }

/-- The hold latches as they were, the trip record of PD_AON (R346, R363), and debug access that is locked until the next power-on
(R366). -/
def keepStandby (old m : Module) : Module :=
  { m with
    power := { m.power with latches := old.power.latches, levels := old.power.levels }
    health := { m.health with tripRec := old.health.tripRec, debugLock := old.health.debugLock } }

/-- POWER_ON (R401, R425): input power becomes valid. -/
def execPowerOn (b : BootInput) (s : State) : Res :=
  s.act (fun m =>
    if !m.power.input || (m.host.gState = 0 && !m.power.locked && !m.power.resetLow && !m.power.tripped && m.power.state = 0) then
      startUp 0 b { m with power := { m.power with input := true } }
    else m)

/-- A power loss cuts the log writes that are under way (R354). -/
def cutLogs (m : Module) : Module :=
  { m with health := { m.health with
    logFixed := cutWrite m.time.elapsed m.health.logFixed, logRing := cutWrite m.time.elapsed m.health.logRing } }

/-- INPUT_POWER_LOSS (R425): every rail is off, and the latches lose their levels; a log write that is under way is cut (R354). -/
def execInputPowerLoss (s : State) : Res :=
  s.act (fun m =>
    if m.power.input then
      let m := reborn (cutLogs m)
      { m with power := { m.power with input := false, on := 0, latches := 0 } }
    else m)

/-- Whether a low on RESET# or WAKE# is recognised (R427); between 2 µs and 10 µs it is open. -/
def lowSeen (us : Nat) (m : Module) : Bool := decide (10 ≤ us) || (decide (2 ≤ us) && (free m).getLsbD 0)

/-- What RESET# leaves as it was: debug access that is locked stays so until the next power-on (R366), and a thermal trip, which only
WAKE# or the removal of 12 V ends, keeps its condition, its record and its cause (R363, R381, notes/assumptions/53). -/
def keepTrip (old m : Module) : Module :=
  { m with
    power := { m.power with tripped := old.power.tripped }
    health := { m.health with debugLock := old.health.debugLock, tripRec := old.health.tripRec }
    safety := { m.safety with sticky := setBit 0 5 (old.safety.sticky.getLsbD 5) } }

/-- RESET_ASSERT (R427): every domain off, the latches at their levels after 12 V, every field at its Reset value. -/
def execResetAssert (lowUs : Nat) (s : State) : Res :=
  s.act (fun m =>
    if !m.power.input || m.power.resetLow then m
    else
      let seen := lowSeen lowUs m
      let m := freeNext m
      if seen then
        let n := keepTrip m (reborn m)
        { n with power := { n.power with on := 0, resetLow := true } }
      else m)

/-- RESET_RELEASE (R427): the start-up sequence, but in a thermal trip, where PD_AON alone is on again (R363). -/
def execResetRelease (b : BootInput) (s : State) : Res :=
  s.act (fun m =>
    if !m.power.resetLow then m
    else if m.power.tripped then { m with power := { m.power with resetLow := false, on := setBit 0 49 true } }
    else keepTrip m (startUp 1 b m))

/-- WAKE_PIN (R343, R363, R427, R428). -/
def execWakePin (lowUs : Nat) (b : BootInput) (s : State) : Res :=
  s.act (fun m =>
    if !m.power.input || m.power.resetLow then m
    else
      let seen := lowSeen lowUs m
      let m := freeNext m
      if !seen then m
      else if m.power.state = 4 || m.power.tripped then
        let n := keepStandby m (startUp 0 b m)
        { n with power := { n.power with wakeCause := 0x2C } }
      else if m.power.entry = some 4 then
        { m with power := { m.power with abortDue := some (m.power.abortDue.getD 0x2C) } }
      else if m.power.wakeMask.getLsbD 0 then wakeTowards 0x2C m.power.wakeTo m
      else m)

/-- OFF_CUTOFF (R340): 10 ms after an Off completion PD_CP and PD_AON are switched off, and PPS_OUT's latch captures (R345); the
latches stay (R346). -/
def execOffCutoff (s : State) : Res :=
  s.act (fun m =>
    match m.power.offAt with
    | some t =>
      if m.power.state = 4 && passed m t (10 * msUnit) then
        let m := { m with power := hold m.power 5 m.time.ppsOut }
        let n := keepStandby m (reborn m)
        { n with power := { n.power with on := 0, state := 4 } }
      else m
    | none => m)

/-- PERST_ASSERT (R429): the endpoint is in reset and the link down, where R318 applies in full: what is signalled stays pending. -/
def execPerstAssert (s : State) : Res := s.act (fun m => setLink 0 0 { m with links := { m.links with perst := true } })

/-- PERST_RELEASE (R429): the endpoint may train. -/
def execPerstRelease (s : State) : Res := s.act (fun m => { m with links := { m.links with perst := false } })

/-- The TAP's IDCODE (R430). -/
def idcode (m : Module) : W32 :=
  BitVec.ofNat 32 ((if m.host.stepping = 0xA1 then 1 else 2) * 2 ^ 28
    + (if m.host.part = Config.part1536 then 0x1536 else 0x2048) * 2 ^ 12 + 0x5A3 * 2 + 1)

/-- TAP_INSTRUCTION (R430): an instruction outside the offered set selects BYPASS, as IEEE 1149.1 has it. -/
def execTapInstruction (ir : Nat) (s : State) : Res :=
  s.act (fun m =>
    if m.power.input && (m.power.resetLow || domOn m 49) then
      let i := if ir ≤ 1 || (m.power.resetLow && ir ≤ 5) then ir else 0
      emit (.tap i (if i = 1 then idcode m else 0)) { m with boot := { m.boot with tap := i } }
    else m)

/-! ### READY (R252, R366, R413, R414) -/

/-- The number of the profile that is chosen and where the choice came from (R366). -/
def profileChoice (m : Module) : Nat × Nat :=
  match m.health.override with
  | some i => (i, 1)
  | none => (m.host.profileStrap, 0)

/-- Select and apply the profile (R366): debug access opens where nothing locks it (R430); a LOCK the host has set stays set, with what it locks (R251). -/
def applyProfile (m : Module) : Module :=
  let c := profileChoice m
  let bs := storedProfile m c.1
  let ok := profileValid c.1 bs
  let use := if ok then bs else defaultProfile
  { m with
    health := { m.health with
      profile := if ok then some (c.1, bs) else none, source := if ok then c.2 else 2
      debugLock := m.health.debugLock || leAt use 7 1 % 2 = 1, debugOpen := !m.health.debugLock && leAt use 7 1 % 2 = 0 }
    host := if m.host.mbxLock then m.host
      else { m.host with mbxPath := BitVec.ofNat 30 (leAt use 24 4), mbxLock := leAt use 7 1 / 2 % 2 = 1 }
    power := { m.power with wakeMask := BitVec.ofNat 6 (leAt use 32 4), wakeTo := leAt use 31 1 } }

/-- R252 for one mailbox: one that held OWNER 1 is RESTARTED with the response TORN_DOWN. After a Gragor restart no value L
exists; the L that mailbox 0 has from the boot ROM stays through the first READY (R242). -/
def readyMailbox (m : Module) (n : Nat) : Module :=
  let b := m.mbx n
  let b0 : Mbx := { b with
    last := if m.host.gState = 4 then none else b.last, held := m.host.gState != 4 && (b.held || b.owner), minor := none, pend := 0 }
  if b.owner then
    let r := leBytes 2 (reqCode m n) ++ leBytes 2 0x33 ++ leBytes 2 0 ++ leBytes 1 b.seq ++ leBytes 1 0
    signalSource n (m.setMbx n { b0 with resp := r ++ b.resp.drop 8, owner := false, state := 5 })
  else m.setMbx n b0

/-- The READY event's payload (Table 11-13's 0x0010). -/
def readyEvent (m : Module) : Module :=
  event 0x0010 0 ([(0, 1, m.host.readyReason), (4, 4, m.host.fwVersion.toNat)]
    ++ (List.range 15).map (fun n => (8 + n, 1, m.host.ended.get 0 n))) m

/-- What each READY resets (R252, R267, R392, R411, R414, R415); DDR4 is out of the self-refresh of a restart (R393 step 7). -/
def readyState (m : Module) : Module :=
  clearStaging { m with
    host := { m.host with
      gState := 3, ifVersion := Config.ifMajor * 256 + Config.maxMinor.toNat, evtHead := 0, evtTail := 0, evtLost := 0
      lostSince := 0, backlog := [], held := [], lastMs := m.time.elapsed / msUnit }
    sched := { due := true, lastMs := m.time.now / msUnit }
    rcv := { m.rcv with nextCapture := 1 }
    mem := { m.mem with partRefresh := 0 }
    boot := { m.boot with compared := false, nextReport := 1, reports := [], attests := [], fetching := [], installing := false } }

/-- The thermal trip is written to the log and told (R363). -/
def tellTrip (m : Module) : Module :=
  match m.health.tripRec with
  | some (i, t) =>
    let r := (BitVec.ofInt 8 t).toNat
    event 0x0114 0 [(0, 1, i), (1, 1, r)]
      (logPut 5 0x2C (leBytes 1 i ++ leBytes 1 r) { m with health := { m.health with tripRec := none } })
  | none => m

/-- A start-up's own part, after the READY record: the domains of Run with their self-tests (R54), the trip, the profile's
event, the plan (R357), the comparison of identities (R413, R414). -/
def firstReady (failed : List (Nat × Nat)) (recs : List (Option (List Byte))) (m : Module) : Module :=
  let m := (runDomains m).foldl (domainOn failed) m
  let m := tellTrip m
  let c := profileChoice m
  let m := if m.health.source = 2 then event 0x0116 0 [(0, 1, c.1)] m else m
  let m := (planned m).foldl (fun m i => replan i m) m
  compareBuild { m with links := { m.links with ids := recs.take 16 } }

/-- A restart's own part: the cores that are on repeat R54 (R393 step 7). -/
def againReady (failed : List (Nat × Nat)) (m : Module) : Module :=
  ((List.range (nCores m)).filter (domOn m)).foldl (fun m c => selfTest c (foundOn failed c) m) m

/-- GRAGOR_READY (R252, R401, R396): from STARTING, or from RESTARTING; `failed` is what the self-tests find, `recs` what the
16 identity addresses return. -/
def execGragorReady (failed : List (Nat × Nat)) (recs : List (Option (List Byte))) (s : State) : Res :=
  s.act (fun m =>
    if m.host.gState != 2 && m.host.gState != 4 then m
    else
      let first := m.host.gState = 2
      let m := (List.range 15).foldl readyMailbox m
      let m := if first then applyProfile m else m
      let m := { m with
        boot := { m.boot with mismatch := part (certificate m 0) 32 156 != identityKeys }
        safety := { m.safety with selfTest := if m.safety.selfTest = 0 then 1 else m.safety.selfTest } }
      let m := releaseSafe (startSharePeriod false (readyEvent (readyState m)))
      if first then firstReady failed recs m else againReady failed m)

/-! ### Class 0x0D commands (R415) -/

/-- Whether the running image's SVN is not committed (R406). -/
def uncommitted (m : Module) : Bool := m.boot.source != 0xFF && decide (m.boot.rpmbSvn < m.boot.svn)

/-- The OR of the four masks of R414. -/
def changedSlots (m : Module) : W16 := m.boot.masks.foldl (· ||| ·) 0

/-- IMAGE_DIGEST (Table 20-6); zero in the boot ROM. -/
def imageDigest (m : Module) : List Byte :=
  if m.boot.source = 0xFF then List.replicate 48 0 else digestBytes 48 (Config.sha384 m.boot.header).toNat

/-- BOOT_STATUS (Table 20-8). -/
def execBootStatus (n : Nat) (s : State) : Res :=
  s.act (command 0x0D00 n
    (fun ps _ => [badLen ps 8, resv ps 0 8])
    (fun _ m =>
      let b := m.boot
      let flags := (if b.mismatch then 1 else 0) + (if uncommitted m then 2 else 0) + (if changedSlots m != 0 then 4 else 0)
        + (if b.emmcValid then 8 else 0)
      respond n 0 (fields 24 [(0, 1, m.host.gState), (1, 1, b.reason), (2, 1, b.source), (3, 1, flags), (4, 4, b.svn),
        (8, 4, b.rpmbSvn), (12, 4, b.lmsNext), (16, 4, b.bootCount), (20, 4, b.staged)] ++ imageDigest m) m))

/-- Bytes are put into staging. -/
def stage (off : Nat) (bs : List Byte) (by_ : Nat) (m : Module) : Module :=
  { m with boot := { m.boot with
    staging := Tab.putRow 0 m.boot.staging off bs, staged := max m.boot.staged (off + bs.length), stagedBy := by_ } }

/-- IMAGE_WRITE (R415). -/
def execImageWrite (n : Nat) (s : State) : Res :=
  s.act (command 0x0D01 n
    (fun ps m =>
      let k := leAt ps 4 2
      [(ps.length != 8 + k, 0x21),
        (k < 1 || k > 496 || maxImage < leAt ps 0 4 + k, 0x22), resv ps 6 2, (m.host.gState = 3 && notHostSafety n, 0x24)])
    (fun ps m => respond n 0 [] (stage (leAt ps 0 4) (ps.drop 8) (if (m.mbx n).path = 1 then 1 else 2) m)))

/-- A fetch that completes sets STAGED_BYTES to BYTES (R415); one that fails leaves its range of staging open. -/
def fetched (bytes : Nat) (data : Option (List Byte)) (m : Module) : Module :=
  match data with
  | some bs =>
    let m := stage 0 bs 2 m
    { m with boot := { m.boot with staged := bytes } }
  | none => freeSkip { m with boot := { m.boot with staging := Tab.putRow 0 m.boot.staging 0 (freeBytes m bytes) } } bytes

/-- The read requests of the boot ROM, each of at most 4,096 bytes (R316). -/
def bootAsk (src n : Nat) (m : Module) : Module := (pieces src n).foldl (fun m c => emit (.hostRead c.1 c.2) m) m

/-- IMAGE_FETCH (R405, R415): synchronous in the boot ROM, where `ok` says that the transfers succeeded; deferred under
Gragor. -/
def execImageFetch (n : Nat) (ok : Bool) (s : State) : Res :=
  s.act (command 0x0D02 n
    (fun ps m =>
      let gr := m.host.gState = 3
      [badLen ps 16, (leAt ps 8 4 > maxImage, 0x22), resv ps 12 4, (gr && notHostSafety n, 0x24), (m.links.pcieSpeed = 0, 0x23),
        (gr && !coldCovered m (leAt ps 0 8) (leAt ps 8 4), 0x24)])
    (fun ps m =>
      let src := leAt ps 0 8
      let bytes := leAt ps 8 4
      if m.host.gState = 3 then
        accept n 0 (fun m => { m with boot := { m.boot with fetching := m.boot.fetching ++ [(src, bytes, m.time.elapsed)] } }) m
      else
      let m := bootAsk src bytes m
      if ok then respond n 0 [] (fetched bytes (some ((List.range bytes).map (fun i => hostByte m (src + i)))) m)
      else respond n 0x32 [] (fetched bytes none m)))

/-- IMAGE_FETCH_COMPLETE (R415, R321): the oldest fetch; `ok` says that every transfer succeeded. -/
def execImageFetchComplete (ok : Bool) (s : State) : Res :=
  s.gragor (fun m =>
    match m.boot.fetching with
    | [] => m
    | (src, bytes, _) :: rest =>
      let m := { m with boot := { m.boot with fetching := rest } }
      if ok && m.links.pcieSpeed != 0 && coldCovered m src bytes then
        finish 0x0D02 0 0 [] (fetched bytes (some (coldRead m src bytes)) (coldAsk src bytes m))
      else finish 0x0D02 0 0x32 [] (fetched bytes none m))

/-- IMAGE_RUN (R403, R405, R415). -/
def execImageRun (n : Nat) (s : State) : Res :=
  s.act (command 0x0D03 n
    (fun ps m => [badLen ps 8, resv ps 0 8, (m.host.gState = 3, 0x23)])
    (fun _ m =>
      let bs := stagedImage m
      let r := imageReason m.boot.rpmbSvn bs
      if r = 0 then startImage bs m.boot.stagedBy (respond n 0 [] m)
      else respond n 0x40 [] (bootStop 1 r m)))

/-- FW_INSTALL (R407): deferred. -/
def execFwInstall (n : Nat) (s : State) : Res :=
  s.act (command 0x0D04 n
    (fun ps m => [badLen ps 8, resv ps 0 8, (notHostSafety n, 0x24), (m.boot.installing, 0x10)])
    (fun _ m => accept n 0 (fun m => { m with boot := { m.boot with installing := true } }) m))

/-- An install has completed (R407): staging is cleared (R415). -/
def endInstall (rc : Nat) (m : Module) : Module :=
  finish 0x0D04 0 rc [] (clearStaging { m with boot := { m.boot with installing := false } })

/-- What eMMC holds where the image read back fails its checks: free bytes, and where those would pass, none that can be read. -/
def badImage (m : Module) (n : Nat) : List Byte :=
  let bs := freeBytes m n
  if imageReason m.boot.rpmbSvn bs = 0 then [] else bs

/-- FW_INSTALL_COMPLETE (R407, Table 20-8): `readBackOk` says that the image read back verifies; REASON is that of the last check that
failed. -/
def execFwInstallComplete (readBackOk : Bool) (s : State) : Res :=
  s.gragor (fun m =>
    if !m.boot.installing then m
    else
      let bs := stagedImage m
      let r := imageReason m.boot.rpmbSvn bs
      if r != 0 then endInstall 0x40 { m with boot := { m.boot with reason := r } }
      else if readBackOk then endInstall 0 { m with boot := { m.boot with emmc := bs, emmcValid := true } }
      else
        let bad := badImage m bs.length
        endInstall 0x40 (freeSkip { m with boot := { m.boot with
          emmc := bad, emmcValid := false, reason := if bad.isEmpty then 1 else imageReason m.boot.rpmbSvn bad } } bs.length))

/-- SVN_COMMIT (R406, R415): `ok` says that the RPMB write succeeded. -/
def execSvnCommit (n : Nat) (ok : Bool) (s : State) : Res :=
  s.act (command 0x0D05 n
    (fun ps m => [badLen ps 8, resv ps 0 8, (notHostSafety n, 0x24), (m.boot.installing, 0x10),
      (m.boot.rpmbSvn = m.boot.svn, 2), (!ok, 0x32)])
    (fun _ m => respond n 0 [] (rpmbWrite m.boot.lmsNext (max m.boot.rpmbSvn m.boot.svn) m.boot.bootCount m)))

/-- CERT_READ (R409, R415). -/
def execCertRead (n : Nat) (s : State) : Res :=
  s.act (command 0x0D06 n
    (fun ps _ => [badLen ps 8, (leAt ps 0 1 > 1 || leAt ps 4 4 ≥ 5428, 0x22), resv ps 1 3])
    (fun ps m => respond n 0 (readPart (certificate m (leAt ps 0 1)) (leAt ps 4 4)) m))

/-- ATTEST (R410, R411): deferred. -/
def execAttest (n : Nat) (s : State) : Res :=
  s.act (command 0x0D07 n
    (fun ps m => [badLen ps 32, (2 ^ 20 ≤ m.boot.lmsNext, 0x11)])
    (fun ps m => accept n 0 (fun m => { m with boot := { m.boot with attests := m.boot.attests ++ [part ps 0 32] } }) m))

/-- FLAGS of a report (Table 20-6). -/
def reportFlags (m : Module) : Nat :=
  (if changedSlots m != 0 then 1 else 0) + (if m.health.debugLock then 2 else 0)
    + (if m.boot.source = 1 || m.boot.source = 2 then 4 else 0) + (if uncommitted m then 8 else 0) + (if m.boot.mismatch then 16 else 0)

/-- PROFILE_DIGEST: zero for the default. -/
def profileDigest (m : Module) : List Byte :=
  match m.health.profile with
  | some p => digestBytes 48 (Config.sha384 p.2).toNat
  | none => List.replicate 48 0

/-- Bytes 0 to 255 of a report that uses leaf N (Table 20-6). -/
def reportHead (m : Module) (leaf : Nat) (nonce : List Byte) : List Byte :=
  let h := m.host
  let r := fields 256 [(0, 4, 0x4B5A4154), (4, 2, 1), (6, 2, reportFlags m), (8, 8, h.serialNo.toNat), (16, 4, identWord m),
    (20, 4, h.coreEnable.toNat), (24, 4, h.fwVersion.toNat), (28, 4, m.boot.svn), (32, 4, m.boot.rpmbSvn), (36, 4, m.boot.bootCount),
    (40, 4, leaf), (44, 1, (m.health.profile.map Prod.fst).getD 0xFF), (45, 1, m.health.source), (48, 4, strapsWord m),
    (56, 8, secOf m.time.now), (64, 4, nsOf m.time.now), (248, 2, (changedSlots m).toNat)]
  setBytes (setBytes (setBytes (setBytes r 72 nonce) 104 (imageDigest m)) 152 (profileDigest m)) 200
    (digestBytes 48 (buildDigest m).toNat)

/-- A signed report (R411). -/
def report (m : Module) (leaf : Nat) (nonce : List Byte) : List Byte :=
  let h := reportHead m leaf nonce
  h ++ ecdsaSign h ++ hssSign leaf h

/-- ATTEST_COMPLETE (R410, R411): the oldest attestation; `rpmbOk` says that the write and the read back of LMS_NEXT
succeeded. Where they did not, whether the write took place is open. -/
def execAttestComplete (rpmbOk : Bool) (s : State) : Res :=
  s.gragor (fun m =>
    match m.boot.attests with
    | [] => m
    | nonce :: rest =>
      let leaf := m.boot.lmsNext
      let m := { m with boot := { m.boot with attests := rest } }
      if 2 ^ 20 ≤ leaf then finish 0x0D07 0 0x11 [] m
      else if !rpmbOk then
        finish 0x0D07 0 0x32 [] (freeNext (rpmbWrite (leaf + (free m).toNat % 2) m.boot.rpmbSvn m.boot.bootCount m))
      else
        let id := m.boot.nextReport
        let bs := report m leaf nonce
        finish 0x0D07 0 0 (leBytes 4 id ++ leBytes 4 leaf)
          (rpmbWrite (leaf + 1) m.boot.rpmbSvn m.boot.bootCount { m with boot := { m.boot with
            nextReport := id + 1, reports := (⟨id, bs⟩ :: m.boot.reports).take 4 } }))

/-- ATTEST_READ (R411, R415). -/
def execAttestRead (n : Nat) (s : State) : Res :=
  s.act (command 0x0D08 n
    (fun ps m => [badLen ps 8,
      (leAt ps 4 4 ≥ 5428 || (m.boot.reports.find? (fun r => r.id == leAt ps 0 4)).isNone, 0x22)])
    (fun ps m =>
      match m.boot.reports.find? (fun r => r.id == leAt ps 0 4) with
      | some r => respond n 0 (readPart r.bytes (leAt ps 4 4)) m
      | none => m))

/-- BUILD_STATUS (R413 to R415). -/
def execBuildStatus (n : Nat) (s : State) : Res :=
  s.act (command 0x0D09 n
    (fun ps _ => [badLen ps 8, resv ps 0 8])
    (fun _ m =>
      respond n 0 ((List.range 16).flatMap (fun i => leBytes 1 (slotState (slotRec m i)))
        ++ (List.range 4).flatMap (fun i => leBytes 2 ((m.boot.masks.getD i 0).toNat))
        ++ leBytes 8 (if (acceptedBuild m).isSome then 1 else 0) ++ digestBytes 48 (buildDigest m).toNat) m))

/-- BUILD_ACCEPT (R414, R415): `ok` says that the eMMC write succeeded. -/
def execBuildAccept (n : Nat) (ok : Bool) (s : State) : Res :=
  s.act (command 0x0D0A n
    (fun ps _ => [badLen ps 8, resv ps 0 8, (notHostSafety n, 0x24)])
    (fun _ m =>
      let m := buildWrite ok m
      if ok then respond n 0 [] { m with boot := { m.boot with masks := [0, 0, 0, 0], quiet := some m.links.ids } }
      else respond n 0x32 [] m))

end Sys2Proof.Machine
end

