-- ==== Sys2Proof/Machine/EngineMac.lean ====
section
/-!
DEFINITION. The MAC slot (R89 to R92) and the reduction network (R73 to R75).
-/

namespace Sys2Proof.Machine

/-- A MAC word acts on the registers alone. -/
def macRegs (c e : Nat) (w : W32) (f : Regs → Regs → Regs) (m : Module) : Module :=
  execMacSlot c e w (fun v => .ok { v with nxt := f v.src v.nxt }) m

/-- MAC (R90): a split-mode MAC needs FLAGS bits 2 and 3 of its table (R35), else kind 0x01. -/
def execMac (c : Fin 32) (e : Fin 64) (w : W32) (s : State) : Res :=
  execSlot (.mac c e w) (execMacSlot c e w (fun v =>
    let p := v.src.ptab (fld w 15 15)
    let split := fld w 14 14 = 1
    if split && !(p.flags.getLsbD 2 && p.flags.getLsbD 3) then .error 1
    else
      let l := v.src.tile (fld w 23 20)
      let r := v.src.tile (fld w 19 16)
      let old := v.src.block (fld w 25 24)
      .ok { v with nxt := v.nxt.setBlock (fld w 25 24) (old.zipIdx.map (fun x =>
        macElem p split (fld w 13 13 = 1) l r x.1 (x.2 / 4) (x.2 % 4))) })) s

/-- ACLR (R90). -/
def execAclr (c : Fin 32) (e : Fin 64) (w : W32) (s : State) : Res :=
  execSlot (.aclr c e w) (macRegs c e w (fun _ n => n.setBlock (fld w 25 24) (List.replicate 16 {}))) s

/-- PCOMB (R48, R39): 16 × Ah + Al with fresh flags. -/
def execPcomb (c : Fin 32) (e : Fin 64) (w : W32) (s : State) : Res :=
  execSlot (.pcomb c e w) (macRegs c e w (fun r n =>
    n.setBlock (fld w 25 24) (List.zipWith (combine 16) (r.block (fld w 23 22)) (r.block (fld w 21 20))))) s

/-- CVT (R91, R42, R43): column j uses scale Q[(qbase + j) mod 256]; flags set the sticky conversion bits. -/
def execCvt (c : Fin 32) (e : Fin 64) (w : W32) (s : State) : Res :=
  execSlot (.cvt c e w) (execMacSlot c e w (fun v =>
    let els := v.src.block (fld w 21 20)
    let texp := (v.src.ptab (fld w 19 19)).texp
    .ok (stickyConv els { v with nxt := v.nxt.setVec (fld w 25 22) (els.zipIdx.map (fun x =>
      convert x.1 texp (v.src.scale (fld w 7 0 + x.2 % 4)))) }))) s

/-- Whether two groups of engines share one. -/
def groupsMeet (b g b' g' : Nat) : Bool := decide (b < b' + 2 ^ g') && decide (b' < b + 2 ^ g)

/-- Whether an instance has a member in common with a group of another range or kind under the same count (R75, R92). -/
def redClash (k base g : Nat) (float : Bool) (i : RedInst) : Bool :=
  i.idx == k && groupsMeet i.base i.g base g && !(i.base == base && i.g == g && i.float == float)

/-- An engine joins the instance its count names (R75, R92). Where an instance of that count, pending or fired, names another
group or kind, the engine that joins faults with kind 0x08: the manual names no member, and the ones already joined wait for
ever (notes/assumptions/60). -/
def joinRed (c e g : Nat) (float : Bool) (p : RedPart) (m : Module) : Module :=
  let k := (m.eng c e).joined
  let base := e / 2 ^ g * 2 ^ g
  let red := (m.core c).red
  if (red ++ (m.core c).fired).any (redClash k base g float) then engFault c e 8 m
  else
    let here := fun (i : RedInst) => i.idx == k && i.base == base
    let red' := if red.any here then red.map (fun i => if here i then { i with parts := i.parts ++ [p] } else i)
      else red ++ [{ idx := k, base := base, g := g, float := float, parts := [p] }]
    closeBundle c e ((m.updCore c (fun v => { v with red := red' })).updEng c e (fun v =>
      { v with joined := v.joined + 1, redOut := true, mcLeft := false }))

/-- REDI (R73, R92). -/
def execRedi (c : Fin 32) (e : Fin 64) (w : W32) (s : State) : Res :=
  execSlot (.redi c e w) (fun m =>
    if !macPresents m c e w then m
    else joinRed c e (fld w 2 0) false ⟨e, fld w 25 24, (m.eng c e).src.block (fld w 21 20)⟩ m) s

/-- REDF (R73, R92). -/
def execRedf (c : Fin 32) (e : Fin 64) (w : W32) (s : State) : Res :=
  execSlot (.redf c e w) (fun m =>
    if !macPresents m c e w then m
    else joinRed c e (fld w 2 0) true
      ⟨e, fld w 25 22, ((m.eng c e).src.vec (fld w 21 18)).map (fun x => { val := x })⟩ m) s

/-- One level of the binary32 tree (R73): adjacent pairs, the lower engine on the left. -/
def redLevel : List (List W32) → List (List W32)
  | a :: b :: t => List.zipWith flAdd a b :: redLevel t
  | t => t

/-- The binary32 tree over 2^g leaves (R73). -/
def redTree : Nat → List (List W32) → List (List W32)
  | 0, l => l
  | g + 1, l => redTree g (redLevel l)

/-- The leaves of an instance, in the order of the engines (R73). -/
def redLeaves (i : RedInst) : List (List Acc) :=
  (List.range (2 ^ i.g)).filterMap (fun n => (i.parts.find? (fun p => p.eng == i.base + n)).map (·.vals))

/-- The result of an instance (R73): the binary32 tree, or for each of the 16 elements the int32 sum of R39. -/
def redResult (i : RedInst) : List Acc :=
  let ls := redLeaves i
  if i.float then (((redTree i.g (ls.map (fun l => l.map (·.val)))).head?).getD []).map (fun x => { val := x })
  else (List.range 16).map (fun n => sumElem (ls.map (fun l => l.getD n {})))

/-- Write a member's result and end its outstanding reduction (R73, R75). Where a later bundle has written the destination meanwhile,
which the manual does not forbid (R74 holds only what reads it), the result overwrites that write: the model's choice
(notes/assumptions/62). -/
def redWrite (c : Nat) (float : Bool) (res : List Acc) (m : Module) (p : RedPart) : Module :=
  m.updEng c p.eng (fun v => { v with
    redOut := false
    nxt := if float then v.nxt.setVec p.dest (res.map (·.val)) else v.nxt.setBlock p.dest res })

/-- REDUCTION_FIRE (R74): the instance whose members have all contributed writes its result to every member. That it named its
group and kind is kept: a later member of the same count must name them too (R75). -/
def execReductionFire (c : Fin 32) (base idx : Nat) (s : State) : Res :=
  s.act (fun m =>
    match (m.core c).red.find? (fun i => i.base == base && i.idx == idx) with
    | none => m
    | some i =>
      if i.parts.length != 2 ^ i.g then m
      else
        let m := m.updCore c (fun v => { v with
          red := v.red.filter (fun j => !(j.base == base && j.idx == idx))
          fired := { i with parts := [] } :: v.fired })
        i.parts.foldl (redWrite c i.float (redResult i)) m)

end Sys2Proof.Machine
end

