-- ==== Sys2Proof/Machine/EngineVec.lean ====
section
/-!
DEFINITION. The vector slot (R93 to R96): lanes or one scalar in binary32 (R44) or int32, broadcast, lane copy, quantise
and dequantise.
-/

namespace Sys2Proof.Machine

/-- A vector word acts on the registers alone. -/
def vecRegs (c e : Nat) (w : W32) (f : Regs → Regs → Regs) (m : Module) : Module :=
  execVecSlot c e w (fun v => .ok { v with nxt := f v.src v.nxt }) m

/-- An arithmetic form (R93): f of a, b and d on 16 lanes, or on scalars with F set. -/
def vecArith (c e : Nat) (w : W32) (f : W32 → W32 → W32 → W32) (m : Module) : Module :=
  let d := fld w 25 22
  let a := fld w 21 18
  let b := fld w 17 14
  vecRegs c e w (fun r n =>
    if fld w 13 13 = 1 then n.setScalar d (f (r.scalar a) (r.scalar b) (r.scalar d))
    else n.setVec d ((List.range 16).map (fun l => f (r.lane a l) (r.lane b l) (r.lane d l)))) m

/-- VADD (R93). -/
def execVadd (c : Fin 32) (e : Fin 64) (w : W32) (s : State) : Res :=
  execSlot (.vadd c e w) (vecArith c e w (fun a b _ => flAdd a b)) s

/-- VSUB (R93). -/
def execVsub (c : Fin 32) (e : Fin 64) (w : W32) (s : State) : Res :=
  execSlot (.vsub c e w) (vecArith c e w (fun a b _ => flSub a b)) s

/-- VMUL (R93). -/
def execVmul (c : Fin 32) (e : Fin 64) (w : W32) (s : State) : Res :=
  execSlot (.vmul c e w) (vecArith c e w (fun a b _ => flMul a b)) s

/-- VFMA (R93): a × b + d, rounded once. -/
def execVfma (c : Fin 32) (e : Fin 64) (w : W32) (s : State) : Res :=
  execSlot (.vfma c e w) (vecArith c e w (fun a b d => flFma a b d)) s

/-- VMIN (R94). -/
def execVmin (c : Fin 32) (e : Fin 64) (w : W32) (s : State) : Res :=
  execSlot (.vmin c e w) (vecArith c e w (fun a b _ => flMin a b)) s

/-- VMAX (R94). -/
def execVmax (c : Fin 32) (e : Fin 64) (w : W32) (s : State) : Res :=
  execSlot (.vmax c e w) (vecArith c e w (fun a b _ => flMax a b)) s

/-- VNEG (R94). -/
def execVneg (c : Fin 32) (e : Fin 64) (w : W32) (s : State) : Res :=
  execSlot (.vneg c e w) (vecArith c e w (fun a _ _ => flNeg a)) s

/-- VABS (R94). -/
def execVabs (c : Fin 32) (e : Fin 64) (w : W32) (s : State) : Res :=
  execSlot (.vabs c e w) (vecArith c e w (fun a _ _ => flAbs a)) s

/-- VRSQRT (R94). -/
def execVrsqrt (c : Fin 32) (e : Fin 64) (w : W32) (s : State) : Res :=
  execSlot (.vrsqrt c e w) (vecArith c e w (fun a _ _ => flRsqrt a)) s

/-- VRCP (R94). -/
def execVrcp (c : Fin 32) (e : Fin 64) (w : W32) (s : State) : Res :=
  execSlot (.vrcp c e w) (vecArith c e w (fun a _ _ => flRcp a)) s

/-- VI2F (R94). -/
def execVi2f (c : Fin 32) (e : Fin 64) (w : W32) (s : State) : Res :=
  execSlot (.vi2f c e w) (vecArith c e w (fun a _ _ => flOfInt a)) s

/-- VF2I (R94). -/
def execVf2i (c : Fin 32) (e : Fin 64) (w : W32) (s : State) : Res :=
  execSlot (.vf2i c e w) (vecArith c e w (fun a _ _ => flToInt a)) s

/-- VIADD (R93): modulo 2^32. -/
def execViadd (c : Fin 32) (e : Fin 64) (w : W32) (s : State) : Res :=
  execSlot (.viadd c e w) (vecArith c e w (fun a b _ => a + b)) s

/-- VBC (R93). -/
def execVbc (c : Fin 32) (e : Fin 64) (w : W32) (s : State) : Res :=
  execSlot (.vbc c e w) (vecRegs c e w (fun r n => n.setVec (fld w 25 22) (List.replicate 16 (r.scalar (fld w 21 18))))) s

/-- VGET (R93). -/
def execVget (c : Fin 32) (e : Fin 64) (w : W32) (s : State) : Res :=
  execSlot (.vget c e w) (vecRegs c e w (fun r n => n.setScalar (fld w 25 22) (r.lane (fld w 21 18) (fld w 3 0)))) s

/-! ### Quantise and dequantise (R95, R96) -/

/-- The number of the 2-bit field that lane 4r + c takes (R95): pack 01 is element (r, 4H + c) of the 4 × 8 layout, pack 10
element (4H + r, c) of the 8 × 4 layout. -/
def packField (pack h l : Nat) : Nat := if pack = 1 then 8 * (l / 4) + 4 * h + l % 4 else 16 * h + l

/-- Replace field n of b bits. -/
def putTileField (b n x : Nat) (t : W64) : W64 :=
  BitVec.ofNat 64 (t.toNat - tileField t b n * 2 ^ (b * n) + x % 2 ^ b * 2 ^ (b * n))

/-- The tile QNT writes from the lanes' codes (R95, R24, R25). -/
def packTile (width pack h : Nat) (codes : List Nat) (poison : Bool) (old : Tile) : Tile :=
  if pack = 0 then ⟨BitVec.ofNat 64 (tileOf 4 (codes.map (widen width))), poison⟩
  else ⟨codes.zipIdx.foldl (fun t p => putTileField 2 (packField pack h p.2) (toField width p.1) t) old.code,
    old.poison || poison⟩

/-- The grid a QNT or DEQ names: a user grid not held, or a pack of 01 or 10 with a 4-bit grid, faults with kind 0x01
(R95, R96). -/
def gridFor (tab : Tab (Option UserGrid)) (id pack : Nat) : Except Nat Grid :=
  match findGrid tab id with
  | none => .error 1
  | some g => if pack != 0 && g.width = 4 then .error 1 else .ok g

/-- The draw of lane l in stochastic mode (R30, R95). -/
def laneDraw (v : Engine) (w : W32) (l : Nat) : Option W32 :=
  if fld w 12 12 = 0 then none
  else some (qntWord v.seedBase v.step (v.src.scalar (2 * fld w 8 6)) (v.src.scalar (2 * fld w 8 6 + 1) + BitVec.ofNat 32 l))

/-- QNT on an engine (R95). -/
def quantLanes (tab : Tab (Option UserGrid)) (w : W32) (v : Engine) : Except Nat Engine :=
  match gridFor tab (fld w 17 13) (fld w 11 10) with
  | .error k => .error k
  | .ok g =>
    let qs := (List.range 16).map (fun l => quantise g (v.src.lane (fld w 21 18) l) (laneDraw v w l))
    let t := packTile g.width (fld w 11 10) (fld w 9 9) (qs.map Prod.fst) (qs.any Prod.snd) (v.src.tile (fld w 25 22))
    .ok { v with nxt := v.nxt.setTile (fld w 25 22) t }

/-- QNT (R95). -/
def execQnt (c : Fin 32) (e : Fin 64) (w : W32) (s : State) : Res :=
  execSlot (.qnt c e w) (fun m => execVecSlot c e w (quantLanes (m.core c).grids w) m) s

/-- DEQ on an engine (R96). -/
def dequantLanes (tab : Tab (Option UserGrid)) (w : W32) (v : Engine) : Except Nat Engine :=
  match gridFor tab (fld w 17 13) (fld w 11 10) with
  | .error k => .error k
  | .ok g =>
    let t := v.src.tile (fld w 21 18)
    let code := fun l =>
      if fld w 11 10 = 0 then narrow g.width (tileField t.code 4 l)
      else ofField g.width (tileField t.code 2 (packField (fld w 11 10) (fld w 9 9) l))
    .ok { v with nxt := v.nxt.setVec (fld w 25 22) ((List.range 16).map (fun l => dequantise g (code l) t.poison)) }

/-- DEQ (R96). -/
def execDeq (c : Fin 32) (e : Fin 64) (w : W32) (s : State) : Res :=
  execSlot (.deq c e w) (fun m => execVecSlot c e w (dequantLanes (m.core c).grids w) m) s

end Sys2Proof.Machine
end

