-- ==== Sys2Proof/Machine/MemCmd.lean ====
section
/-!
DEFINITION. DDR4 refresh, patrol scrub and temperature (R104 to R108), and the class 0x03 commands (R123, R125, R128 to
R132).
-/

namespace Sys2Proof.Machine

/-! ### DDR4 (R104 to R108) -/

/-- 64-byte lines of data of a channel (R108). -/
def channelLines : Nat := 117440512

/-- The device address of line i of a channel (R104). -/
def channelLine (ch i : Nat) : Nat := ch / 2 * partBytes + i / 4 * 512 + ch % 2 * 256 + i % 4 * 64

/-- Scrub the 16-byte unit at word w (R106, R108): a corrected unit is written back, a failed one has both its words
marked poisoned. -/
def scrubUnit (m : Module) (w : Nat) : Module :=
  let e := errOf m.mem w
  let m := countReads 2 w false m
  let fix := fun (mem : Mem) (w : Nat) => if e = 2 then setPoison mem w true else setPoison mem w (majority (copiesOf mem w))
  { m with mem := { fix (fix m.mem w) (w + 1) with err := m.mem.err.put 0 w 0 } }

/-- The hottest DDR4 device reads above 85 °C (R108). -/
def ddrHot (m : Module) : Bool := m.mem.ddrTemp.any (fun t => decide (t > 85))

/-- tREFI of a channel (R108). -/
def trefi (m : Module) (ch : Nat) : Nat := (if m.mem.refresh39.get false ch then 3900 else 7800) * nsUnit

/-- When a channel's next refresh is due (R108): one tREFI on, at its offset of c × tREFI/8 from channel 0. -/
def refreshDueAt (m : Module) (ch : Nat) : Nat := m.mem.refreshAt.get 0 ch + trefi m ch + ch * trefi m ch / 8

/-- Whether a channel refreshes: it exists, has power, is not in self-refresh, with DDR4 (R340) or by a reset of its partition (R393),
and its time has come. -/
def refreshes (m : Module) (ch : Nat) : Bool :=
  ch < 8 && !m.mem.selfRefresh && !m.mem.partRefresh.getLsbD (ch / 2) && domOn m (if ch < 4 then 41 else 42) && decide (refreshDueAt m ch ≤ m.time.elapsed)

/-- Where a channel's next interval counts from: the grid goes on, and starts anew after a time without refresh
(notes/assumptions/70). -/
def refreshNext (m : Module) (ch : Nat) : Nat :=
  if refreshDueAt m ch + trefi m ch ≤ m.time.elapsed then m.time.elapsed - ch * trefi m ch / 8
  else m.mem.refreshAt.get 0 ch + trefi m ch

/-- DDR_REFRESH (R108): a channel whose time has come refreshes, takes the interval of the hottest device, and scrubs one line; a
whole round is one pass. -/
def execDdrRefresh (ch : Nat) (s : State) : Res :=
  s.act (fun m =>
    if refreshes m ch then
      let i := m.mem.scrubPos.get 0 ch
      let w := channelLine ch i / 8
      let m := [0, 2, 4, 6].foldl (fun m k => scrubUnit m (w + k)) m
      let last := i + 1 = channelLines
      { m with mem := { m.mem with
        refreshAt := m.mem.refreshAt.put 0 ch (refreshNext m ch)
        scrubPos := m.mem.scrubPos.put 0 ch (if last then 0 else i + 1)
        scrubPasses := if last then bump m.mem.scrubPasses ch else m.mem.scrubPasses
        refresh39 := m.mem.refresh39.put false ch (ddrHot m) } }
    else m)

/-- DDR_TEMP_SAMPLE (R108, R352): the readings of the 32 devices, while DDR4 is on and not in self-refresh, by a reset of any
partition neither. -/
def execDdrTempSample (temps : List Int) (s : State) : Res :=
  s.act (fun m => if domOn m 41 && domOn m 42 && !m.mem.selfRefresh && m.mem.partRefresh = 0 then { m with mem := { m.mem with ddrTemp := temps } } else m)

/-- Eight or four counters as bytes. -/
def ctrBytes (n : Nat) (t : Tab Nat) : List Byte := (List.range n).flatMap (fun i => leBytes 4 (t.get 0 i))

/-- The MEM_STATUS response (Table 5-11). -/
def memStatusData (m : Module) : List Byte :=
  ctrBytes 8 m.mem.ddrCorr ++ ctrBytes 8 m.mem.ddrUncorr ++ ctrBytes 8 m.mem.scrubPasses
    ++ leBytes 4 (maskOf 8 ((List.range 8).filter (fun c => m.mem.refresh39.get false c))).toNat
    ++ ctrBytes 4 m.mem.storeCorr ++ ctrBytes 4 m.mem.storeUncorr

/-- MEM_STATUS (R132). -/
def execMemStatus (n : Nat) (s : State) : Res :=
  s.act (command 0x0300 n
    (fun ps _ => [badLen ps 8, (leAt ps 0 1 > 1, 0x22), resv ps 1 7])
    (fun ps m =>
      let d := memStatusData m
      let m := if leAt ps 0 1 = 1 then
        { m with mem := { m.mem with ddrCorr := [], ddrUncorr := [], scrubPasses := [], storeCorr := [], storeUncorr := [] } } else m
      respond n 0 d m))

/-! ### Sync objects (R129) -/

/-- The BAD_PARAM conditions shared by the sync commands (Table 5-9). -/
def syncParams (ps : List Byte) : List (Bool × Nat) :=
  [badLen ps 16, (leAt ps 0 1 ≥ 64 || leAt ps 2 2 = 0 || leAt ps 4 4 + leAt ps 2 2 > 65536, 0x22)]

/-- Objects allocated to any context. -/
def syncTaken (m : Module) (base count : Nat) : Bool :=
  (List.range 64).any (fun k => (m.ctx k).ranges.any (fun r => overlaps r.1 r.2 base count))

/-- SYNC_ALLOC (R129). -/
def execSyncAlloc (n : Nat) (s : State) : Res :=
  s.act (command 0x0301 n
    (fun ps m =>
      let k := leAt ps 0 1
      syncParams ps ++ [(leAt ps 1 1 != 0, 0x22), (foreign m n k, 0x24), ((m.ctx k).state = 0, 0x23),
        (syncTaken m (leAt ps 4 4) (leAt ps 2 2), 0x23), ((m.ctx k).ranges.length ≥ 16, 0x11)])
    (fun ps m =>
      let base := leAt ps 4 4
      let count := leAt ps 2 2
      let m := m.updCtx (leAt ps 0 1) (fun v => { v with ranges := v.ranges ++ [(base, count)] })
      let v := BitVec.ofNat 64 (leAt ps 8 8)
      respond n 0 [] { m with fab := { m.fab with
        sync := (List.range count).foldl (fun t i => t.put 0 (base + i) v) m.fab.sync } }))

/-- SYNC_FREE (R129). -/
def execSyncFree (n : Nat) (s : State) : Res :=
  s.act (command 0x0302 n
    (fun ps m =>
      let k := leAt ps 0 1
      syncParams ps ++ [(leAt ps 1 1 != 0 || leAt ps 8 8 != 0, 0x22),
        (!(m.ctx k).ranges.contains (leAt ps 4 4, leAt ps 2 2), 0x22), (foreign m n k, 0x24), (hasAdmitted m k, 0x23)])
    (fun ps m => respond n 0 [] (m.updCtx (leAt ps 0 1) (fun v =>
      { v with ranges := v.ranges.erase (leAt ps 4 4, leAt ps 2 2) }))))

/-- SYNC_ACCESS (R129): a read as a get, a set as a put (R113). -/
def execSyncAccess (n : Nat) (s : State) : Res :=
  s.act (command 0x0303 n
    (fun ps m =>
      let k := leAt ps 0 1
      syncParams ps ++ [(leAt ps 1 1 > 1 || leAt ps 2 2 != 1 || (leAt ps 1 1 = 0 && leAt ps 8 8 != 0), 0x22),
        (!syncOwned m k (leAt ps 4 4), 0x22), (foreign m n k, 0x24)])
    (fun ps m =>
      let i := leAt ps 4 4
      if leAt ps 1 1 = 0 then respond n 0 (leBytes 8 (m.fab.sync.get 0 i).toNat) m
      else respond n 0 [] (syncSet i (BitVec.ofNat 64 (leAt ps 8 8)) m)))

/-! ### Windows (R123, R125, R130) -/

/-- Entry i of the permissions (Table 5-10). -/
def permOf (ps : List Byte) (i : Nat) : Perm :=
  ⟨leAt ps (32 + 4 * i) 1, leAt ps (33 + 4 * i) 1, BitVec.ofNat 4 (leAt ps (34 + 4 * i) 1)⟩

/-- Whether the bytes of entry i break Table 5-10 or R130. -/
def permBad (ps : List Byte) (i : Nat) : Bool :=
  leAt ps (32 + 4 * i) 1 > 15 || (leAt ps (33 + 4 * i) 1 > 63 && leAt ps (33 + 4 * i) 1 != 0xFF)
    || leAt ps (34 + 4 * i) 1 = 0 || leAt ps (34 + 4 * i) 1 > 15 || leAt ps (35 + 4 * i) 1 != 0

/-- Whether the owner holds, for every byte of the window, each access its entries grant together (R123). -/
def windowHeld (m : Module) (k base size : Nat) (perms : List Perm) : Bool :=
  let acc := [(Access.read, 0), (Access.write, 1), (Access.atomic, 2)].filter (fun a => perms.any (fun p => p.rights.getLsbD a.2))
  acc.all (fun a => (List.range (size / 4096)).all (fun i => ctxHolds m k a.1 (base + 4096 * i) 4096))

/-- Whether a range lies wholly in usable DDR4, the chip store or one scratchpad (R123). -/
def windowPlace (m : Module) (base size : Nat) : Bool :=
  match placeRange m base size with
  | .ddr | .store | .spad _ => true
  | _ => false

/-- WINDOW_OPEN (R123, R130). DESIGN CHOICE (notes/assumptions/94): a range of sync objects that runs past the last one is a parameter
out of range, BAD_PARAM; Table 5-10 gives it no bound. -/
def execWindowOpen (n : Nat) (s : State) : Res :=
  s.act (command 0x0304 n
    (fun ps m =>
      let k := leAt ps 2 1
      let np := leAt ps 3 1
      let lg := leAt ps 1 1
      let base := leAt ps 8 8
      let sb := leAt ps 16 2
      let sc := leAt ps 18 2
      [(ps.length < 4, 0x21), badLen ps (32 + 4 * np), (lg < 12 || lg > 35 || k > 63 || np < 1 || np > 16, 0x22),
        resv ps 4 4, resv ps 20 12, (base % 2 ^ lg != 0 || sb + sc > 65536, 0x22), ((List.range np).any (permBad ps), 0x22),
        (foreign m n k, 0x24),
        ((m.ctx k).state = 0 || (m.window (leAt ps 0 1)).state != 0 || asleepAt m base (2 ^ lg), 0x23),
        (!windowPlace m base (2 ^ lg) || !windowHeld m k base (2 ^ lg) ((List.range np).map (permOf ps))
          || !(List.range sc).all (fun i => syncOwned m k (sb + i)), notHeld)])
    (fun ps m => respond n 0 [] (m.setWindow (leAt ps 0 1)
      { state := 1, ctx := leAt ps 2 1, log2 := leAt ps 1 1, base := leAt ps 8 8, syncBase := leAt ps 16 2
        syncCount := leAt ps 18 2, perms := (List.range (leAt ps 3 1)).map (permOf ps), pending := 0 })))

/-- WINDOW_CLOSE (R125, R130): the close point. It names a window and no context, so the chapter's client rule does not bear on
it. -/
def execWindowClose (n : Nat) (s : State) : Res :=
  s.act (command 0x0305 n
    (fun ps m =>
      [badLen ps 8, resv ps 1 7, ((m.window (leAt ps 0 1)).state != 1, 0x23)])
    (fun ps m => accept n (leAt ps 0 1) (fun m =>
      m.setWindow (leAt ps 0 1) { (m.window (leAt ps 0 1)) with state := 2 }) m))

/-- WINDOW_CLOSED (R125, R280): the last operation before the close point has completed. -/
def execWindowClosed (w : Nat) (s : State) : Res :=
  s.act (fun m =>
    let v := m.window w
    if v.state = 2 && v.pending = 0 then
      destroyDone v.ctx (finish 0x0305 w 0 (leBytes 1 w) (m.setWindow w {}))
    else m)

/-! ### Credits (R126, R127, R131) -/

/-- Reservations of every other context on a runner. -/
def othersReserved (m : Module) (r k : Nat) : Nat :=
  ((List.range 64).map (fun i => if i = k then 0 else (m.credit r i).reserved)).sum

/-- CREDIT_RESERVE (R131): a larger reservation lets waiting packets leave. -/
def execCreditReserve (n : Nat) (s : State) : Res :=
  s.act (command 0x0306 n
    (fun ps m =>
      let k := leAt ps 0 1
      [badLen ps 8, (k > 63 || leAt ps 1 1 > 3 || leAt ps 2 2 > 1984, 0x22), resv ps 4 4, (foreign m n k, 0x24),
        ((m.ctx k).state = 0, 0x23), (othersReserved m (leAt ps 1 1) k + leAt ps 2 2 > 1984, 0x11)])
    (fun ps m =>
      let k := leAt ps 0 1
      let r := leAt ps 1 1
      respond n 0 [] (sendWaiting r k (m.setCredit r k { (m.credit r k) with reserved := leAt ps 2 2 }))))

end Sys2Proof.Machine
end

