-- ==== Sys2Proof/Machine/Dispatch.lean ====
section
/-!
DEFINITION. The meaning of every command: one arm a constructor, one direct call of its meaning.
-/

namespace Sys2Proof.Machine

open Sys2Proof

/-- What a command does to everything but the queue. -/
def exec (i : Instr) (s : State) : Host.Outcome State Fault Refusal :=
  match i with
  | .nop slot c e => Sys2Proof.Machine.execNop slot c e s
  | .br c e w => Sys2Proof.Machine.execBr c e w s
  | .djnz c e w => Sys2Proof.Machine.execDjnz c e w s
  | .saddi c e w => Sys2Proof.Machine.execSaddi c e w s
  | .slui c e w => Sys2Proof.Machine.execSlui c e w s
  | .sori c e w => Sys2Proof.Machine.execSori c e w s
  | .sadd c e w => Sys2Proof.Machine.execSadd c e w s
  | .ssub c e w => Sys2Proof.Machine.execSsub c e w s
  | .smul c e w => Sys2Proof.Machine.execSmul c e w s
  | .sand c e w => Sys2Proof.Machine.execSand c e w s
  | .sor c e w => Sys2Proof.Machine.execSor c e w s
  | .sxor c e w => Sys2Proof.Machine.execSxor c e w s
  | .sshl c e w => Sys2Proof.Machine.execSshl c e w s
  | .sshr c e w => Sys2Proof.Machine.execSshr c e w s
  | .ssra c e w => Sys2Proof.Machine.execSsra c e w s
  | .syncwait c e w => Sys2Proof.Machine.execSyncwait c e w s
  | .syncwaitRelease c e => Sys2Proof.Machine.execSyncwaitRelease c e s
  | .fence c e w => Sys2Proof.Machine.execFence c e w s
  | .yield c e w => Sys2Proof.Machine.execYield c e w s
  | .halt c e w => Sys2Proof.Machine.execHalt c e w s
  | .engineStop c e => Sys2Proof.Machine.execEngineStop c e s
  | .ldt2 c e w => Sys2Proof.Machine.execLdt2 c e w s
  | .ldt c e w => Sys2Proof.Machine.execLdt c e w s
  | .stt c e w => Sys2Proof.Machine.execStt c e w s
  | .ldv c e w => Sys2Proof.Machine.execLdv c e w s
  | .stv c e w => Sys2Proof.Machine.execStv c e w s
  | .lds c e w => Sys2Proof.Machine.execLds c e w s
  | .sts c e w => Sys2Proof.Machine.execSts c e w s
  | .ldq c e w => Sys2Proof.Machine.execLdq c e w s
  | .ldp c e w => Sys2Proof.Machine.execLdp c e w s
  | .srr c e w => Sys2Proof.Machine.execSrr c e w s
  | .movd c e w => Sys2Proof.Machine.execMovd c e w s
  | .rmo c e w => Sys2Proof.Machine.execRmo c e w s
  | .sig c e w => Sys2Proof.Machine.execSig c e w s
  | .sqpush c e w => Sys2Proof.Machine.execSqpush c e w s
  | .sqpop c e w => Sys2Proof.Machine.execSqpop c e w s
  | .sqpopw c e w => Sys2Proof.Machine.execSqpopw c e w s
  | .sqpushv c e w => Sys2Proof.Machine.execSqpushv c e w s
  | .sqpopv c e w => Sys2Proof.Machine.execSqpopv c e w s
  | .sqmark c e w => Sys2Proof.Machine.execSqmark c e w s
  | .sqrewind c e w => Sys2Proof.Machine.execSqrewind c e w s
  | .sqrelease c e w => Sys2Proof.Machine.execSqrelease c e w s
  | .ldt2s c e w => Sys2Proof.Machine.execLdt2s c e w s
  | .ldtsl c e w => Sys2Proof.Machine.execLdtsl c e w s
  | .ldtsr c e w => Sys2Proof.Machine.execLdtsr c e w s
  | .mac c e w => Sys2Proof.Machine.execMac c e w s
  | .aclr c e w => Sys2Proof.Machine.execAclr c e w s
  | .pcomb c e w => Sys2Proof.Machine.execPcomb c e w s
  | .cvt c e w => Sys2Proof.Machine.execCvt c e w s
  | .redi c e w => Sys2Proof.Machine.execRedi c e w s
  | .redf c e w => Sys2Proof.Machine.execRedf c e w s
  | .reductionFire c base idx => Sys2Proof.Machine.execReductionFire c base idx s
  | .vadd c e w => Sys2Proof.Machine.execVadd c e w s
  | .vsub c e w => Sys2Proof.Machine.execVsub c e w s
  | .vmul c e w => Sys2Proof.Machine.execVmul c e w s
  | .vfma c e w => Sys2Proof.Machine.execVfma c e w s
  | .vmin c e w => Sys2Proof.Machine.execVmin c e w s
  | .vmax c e w => Sys2Proof.Machine.execVmax c e w s
  | .vneg c e w => Sys2Proof.Machine.execVneg c e w s
  | .vabs c e w => Sys2Proof.Machine.execVabs c e w s
  | .vrsqrt c e w => Sys2Proof.Machine.execVrsqrt c e w s
  | .vrcp c e w => Sys2Proof.Machine.execVrcp c e w s
  | .vi2f c e w => Sys2Proof.Machine.execVi2f c e w s
  | .vf2i c e w => Sys2Proof.Machine.execVf2i c e w s
  | .viadd c e w => Sys2Proof.Machine.execViadd c e w s
  | .vbc c e w => Sys2Proof.Machine.execVbc c e w s
  | .vget c e w => Sys2Proof.Machine.execVget c e w s
  | .qnt c e w => Sys2Proof.Machine.execQnt c e w s
  | .deq c e w => Sys2Proof.Machine.execDeq c e w s
  | .moverDescriptorStart c => Sys2Proof.Machine.execMoverDescriptorStart c s
  | .moverGroupComplete c => Sys2Proof.Machine.execMoverGroupComplete c s
  | .moverDescriptorComplete c => Sys2Proof.Machine.execMoverDescriptorComplete c s
  | .remoteOpTakeEffect id => Sys2Proof.Machine.execRemoteOpTakeEffect id s
  | .windowCheck id => Sys2Proof.Machine.execWindowCheck id s
  | .rmoComplete id status data poison => Sys2Proof.Machine.execRmoComplete id status data poison s
  | .creditReturn runner ctx => Sys2Proof.Machine.execCreditReturn runner ctx s
  | .ddrRefresh ch => Sys2Proof.Machine.execDdrRefresh ch s
  | .ddrTempSample temps => Sys2Proof.Machine.execDdrTempSample temps s
  | .memStatus m => Sys2Proof.Machine.execMemStatus m s
  | .syncAlloc m => Sys2Proof.Machine.execSyncAlloc m s
  | .syncFree m => Sys2Proof.Machine.execSyncFree m s
  | .syncAccess m => Sys2Proof.Machine.execSyncAccess m s
  | .windowOpen m => Sys2Proof.Machine.execWindowOpen m s
  | .windowClose m => Sys2Proof.Machine.execWindowClose m s
  | .windowClosed w => Sys2Proof.Machine.execWindowClosed w s
  | .creditReserve m => Sys2Proof.Machine.execCreditReserve m s
  | .reproStatus m => Sys2Proof.Machine.execReproStatus m s
  | .seedSet m => Sys2Proof.Machine.execSeedSet m s
  | .stepSet m => Sys2Proof.Machine.execStepSet m s
  | .kzcbEval m => Sys2Proof.Machine.execKzcbEval m s
  | .jobRecord m => Sys2Proof.Machine.execJobRecord m s
  | .kvPoolCreate m => Sys2Proof.Machine.execKvPoolCreate m s
  | .kvPoolDestroy m => Sys2Proof.Machine.execKvPoolDestroy m s
  | .kvStage m => Sys2Proof.Machine.execKvStage m s
  | .kvCommit m => Sys2Proof.Machine.execKvCommit m s
  | .kvCommitStart => Sys2Proof.Machine.execKvCommitStart s
  | .kvCommitComplete ep => Sys2Proof.Machine.execKvCommitComplete ep s
  | .kvSwapFailed pagesIn => Sys2Proof.Machine.execKvSwapFailed pagesIn s
  | .kvResult m => Sys2Proof.Machine.execKvResult m s
  | .kvSeqStatus m => Sys2Proof.Machine.execKvSeqStatus m s
  | .kvPoolStatus m => Sys2Proof.Machine.execKvPoolStatus m s
  | .sqPushAccept q => Sys2Proof.Machine.execSqPushAccept q s
  | .sqRefill q => Sys2Proof.Machine.execSqRefill q s
  | .sqCreate m => Sys2Proof.Machine.execSqCreate m s
  | .sqDestroy m => Sys2Proof.Machine.execSqDestroy m s
  | .sqReset m => Sys2Proof.Machine.execSqReset m s
  | .sqStatus m => Sys2Proof.Machine.execSqStatus m s
  | .sqLevel m => Sys2Proof.Machine.execSqLevel m s
  | .sqTest m => Sys2Proof.Machine.execSqTest m s
  | .csi2RxPacket port p => Sys2Proof.Machine.execCsi2RxPacket port p s
  | .frameStart st num => Sys2Proof.Machine.execFrameStart st num s
  | .frameEnd st => Sys2Proof.Machine.execFrameEnd st s
  | .frameCloseTimeout st => Sys2Proof.Machine.execFrameCloseTimeout st s
  | .missingDeadline st => Sys2Proof.Machine.execMissingDeadline st s
  | .lowWaterCheck st => Sys2Proof.Machine.execLowWaterCheck st s
  | .intakeRemainderPush st => Sys2Proof.Machine.execIntakeRemainderPush st s
  | .intakePort m => Sys2Proof.Machine.execIntakePort m s
  | .intakeConfig m => Sys2Proof.Machine.execIntakeConfig m s
  | .intakeLut m => Sys2Proof.Machine.execIntakeLut m s
  | .intakeStart m => Sys2Proof.Machine.execIntakeStart m s
  | .intakeStop m => Sys2Proof.Machine.execIntakeStop m s
  | .intakeStopComplete st => Sys2Proof.Machine.execIntakeStopComplete st s
  | .intakeStatus m => Sys2Proof.Machine.execIntakeStatus m s
  | .trellisTick => Sys2Proof.Machine.execTrellisTick s
  | .loopEvaluation => Sys2Proof.Machine.execLoopEvaluation s
  | .policyWordRead => Sys2Proof.Machine.execPolicyWordRead s
  | .trlConfig m => Sys2Proof.Machine.execTrlConfig m s
  | .trlInputMap m => Sys2Proof.Machine.execTrlInputMap m s
  | .trlLoopConfig m => Sys2Proof.Machine.execTrlLoopConfig m s
  | .trlLoopStart m => Sys2Proof.Machine.execTrlLoopStart m s
  | .trlLoopStop m => Sys2Proof.Machine.execTrlLoopStop m s
  | .trlRcLoad m => Sys2Proof.Machine.execTrlRcLoad m s
  | .trlRcRead m => Sys2Proof.Machine.execTrlRcRead m s
  | .trlSignalSet m => Sys2Proof.Machine.execTrlSignalSet m s
  | .trlTemplate m => Sys2Proof.Machine.execTrlTemplate m s
  | .trlTraceConfig m => Sys2Proof.Machine.execTrlTraceConfig m s
  | .trlTraceRead m => Sys2Proof.Machine.execTrlTraceRead m s
  | .trlStatus m => Sys2Proof.Machine.execTrlStatus m s
  | .go path m v => Sys2Proof.Machine.execGo path m v s
  | .ctrl path m v => Sys2Proof.Machine.execCtrl path m v s
  | .evtTail path v => Sys2Proof.Machine.execEvtTail path v s
  | .mbxPath path v => Sys2Proof.Machine.execMbxPath path v s
  | .registerWrite path off bs => Sys2Proof.Machine.execRegisterWrite path off bs s
  | .mailboxTake => Sys2Proof.Machine.execMailboxTake s
  | .echo m => Sys2Proof.Machine.execEcho m s
  | .ifOpen m => Sys2Proof.Machine.execIfOpen m s
  | .moduleInfo m => Sys2Proof.Machine.execModuleInfo m s
  | .mbxStatus m => Sys2Proof.Machine.execMbxStatus m s
  | .eventStatus m => Sys2Proof.Machine.execEventStatus m s
  | .heartbeatTick => Sys2Proof.Machine.execHeartbeatTick s
  | .ctxCreate m => Sys2Proof.Machine.execCtxCreate m s
  | .ctxDestroy m => Sys2Proof.Machine.execCtxDestroy m s
  | .imgLoad m => Sys2Proof.Machine.execImgLoad m s
  | .imgLoadComplete ctx slot ok ep => Sys2Proof.Machine.execImgLoadComplete ctx slot ok ep s
  | .imgDrop m => Sys2Proof.Machine.execImgDrop m s
  | .jobSubmit m => Sys2Proof.Machine.execJobSubmit m s
  | .jobAdmission ctx => Sys2Proof.Machine.execJobAdmission ctx s
  | .schedulingDecision => Sys2Proof.Machine.execSchedulingDecision s
  | .sharePeriodBoundary => Sys2Proof.Machine.execSharePeriodBoundary s
  | .jobDispatch job => Sys2Proof.Machine.execJobDispatch job s
  | .enginePark c e => Sys2Proof.Machine.execEnginePark c e s
  | .jobParked job => Sys2Proof.Machine.execJobParked job s
  | .forcedPreemption job => Sys2Proof.Machine.execForcedPreemption job s
  | .jobComplete job => Sys2Proof.Machine.execJobComplete job s
  | .jobAbort m => Sys2Proof.Machine.execJobAbort m s
  | .runLimitTimeout job => Sys2Proof.Machine.execRunLimitTimeout job s
  | .jobFault job => Sys2Proof.Machine.execJobFault job s
  | .inheritanceReport c e => Sys2Proof.Machine.execInheritanceReport c e s
  | .inheritSliceEnd job => Sys2Proof.Machine.execInheritSliceEnd job s
  | .ctxStatus m => Sys2Proof.Machine.execCtxStatus m s
  | .schedClient m => Sys2Proof.Machine.execSchedClient m s
  | .schedStatus m => Sys2Proof.Machine.execSchedStatus m s
  | .semBind m => Sys2Proof.Machine.execSemBind m s
  | .timeStatus m => Sys2Proof.Machine.execTimeStatus m s
  | .timeStep m => Sys2Proof.Machine.execTimeStep m s
  | .timeCloseStep m => Sys2Proof.Machine.execTimeCloseStep m s
  | .timeRate m => Sys2Proof.Machine.execTimeRate m s
  | .timeServo m => Sys2Proof.Machine.execTimeServo m s
  | .ptpConfig m => Sys2Proof.Machine.execPtpConfig m s
  | .ppsConfig m => Sys2Proof.Machine.execPpsConfig m s
  | .ethPort m => Sys2Proof.Machine.execEthPort m s
  | .ethQueue m => Sys2Proof.Machine.execEthQueue m s
  | .ethRxBind m => Sys2Proof.Machine.execEthRxBind m s
  | .ethStatus m => Sys2Proof.Machine.execEthStatus m s
  | .ptpFrameReceive port f o => Sys2Proof.Machine.execPtpFrameReceive port f o s
  | .servoTimeout => Sys2Proof.Machine.execServoTimeout s
  | .ppsInEdge rising age => Sys2Proof.Machine.execPpsInEdge rising age s
  | .ppsOutEdge => Sys2Proof.Machine.execPpsOutEdge s
  | .ethTxStart port => Sys2Proof.Machine.execEthTxStart port s
  | .launchFrameLate port queue => Sys2Proof.Machine.execLaunchFrameLate port queue s
  | .ethRxFrame port f => Sys2Proof.Machine.execEthRxFrame port f s
  | .ethLinkChange port speed => Sys2Proof.Machine.execEthLinkChange port speed s
  | .canConfig m => Sys2Proof.Machine.execCanConfig m s
  | .canMode m => Sys2Proof.Machine.execCanMode m s
  | .canModeEffect k => Sys2Proof.Machine.execCanModeEffect k s
  | .canBusIntegrated k => Sys2Proof.Machine.execCanBusIntegrated k s
  | .canObjConfig m => Sys2Proof.Machine.execCanObjConfig m s
  | .canObjSend m => Sys2Proof.Machine.execCanObjSend m s
  | .canObjRead m => Sys2Proof.Machine.execCanObjRead m s
  | .canFilter m => Sys2Proof.Machine.execCanFilter m s
  | .canRxRead m => Sys2Proof.Machine.execCanRxRead m s
  | .canRecover m => Sys2Proof.Machine.execCanRecover m s
  | .canStatus m => Sys2Proof.Machine.execCanStatus m s
  | .canRxFrame k f => Sys2Proof.Machine.execCanRxFrame k f s
  | .canTxStart k tdcMeas => Sys2Proof.Machine.execCanTxStart k tdcMeas s
  | .canTxEnd k outcome => Sys2Proof.Machine.execCanTxEnd k outcome s
  | .canFrameLate k obj => Sys2Proof.Machine.execCanFrameLate k obj s
  | .canBusoffRecovery k => Sys2Proof.Machine.execCanBusoffRecovery k s
  | .hlStatus m => Sys2Proof.Machine.execHlStatus m s
  | .pcieGrant m => Sys2Proof.Machine.execPcieGrant m s
  | .pcieUngrant m => Sys2Proof.Machine.execPcieUngrant m s
  | .pcieUngrantComplete g => Sys2Proof.Machine.execPcieUngrantComplete g s
  | .csiTxConfig m => Sys2Proof.Machine.execCsiTxConfig m s
  | .csiTxRun m => Sys2Proof.Machine.execCsiTxRun m s
  | .csiTxStopComplete port => Sys2Proof.Machine.execCsiTxStopComplete port s
  | .csiTxFrame port => Sys2Proof.Machine.execCsiTxFrame port s
  | .runnerUp m => Sys2Proof.Machine.execRunnerUp m s
  | .runnerTrained r width peer => Sys2Proof.Machine.execRunnerTrained r width peer s
  | .runnerDown m => Sys2Proof.Machine.execRunnerDown m s
  | .runnerRoute m => Sys2Proof.Machine.execRunnerRoute m s
  | .runnerPacketReceive r p => Sys2Proof.Machine.execRunnerPacketReceive r p s
  | .runnerRetry r f => Sys2Proof.Machine.execRunnerRetry r f s
  | .runnerRetrain r ok => Sys2Proof.Machine.execRunnerRetrain r ok s
  | .hlIdScan m => Sys2Proof.Machine.execHlIdScan m s
  | .hlIdScanComplete recs => Sys2Proof.Machine.execHlIdScanComplete recs s
  | .hlIdRead m => Sys2Proof.Machine.execHlIdRead m s
  | .pcieLinkChange speed width => Sys2Proof.Machine.execPcieLinkChange speed width s
  | .coldFrameTimeout what => Sys2Proof.Machine.execColdFrameTimeout what s
  | .msixUnmask v => Sys2Proof.Machine.execMsixUnmask v s
  | .i3cPrivateWrite off bs => Sys2Proof.Machine.execI3cPrivateWrite off bs s
  | .i3cPrivateRead n => Sys2Proof.Machine.execI3cPrivateRead n s
  | .i3cAddressAssign addr static => Sys2Proof.Machine.execI3cAddressAssign addr static s
  | .pwrStatus m => Sys2Proof.Machine.execPwrStatus m s
  | .pwrState m => Sys2Proof.Machine.execPwrState m s
  | .powerEntryRequest fromSafety => Sys2Proof.Machine.execPowerEntryRequest fromSafety s
  | .powerEntryComplete => Sys2Proof.Machine.execPowerEntryComplete s
  | .powerEntryAbort reason unit off failed => Sys2Proof.Machine.execPowerEntryAbort reason unit off failed s
  | .offCutoff => Sys2Proof.Machine.execOffCutoff s
  | .pwrDomain m => Sys2Proof.Machine.execPwrDomain m s
  | .pwrDomainComplete d failed => Sys2Proof.Machine.execPwrDomainComplete d failed s
  | .pwrWakeConfig m => Sys2Proof.Machine.execPwrWakeConfig m s
  | .clkStatus m => Sys2Proof.Machine.execClkStatus m s
  | .wakePin lowUs b => Sys2Proof.Machine.execWakePin lowUs b s
  | .wakeAt => Sys2Proof.Machine.execWakeAt s
  | .wakeSequence failed => Sys2Proof.Machine.execWakeSequence failed s
  | .junctionTempSample idx t => Sys2Proof.Machine.execJunctionTempSample idx t s
  | .thermalHoldRetry => Sys2Proof.Machine.execThermalHoldRetry s
  | .coreThermalReturn c failed => Sys2Proof.Machine.execCoreThermalReturn c failed s
  | .voltageExcursion d mv => Sys2Proof.Machine.execVoltageExcursion d mv s
  | .processSample idx cls => Sys2Proof.Machine.execProcessSample idx cls s
  | .ageingReading c ratios => Sys2Proof.Machine.execAgeingReading c ratios s
  | .vsetLower c => Sys2Proof.Machine.execVsetLower c s
  | .binChange failed => Sys2Proof.Machine.execBinChange failed s
  | .binChangeForce => Sys2Proof.Machine.execBinChangeForce s
  | .baselineTake c readings => Sys2Proof.Machine.execBaselineTake c readings s
  | .hlthStatus m => Sys2Proof.Machine.execHlthStatus m s
  | .hlthSensors m => Sys2Proof.Machine.execHlthSensors m s
  | .hlthPlan m => Sys2Proof.Machine.execHlthPlan m s
  | .hlthBin m => Sys2Proof.Machine.execHlthBin m s
  | .hlthLogRead m => Sys2Proof.Machine.execHlthLogRead m s
  | .profileRead m => Sys2Proof.Machine.execProfileRead m s
  | .profileWrite m => Sys2Proof.Machine.execProfileWrite m s
  | .profileWriteComplete => Sys2Proof.Machine.execProfileWriteComplete s
  | .profileSelect m => Sys2Proof.Machine.execProfileSelect m s
  | .hlthEngines m => Sys2Proof.Machine.execHlthEngines m s
  | .safeStatus m => Sys2Proof.Machine.execSafeStatus m s
  | .safeRegion m => Sys2Proof.Machine.execSafeRegion m s
  | .safeWdog m => Sys2Proof.Machine.execSafeWdog m s
  | .safeKick m => Sys2Proof.Machine.execSafeKick m s
  | .safeGolden m => Sys2Proof.Machine.execSafeGolden m s
  | .safeCheck m => Sys2Proof.Machine.execSafeCheck m s
  | .safeClear m => Sys2Proof.Machine.execSafeClear m s
  | .safeAssert m => Sys2Proof.Machine.execSafeAssert m s
  | .wdogExpiry k => Sys2Proof.Machine.execWdogExpiry k s
  | .goldenSlot => Sys2Proof.Machine.execGoldenSlot s
  | .goldenVerdict c sigs retest => Sys2Proof.Machine.execGoldenVerdict c sigs retest s
  | .goldenLateLimit => Sys2Proof.Machine.execGoldenLateLimit s
  | .checkerPairTimeout ch => Sys2Proof.Machine.execCheckerPairTimeout ch s
  | .clockMonitorFault => Sys2Proof.Machine.execClockMonitorFault s
  | .lockstepMismatch => Sys2Proof.Machine.execLockstepMismatch s
  | .quiesceTimeout c e into => Sys2Proof.Machine.execQuiesceTimeout c e into s
  | .bridgeStall n held => Sys2Proof.Machine.execBridgeStall n held s
  | .fabricError n => Sys2Proof.Machine.execFabricError n s
  | .contextReset ctx => Sys2Proof.Machine.execContextReset ctx s
  | .contextResetDrain d => Sys2Proof.Machine.execContextResetDrain d s
  | .partitionReset n held lost responses => Sys2Proof.Machine.execPartitionReset n held lost responses s
  | .partitionResetComplete n failed => Sys2Proof.Machine.execPartitionResetComplete n failed s
  | .rcvStatus m => Sys2Proof.Machine.execRcvStatus m s
  | .rcvPolicy m => Sys2Proof.Machine.execRcvPolicy m s
  | .ctxReset m => Sys2Proof.Machine.execCtxReset m s
  | .partReset m => Sys2Proof.Machine.execPartReset m s
  | .rcvCaptureRead m => Sys2Proof.Machine.execRcvCaptureRead m s
  | .fabricGroup m => Sys2Proof.Machine.execFabricGroup m s
  | .fabricAbort m => Sys2Proof.Machine.execFabricAbort m s
  | .fabricAbortNotice runner origin g seq => Sys2Proof.Machine.execFabricAbortNotice runner origin g seq s
  | .fabricAbortComplete replied => Sys2Proof.Machine.execFabricAbortComplete replied s
  | .gragorRestart m => Sys2Proof.Machine.execGragorRestart m s
  | .gragorReady failed recs => Sys2Proof.Machine.execGragorReady failed recs s
  | .powerOn b => Sys2Proof.Machine.execPowerOn b s
  | .inputPowerLoss => Sys2Proof.Machine.execInputPowerLoss s
  | .resetAssert lowUs => Sys2Proof.Machine.execResetAssert lowUs s
  | .resetRelease b => Sys2Proof.Machine.execResetRelease b s
  | .perstAssert => Sys2Proof.Machine.execPerstAssert s
  | .perstRelease => Sys2Proof.Machine.execPerstRelease s
  | .tapInstruction ir => Sys2Proof.Machine.execTapInstruction ir s
  | .bootStatus m => Sys2Proof.Machine.execBootStatus m s
  | .imageWrite m => Sys2Proof.Machine.execImageWrite m s
  | .imageFetch m ok => Sys2Proof.Machine.execImageFetch m ok s
  | .imageFetchComplete ok => Sys2Proof.Machine.execImageFetchComplete ok s
  | .imageRun m => Sys2Proof.Machine.execImageRun m s
  | .fwInstall m => Sys2Proof.Machine.execFwInstall m s
  | .fwInstallComplete readBackOk => Sys2Proof.Machine.execFwInstallComplete readBackOk s
  | .svnCommit m ok => Sys2Proof.Machine.execSvnCommit m ok s
  | .certRead m => Sys2Proof.Machine.execCertRead m s
  | .attest m => Sys2Proof.Machine.execAttest m s
  | .attestComplete rpmbOk => Sys2Proof.Machine.execAttestComplete rpmbOk s
  | .attestRead m => Sys2Proof.Machine.execAttestRead m s
  | .buildStatus m => Sys2Proof.Machine.execBuildStatus m s
  | .buildAccept m ok => Sys2Proof.Machine.execBuildAccept m ok s
  | .canBusError k after flag exc => Sys2Proof.Machine.execCanBusError k after flag exc s
  | .announceReceiptTimeout port o => Sys2Proof.Machine.execAnnounceReceiptTimeout port o s
  | .ptpIntervalExpiry port o => Sys2Proof.Machine.execPtpIntervalExpiry port o s
  | .gragorDeadlineMiss => Sys2Proof.Machine.execGragorDeadlineMiss s
  | .safetyBlockDisagreement what => Sys2Proof.Machine.execSafetyBlockDisagreement what s
  | .i3cEnec enable => Sys2Proof.Machine.execI3cEnec enable s
  | .i3cIbiAccepted n => Sys2Proof.Machine.execI3cIbiAccepted n s

end Sys2Proof.Machine
end

