-- ==== Sys2Proof/Safety.lean ====
section
/-!
DEFINITION. The words the statements are written in: when a safe state is in canonical form, when a slot word presents and what its
issue leaves of its engine (R77, R81), what a rounded number and a grid's values are (R20 to R45), when a mailbox command is in execution (R244), and the shape of an answer.
-/

namespace Sys2Proof.Machine

open Sys2Proof

/-- Memory, its poison and host memory are in canonical form. -/
def Module.memOk (m : Module) : Prop :=
  Memory.wf m.mem.bytes = true ∧ Tab.wf (0 : BitVec 3) m.mem.poison = true ∧ Memory.wf m.hostMem = true

/-! ### Numbers -/

/-- The number of a finite binary32 value, a subnormal counting as zero (R44). -/
def flVal (w : W32) : ℚ := flInt w * 2 ^ flExp w

/-- The number q, which is not zero, rounded once to binary32 is w (R42, R44): to the nearest finite value, of two as near to
the one of even significand; to a signed zero where the number, rounded to 24 bits with any exponent, lies below 2^−126; to an infinity
where it then is 2^128 or more. -/
def RoundsTo (q : ℝ) (w : W32) : Prop :=
  (isNeg w = true ↔ q < 0) ∧
  (|q| < (2 : ℝ) ^ (-126 : ℤ) - 2 ^ (-151 : ℤ) → w = flZero (isNeg w)) ∧
  ((2 : ℝ) ^ 128 - 2 ^ 103 ≤ |q| → w = flInf (isNeg w)) ∧
  ((2 : ℝ) ^ (-126 : ℤ) - 2 ^ (-151 : ℤ) ≤ |q| → |q| < 2 ^ 128 - 2 ^ 103 →
    isFin w = true ∧ isZero w = false ∧
    ∀ v, isFin v = true → |(flVal w : ℝ) - q| ≤ |(flVal v : ℝ) - q| ∧
      (flVal v ≠ flVal w → |(flVal v : ℝ) - q| = |(flVal w : ℝ) - q| → flMant w % 2 = 0))

/-- Code c of a grid stands for the number r (Tables 2-1 to 2-3). -/
def Grid.Value (g : Grid) (c : Nat) (r : ℝ) : Prop :=
  ∃ v, g.vals[c]? = some v ∧ r * (g.den * 2 ^ q2Scale) = v.a + v.b * √2

/-- Code c of a grid is a candidate of quantisation with the value r: every code but the hole is (R28). -/
def Grid.Candidate (g : Grid) (c : Nat) (r : ℝ) : Prop := g.Value c r ∧ some c ≠ g.hole

/-- Code c is the lowest that holds the value r. -/
def Grid.Lowest (g : Grid) (c : Nat) (r : ℝ) : Prop :=
  g.Candidate c r ∧ ∀ c', g.Candidate c' r → c ≤ c'

/-! ### Slot words -/

/-- The command answers a next state: the queue as it was, and this module. -/
abbrev Gives (i : Instr) (s : State) (m : Module) : Prop := exec i s = .next { s with mod := m }

/-- The command answers a next state in which nothing but one engine changed, and that engine is as said. -/
def OnEngine (i : Instr) (s : State) (c e : Nat) (P : Engine → Prop) : Prop :=
  ∃ v, exec i s = .next { s with mod := s.mod.setEng c e v } ∧ P v

/-- What holds the bundle that presents: a SYNCWAIT, a pop, a push. -/
def Hold.isSync : Hold → Bool
  | .sync _ _ _ _ => true
  | _ => false
def Hold.isPop : Hold → Bool
  | .pop _ => true
  | _ => false
def Hold.isPush : Hold → Bool
  | .push _ => true
  | _ => false

/-- A control word presents and its bundle may issue: the engine issues and no failed operation stops it (R122), no bundle is
open, the word is the one at its PC, no parity error is in its registers (R55), no uncorrectable error lies there (R66), and no
result is waited for (R74, R75). -/
abbrev ControlReady (m : Module) (c e : Nat) (w : W32) : Prop :=
  ctlPresents m c e w = true ∧ (m.eng c e).fault = none ∧ (m.eng c e).parity = false ∧
    fetchBad m c (m.eng c e).pc.toNat = false ∧ redStall m c e (m.eng c e).pc.toNat = false

/-- An engine after its bundle issued (R77, R81): the slots read the registers as they stood, the control word's writes
are in `regs`, `pc` follows, and only at the image's end may the engine fault. -/
def ControlIssued (m : Module) (c : Nat) (old v : Engine) (pc : BitVec 12) (regs : Regs) : Prop :=
  v = { old with
        src := old.nxt, nxt := regs, bpc := old.pc, pc := pc, hold := .free
        mvLeft := opOf (storeWord m c old.pc.toNat .move) != 0
        mcLeft := opOf (storeWord m c old.pc.toNat .mac) != 0
        vcLeft := opOf (storeWord m c old.pc.toNat .vector) != 0
        offEnd := v.offEnd, run := v.run, fault := v.fault }
    ∧ (old.pc.toNat + 1 < (m.core c).bundles → v.run = .issuing ∧ v.fault = old.fault)

/-- A scalar control word writes Sd and goes on to the next bundle. -/
def ScalarIssued (i : Instr) (s : State) (c e : Nat) (w : W32) (r : Regs → W32) : Prop :=
  let old := s.mod.eng c e
  OnEngine i s c e (fun v =>
    ControlIssued s.mod c old v (old.pc + 1) (old.nxt.setScalar (fld w 25 22) (r old.nxt)))

/-- Sa and Sb of a control word. -/
def ctlSa (w : W32) (r : Regs) : W32 := r.scalar (fld w 21 18)
def ctlSb (w : W32) (r : Regs) : W32 := r.scalar (fld w 17 14)

/-- The registers that a Move word reads: a bundle reads in its issue cycle, after what its own control word wrote is left
out (R77). -/
def moveRegs (v : Engine) : Regs := { v.nxt with s := v.src.s }

/-- How far a word's issue ends the bundle: the engine goes on while a word of the bundle is left, and after the last one unless the
bundle is the image's last; a failed operation stops it with the last one (R122). -/
def GoesOn (old v : Engine) : Prop :=
  (anyLeft v = true → v.run = old.run ∧ v.fault = old.fault) ∧
  (anyLeft v = false → old.fault = none → old.offEnd = false → v.run = old.run ∧ v.fault = none) ∧
  (anyLeft v = false → old.fault ≠ none → v.run = .faulted ∧ v.fault = old.fault)

/-- An engine after a Move word of its bundle issued with the writes `regs`. -/
def MoveIssued (old v : Engine) (regs : Regs) : Prop :=
  v = { old with src := moveRegs old, nxt := regs, mvLeft := false, hold := .free, offEnd := v.offEnd, run := v.run, fault := v.fault }
    ∧ GoesOn old v

/-- An engine after a MAC word of its bundle issued with the writes `regs`. -/
def MacIssued (old v : Engine) (regs : Regs) : Prop :=
  v = { old with nxt := regs, mcLeft := false, offEnd := v.offEnd, run := v.run, fault := v.fault }
    ∧ GoesOn old v

/-- An engine after a Vector word of its bundle issued with the writes `regs`. -/
def VectorIssued (old v : Engine) (regs : Regs) : Prop :=
  v = { old with nxt := regs, vcLeft := false, offEnd := v.offEnd, run := v.run, fault := v.fault }
    ∧ GoesOn old v

/-- The engine whose Move word presents, as the word's effect starts. -/
def reading (m : Module) (c e : Nat) : Module := m.updEng c e (fun v => { v with src := moveRegs v })

/-- A Move word presents and loads: the module after the read, and the registers it leaves. -/
def Loads (i : Instr) (s : State) (c e : Nat) (m : Module) (regs : Regs) : Prop :=
  ∃ v, exec i s = .next { s with mod := m.setEng c e v } ∧ MoveIssued (s.mod.eng c e) v regs

/-- A Move word presents and faults: the engine stops with a fault of this kind at its bundle and keeps its registers, and nothing but
the engine and what the word's reads counted changed (R101). -/
def MoveFaults (i : Instr) (s : State) (c e kind : Nat) (m : Module) : Prop :=
  ∃ v, exec i s = .next { s with mod := m.setEng c e v } ∧ v.run = .faulted ∧
    v.fault = some { kind := kind, pc := (s.mod.eng c e).bpc.toNat } ∧ v.nxt = (s.mod.eng c e).nxt

/-! ### Mailbox commands -/

/-- Gragor executes the command of a code for mailbox n with these parameters, and the domains it needs are on (R244, R342). -/
abbrev Asked (m : Module) (n code : Nat) (ps : List Byte) : Prop :=
  running m n code = true ∧ params m n = ps ∧ powered m code = true

/-- Client n has fewer than 256 deferred commands outstanding (R247). -/
abbrev Room (m : Module) (n : Nat) : Prop := (m.host.deferred.filter (fun d => d.client == n)).length < 256

/-- The command answers a result code and data, and changes the module besides as said. -/
abbrev Responds (i : Instr) (s : State) (n rc : Nat) (data : List Byte) (m : Module) : Prop :=
  Gives i s (respond n rc data m)

/-- A deferred command passes its checks: result code ACCEPTED, and the command is outstanding under its key (R246). -/
def acceptedFor (m : Module) (n key : Nat) : Module :=
  respond n 1 [] { m with host := { m.host with
    deferred := m.host.deferred ++ [⟨n, reqTag m n, reqCode m n, key⟩] } }

/-- A deferred command is outstanding and is the oldest of its code and key. -/
abbrev Outstanding (m : Module) (code key : Nat) (d : Deferred) : Prop := findDeferred m code key = some d

/-- The completion record of an outstanding command is posted, and the command is no longer outstanding (R246). -/
def completed (m : Module) (d : Deferred) (rc : Nat) (payload : List Byte) : Module :=
  completion d.client d.tag d.code rc payload { m with host := { m.host with deferred := m.host.deferred.erase d } }

end Sys2Proof.Machine
end

