-- ==== Sys2Proof/Certificates/Slice0/Obligations.lean ====
section
/-!
DEFINITION. The statements of this model, for the provers: what a step does, what every command's own effect is, what stays,
and what every step keeps. Each docstring cites the rule of spec/ the statement formalises, or the entry of notes/assumptions/
behind it.
-/

section

open Sys2Proof Sys2Proof.Machine

/-! ### Engine slots (chapters 3 and 4) -/

/-- R80, R81: the scalar words write Sd from the registers as they stood, modulo 2^32, and the next bundle follows; nothing but
the engine changes. -/
def Obligations.ScalarWords : Prop :=
  (∀ s c e w, (Instr.saddi c e w).wf = true → ControlReady s.mod c e w →
    ScalarIssued (.saddi c e w) s c e w (fun r => ctlSa w r + BitVec.ofInt 32 (signed 18 (fld w 17 0)))) ∧
  (∀ s c e w, (Instr.slui c e w).wf = true → ControlReady s.mod c e w →
    ScalarIssued (.slui c e w) s c e w (fun _ => BitVec.ofNat 32 (fld w 15 0 * 2 ^ 16))) ∧
  (∀ s c e w, (Instr.sori c e w).wf = true → ControlReady s.mod c e w →
    ScalarIssued (.sori c e w) s c e w (fun r => ctlSa w r ||| BitVec.ofNat 32 (fld w 15 0))) ∧
  (∀ s c e w, (Instr.sadd c e w).wf = true → ControlReady s.mod c e w →
    ScalarIssued (.sadd c e w) s c e w (fun r => ctlSa w r + ctlSb w r)) ∧
  (∀ s c e w, (Instr.ssub c e w).wf = true → ControlReady s.mod c e w →
    ScalarIssued (.ssub c e w) s c e w (fun r => ctlSa w r - ctlSb w r)) ∧
  (∀ s c e w, (Instr.smul c e w).wf = true → ControlReady s.mod c e w →
    ScalarIssued (.smul c e w) s c e w (fun r => ctlSa w r * ctlSb w r)) ∧
  (∀ s c e w, (Instr.sand c e w).wf = true → ControlReady s.mod c e w →
    ScalarIssued (.sand c e w) s c e w (fun r => ctlSa w r &&& ctlSb w r)) ∧
  (∀ s c e w, (Instr.sor c e w).wf = true → ControlReady s.mod c e w →
    ScalarIssued (.sor c e w) s c e w (fun r => ctlSa w r ||| ctlSb w r)) ∧
  (∀ s c e w, (Instr.sxor c e w).wf = true → ControlReady s.mod c e w →
    ScalarIssued (.sxor c e w) s c e w (fun r => ctlSa w r ^^^ ctlSb w r)) ∧
  (∀ s c e w, (Instr.sshl c e w).wf = true → ControlReady s.mod c e w →
    ScalarIssued (.sshl c e w) s c e w (fun r => ctlSa w r <<< ((ctlSb w r).toNat % 32))) ∧
  (∀ s c e w, (Instr.sshr c e w).wf = true → ControlReady s.mod c e w →
    ScalarIssued (.sshr c e w) s c e w (fun r => ctlSa w r >>> ((ctlSb w r).toNat % 32))) ∧
  (∀ s c e w, (Instr.ssra c e w).wf = true → ControlReady s.mod c e w →
    ScalarIssued (.ssra c e w) s c e w (fun r => (ctlSa w r).sshiftRight ((ctlSb w r).toNat % 32)))

/-- R80, R81: a control NOP issues its bundle and writes nothing, and a NOP of another slot changes nothing; BR and DJNZ continue at
the target when they are taken and at the next bundle otherwise; DJNZ writes Sd − 1.
R81: when the bundle at the image's last index issues without a taken branch and without HALT, the engine faults with
kind 0x07; here its other slots hold NOP and its control word is a NOP too.
R79: no bundle of a loaded image holds a slot word that is not well formed, so a slot row whose word is not stops the model under the name
illFormed, and changes nothing: the stop and its name are the model's choice (notes/assumptions/6). -/
def Obligations.BranchWords : Prop :=
  ((∀ s (c : Fin 32) (e : Fin 64), ControlReady s.mod c e 0 →
    OnEngine (.nop .control c e) s c e (fun v =>
      ControlIssued s.mod c (s.mod.eng c e) v ((s.mod.eng c e).pc + 1) (s.mod.eng c e).nxt)) ∧
  (∀ s c e slot, slot ≠ .control → exec (.nop slot c e) s = .next s) ∧
  (∀ s c e w, (Instr.br c e w).wf = true → ControlReady s.mod c e w →
    OnEngine (.br c e w) s c e (fun v =>
      let old := s.mod.eng c e
      let a := ctlSa w old.nxt
      let b := ctlSb w old.nxt
      let taken : Prop := match fld w 25 22 with
        | 0 => True
        | 1 => a = b
        | 2 => a ≠ b
        | 3 => a.toInt < b.toInt
        | 4 => b.toInt ≤ a.toInt
        | 5 => a.toNat < b.toNat
        | _ => b.toNat ≤ a.toNat
      (taken → ControlIssued s.mod c old v (BitVec.ofNat 12 (fld w 11 0)) old.nxt ∧ v.run = .issuing ∧ v.fault = old.fault) ∧
      (¬ taken → ControlIssued s.mod c old v (old.pc + 1) old.nxt))) ∧
  (∀ s c e w, (Instr.djnz c e w).wf = true → ControlReady s.mod c e w →
    OnEngine (.djnz c e w) s c e (fun v =>
      let old := s.mod.eng c e
      let d := old.nxt.scalar (fld w 25 22) - 1
      let regs := old.nxt.setScalar (fld w 25 22) d
      (d ≠ 0 → ControlIssued s.mod c old v (BitVec.ofNat 12 (fld w 11 0)) regs ∧ v.run = .issuing ∧ v.fault = old.fault) ∧
      (d = 0 → ControlIssued s.mod c old v (old.pc + 1) regs)))) ∧
  (∀ s (c : Fin 32) (e : Fin 64), ControlReady s.mod c e 0 →
    (s.mod.eng c e).pc.toNat + 1 = (s.mod.core c).bundles →
    (∀ sl ∈ [Slot.control, .move, .mac, .vector], opOf (storeWord s.mod c (s.mod.eng c e).pc.toNat sl) = 0) →
    OnEngine (.nop .control c e) s c e (fun v =>
      v.run = .faulted ∧
      ((s.mod.eng c e).fault = none → v.fault = some { kind := 7, pc := (s.mod.eng c e).pc.toNat }))) ∧
  (∀ i s, i.slotOp ≠ none → i.wf = false → exec i s = .fault .illFormed)

/-- R82, R98, R99, R100, R113. SYNCWAIT issues at or above its threshold, is held below it, and faults with kind 0x04 on an object the
context may not access; held, it issues once it was released, or finds its object at the threshold while its core is not to park or stop. FENCE issues with
nothing in flight, else is held; YIELD issues unless a park request is pending. HALT issues, and its engine halts; with nothing left,
in flight or outstanding it stops. Under a park request an engine at a yield point, with nothing in flight or outstanding, parks: the
bundle of a held pop or push has had no effect, and its push waits no more. -/
def Obligations.HoldWords : Prop :=
  (∀ s c e w, (Instr.syncwait c e w).wf = true → ControlReady s.mod c e w →
    (s.mod.eng c e).hold.isSync = false →
    let old := s.mod.eng c e
    let obj := (ctlSa w old.nxt).toNat % 65536
    let thr := old.nxt.pair (fld w 17 14)
    (syncOwned s.mod (((s.mod.core c).ctx).getD 64) obj = true → thr ≤ (s.mod.fab.sync.get 0 obj).toNat →
      OnEngine (.syncwait c e w) s c e (fun v => ControlIssued s.mod c old v (old.pc + 1) old.nxt)) ∧
    (syncOwned s.mod (((s.mod.core c).ctx).getD 64) obj = true → (s.mod.fab.sync.get 0 obj).toNat < thr →
      OnEngine (.syncwait c e w) s c e (fun v => v = { old with hold := .sync obj thr s.mod.time.elapsed false })) ∧
    (syncOwned s.mod (((s.mod.core c).ctx).getD 64) obj = false →
      OnEngine (.syncwait c e w) s c e (fun v =>
        v.run = .faulted ∧ (old.fault = none → v.fault = some { kind := 4, pc := old.pc.toNat })))) ∧
  (∀ s (c : Fin 32) (e : Fin 64) o t n b, (s.mod.eng c e).hold = .sync o t n b →
    (s.mod.eng c e).run = .issuing → (s.mod.eng c e).fault = none →
    (b = true ∨ ((s.mod.core c).parkReq = false ∧ (s.mod.core c).stopReq = false ∧ t ≤ (s.mod.fab.sync.get 0 o).toNat)) →
    OnEngine (.syncwaitRelease c e) s c e (fun v =>
      ControlIssued s.mod c (s.mod.eng c e) v ((s.mod.eng c e).pc + 1) (s.mod.eng c e).nxt)) ∧
  (∀ s c e w, (Instr.fence c e w).wf = true → ControlReady s.mod c e w →
    let old := s.mod.eng c e
    (old.inflight = 0 → OnEngine (.fence c e w) s c e (fun v => ControlIssued s.mod c old v (old.pc + 1) old.nxt)) ∧
    (old.inflight ≠ 0 → OnEngine (.fence c e w) s c e (fun v => v = { old with hold := .fence }))) ∧
  (∀ s c e w, (Instr.yield c e w).wf = true → ControlReady s.mod c e w →
    let old := s.mod.eng c e
    ((s.mod.core c).parkReq = false →
      OnEngine (.yield c e w) s c e (fun v => ControlIssued s.mod c old v (old.pc + 1) old.nxt)) ∧
    ((s.mod.core c).parkReq = true → exec (.yield c e w) s = .next s)) ∧
  (∀ s c e w, (Instr.halt c e w).wf = true → ControlReady s.mod c e w →
    let old := s.mod.eng c e
    OnEngine (.halt c e w) s c e (fun v =>
      v.run = .halting ∧ v.fault = old.fault ∧ v.nxt = old.nxt ∧ v.src = old.nxt ∧ v.bpc = old.pc ∧ v.inflight = old.inflight ∧
      v.mvLeft = (opOf (storeWord s.mod c old.pc.toNat .move) != 0) ∧
      v.mcLeft = (opOf (storeWord s.mod c old.pc.toNat .mac) != 0) ∧
      v.vcLeft = (opOf (storeWord s.mod c old.pc.toNat .vector) != 0))) ∧
  (∀ s (c : Fin 32) (e : Fin 64), (s.mod.eng c e).run = .halting → anyLeft (s.mod.eng c e) = false →
    (s.mod.eng c e).inflight = 0 → (s.mod.eng c e).redOut = false →
    exec (.engineStop c e) s = .next { s with mod := s.mod.setEng c e { (s.mod.eng c e) with run := .halted } }) ∧
  (∀ s (c : Fin 32) (e : Fin 64), (s.mod.core c).parkReq = true → atYield s.mod c e = true →
    (s.mod.eng c e).inflight = 0 → (s.mod.eng c e).redOut = false →
    let old := s.mod.eng c e
    (old.hold.isPop = false → old.hold.isPush = false →
      OnEngine (.enginePark c e) s c e (fun v => v = { old with run := .parked, hold := .free })) ∧
    (∀ q, old.hold = .pop q →
      OnEngine (.enginePark c e) s c e (fun v => v.run = .parked ∧ v.hold = .free ∧ v.pc = old.bpc ∧ anyLeft v = false ∧
        v.nxt = { old.nxt with s := old.src.s } ∧ v.inflight = 0)) ∧
    (∀ q, old.hold = .push q →
      ∃ t, exec (.enginePark c e) s = .next t ∧ (t.mod.eng c e).run = .parked ∧ (t.mod.eng c e).pc = old.bpc ∧
        (t.mod.queue q).waiting = (s.mod.queue q).waiting.filter (fun p => p.who != .engine c e) ∧
        (t.mod.queue q).main = (s.mod.queue q).main))

/-- R63, R64, R84: LDT, LDTSL and LDTSR read a tile at Sa + 8 × imm, or in four segments Sb bytes apart, with the operation's own
transposition when its bit is set; LDT2 and LDT2S read two tiles and add Si to both scalars afterwards. The read's errors are
counted, and nothing else but the engine changes.
R64: segment r of a strided tile read holds the two bytes at x + r × s, taken modulo 512 KiB, in tile bits 16r to 16r + 15, and the
tile is poisoned exactly when a word that a segment lies in is delivered poisoned. -/
def Obligations.TileLoads : Prop :=
  (let one := fun (i : Fin 32 → Fin 64 → W32 → Instr) (tr : Tile → Tile) =>
    ∀ s c e w, (i c e w).wf = true → movePresents s.mod c e w = true →
      let old := s.mod.eng c e
      let r := moveRegs old
      let tr' := fun t => if fld w 12 12 = 1 then tr t else t
      (fld w 11 11 = 0 → ∀ x, address (r.scalar (fld w 21 18)) (signed 11 (fld w 10 0) * 8) 8 8 = .ok x →
        Loads (i c e w) s c e (countReads 1 (local_ c x / 8) false s.mod)
          (old.nxt.setTile (fld w 25 22)
            (tr' ⟨wordData s.mod.mem (local_ c x / 8), wordPoison s.mod.mem (local_ c x / 8)⟩))) ∧
      (fld w 11 11 = 1 → ∀ x, address (r.scalar (fld w 21 18)) (signed 11 (fld w 10 0) * 8) 2 2 = .ok x →
        let st := (r.scalar (fld w 17 14)).toNat
        st % 2 = 0 → 0 < st → st ≤ 0x7FFFE →
        Loads (i c e w) s c e (tileStrided c x st s.mod).1
          (old.nxt.setTile (fld w 25 22) (tr' (tileStrided c x st s.mod).2)))
  let two := fun (i : Fin 32 → Fin 64 → W32 → Instr) (ta tb : Tile → Tile) =>
    ∀ s c e w, (i c e w).wf = true → movePresents s.mod c e w = true →
      let old := s.mod.eng c e
      let r := moveRegs old
      ∀ x y, address (r.scalar (fld w 22 19)) (8 * (fld w 7 0 : Int)) 8 8 = .ok x →
        address (r.scalar (fld w 18 15)) (8 * (fld w 7 0 : Int)) 8 8 = .ok y →
        let tile := fun z => (⟨wordData s.mod.mem (local_ c z / 8), wordPoison s.mod.mem (local_ c z / 8)⟩ : Tile)
        let p := fld w 25 23
        let regs := (old.nxt.setTile (2 * p) (if fld w 9 9 = 1 then ta (tile x) else tile x)).setTile (2 * p + 1)
          (if fld w 8 8 = 1 then tb (tile y) else tile y)
        let inc := r.scalar (fld w 14 11)
        Loads (i c e w) s c e (countReads 1 (local_ c y / 8) false (countReads 1 (local_ c x / 8) false s.mod))
          (if fld w 10 10 = 1 then
            (regs.setScalar (fld w 22 19) (r.scalar (fld w 22 19) + inc)).setScalar (fld w 18 15) (r.scalar (fld w 18 15) + inc)
           else regs)
  one .ldt (transposed 4 4 4 true) ∧ one .ldtsl (transposed 2 8 4 true) ∧ one .ldtsr (transposed 2 4 8 true) ∧
  two .ldt2 (transposed 4 4 4 true) (transposed 4 4 4 true) ∧
  two .ldt2s (transposed 2 8 4 true) (transposed 2 4 8 true)) ∧
  (∀ m c x st, x % 2 = 0 → st % 2 = 0 →
    let t := (tileStrided c x st m).2
    let at_ := fun r => local_ c ((x + r * st) % 0x80000)
    (∀ r, r < 4 → t.code.extractLsb' (16 * r) 16 = BitVec.ofNat 16 (leNat (memBytes m.mem (at_ r) 2))) ∧
    t.poison = (List.range 4).any (fun r => wordPoison m.mem (at_ r / 8)))

/-- R85, R86, R87: LDV loads 16 lanes, a poisoned word giving canonical NaNs; LDS a scalar, LDQ 32 scales and LDP a product table when
no word read is poisoned; SRR reads a special register.
R63, R64, R84, R85, R101, Table 4-5: a load of any of these rows, and of LDT, LDTSL, LDTSR, LDT2 and LDT2S, whose address is misaligned
faults its engine with kind 0x02 and one outside the scratchpad with kind 0x03. So does a strided tile read whose stride is odd (0x02),
or zero or above 0x7_FFFE (0x03). LDS, LDQ and LDP that read a poisoned word fault with kind 0x05; LDP of an image with a reserved bit
set, and SRR of a reserved index, with kind 0x01. In each case the registers keep what they held. The model's choices: that a bad
stride comes before a bad address, the odd stride first (log entry 87), and that port A's address comes before port B's (log
entry 58). -/
def Obligations.RowLoads : Prop :=
  ((∀ s c e w, (Instr.ldv c e w).wf = true → movePresents s.mod c e w = true →
    let old := s.mod.eng c e
    ∀ x, address ((moveRegs old).scalar (fld w 21 18)) (signed 11 (fld w 10 0) * 64) 64 64 = .ok x →
      Loads (.ldv c e w) s c e (countReads 8 (local_ c x / 8) false s.mod)
        (old.nxt.setVec (fld w 25 22) ((readWords s.mod.mem (local_ c x / 8) 8).flatMap (fun d =>
          if d.2 then [qnan, qnan] else [d.1.extractLsb' 0 32, d.1.extractLsb' 32 32])))) ∧
  (∀ s c e w, (Instr.lds c e w).wf = true → movePresents s.mod c e w = true →
    let old := s.mod.eng c e
    ∀ x, address ((moveRegs old).scalar (fld w 21 18)) (signed 11 (fld w 10 0) * 4) 4 4 = .ok x →
      wordPoison s.mod.mem (local_ c x / 8) = false →
      Loads (.lds c e w) s c e (countReads 1 (local_ c x / 8) false s.mod)
        (old.nxt.setScalar (fld w 25 22) (BitVec.ofNat 32 (leNat (memBytes s.mod.mem (local_ c x) 4))))) ∧
  (∀ s c e w, (Instr.ldq c e w).wf = true → movePresents s.mod c e w = true →
    let old := s.mod.eng c e
    ∀ x, address ((moveRegs old).scalar (fld w 21 18)) (signed 11 (fld w 10 0) * 64) 64 64 = .ok x →
      (∀ k, k < 8 → wordPoison s.mod.mem (local_ c x / 8 + k) = false) →
      Loads (.ldq c e w) s c e (countReads 8 (local_ c x / 8) false s.mod)
        (old.nxt.setScales (32 * fld w 25 23)
          ((List.range 32).map (fun i => BitVec.ofNat 16 (leNat (memBytes s.mod.mem (local_ c x + 2 * i) 2)))))) ∧
  (∀ s c e w, (Instr.ldp c e w).wf = true → movePresents s.mod c e w = true →
    let old := s.mod.eng c e
    ∀ x p, address ((moveRegs old).scalar (fld w 21 18)) (signed 11 (fld w 10 0) * 64) 64 576 = .ok x →
      (∀ k, k < 72 → wordPoison s.mod.mem (local_ c x / 8 + k) = false) →
      tableOf (memBytes s.mod.mem (local_ c x) 576) = some p →
      Loads (.ldp c e w) s c e (countReads 72 (local_ c x / 8) false s.mod) (old.nxt.setPtab (fld w 22 22) p)) ∧
  (∀ s c e w d, (Instr.srr c e w).wf = true → movePresents s.mod c e w = true →
    special (s.mod.eng c e) (fld w 3 0) = some d →
    Loads (.srr c e w) s c e s.mod ((s.mod.eng c e).nxt.setScalar (fld w 25 22) d))) ∧
  ((let rowFault := fun (i : Fin 32 → Fin 64 → W32 → Instr) (n align len : Nat) =>
      ∀ s c e w k, (i c e w).wf = true → movePresents s.mod c e w = true → (s.mod.eng c e).fault = none →
        address ((moveRegs (s.mod.eng c e)).scalar (fld w 21 18)) (signed 11 (fld w 10 0) * n) align len = .error k →
        MoveFaults (i c e w) s c e k s.mod;
    rowFault .ldv 64 64 64 ∧ rowFault .lds 4 4 4 ∧ rowFault .ldq 64 64 64 ∧ rowFault .ldp 64 64 576) ∧
  (let tileFault := fun (i : Fin 32 → Fin 64 → W32 → Instr) =>
      ∀ s c e w, (i c e w).wf = true → movePresents s.mod c e w = true → (s.mod.eng c e).fault = none →
        let r := moveRegs (s.mod.eng c e)
        let st := (r.scalar (fld w 17 14)).toNat
        (∀ k, fld w 11 11 = 0 → address (r.scalar (fld w 21 18)) (signed 11 (fld w 10 0) * 8) 8 8 = .error k →
          MoveFaults (i c e w) s c e k s.mod) ∧
        (fld w 11 11 = 1 → st % 2 = 1 → MoveFaults (i c e w) s c e 2 s.mod) ∧
        (fld w 11 11 = 1 → st % 2 = 0 → st = 0 ∨ 0x7FFFE < st → MoveFaults (i c e w) s c e 3 s.mod) ∧
        (∀ k, fld w 11 11 = 1 → st % 2 = 0 → 0 < st → st ≤ 0x7FFFE →
          address (r.scalar (fld w 21 18)) (signed 11 (fld w 10 0) * 8) 2 2 = .error k → MoveFaults (i c e w) s c e k s.mod);
    tileFault .ldt ∧ tileFault .ldtsl ∧ tileFault .ldtsr) ∧
  (let pairFault := fun (i : Fin 32 → Fin 64 → W32 → Instr) =>
      ∀ s c e w, (i c e w).wf = true → movePresents s.mod c e w = true → (s.mod.eng c e).fault = none →
        let a := address ((moveRegs (s.mod.eng c e)).scalar (fld w 22 19)) (8 * (fld w 7 0 : Int)) 8 8
        let b := address ((moveRegs (s.mod.eng c e)).scalar (fld w 18 15)) (8 * (fld w 7 0 : Int)) 8 8
        (∀ k, a = .error k → MoveFaults (i c e w) s c e k s.mod) ∧
        (∀ x k, a = .ok x → b = .error k → MoveFaults (i c e w) s c e k s.mod);
    pairFault .ldt2 ∧ pairFault .ldt2s) ∧
  (∀ (base : W32) (imm : Int) (align len : Nat),
    let a := (base.toNat : Int) + imm
    (a % align ≠ 0 → address base imm align len = .error 2) ∧
    (a % align = 0 → a < 0 ∨ 0x80000 < a + len → address base imm align len = .error 3) ∧
    (a % align = 0 → 0 ≤ a → a + len ≤ 0x80000 → address base imm align len = .ok a.toNat))) ∧
  ((let poisonFault := fun (i : Fin 32 → Fin 64 → W32 → Instr) (n align len : Nat) =>
      ∀ s c e w x j, (i c e w).wf = true → movePresents s.mod c e w = true → (s.mod.eng c e).fault = none →
        address ((moveRegs (s.mod.eng c e)).scalar (fld w 21 18)) (signed 11 (fld w 10 0) * n) align len = .ok x →
        let words := (len + 7) / 8
        j < words → wordPoison s.mod.mem (local_ c x / 8 + j) = true →
        MoveFaults (i c e w) s c e 5 (countReads words (local_ c x / 8) false s.mod);
    poisonFault .lds 4 4 4 ∧ poisonFault .ldq 64 64 64 ∧ poisonFault .ldp 64 64 576) ∧
  (∀ s c e w x, (Instr.ldp c e w).wf = true → movePresents s.mod c e w = true → (s.mod.eng c e).fault = none →
    address ((moveRegs (s.mod.eng c e)).scalar (fld w 21 18)) (signed 11 (fld w 10 0) * 64) 64 576 = .ok x →
    (∀ k, k < 72 → wordPoison s.mod.mem (local_ c x / 8 + k) = false) →
    tableOf (memBytes s.mod.mem (local_ c x) 576) = none →
    MoveFaults (.ldp c e w) s c e 1 (countReads 72 (local_ c x / 8) false s.mod)) ∧
  (∀ bs, tableOf bs = none ↔ leAt bs 2 1 / 16 ≠ 0 ∨ leAt bs 4 12 ≠ 0) ∧
  (∀ s c e w, (Instr.srr c e w).wf = true → movePresents s.mod c e w = true → (s.mod.eng c e).fault = none →
    special (s.mod.eng c e) (fld w 3 0) = none → MoveFaults (.srr c e w) s c e 1 s.mod))

/-- R46, R85: STT, STV and STS store 8, 64 and 4 bytes at the address their operands give; STT stores the tile's poison and the others
clear it in the words they write; every other byte of memory keeps its value, and of the rest only the engine changes. -/
def Obligations.StoreWords : Prop :=
  let stored := fun (i : Instr) (s : State) (c e : Nat) (a n : Nat) (bs : List Byte) (poison : Bool) =>
    ∃ t v, exec i s = .next t ∧
      (∀ b, ¬ (a ≤ b ∧ b < a + n) → memByte t.mod.mem b = memByte s.mod.mem b) ∧
      memBytes t.mod.mem a n = bs ∧
      (∀ k, a / 8 ≤ k → k < (a + n + 7) / 8 → wordPoison t.mod.mem k = poison) ∧
      (∀ k, ¬ (a / 8 ≤ k ∧ k < (a + n + 7) / 8) → wordPoison t.mod.mem k = wordPoison s.mod.mem k) ∧
      t = { s with mod := { s.mod with mem := t.mod.mem }.setEng c e v } ∧
      MoveIssued (s.mod.eng c e) v (s.mod.eng c e).nxt
  (∀ s c e w x, (Instr.stt c e w).wf = true → movePresents s.mod c e w = true →
    let r := moveRegs (s.mod.eng c e)
    address (r.scalar (fld w 21 18)) (signed 11 (fld w 10 0) * 8) 8 8 = .ok x →
    stored (.stt c e w) s c e (local_ c x) 8 (leBytes 8 (r.tile (fld w 25 22)).code.toNat) (r.tile (fld w 25 22)).poison) ∧
  (∀ s c e w x, (Instr.stv c e w).wf = true → movePresents s.mod c e w = true →
    let r := moveRegs (s.mod.eng c e)
    address (r.scalar (fld w 21 18)) (signed 11 (fld w 10 0) * 64) 64 64 = .ok x →
    stored (.stv c e w) s c e (local_ c x) 64
      ((List.range 16).flatMap (fun l => leBytes 4 (r.lane (fld w 25 22) l).toNat)) false) ∧
  (∀ s c e w x, (Instr.sts c e w).wf = true → movePresents s.mod c e w = true →
    let r := moveRegs (s.mod.eng c e)
    address (r.scalar (fld w 21 18)) (signed 11 (fld w 10 0) * 4) 4 4 = .ok x →
    stored (.sts c e w) s c e (local_ c x) 4 (leBytes 4 (r.scalar (fld w 25 22)).toNat) false)

/-- R67, R68, R71, R97: MOVD hands a descriptor that no rule refuses to the core's mover and occupies an in-flight slot; with the 16 slots
or the mover's queue full the bundle is held; a poisoned descriptor faults with kind 0x05. R114, R115, R97: RMO and SIG issue an
operation under the next number, and occupy a slot: one of this module's windows waits for the window unit's check, one to another
module for its class. -/
def Obligations.IssueWords : Prop :=
  (∀ s c e w x, (Instr.movd c e w).wf = true → movePresents s.mod c e w = true →
    let old := s.mod.eng c e
    let k := ctxOfCore s.mod c
    address ((moveRegs old).scalar (fld w 21 18)) 0 64 64 = .ok x →
    let d := memBytes s.mod.mem (local_ c x) 64
    let j := moverJob e k old.bpc.toNat x d
    let m := countReads 8 (local_ c x / 8) false s.mod
    (16 ≤ old.inflight ∨ 16 ≤ (s.mod.core c).mover.length → old.fault = none →
      OnEngine (.movd c e w) s c e (fun v => v = { old with src := moveRegs old, hold := .slots })) ∧
    (old.inflight < 16 → (s.mod.core c).mover.length < 16 →
      (∀ i, i < 8 → wordPoison s.mod.mem (local_ c x / 8 + i) = false) → moverBad c d = false →
      (j.flags.getLsbD 2 = true ∨ syncOwned s.mod k j.sync = true) →
      ∃ v, exec (.movd c e w) s = .next { s with mod := (m.updCore c (fun q => { q with mover := q.mover ++ [j] })).setEng c e v } ∧
        MoveIssued { old with inflight := old.inflight + 1 } v old.nxt) ∧
    (old.inflight < 16 → (s.mod.core c).mover.length < 16 → old.fault = none →
      (∃ i, i < 8 ∧ wordPoison s.mod.mem (local_ c x / 8 + i) = true) →
      ∃ v, exec (.movd c e w) s = .next { s with mod := m.setEng c e v } ∧ v.run = .faulted ∧
        v.fault = some { kind := 5, pc := old.bpc.toNat } ∧ v.inflight = old.inflight)) ∧
  (∀ s c e w x, (Instr.rmo c e w).wf = true → movePresents s.mod c e w = true →
    let old := s.mod.eng c e
    let k := ctxOfCore s.mod c
    old.inflight < 16 → address ((moveRegs old).scalar (fld w 21 18)) 0 32 32 = .ok x →
    let d := memBytes s.mod.mem (local_ c x) 32
    let o := ropOf s.mod c e x d
    (∀ i, i < 4 → wordPoison s.mod.mem (local_ c x / 8 + i) = false) → rmoBad s.mod d = false →
    (o.lsyncOn = true → syncOwned s.mod k o.lsync = true) →
    (isRef o.remote = false → 3 ≤ o.kind → syncOwned s.mod k o.rsync = true) →
    ∃ t, exec (.rmo c e w) s = .next t ∧
      (isRef o.remote = true → refModule o.remote = s.mod.host.moduleId →
        t.mod.fab.ops = s.mod.fab.ops ++ [{ o with id := s.mod.fab.nextOp, phase := 0 }]) ∧
      (isRef o.remote = true → refModule o.remote ≠ s.mod.host.moduleId →
        t.mod.fab.ops = s.mod.fab.ops ++ [{ o with id := s.mod.fab.nextOp }]) ∧
      (isRef o.remote = false → opPermitted s.mod o.sid o.kind o.target o.len o.rsync = true →
        t.mod.fab.ops = s.mod.fab.ops ++ [{ o with id := s.mod.fab.nextOp }]) ∧
      (isRef o.remote = false → opPermitted s.mod o.sid o.kind o.target o.len o.rsync = false →
        t.mod.fab.ops = s.mod.fab.ops ++ [{ o with id := s.mod.fab.nextOp, phase := 3, status := 1 }]) ∧
      t.mod.fab.nextOp = s.mod.fab.nextOp + 1 ∧
      MoveIssued { old with inflight := old.inflight + 1, opSeq := old.opSeq + 1 } (t.mod.eng c e) old.nxt) ∧
  (∀ s c e w, (Instr.sig c e w).wf = true → movePresents s.mod c e w = true →
    let old := s.mod.eng c e
    let obj := ((moveRegs old).scalar (fld w 21 18)).toNat % 65536
    old.inflight < 16 →
    (syncOwned s.mod (ctxOfCore s.mod c) obj = true →
      ∃ t o, exec (.sig c e w) s = .next t ∧ t.mod.fab.ops = s.mod.fab.ops ++ [o] ∧
        o.kind = 3 ∧ o.cls = 2 ∧ o.rsync = obj ∧ o.amount = BitVec.ofNat 64 (fld w 15 0) ∧ o.desc = 0xFFFFFFFF ∧
        o.core = c.val ∧ o.eng = e.val ∧ o.seq = old.opSeq ∧ o.phase = 1 ∧ o.remote = 0 ∧ o.id = s.mod.fab.nextOp ∧
        MoveIssued { old with inflight := old.inflight + 1, opSeq := old.opSeq + 1 } (t.mod.eng c e) old.nxt) ∧
    (syncOwned s.mod (ctxOfCore s.mod c) obj = false → old.fault = none →
      OnEngine (.sig c e w) s c e (fun v => v.run = .faulted ∧
        v.fault = some { kind := 4, pc := old.bpc.toNat } ∧ v.nxt = old.nxt ∧ v.inflight = old.inflight)))

/-- R88, R172, R176, R178: a push of an engine onto a bound queue with room is accepted and the word issues, and without room it
is held and waits; a pop takes the word at the read position into Td with its poison and into St with its tag; SQPOP of an empty
queue writes 0 to St alone.
R88: a stream-queue operation faults with kind 0x03 when Sq[31:9] is not zero and with kind 0x04 when the context has no
binding to the queue in the direction used, whichever operation it is. -/
def Obligations.QueueWords : Prop :=
  (let queueOf := fun (s : State) (c e : Nat) (w : W32) => ((moveRegs (s.mod.eng c e)).scalar (fld w 21 18)).toNat
  (∀ s c e w, (Instr.sqpush c e w).wf = true → movePresents s.mod c e w = true →
    let q := queueOf s c e w
    let k := ctxOfCore s.mod c
    let tile := (moveRegs (s.mod.eng c e)).tile (fld w 25 22)
    let word : SqWord := { data := tile.code, tag := mkTag tile.poison (fld w 5 5 = 1) (fld w 4 4 = 1) (fld w 3 0), perr := false }
    q < 512 → sqBound (s.mod.queue q) k true = true → (s.mod.eng c e).hold.isPush = false →
    (acceptable s.mod (s.mod.queue q) = none → canAccept (s.mod.queue q) 1 = true →
      ∃ t, exec (.sqpush c e w) s = .next t ∧ (t.mod.eng c e).mvLeft = false ∧
        t.mod = moveDone c e (acceptWords q [word] (reading s.mod c e))) ∧
    (canAccept (s.mod.queue q) 1 = false →
      ∃ t, exec (.sqpush c e w) s = .next t ∧ (t.mod.eng c e).mvLeft = true ∧ (t.mod.eng c e).hold = .push q ∧
        (t.mod.queue q).waiting =
          insertWaiting { who := .engine c e, sid := sidOf s.mod k c, words := [word] } (s.mod.queue q).waiting ∧
        (t.mod.queue q).main = (s.mod.queue q).main)) ∧
  (∀ s c e w, (Instr.sqpushv c e w).wf = true → movePresents s.mod c e w = true →
    let q := queueOf s c e w
    let k := ctxOfCore s.mod c
    let r := moveRegs (s.mod.eng c e)
    let words : List SqWord := (List.range 8).map (fun i =>
      { data := r.lane (fld w 25 22) (2 * i + 1) ++ r.lane (fld w 25 22) (2 * i),
        tag := mkTag false (fld w 5 5 = 1 && i = 0) (fld w 4 4 = 1 && i = 7) (fld w 3 0), perr := false })
    q < 512 → sqBound (s.mod.queue q) k true = true → (s.mod.eng c e).hold.isPush = false →
    acceptable s.mod (s.mod.queue q) = none → canAccept (s.mod.queue q) 8 = true →
    ∃ t, exec (.sqpushv c e w) s = .next t ∧ t.mod = moveDone c e (acceptWords q words (reading s.mod c e))) ∧
  (∀ s c e w, (Instr.sqpop c e w).wf = true → movePresents s.mod c e w = true →
    let q := queueOf s c e w
    q < 512 → sqBound (s.mod.queue q) (ctxOfCore s.mod c) false = true → (s.mod.queue q).state = 1 →
    occupancy (s.mod.queue q) = 0 →
    Loads (.sqpop c e w) s c e s.mod ((s.mod.eng c e).nxt.setScalar (fld w 17 14) 0)) ∧
  (let one := fun (i : Fin 32 → Fin 64 → W32 → Instr) (waits : Bool) =>
    ∀ s c e w d ds, (i c e w).wf = true → movePresents s.mod c e w = true →
    (waits = true → (s.mod.core c).stopping = false ∨ (s.mod.eng c e).hold.isPop = false) →
    let q := queueOf s c e w
    q < 512 → sqBound (s.mod.queue q) (ctxOfCore s.mod c) false = true → (s.mod.queue q).state = 1 →
    1 ≤ occupancy (s.mod.queue q) → (s.mod.queue q).head = d :: ds →
    ∃ t, exec (i c e w) s = .next t ∧
      let put := fun n : Regs => (n.setTile (fld w 25 22) ⟨d.data, d.perr || d.tag.getLsbD 6⟩).setScalar (fld w 17 14)
        ((delivered d).tag.setWidth 32)
      t.mod = moveDone c e ((popWords q 1 (reading s.mod c e)).1.updEng c e (fun v => { v with nxt := put v.nxt }))
  one .sqpop false ∧ one .sqpopw true) ∧
  (∀ s c e w, (Instr.sqpopw c e w).wf = true → movePresents s.mod c e w = true → (s.mod.eng c e).fault = none →
    let q := queueOf s c e w
    q < 512 → sqBound (s.mod.queue q) (ctxOfCore s.mod c) false = true → occupancy (s.mod.queue q) = 0 →
    OnEngine (.sqpopw c e w) s c e (fun v =>
      v = { (s.mod.eng c e) with src := moveRegs (s.mod.eng c e), hold := .pop q })) ∧
  (∀ s c e w, (Instr.sqpopv c e w).wf = true → movePresents s.mod c e w = true →
    ((s.mod.core c).stopping = false ∨ (s.mod.eng c e).hold.isPop = false) →
    let q := queueOf s c e w
    q < 512 → sqBound (s.mod.queue q) (ctxOfCore s.mod c) false = true → (s.mod.queue q).state = 1 →
    8 ≤ occupancy (s.mod.queue q) → 8 ≤ (s.mod.queue q).head.length →
    let ws := ((s.mod.queue q).head.take 8).map delivered
    ∃ t, exec (.sqpopv c e w) s = .next t ∧
      let put := fun n : Regs => (n.setVec (fld w 25 22) (ws.flatMap (fun d => wordLanes (d.data, d.tag.getLsbD 6)))).setScalar
        (fld w 17 14) (popvTag ws)
      t.mod = moveDone c e ((popWords q 8 (reading s.mod c e)).1.updEng c e (fun v => { v with nxt := put v.nxt }))) ∧
  (let two := fun (i : Fin 32 → Fin 64 → W32 → Instr) (f : Positions → Positions) (drop : Bool) =>
    ∀ s c e w, (i c e w).wf = true → movePresents s.mod c e w = true →
    let q := queueOf s c e w
    q < 512 → sqBound (s.mod.queue q) (ctxOfCore s.mod c) false = true →
    ((s.mod.queue q).auto = false → (s.mod.queue q).state = 1 →
      ∃ t, exec (i c e w) s = .next t ∧ t.mod = moveDone c e (moveMark q f drop (reading s.mod c e))) ∧
    ((s.mod.queue q).auto = true → (s.mod.eng c e).fault = none →
      OnEngine (i c e w) s c e (fun v => v.run = .faulted ∧ v.fault = some { kind := 1, pc := (s.mod.eng c e).bpc.toNat }))
  two .sqmark Positions.mark false ∧ two .sqrewind Positions.rewind true ∧ two .sqrelease Positions.release false)) ∧
  (let both := fun (i : Fin 32 → Fin 64 → W32 → Instr) (push : Bool) =>
    ∀ s c e w, (i c e w).wf = true → movePresents s.mod c e w = true → (s.mod.eng c e).fault = none →
      let q := ((moveRegs (s.mod.eng c e)).scalar (fld w 21 18)).toNat
      let faults := fun (k : Nat) => OnEngine (i c e w) s c e (fun v =>
        v.run = .faulted ∧ v.fault = some { kind := k, pc := (s.mod.eng c e).bpc.toNat } ∧ v.nxt = (s.mod.eng c e).nxt)
      (512 ≤ q → faults 3) ∧ (q < 512 → sqBound (s.mod.queue q) (ctxOfCore s.mod c) push = false → faults 4)
  both .sqpush true ∧ both .sqpushv true ∧ both .sqpop false ∧ both .sqpopw false ∧ both .sqpopv false ∧
  both .sqmark false ∧ both .sqrewind false ∧ both .sqrelease false)

/-- R35 to R37, R39, R42, R43, R48, R90, R91. A MAC word whose slot presents: MAC adds to each element of its block, or to zero, the exact
products of its row and column, wrapped, with the overflow and poison it carries or meets, and faults with kind 0x01 where it asks for
the split form of a table without both flags for it; ACLR clears a block; PCOMB gives 16 times one block plus another, with the
flags of both; CVT converts a block into a row and sets the sticky bits of what it met. Nothing but the engine changes. -/
def Obligations.MacWords : Prop :=
  (∀ s c e w, (Instr.mac c e w).wf = true → macPresents s.mod c e w = true →
    let old := s.mod.eng c e
    let p := old.src.ptab (fld w 15 15)
    let split := decide (fld w 14 14 = 1)
    (split = false ∨ (p.flags.getLsbD 2 = true ∧ p.flags.getLsbD 3 = true) →
      OnEngine (.mac c e w) s c e (fun v => MacIssued old v (old.nxt.setBlock (fld w 25 24)
        ((List.range 16).map (fun n =>
          let terms := macTerms p split (old.src.tile (fld w 23 20)).code (old.src.tile (fld w 19 16)).code (n / 4) (n % 4)
          let base : Acc := if fld w 13 13 = 1 then {} else old.src.elem (fld w 25 24) n
          let sum := base.val.toInt + (terms.map Prod.fst).sum
          { val := BitVec.ofInt 32 sum
            ovf := base.ovf || decide (sum < -2147483648 ∨ 2147483647 < sum)
            poi := base.poi || (old.src.tile (fld w 23 20)).poison || (old.src.tile (fld w 19 16)).poison
              || terms.any Prod.snd }))))) ∧
    (split = true → ¬ (p.flags.getLsbD 2 = true ∧ p.flags.getLsbD 3 = true) → old.fault = none →
      OnEngine (.mac c e w) s c e (fun v =>
        v = { old with run := .faulted, fault := some { kind := 1, pc := old.bpc.toNat } }))) ∧
  (∀ s c e w, (Instr.aclr c e w).wf = true → macPresents s.mod c e w = true →
    OnEngine (.aclr c e w) s c e (fun v => MacIssued (s.mod.eng c e) v
      ((s.mod.eng c e).nxt.setBlock (fld w 25 24) (List.replicate 16 { val := 0, ovf := false, poi := false })))) ∧
  (∀ s c e w, (Instr.pcomb c e w).wf = true → macPresents s.mod c e w = true →
    let old := s.mod.eng c e
    OnEngine (.pcomb c e w) s c e (fun v => MacIssued old v (old.nxt.setBlock (fld w 25 24)
      ((List.range 16).map (fun n =>
        let h := old.src.elem (fld w 23 22) n
        let l := old.src.elem (fld w 21 20) n
        let x := 16 * h.val.toInt + l.val.toInt
        { val := BitVec.ofInt 32 x, ovf := h.ovf || l.ovf || decide (x < -2147483648 ∨ 2147483647 < x), poi := h.poi || l.poi }))))) ∧
  (∀ s c e w, (Instr.cvt c e w).wf = true → macPresents s.mod c e w = true →
    let old := s.mod.eng c e
    let els := old.src.block (fld w 21 20)
    OnEngine (.cvt c e w) s c e (fun v => MacIssued
      { old with convPoison := old.convPoison || els.any (·.poi), convOvf := old.convOvf || els.any (·.ovf) } v
      (old.nxt.setVec (fld w 25 22) ((List.range 16).map (fun n =>
        convert (old.src.elem (fld w 21 20) n) (old.src.ptab (fld w 19 19)).texp (old.src.scale (fld w 7 0 + n % 4)))))))

/-- R73, R74, R75, R92: REDI and REDF whose group and kind agree with every instance of their engine's count that shares a member, join
the instance of that count and group, or open it; where one does not agree the engine faults with kind 0x08 (the manual names
no member, notes/assumptions/60). REDUCTION_FIRE of an instance that 2^g different engines have joined writes the result to each of
them, also over what a later bundle has written there (the model's choice, notes/assumptions/62), ends their outstanding reductions, and
leaves every other engine as it was.
R73: the result of REDI is, per element, the exact sum modulo 2^32, with the overflow flag set when an input has it or the exact sum
is outside int32, and the poison flag when an input has it; that of REDF over two engines is the binary32 sum of each lane, the lower engine
on the left. -/
def Obligations.Reductions : Prop :=
  (∀ s c e w, (Instr.redi c e w).wf = true → macPresents s.mod c e w = true →
    let old := s.mod.eng c e
    let g := fld w 2 0
    let base := e.val / 2 ^ g * 2 ^ g
    let p : RedPart := ⟨e, fld w 25 24, old.src.block (fld w 21 20)⟩
    let insts := (s.mod.core c).red ++ (s.mod.core c).fired
    ((∀ j ∈ insts, j.idx = old.joined → groupsMeet j.base j.g base g = true → j.base = base ∧ j.g = g ∧ j.float = false) →
      ∃ v red, exec (.redi c e w) s = .next { s with mod := (s.mod.updCore c (fun k => { k with red := red })).setEng c e v } ∧
        MacIssued { old with joined := old.joined + 1, redOut := true } v old.nxt ∧
        (∀ j ∈ (s.mod.core c).red, ¬ (j.idx = old.joined ∧ j.base = base) → j ∈ red) ∧
        (∀ j ∈ (s.mod.core c).red, j.idx = old.joined → j.base = base → { j with parts := j.parts ++ [p] } ∈ red) ∧
        ((∀ j ∈ (s.mod.core c).red, ¬ (j.idx = old.joined ∧ j.base = base)) →
          red = (s.mod.core c).red ++ [{ idx := old.joined, base := base, g := g, float := false, parts := [p] }])) ∧
    (old.fault = none → (∃ j ∈ insts, j.idx = old.joined ∧ groupsMeet j.base j.g base g = true ∧
        ¬ (j.base = base ∧ j.g = g ∧ j.float = false)) →
      OnEngine (.redi c e w) s c e (fun v => v = { old with run := .faulted, fault := some { kind := 8, pc := old.bpc.toNat } }))) ∧
  (∀ s c e w, (Instr.redf c e w).wf = true → macPresents s.mod c e w = true →
    let old := s.mod.eng c e
    let g := fld w 2 0
    let base := e.val / 2 ^ g * 2 ^ g
    let p : RedPart := ⟨e, fld w 25 22, (old.src.vec (fld w 21 18)).map (fun x => { val := x })⟩
    let insts := (s.mod.core c).red ++ (s.mod.core c).fired
    ((∀ j ∈ insts, j.idx = old.joined → groupsMeet j.base j.g base g = true → j.base = base ∧ j.g = g ∧ j.float = true) →
      ∃ v red, exec (.redf c e w) s = .next { s with mod := (s.mod.updCore c (fun k => { k with red := red })).setEng c e v } ∧
        MacIssued { old with joined := old.joined + 1, redOut := true } v old.nxt ∧
        (∀ j ∈ (s.mod.core c).red, ¬ (j.idx = old.joined ∧ j.base = base) → j ∈ red) ∧
        (∀ j ∈ (s.mod.core c).red, j.idx = old.joined → j.base = base → { j with parts := j.parts ++ [p] } ∈ red) ∧
        ((∀ j ∈ (s.mod.core c).red, ¬ (j.idx = old.joined ∧ j.base = base)) →
          red = (s.mod.core c).red ++ [{ idx := old.joined, base := base, g := g, float := true, parts := [p] }])) ∧
    (old.fault = none → (∃ j ∈ insts, j.idx = old.joined ∧ groupsMeet j.base j.g base g = true ∧
        ¬ (j.base = base ∧ j.g = g ∧ j.float = true)) →
      OnEngine (.redf c e w) s c e (fun v => v = { old with run := .faulted, fault := some { kind := 8, pc := old.bpc.toNat } }))) ∧
  (∀ s (c : Fin 32) base idx i, (s.mod.core c).red.find? (fun j => j.base == base && j.idx == idx) = some i →
    i.parts.length = 2 ^ i.g → (i.parts.map (·.eng)).Nodup → (∀ p ∈ i.parts, p.eng < 64) →
    ∃ t, exec (.reductionFire c base idx) s = .next t ∧ t.pending = s.pending ∧
      (t.mod.core c).red = (s.mod.core c).red.filter (fun j => !(j.base == base && j.idx == idx)) ∧
      (∀ p ∈ i.parts, t.mod.eng c p.eng = { (s.mod.eng c p.eng) with
        redOut := false
        nxt := if i.float then (s.mod.eng c p.eng).nxt.setVec p.dest ((redResult i).map (·.val))
          else (s.mod.eng c p.eng).nxt.setBlock p.dest (redResult i) }) ∧
      (∀ d e, (d ≠ c.val ∨ ∀ p ∈ i.parts, p.eng ≠ e) → e < 64 → t.mod.eng d e = s.mod.eng d e) ∧
      t.mod.mem = s.mod.mem ∧ t.mod.fab = s.mod.fab) ∧
  (∀ i : RedInst, i.float = false → (redResult i).length = 16 ∧ ∀ n, n < 16 →
    let xs := (redLeaves i).map (fun l => l.getD n {})
    let sum := (xs.map (fun x => x.val.toInt)).sum
    (redResult i)[n]? = some { val := BitVec.ofInt 32 sum, ovf := xs.any (·.ovf) || decide (sum < -2147483648 ∨ 2147483647 < sum)
                               poi := xs.any (·.poi) }) ∧
  (∀ i : RedInst, ∀ a b, i.float = true → i.g = 1 → redLeaves i = [a, b] →
    (redResult i).map (·.val) = List.zipWith flAdd (a.map (·.val)) (b.map (·.val)))

/-- R93, R94: each arithmetic vector word that presents writes 16 lanes of Vd, or Sd alone with F set, from the operands of its form,
and nothing but the engine changes. Their values are those that BinaryValues states; VIADD adds modulo 2^32. R44: those functions
answer the canonical NaN for a NaN operand, and VF2I the most negative integer (R94). R94: of two zeros of different sign VMIN gives
−0 and VMAX +0; VNEG inverts and VABS clears the sign of an operand that is neither a NaN nor subnormal. R93, R95, R96: a VBC that
presents copies a scalar to every lane and a VGET a lane to a scalar; with a grid that the core holds and the pack allows, QNT writes
the tile packed from the codes that GridValues states for the 16 lanes and DEQ the lanes of a tile's codes; either of them, with a
grid the core does not hold or a 2-bit pack of a 4-bit grid, faults with kind 0x01. -/
def Obligations.VectorWords : Prop :=
  let wrote := fun (i : Instr) (s : State) (c : Fin 32) (e : Fin 64) (w : W32) (f : W32 → W32 → W32 → W32) =>
    let old := s.mod.eng c e
    let d := fld w 25 22
    let a := fld w 21 18
    let b := fld w 17 14
    OnEngine i s c e (fun v => VectorIssued old v
      (if fld w 13 13 = 1 then old.nxt.setScalar d (f (old.src.scalar a) (old.src.scalar b) (old.src.scalar d))
       else old.nxt.setVec d ((List.range 16).map (fun l => f (old.src.lane a l) (old.src.lane b l) (old.src.lane d l)))))
  (∀ s c e w, (Instr.vadd c e w).wf = true → vecPresents s.mod c e w = true →
    wrote (.vadd c e w) s c e w (fun a b _ => flAdd a b)) ∧
  (∀ s c e w, (Instr.vsub c e w).wf = true → vecPresents s.mod c e w = true →
    wrote (.vsub c e w) s c e w (fun a b _ => flSub a b)) ∧
  (∀ s c e w, (Instr.vmul c e w).wf = true → vecPresents s.mod c e w = true →
    wrote (.vmul c e w) s c e w (fun a b _ => flMul a b)) ∧
  (∀ s c e w, (Instr.vfma c e w).wf = true → vecPresents s.mod c e w = true →
    wrote (.vfma c e w) s c e w (fun a b d => flFma a b d)) ∧
  (∀ s c e w, (Instr.vmin c e w).wf = true → vecPresents s.mod c e w = true →
    wrote (.vmin c e w) s c e w (fun a b _ => flMin a b)) ∧
  (∀ s c e w, (Instr.vmax c e w).wf = true → vecPresents s.mod c e w = true →
    wrote (.vmax c e w) s c e w (fun a b _ => flMax a b)) ∧
  (∀ s c e w, (Instr.vneg c e w).wf = true → vecPresents s.mod c e w = true →
    wrote (.vneg c e w) s c e w (fun a _ _ => flNeg a)) ∧
  (∀ s c e w, (Instr.vabs c e w).wf = true → vecPresents s.mod c e w = true →
    wrote (.vabs c e w) s c e w (fun a _ _ => flAbs a)) ∧
  (∀ s c e w, (Instr.vrsqrt c e w).wf = true → vecPresents s.mod c e w = true →
    wrote (.vrsqrt c e w) s c e w (fun a _ _ => flRsqrt a)) ∧
  (∀ s c e w, (Instr.vrcp c e w).wf = true → vecPresents s.mod c e w = true →
    wrote (.vrcp c e w) s c e w (fun a _ _ => flRcp a)) ∧
  (∀ s c e w, (Instr.vi2f c e w).wf = true → vecPresents s.mod c e w = true →
    wrote (.vi2f c e w) s c e w (fun a _ _ => flOfInt a)) ∧
  (∀ s c e w, (Instr.vf2i c e w).wf = true → vecPresents s.mod c e w = true →
    wrote (.vf2i c e w) s c e w (fun a _ _ => flToInt a)) ∧
  (∀ s c e w, (Instr.viadd c e w).wf = true → vecPresents s.mod c e w = true →
    wrote (.viadd c e w) s c e w (fun a b _ => a + b)) ∧
  (∀ x y, isNan x = true ∨ isNan y = true →
    flAdd x y = qnan ∧ flSub x y = qnan ∧ flMul x y = qnan ∧ flMin x y = qnan ∧ flMax x y = qnan ∧ ∀ z, flFma x y z = qnan) ∧
  (∀ x y z, isNan z = true → flFma x y z = qnan) ∧
  (∀ x, isNan x = true → flNeg x = qnan ∧ flAbs x = qnan ∧ flRcp x = qnan ∧ flRsqrt x = qnan ∧ flToInt x = 0x80000000) ∧
  (flMin 0x80000000 0 = 0x80000000 ∧ flMin 0 0x80000000 = 0x80000000 ∧ flMax 0x80000000 0 = 0 ∧ flMax 0 0x80000000 = 0) ∧
  (∀ x, isNan x = false → isSub x = false → flNeg x = x ^^^ 0x80000000 ∧ flAbs x = x &&& 0x7FFFFFFF) ∧
  (∀ s c e w, (Instr.vbc c e w).wf = true → vecPresents s.mod c e w = true →
    let old := s.mod.eng c e
    OnEngine (.vbc c e w) s c e (fun v => VectorIssued old v
      (old.nxt.setVec (fld w 25 22) (List.replicate 16 (old.src.scalar (fld w 21 18)))))) ∧
  (∀ s c e w, (Instr.vget c e w).wf = true → vecPresents s.mod c e w = true →
    let old := s.mod.eng c e
    OnEngine (.vget c e w) s c e (fun v => VectorIssued old v
      (old.nxt.setScalar (fld w 25 22) (old.src.lane (fld w 21 18) (fld w 3 0))))) ∧
  (∀ s c e w g, (Instr.qnt c e w).wf = true → vecPresents s.mod c e w = true →
    gridFor (s.mod.core c).grids (fld w 17 13) (fld w 11 10) = .ok g →
    let old := s.mod.eng c e
    let qs := (List.range 16).map (fun l => quantise g (old.src.lane (fld w 21 18) l) (laneDraw old w l))
    OnEngine (.qnt c e w) s c e (fun v => VectorIssued old v (old.nxt.setTile (fld w 25 22)
      (packTile g.width (fld w 11 10) (fld w 9 9) (qs.map Prod.fst) (qs.any Prod.snd) (old.src.tile (fld w 25 22)))))) ∧
  (∀ s c e w g, (Instr.deq c e w).wf = true → vecPresents s.mod c e w = true →
    gridFor (s.mod.core c).grids (fld w 17 13) (fld w 11 10) = .ok g →
    let old := s.mod.eng c e
    let t := old.src.tile (fld w 21 18)
    OnEngine (.deq c e w) s c e (fun v => VectorIssued old v (old.nxt.setVec (fld w 25 22) ((List.range 16).map (fun l =>
      dequantise g (if fld w 11 10 = 0 then narrow g.width (tileField t.code 4 l)
        else ofField g.width (tileField t.code 2 (packField (fld w 11 10) (fld w 9 9) l))) t.poison))))) ∧
  (∀ s c e w, (Instr.qnt c e w).wf = true → vecPresents s.mod c e w = true → (s.mod.eng c e).fault = none →
    (findGrid (s.mod.core c).grids (fld w 17 13) = none ∨
      ∃ g, findGrid (s.mod.core c).grids (fld w 17 13) = some g ∧ fld w 11 10 ≠ 0 ∧ g.width = 4) →
    OnEngine (.qnt c e w) s c e (fun v =>
      v = { (s.mod.eng c e) with run := .faulted, fault := some { kind := 1, pc := (s.mod.eng c e).bpc.toNat } })) ∧
  (∀ s c e w, (Instr.deq c e w).wf = true → vecPresents s.mod c e w = true → (s.mod.eng c e).fault = none →
    (findGrid (s.mod.core c).grids (fld w 17 13) = none ∨
      ∃ g, findGrid (s.mod.core c).grids (fld w 17 13) = some g ∧ fld w 11 10 ≠ 0 ∧ g.width = 4) →
    OnEngine (.deq c e w) s c e (fun v =>
      v = { (s.mod.eng c e) with run := .faulted, fault := some { kind := 1, pc := (s.mod.eng c e).bpc.toNat } }))

/-- R42: a conversion of an element with both flags clear gives the exact real number n × 2^(TEXP − 14) × s rounded once to binary32,
and of n = 0 a zero of the scale's sign; R43: with a flag set the canonical NaN. R44, R94: of finite operands, addition, subtraction,
multiplication and the fused form round the exact number once, to nearest with ties to even, a tiny result to a signed zero and one of
2^128 or more to an infinity (RoundsTo); a zero that is exact is −0 only where every addend is a negative zero, and of a product has
the sign of the product. The reciprocal and the reciprocal square root round the exact real once, and give for a zero the infinity of
its sign and +∞, for an infinity a zero, for a negative number under the square root the canonical NaN. Conversions round to nearest
even; to int32 they saturate. Opposed infinities added, and zero times an infinity, give the canonical NaN. A subnormal operand counts
as zero (flVal), and VMIN and VMAX give the lesser and the greater operand. -/
def Obligations.BinaryValues : Prop :=
  (∀ x y, isFin x = true → isFin y = true →
    let sum := flVal x + flVal y
    (sum ≠ 0 → RoundsTo sum (flAdd x y)) ∧
    (sum = 0 → flAdd x y = flZero (isNeg x && isNeg y && isZero x && isZero y)) ∧
    let diff := flVal x - flVal y
    (diff ≠ 0 → RoundsTo diff (flSub x y)) ∧
    (diff = 0 → flSub x y = flZero (isNeg x && !isNeg y && isZero x && isZero y)) ∧
    let prod := flVal x * flVal y
    (prod ≠ 0 → RoundsTo prod (flMul x y)) ∧
    (prod = 0 → flMul x y = flZero (isNeg x != isNeg y)) ∧
    (∀ z, isFin z = true →
      (prod + flVal z ≠ 0 → RoundsTo (prod + flVal z : ℚ) (flFma x y z)) ∧
      (prod + flVal z = 0 → flFma x y z = flZero ((isNeg x != isNeg y) && isNeg z && prod = 0 && isZero z))) ∧
    flVal (flMin x y) = min (flVal x) (flVal y) ∧ flVal (flMax x y) = max (flVal x) (flVal y)) ∧
  (∀ x y, isInf x = true → isNan y = false →
    flAdd x y = (if isInf y && isNeg x != isNeg y then qnan else x) ∧
    flAdd y x = (if isInf y && isNeg x != isNeg y then qnan else x) ∧
    flSub x y = (if isInf y && isNeg x = isNeg y then qnan else x) ∧
    flMul x y = (if isZero y then qnan else flInf (isNeg x != isNeg y)) ∧
    flMul y x = (if isZero y then qnan else flInf (isNeg x != isNeg y)) ∧
    flMin x y = (if isNeg x then x else flush y) ∧ flMax x y = (if isNeg x then flush y else x) ∧
    (∀ z, isNan z = false →
      flFma x y z = (if isZero y || (isInf z && isNeg z != (isNeg x != isNeg y)) then qnan else flInf (isNeg x != isNeg y)) ∧
      flFma y x z = flFma x y z ∧ (isFin y = true → isFin z = true → flFma y z x = x))) ∧
  (∀ x, isFin x = true → isZero x = false →
    RoundsTo ((flVal x : ℝ)⁻¹) (flRcp x) ∧
    (isNeg x = false → RoundsTo (√(flVal x))⁻¹ (flRsqrt x)) ∧ (isNeg x = true → flRsqrt x = qnan)) ∧
  (∀ x, isZero x = true → flRcp x = flInf (isNeg x) ∧ flRsqrt x = flInf false) ∧
  (∀ x, isInf x = true → flRcp x = flZero (isNeg x) ∧ (isNeg x = false → flRsqrt x = 0)) ∧
  (flOfInt 0 = 0 ∧ ∀ n : W32, n ≠ 0 → RoundsTo n.toInt (flOfInt n)) ∧
  (∀ x, isInf x = true → flToInt x = if isNeg x then 0x80000000 else 0x7FFFFFFF) ∧
  (∀ x, isFin x = true →
    let q := flVal x
    (2 ^ 31 ≤ q → flToInt x = 0x7FFFFFFF) ∧ (q < -2 ^ 31 → flToInt x = 0x80000000) ∧
    (-2 ^ 31 ≤ q → q < 2 ^ 31 →
      |((flToInt x).toInt : ℚ) - q| ≤ 1 / 2 ∧ (|((flToInt x).toInt : ℚ) - q| = 1 / 2 → (flToInt x).toInt % 2 = 0))) ∧
  (∀ a texp s, a.ovf = true ∨ a.poi = true → convert a texp s = qnan) ∧
  (∀ (a : Acc) (texp : BitVec 8) (s : W16), a.ovf = false → a.poi = false →
    (a.val = 0 → convert a texp s = flZero s.msb) ∧
    (a.val ≠ 0 → RoundsTo (a.val.toInt * 2 ^ (texp.toInt - 14) *
      ((if s.msb then -1 else 1) * (1 + fld (s.zeroExtend 32) 8 0 / 512) * 2 ^ ((fld (s.zeroExtend 32) 14 9 : ℤ) - 31)))
      (convert a texp s)))

/-- R20 to R23, R27: the codes of the presets and of a user grid stand for the numbers of Tables 2-1 to 2-3. R28, R31: in
round-to-nearest mode a finite x becomes the candidate nearest to it, of two as near the one of smaller magnitude, of two of one magnitude
the positive one, and of the codes that hold the value the lowest, also where a negative x meets a zero of a user grid that
stands at another code than 0x0 (the model's choice, notes/assumptions/86). R29, R31: in stochastic mode an x that is a candidate
becomes it, one outside the grid the extreme candidate, and any other its lower or its upper neighbour as the draw says, where the gap
is not flushed to zero (notes/assumptions/27). R31: infinities become the extreme candidates, a NaN the hole, or code 0 with
poison. R45: a code dequantises to its value rounded once, a subnormal result of a user grid flushed (notes/assumptions/27), the hole and
a poisoned code to the canonical NaN. -/
def Obligations.GridValues : Prop :=
  (∀ n4 u4 l4 t2 b1 p4 : Grid, [0, 1, 2, 3, 4, 5].map presetGrid = [n4, u4, l4, t2, b1, p4].map some →
    (∀ c < 8,
      let m : ℝ := ([0, 1025, 2077, 3186, 4397, 5783, 7498, 10000] : List ℕ).getD c 0 / 10000
      n4.Value c m ∧ n4.Value (8 + c) (-m) ∧ u4.Value c (c / 7) ∧ u4.Value (8 + c) (-(c / 7))) ∧
    l4.Value 0 0 ∧ (∀ c, 1 ≤ c → c ≤ 7 → l4.Value c (√2 ^ ((c : ℤ) - 14))) ∧
    (∀ c, 9 ≤ c → c ≤ 15 → l4.Value c (√2 ^ ((c : ℤ) - 15))) ∧
    (t2.Value 0 0 ∧ t2.Value 1 1 ∧ t2.Value 3 (-1) ∧ b1.Value 0 (-1) ∧ b1.Value 1 1) ∧ (∀ c < 16, p4.Value c c) ∧
    [n4, u4, l4, t2, b1, p4].map (·.hole) = [some 8, some 8, some 8, some 2, none, none]) ∧
  (∀ (u : UserGrid) c v, u.vals[c]? = some v → c < 2 ^ widthBits u.width → -32 ≤ u.exp →
    (userGrid u).Value c (flVal v * 2 ^ u.exp)) ∧
  (∀ (g : Grid) x, 0 < g.den → isFin x = true → (∃ c r, g.Candidate c r) →
    ∃ c r, quantise g x none = (c, false) ∧ g.Lowest c r ∧ ∀ c' r', g.Candidate c' r' →
      |(flVal x : ℝ) - r| ≤ |(flVal x : ℝ) - r'| ∧
      (|(flVal x : ℝ) - r| = |(flVal x : ℝ) - r'| → |r| ≤ |r'| ∧ (|r| = |r'| → r' ≤ r))) ∧
  (∀ (g : Grid) x u, 0 < g.den → isFin x = true → (∃ c r, g.Candidate c r) →
    ∃ c r, quantise g x (some u) = (c, false) ∧ g.Lowest c r ∧
      ((∃ c', g.Candidate c' (flVal x)) → r = flVal x) ∧
      ((∀ c' r', g.Candidate c' r' → r' < flVal x) → ∀ c' r', g.Candidate c' r' → r' ≤ r) ∧
      ((∀ c' r', g.Candidate c' r' → (flVal x : ℝ) < r') → ∀ c' r', g.Candidate c' r' → r ≤ r') ∧
      (∀ lo hi d w, IsGreatest { r' | (∃ c', g.Candidate c' r') ∧ r' < flVal x } lo →
        IsLeast { r' | (∃ c', g.Candidate c' r') ∧ (flVal x : ℝ) < r' } hi → (¬ ∃ c', g.Candidate c' (flVal x)) →
        RoundsTo (flVal x - lo) d → RoundsTo (hi - lo) w → isFin w = true → isZero w = false →
        r = if (u.toNat / 256 : ℤ) < ⌊flVal (flDiv d w) * 2 ^ 24⌋ then hi else lo)) ∧
  (∀ x y, isFin x = true → isFin y = true → isZero y = false →
    (isZero x = false → RoundsTo (flVal x / flVal y : ℚ) (flDiv x y)) ∧
    (isZero x = true → flDiv x y = flZero (isNeg x != isNeg y))) ∧
  (∀ (g : Grid) x draw, 0 < g.den → isInf x = true → (∃ c r, g.Candidate c r) →
    ∃ c r, quantise g x draw = (c, false) ∧ g.Lowest c r ∧
      ∀ c' r', g.Candidate c' r' → if isNeg x then r ≤ r' else r' ≤ r) ∧
  (∀ g x draw, isNan x = true → quantise g x draw = match g.hole with | some h => (h, false) | none => (0, true)) ∧
  (∀ g c p, p = true ∨ g.hole = some c → dequantise g c p = qnan) ∧
  (∀ (g : Grid) c r, 0 < g.den → g.Candidate c r →
    (r = 0 → dequantise g c false = 0) ∧ (r ≠ 0 → RoundsTo r (dequantise g c false)))

/-! ### Mover, remote operations, windows and memory (chapters 3, 5 and 6) -/

/-- R67, R71, R122, R125: MOVER_DESCRIPTOR_START takes the oldest descriptor into service when no check fails, both sides lie in this module and no
closed bridge is in its way (R393); a check of its source that fails (R15, R16, R124) ends it with that status of Table 5-7: its engine records the fault, its slot frees, and the
engine stops unless a bundle of it is issuing. MOVER_DESCRIPTOR_COMPLETE, after the last group, makes the signal of the whole
descriptor where one is asked for, frees the slot unless the last group did, and lets the windows go.
R69, R70, R72: MOVER_GROUP_COMPLETE of a descriptor inside this module writes the scale line into Q, copies the group's rows and counts the
group; the group signal, when asked for, is one increment of SYNC, and the last one frees the slot; a poisoned scale line ends the
descriptor with status 0x0C and poison that meets a sync object with 0x09. A group that crosses a runner, whose packets have
all left, completes with the peer's status. A row copied between scratchpads carries data and poison word by word. -/
def Obligations.MoverDescriptors : Prop :=
  let recorded := fun (s t : State) (c : Fin 32) (j : MoverJob) (st : Nat) =>
    let old := s.mod.eng c j.eng
    let v := t.mod.eng c j.eng
    v.fault = some { kind := statusKind st, pc := nextPc old, desc := j.off, status := st } ∧ v.inflight = old.inflight - 1 ∧
      (anyLeft old = false ∨ old.hold ≠ .free → v.run = .faulted)
  let live := fun (s : State) (c : Fin 32) (j : MoverJob) =>
    j.eng < 64 ∧ (s.mod.core c).ctx = some j.ctx ∧ (s.mod.eng c j.eng).run ≠ .off ∧ (s.mod.eng c j.eng).fault = none
  (∀ s (c : Fin 32) j rest a b ka kb wa wb, (s.mod.core c).mover = j :: rest → j.started = false → j.srcPeer = none → j.dstPeer = none →
    moverCheck c j (List.range j.rows) (List.range (groupsOf j)) s.mod = .ok →
    resolveSide c j true s.mod = .ok (.here a ka wa) → resolveSide c j false s.mod = .ok (.here b kb wb) →
    let wins := wb.toList ++ (wa.toList ++ j.wins)
    let inService := { j with started := true, since := s.mod.time.elapsed, srcAt := a, dstAt := b, wins := wins }
    moverBlocked s.mod c inService = false →
    ∃ t, exec (.moverDescriptorStart c) s = .next t ∧ t.pending = s.pending ∧
      (t.mod.core c).mover = inService :: rest ∧
      (∀ w, t.mod.window w = { (s.mod.window w) with pending := (s.mod.window w).pending + wins.count w }) ∧
      t.mod.mem = s.mod.mem ∧ t.mod.engines = s.mod.engines) ∧
  (∀ s (c : Fin 32) j rest st, (s.mod.core c).mover = j :: rest → j.started = false → live s c j →
    sideStatus c j true (List.range j.rows) s.mod = st → st ≠ 0 →
    ∃ t, exec (.moverDescriptorStart c) s = .next t ∧ (t.mod.core c).mover = rest ∧ recorded s t c j st) ∧
  (∀ s (c : Fin 32) j rest, (s.mod.core c).mover = j :: rest → j.started = true → j.done = groupsOf j → j.lost = false → j.wins = [] →
    j.tag = none → j.eng < 64 →
    let last := fun (m : Module) => m.updCore c (fun v => { v with mover := rest })
    let freed := fun (m : Module) => m.updEng c j.eng (fun v => { v with inflight := v.inflight - 1 })
    (j.flags.getLsbD 0 = true → Gives (.moverDescriptorComplete c) s (last s.mod)) ∧
    (j.flags.getLsbD 0 = false → j.flags.getLsbD 2 = true → Gives (.moverDescriptorComplete c) s (last (freed s.mod))) ∧
    (j.flags.getLsbD 0 = false → j.flags.getLsbD 2 = false →
      Gives (.moverDescriptorComplete c) s (last (freed (syncAdd j.sync 1 s.mod))))) ∧
  (∀ s (c : Fin 32) j rest, (s.mod.core c).mover = j :: rest → j.started = true → j.done = groupsOf j → j.lost = false →
    ∃ t, exec (.moverDescriptorComplete c) s = .next t ∧ (t.mod.core c).mover = rest ∧
      ∀ w, (t.mod.window w).pending = (s.mod.window w).pending - j.wins.count w) ∧
  (∀ s (c : Fin 32) j rest status data poison, (s.mod.core c).mover = j :: rest → j.started = true → j.done < groupsOf j → j.lost = false →
    j.srcPeer = none → j.dstPeer = none → moverBlocked s.mod c j = false →
    moverCheck c j (groupRows j) [j.done] s.mod = .ok →
    let line := if j.flags.getLsbD 1 then fabRead (scaleAddr j j.done) 64 s.mod else (s.mod, [])
    let ready := if j.flags.getLsbD 1 then writeScale c j line.2 line.1 else s.mod
    let x := writeRows j [] ((groupRows j).zipIdx.map (fun p => (p.2, p.1))) ready
    let put := putHead c { j with done := j.done + 1, tag := none, since := s.mod.time.elapsed } x.1
    (line.2.any Prod.snd = false → x.2 = false →
      (j.flags.getLsbD 0 = false → Gives (.moverGroupComplete ⟨c, status, data, poison⟩) s put) ∧
      (j.flags.getLsbD 0 = true → j.done + 1 < groupsOf j →
        Gives (.moverGroupComplete ⟨c, status, data, poison⟩) s (syncAdd j.sync 1 put)) ∧
      (j.flags.getLsbD 0 = true → j.done + 1 = groupsOf j →
        Gives (.moverGroupComplete ⟨c, status, data, poison⟩) s
          ((syncAdd j.sync 1 put).updEng c j.eng (fun v => { v with inflight := v.inflight - 1 })))) ∧
    (live s c j → line.2.any Prod.snd = true →
      ∃ t, exec (.moverGroupComplete ⟨c, status, data, poison⟩) s = .next t ∧ (t.mod.core c).mover = rest ∧ recorded s t c j 0xC) ∧
    (live s c j → line.2.any Prod.snd = false → x.2 = true →
      ∃ t, exec (.moverGroupComplete ⟨c, status, data, poison⟩) s = .next t ∧ (t.mod.core c).mover = rest ∧ recorded s t c j 9)) ∧
  (∀ m j i r, j.srcPeer = none →
    ((writeRows j [] [(i, r)] m).2 = true ↔
      placeOf m (j.dstAt + r * j.dstStride) = .sync ∧ (rowWords j r m).2.any Prod.snd = true)) ∧
  (∀ s (c : Fin 32) j rest status data poison r id, (s.mod.core c).mover = j :: rest → j.started = true →
    j.done + 1 = groupsOf j → j.lost = false → moverRunner j = some r → j.tag = some id → allSent s.mod r j.ctx id = true →
    moverBlocked s.mod c j = false → moverCheck c j (groupRows j) [j.done] s.mod = .ok →
    (status = 0 → j.srcPeer = none → j.dstPeer = some r → j.flags.getLsbD 1 = false → j.flags.getLsbD 0 = false →
      Gives (.moverGroupComplete ⟨c, status, data, poison⟩) s 
        (putHead c { j with done := j.done + 1, tag := none, since := s.mod.time.elapsed } s.mod)) ∧
    (live s c j → 1 ≤ status → status ≤ 0xC →
      ∃ t, exec (.moverGroupComplete ⟨c, status, data, poison⟩) s = .next t ∧ (t.mod.core c).mover = rest ∧ recorded s t c j status)) ∧
  (∀ m j i r, let a := j.srcAt + r * j.srcStride
    let b := j.dstAt + r * j.dstStride
    j.srcPeer = none → a % 8 = 0 → b % 8 = 0 → j.rowBytes % 8 = 0 →
    (∃ p q, placeOf m a = .spad p ∧ placeOf m b = .spad q) → overlaps a j.rowBytes b j.rowBytes = false →
    ∀ n, n < j.rowBytes / 8 →
      wordData (writeRows j [] [(i, r)] m).1.mem (b / 8 + n) = wordData m.mem (a / 8 + n) ∧
      wordPoison (writeRows j [] [(i, r)] m).1.mem (b / 8 + n) = wordPoison m.mem (a / 8 + n))

/-- R112, R116, R117, R118, Table 5-3, Table 5-5, Table 5-6: what an operation does at its target in this module: a put and a get carry data
and poison word by word; a put-with-signal adds its amount after its put; a signal adds to its sync object; the words of a sync object
are read unpoisoned, and a poisoned word leaves the object as it was. An atomic sets its target by one of the six functions and answers
the old value. With a poisoned operand, a poisoned compare word of a CAS or a poisoned target it leaves the target as it was: on a sync
object the status is 9, elsewhere 0 with the old value poisoned. A unit whose domain is off answers status 7 and nothing changes.
R116, R117, R119, R122, R126, R127, R332: REMOTE_OP_TAKE_EFFECT of an operation whose order allows it performs that effect; one to another
module reaches its runner: status 2 without a route, status 0xB without a reservation, else as many of its packets leave as the context
has credits for. RMO_COMPLETE of an operation that took effect, or whose peer answered OK, frees a slot of its engine and increments
LSYNC when asked, a get's words from a peer going to LOCAL; of one that failed, it records the fault of its status and frees the slot;
CREDIT_RETURN gives a credit back and as many waiting packets leave as then have credits, a context's or Gragor's own.
R112, R113: setting a sync object sets it and no other, releases exactly the SYNCWAITs on it whose threshold it reaches in cores that are
not stopping, and changes nothing else of an engine; an addition is modulo 2^64. -/
def Obligations.RemoteOperations : Prop :=
  ((∀ o m, o.kind ≠ 3 → targetOn m o.target o.len = false → opEffect o m = (m, 7)) ∧
  (∀ o m, o.kind = 3 → opEffect o m = (syncAdd o.rsync o.amount m, 0)) ∧
  (∀ o m, o.kind = 0 ∨ o.kind = 4 → o.peer = none → targetOn m o.target o.len = true → placeOf m o.target ≠ .sync →
    o.target % 8 = 0 → o.loc % 8 = 0 → o.len % 8 = 0 → o.core < nCores m → o.loc + o.len ≤ 0x80000 →
    overlaps (local_ o.core o.loc) o.len o.target o.len = false →
    (opEffect o m).2 = 0 ∧
    (∀ i, i < o.len / 8 →
      wordData (opEffect o m).1.mem (o.target / 8 + i) = wordData m.mem (local_ o.core o.loc / 8 + i) ∧
      wordPoison (opEffect o m).1.mem (o.target / 8 + i) = wordPoison m.mem (local_ o.core o.loc / 8 + i)) ∧
    (o.kind = 0 → (opEffect o m).1.fab.sync = m.fab.sync) ∧
    (o.kind = 4 → (opEffect o m).1.fab.sync.get 0 o.rsync = m.fab.sync.get 0 o.rsync + o.amount)) ∧
  (∀ o m, o.kind = 1 → o.peer = none → targetOn m o.target o.len = true → placeOf m o.target ≠ .sync → placeOf m o.target ≠ .sq →
    o.target % 8 = 0 → o.loc % 8 = 0 → o.len % 8 = 0 →
    overlaps (local_ o.core o.loc) o.len o.target o.len = false →
    (opEffect o m).2 = 0 ∧ ∀ i, i < o.len / 8 →
      wordData (opEffect o m).1.mem (local_ o.core o.loc / 8 + i) = wordData m.mem (o.target / 8 + i) ∧
      wordPoison (opEffect o m).1.mem (local_ o.core o.loc / 8 + i) = wordPoison m.mem (o.target / 8 + i)) ∧
  (∀ a m, placeOf m a = .sync → a % 8 = 0 →
    let i := (a - syncAddr) / 8
    (∀ n k, k < n / 8 → (fabRead a n m).2[k]? = some (m.fab.sync.get 0 (i + k), false)) ∧
    (∀ ws k d p, ws[k]? = some (d, p) →
      (fabWrite a ws m).1.fab.sync.get 0 (i + k) = (if p then m.fab.sync.get 0 (i + k) else d) ∧
      (p = true → (fabWrite a ws m).2 = true))) ∧
  (∀ old opd cmp : W64, atomicNew 0 old opd cmp = old + opd ∧ atomicNew 1 old opd cmp = opd ∧
    atomicNew 2 old opd cmp = (if old = cmp then opd else old) ∧ atomicNew 3 old opd cmp = old &&& opd ∧
    atomicNew 4 old opd cmp = old ||| opd ∧ (atomicNew 5 old opd cmp).toNat = max old.toNat opd.toNat) ∧
  (∀ target aop opd cmp m, placeOf m target = .sync → target % 8 = 0 →
    let i := (target - syncAddr) / 8
    (atomicAt target aop (opd, false) (cmp, false) m).2 = (0, (m.fab.sync.get 0 i, false)) ∧
    (atomicAt target aop (opd, false) (cmp, false) m).1.fab.sync.get 0 i = atomicNew aop (m.fab.sync.get 0 i) opd cmp ∧
    (∀ p q, p = true ∨ (aop = 2 ∧ q = true) →
      (atomicAt target aop (opd, p) (cmp, q) m).2.1 = 9 ∧
      (atomicAt target aop (opd, p) (cmp, q) m).1.fab.sync = m.fab.sync)) ∧
  (∀ target aop opd cmp m, placeOf m target ≠ .sync → placeOf m target ≠ .sq → target % 8 = 0 →
    let old := wordData m.mem (target / 8)
    (wordPoison m.mem (target / 8) = false →
      (atomicAt target aop (opd, false) (cmp, false) m).2 = (0, (old, false)) ∧
      wordData (atomicAt target aop (opd, false) (cmp, false) m).1.mem (target / 8) = atomicNew aop old opd cmp ∧
      wordPoison (atomicAt target aop (opd, false) (cmp, false) m).1.mem (target / 8) = false) ∧
    (∀ p q, p = true ∨ (aop = 2 ∧ q = true) ∨ wordPoison m.mem (target / 8) = true →
      (atomicAt target aop (opd, p) (cmp, q) m).2 = (0, (old, true)) ∧
      (atomicAt target aop (opd, p) (cmp, q) m).1.mem.bytes = m.mem.bytes ∧
      (atomicAt target aop (opd, p) (cmp, q) m).1.mem.poison = m.mem.poison))) ∧
  ((∀ s id o, findOp s.mod id = some o → o.phase = 1 → offModule s.mod o = false → opBlocked s.mod o = false →
    mayEffect s.mod o = true →
    let r := opEffect o s.mod
    (o.peer = none → Gives (.remoteOpTakeEffect id) s
      (putOp r.1 (if r.2 = 0 then { o with phase := 2 } else { o with phase := 3, status := r.2 }))) ∧
    (o.peer.isSome = true → Gives (.remoteOpTakeEffect id) s (endPeer o r.2 (if r.2 = 0 then r.1 else opUndefined o r.2 r.1)))) ∧
  (∀ s id o, findOp s.mod id = some o → o.phase = 1 → offModule s.mod o = true → opBlocked s.mod o = false →
    mayEffect s.mod o = true →
    (routeTo s.mod (refModule o.remote) = none →
      Gives (.remoteOpTakeEffect id) s (putOp s.mod { o with phase := 3, status := 2 })) ∧
    (∀ r, routeTo s.mod (refModule o.remote) = some r → (s.mod.credit r o.ctx).reserved = 0 →
      Gives (.remoteOpTakeEffect id) s (putOp s.mod { o with phase := 3, status := 0xB })) ∧
    (∀ r, routeTo s.mod (refModule o.remote) = some r → 0 < (s.mod.credit r o.ctx).reserved →
      let v := s.mod.credit r o.ctx
      let free := v.reserved - v.inUse
      ∃ t ps, exec (.remoteOpTakeEffect id) s = .next t ∧ t.pending = s.pending ∧
        findOp t.mod id = some { o with phase := 2, runner := some r } ∧
        ps.length = packetsOf o ∧ (∀ p ∈ ps, p.op = o.id ∧ p.dest = refModule o.remote ∧ p.crossed = 1) ∧
        t.mod.credit r o.ctx = { v with
          inUse := v.inUse + ((v.waiting ++ ps).take free).length, waiting := (v.waiting ++ ps).drop free } ∧
        t.mod.mem.bytes = s.mod.mem.bytes)) ∧
  (∀ s id o st data poison, findOp s.mod id = some o → o.phase = 2 → o.peer = none → offModule s.mod o = false →
    opBlocked s.mod o = false → o.core < 32 → o.eng < 64 →
    ∃ t, exec (.rmoComplete id st data poison) s = .next t ∧
      t.mod.fab.ops = s.mod.fab.ops.filter (fun i => i.id != id) ∧
      (t.mod.eng o.core o.eng).inflight = (s.mod.eng o.core o.eng).inflight - 1 ∧
      (t.mod.eng o.core o.eng).fault = (s.mod.eng o.core o.eng).fault ∧
      (∀ w, (t.mod.window w).pending = (s.mod.window w).pending - (if o.window = some w then 1 else 0)) ∧
      (o.lsyncOn = true → t.mod.fab.sync.get 0 o.lsync = s.mod.fab.sync.get 0 o.lsync + 1) ∧
      (o.lsyncOn = false → t.mod.fab.sync = s.mod.fab.sync) ∧ t.mod.mem = s.mod.mem) ∧
  (∀ s id o data poison, findOp s.mod id = some o → o.phase = 2 → o.peer = none → offModule s.mod o = true →
    opBlocked s.mod o = false → allLeft s.mod o = true → o.core < 32 → o.eng < 64 →
    ∃ t, exec (.rmoComplete id 0 data poison) s = .next t ∧
      t.mod.fab.ops = s.mod.fab.ops.filter (fun i => i.id != id) ∧
      (t.mod.eng o.core o.eng).inflight = (s.mod.eng o.core o.eng).inflight - 1 ∧
      (o.kind = 1 → ∀ i, i < o.len / 8 →
        wordData t.mod.mem (local_ o.core o.loc / 8 + i) = BitVec.ofNat 64 (leAt data (8 * i) 8) ∧
        wordPoison t.mod.mem (local_ o.core o.loc / 8 + i) = poison.getD i false)) ∧
  (∀ s id o st data poison, findOp s.mod id = some o → o.phase = 3 → o.peer = none → opBlocked s.mod o = false →
    o.core < 32 → o.eng < 64 → (s.mod.core o.core).ctx = some o.ctx → (s.mod.eng o.core o.eng).run ≠ .off →
    (s.mod.eng o.core o.eng).fault = none →
    let old := s.mod.eng o.core o.eng
    ∃ t, exec (.rmoComplete id st data poison) s = .next t ∧
      t.mod.fab.ops = s.mod.fab.ops.filter (fun i => i.id != id) ∧
      (anyLeft old = false ∨ old.hold ≠ .free → (t.mod.eng o.core o.eng).run = .faulted) ∧
      (t.mod.eng o.core o.eng).inflight = old.inflight - 1 ∧
      (t.mod.eng o.core o.eng).fault =
        some { kind := statusKind o.status, pc := nextPc old, desc := o.desc, status := o.status } ∧
      t.mod.fab.sync = s.mod.fab.sync) ∧
  (∀ s r k, r < 4 → k < 64 → 0 < (s.mod.credit r k).inUse →
    let v := s.mod.credit r k
    let free := v.reserved - (v.inUse - 1)
    ∃ t, exec (.creditReturn r k) s = .next t ∧ t.pending = s.pending ∧
      t.mod.credit r k = { v with inUse := v.inUse - 1 + (v.waiting.take free).length, waiting := v.waiting.drop free } ∧
      (∀ r' k', k' < 64 → (r', k') ≠ (r, k) → t.mod.credit r' k' = s.mod.credit r' k') ∧
      t.mod.fab.ops = s.mod.fab.ops ∧ t.mod.mem = s.mod.mem) ∧
  (∀ s r, r < 4 → 0 < (s.mod.ownCredit r).inUse →
    let v := s.mod.ownCredit r
    ∃ t, exec (.creditReturn r 64) s = .next t ∧ t.pending = s.pending ∧
      t.mod.ownCredit r = { v with inUse := (if v.waiting = [] then v.inUse - 1 else v.inUse), waiting := v.waiting.drop 1 } ∧
      t.mod.fab.credits = s.mod.fab.credits)) ∧
  ((∀ m obj v, (syncSet obj v m).fab.sync.get 0 obj = v ∧
    (∀ i, i ≠ obj → (syncSet obj v m).fab.sync.get 0 i = m.fab.sync.get 0 i) ∧
    (syncSet obj v m).mem = m.mem ∧ (syncSet obj v m).queues = m.queues) ∧
  (∀ m obj v c e, e < 64 → (syncSet obj v m).eng c e =
    (match (m.eng c e).hold with
     | .sync o t n r => { (m.eng c e) with
         hold := .sync o t n (r || (!(m.core c).stopping && decide (o = obj) && decide (t ≤ v.toNat))) }
     | _ => m.eng c e)) ∧
  (∀ m obj d, (syncAdd obj d m).fab.sync.get 0 obj = m.fab.sync.get 0 obj + d))

/-- R124, R125: windowPass, the first three checks of the window unit: status 3 for a free window, 6 for a closing one, 5 for an access
that no entry permits, 4 for one outside the window or its sync objects, else the address BASE + offset. WINDOW_CHECK of this
module's operation that is the next of its core, or of a peer's that is the next of its runner: an operation that passes, and
that the firewall permits the window's owner, goes on there with the owner's SID and is counted with the window; one of this
module that does not pass ends with the status, one that the firewall refuses with status 1. What a put that does not pass leaves open
(R122) lies in its range inside the window. The order of this module's operations of one core is the model's choice (log entry 72).
R123, R125, R130, R131: WINDOW_OPEN, WINDOW_CLOSE (the close point: the window closes and the command is outstanding), WINDOW_CLOSED of
a window that nothing uses any more, which completes that command, and CREDIT_RESERVE, after which as many waiting packets leave
as have credits. Each of the four is stated for the parameters that break no condition of its list. -/
def Obligations.Windows : Prop :=
  ((∀ m w mod_ k kind off len rs, (m.window w).state = 0 → windowPass m w mod_ k kind off len rs = .error 3) ∧
  (∀ m w mod_ k kind off len rs, (m.window w).state = 2 → windowPass m w mod_ k kind off len rs = .error 6) ∧
  (∀ m w mod_ k kind off len rs, (m.window w).state = 1 →
    (∀ p ∈ (m.window w).perms, ¬ (p.module = mod_ ∧ (p.ctx = k ∨ p.ctx = 0xFF))) →
    windowPass m w mod_ k kind off len rs = .error 5) ∧
  (∀ m w mod_ k kind off len rs p, (m.window w).state = 1 →
    (m.window w).perms.find? (fun p => p.module == mod_ && (p.ctx == k || p.ctx == 0xFF)) = some p →
    ((∃ b ∈ rightsFor kind, p.rights.getLsbD b = false) → windowPass m w mod_ k kind off len rs = .error 5) ∧
    ((∀ b ∈ rightsFor kind, p.rights.getLsbD b = true) →
      2 ^ (m.window w).log2 ≤ off ∨ 2 ^ (m.window w).log2 < off + len →
      windowPass m w mod_ k kind off len rs = .error 4) ∧
    ((∀ b ∈ rightsFor kind, p.rights.getLsbD b = true) → off < 2 ^ (m.window w).log2 → off + len ≤ 2 ^ (m.window w).log2 →
      3 ≤ kind → kind ≤ 4 → rs < (m.window w).syncBase ∨ (m.window w).syncBase + (m.window w).syncCount ≤ rs →
      windowPass m w mod_ k kind off len rs = .error 4) ∧
    ((∀ b ∈ rightsFor kind, p.rights.getLsbD b = true) → off < 2 ^ (m.window w).log2 → off + len ≤ 2 ^ (m.window w).log2 →
      (3 ≤ kind → kind ≤ 4 → (m.window w).syncBase ≤ rs ∧ rs < (m.window w).syncBase + (m.window w).syncCount) →
      windowPass m w mod_ k kind off len rs = .ok ((m.window w).base + off))) ∧
  (∀ s id o a, findOp s.mod id = some o → o.phase = 0 → o.peer = none → nextArrival s.mod o = true →
    let w := refWindow o.remote
    let sid := windowSid s.mod w
    windowPass s.mod w s.mod.host.moduleId o.ctx o.kind (refOff o.remote) o.len o.rsync = .ok a →
    opPermitted s.mod sid o.kind a o.len o.rsync = true →
    Gives (.windowCheck id) s ((putOp s.mod { o with phase := 1, since := s.mod.time.elapsed, sid := sid, target := a, window := some w }).setWindow w
      { (s.mod.window w) with pending := (s.mod.window w).pending + 1 })) ∧
  (∀ s id o st, findOp s.mod id = some o → o.phase = 0 → o.peer = none → nextArrival s.mod o = true →
    windowPass s.mod (refWindow o.remote) s.mod.host.moduleId o.ctx o.kind (refOff o.remote) o.len o.rsync = .error st →
    Gives (.windowCheck id) s (putOp (windowUndefined (refWindow o.remote) o.kind (refOff o.remote) o.len s.mod)
      { o with phase := 3, status := st })) ∧
  (∀ s id o a, findOp s.mod id = some o → o.phase = 0 → o.peer = none → nextArrival s.mod o = true →
    let sid := windowSid s.mod (refWindow o.remote)
    windowPass s.mod (refWindow o.remote) s.mod.host.moduleId o.ctx o.kind (refOff o.remote) o.len o.rsync = .ok a →
    opPermitted s.mod sid o.kind a o.len o.rsync = false →
    Gives (.windowCheck id) s (putOp (countOp o sid a s.mod) { o with phase := 3, status := 1 })) ∧
  (∀ m w kind off len, (kind ≠ 0 ∧ kind ≠ 4) ∨ (m.window w).state = 0 → windowUndefined w kind off len m = m) ∧
  (∀ m w kind off len b, let v := m.window w
    (v.base + off) % 8 = 0 → ¬ (v.base + off ≤ b ∧ b < v.base + min (off + len) (2 ^ v.log2)) →
    memByte (windowUndefined w kind off len m).mem b = memByte m.mem b) ∧
  (∀ s id o p a, findOp s.mod id = some o → o.phase = 0 → o.peer = some p → nextArrival s.mod o = true →
    windowPass s.mod p.window p.module p.context o.kind p.offset o.len o.rsync = .ok a →
    let sid := windowSid s.mod p.window
    opPermitted s.mod sid o.kind a o.len o.rsync = true →
    ∃ t, exec (.windowCheck id) s = .next t ∧ t.pending = s.pending ∧
      findOp t.mod id = some
        { o with phase := 1, since := s.mod.time.elapsed, sid := sid, target := a, window := some p.window } ∧
      (t.mod.window p.window).pending = (s.mod.window p.window).pending + 1)) ∧
  ((∀ s n ps, Asked s.mod n 0x0304 ps →
    let w := leAt ps 0 1
    let lg := leAt ps 1 1
    let k := leAt ps 2 1
    let np := leAt ps 3 1
    let base := leAt ps 8 8
    let sb := leAt ps 16 2
    let sc := leAt ps 18 2
    let perms := (List.range np).map (permOf ps)
    ps.length = 32 + 4 * np → 12 ≤ lg → lg ≤ 35 → k < 64 → 1 ≤ np → np ≤ 16 → zeros ((ps.drop 4).take 4) = true →
    zeros ((ps.drop 20).take 12) = true → base % 2 ^ lg = 0 → sb + sc ≤ 65536 → (∀ i, i < np → permBad ps i = false) →
    (s.mod.ctx k).state ≠ 0 → (s.mod.ctx k).client = n → (s.mod.window w).state = 0 →
    asleepAt s.mod base (2 ^ lg) = false → windowPlace s.mod base (2 ^ lg) = true → windowHeld s.mod k base (2 ^ lg) perms = true →
    (∀ i, i < sc → syncOwned s.mod k (sb + i) = true) →
    Responds (.windowOpen n) s n 0 [] (s.mod.setWindow w
      { state := 1, ctx := k, log2 := lg, base := base, syncBase := sb, syncCount := sc, perms := perms, pending := 0 })) ∧
  (∀ s n ps, Asked s.mod n 0x0305 ps → Room s.mod n →
    let w := leAt ps 0 1
    ps.length = 8 → zeros ((ps.drop 1).take 7) = true → (s.mod.window w).state = 1 →
    Gives (.windowClose n) s ((acceptedFor s.mod n w).setWindow w { (s.mod.window w) with state := 2 })) ∧
  (∀ s w d, (s.mod.window w).state = 2 → (s.mod.window w).pending = 0 → Outstanding s.mod 0x0305 w d →
    (s.mod.ctx (s.mod.window w).ctx).destroying = false →
    Gives (.windowClosed w) s (completed (s.mod.setWindow w {}) d 0 (leBytes 1 w))) ∧
  (∀ s n ps, Asked s.mod n 0x0306 ps →
    let k := leAt ps 0 1
    let r := leAt ps 1 1
    ps.length = 8 → k < 64 → r < 4 → leAt ps 2 2 ≤ 1984 → zeros ((ps.drop 4).take 4) = true →
    (s.mod.ctx k).state ≠ 0 → (s.mod.ctx k).client = n → othersReserved s.mod r k + leAt ps 2 2 ≤ 1984 →
    Responds (.creditReserve n) s n 0 []
      (sendWaiting r k (s.mod.setCredit r k { (s.mod.credit r k) with reserved := leAt ps 2 2 }))))

/-- R106, R107, R108: DDR_REFRESH of a channel with power, out of self-refresh (R340, R393) and whose interval has passed, scrubs the next line (after which
its four units hold no error), counts one pass after the last, and takes the 3.9 µs interval while a device reads above 85 °C;
DDR_TEMP_SAMPLE replaces the readings while DDR4 has power and no part of it is in self-refresh.
R129, R132, Table 5-9, Table 5-11: MEM_STATUS, SYNC_ALLOC, SYNC_FREE and both forms of SYNC_ACCESS complete with OK, with the response and
the change stated, for parameters that break no condition of their lists.
R140, R141, R143 to R147: the same of REPRO_STATUS, SEED_SET, STEP_SET, KZCB_EVAL and JOB_RECORD; SEED_SET answers 0x24 for a context of
another client and 0x23 for a FREE one.
R140, R141: the block function is the rule's recurrence over twelve rounds, maps distinct counters to distinct blocks for one key, and
gives the step key from the seed as key and the step, zero and all ones as counter. -/
def Obligations.MemoryCommands : Prop :=
  ((∀ s ch, ch < 8 → s.mod.mem.selfRefresh = false → s.mod.mem.partRefresh.getLsbD (ch / 2) = false →
    domOn s.mod (if ch < 4 then 41 else 42) = true →
    let trefi := (if s.mod.mem.refresh39.get false ch then 3900 else 7800) * nsUnit
    s.mod.mem.refreshAt.get 0 ch + trefi + ch * trefi / 8 ≤ s.mod.time.elapsed →
    ∃ t, exec (.ddrRefresh ch) s = .next t ∧ t.pending = s.pending ∧
      t.mod.mem.bytes = s.mod.mem.bytes ∧
      t.mod.mem.refresh39.get false ch = s.mod.mem.ddrTemp.any (fun x => decide (85 < x)) ∧
      (s.mod.mem.scrubPos.get 0 ch + 1 = 117440512 →
        t.mod.mem.scrubPos.get 0 ch = 0 ∧
        t.mod.mem.scrubPasses.get 0 ch = min (s.mod.mem.scrubPasses.get 0 ch + 1) 0xFFFFFFFF) ∧
      (s.mod.mem.scrubPos.get 0 ch + 1 ≠ 117440512 →
        t.mod.mem.scrubPos.get 0 ch = s.mod.mem.scrubPos.get 0 ch + 1 ∧ t.mod.mem.scrubPasses = s.mod.mem.scrubPasses) ∧
      (∀ k, k < 4 → errOf t.mod.mem (channelLine ch (s.mod.mem.scrubPos.get 0 ch) / 8 + 2 * k) = 0)) ∧
  (∀ s temps, domOn s.mod 41 = true → domOn s.mod 42 = true → s.mod.mem.selfRefresh = false → s.mod.mem.partRefresh = 0 →
    Gives (.ddrTempSample temps) s ({ s.mod with mem := { s.mod.mem with ddrTemp := temps } }))) ∧
  ((∀ s n ps, Asked s.mod n 0x0300 ps → ps.length = 8 → leAt ps 0 1 ≤ 1 → zeros ((ps.drop 1).take 7) = true →
    Responds (.memStatus n) s n 0 (memStatusData s.mod)
      (if leAt ps 0 1 = 1 then
        { s.mod with mem := { s.mod.mem with ddrCorr := [], ddrUncorr := [], scrubPasses := [], storeCorr := [], storeUncorr := [] } }
       else s.mod)) ∧
  (∀ s n ps, Asked s.mod n 0x0301 ps →
    let k := leAt ps 0 1
    let base := leAt ps 4 4
    let count := leAt ps 2 2
    ps.length = 16 → k < 64 → leAt ps 1 1 = 0 → 1 ≤ count → base + count ≤ 65536 → (s.mod.ctx k).state ≠ 0 →
    (s.mod.ctx k).client = n → (s.mod.ctx k).ranges.length < 16 →
    (∀ i, i < 64 → ∀ r ∈ (s.mod.ctx i).ranges, overlaps r.1 r.2 base count = false) →
    ∃ t, exec (.syncAlloc n) s = .next t ∧ (t.mod.mbx n).state = 3 ∧
      (t.mod.ctx k) = { (s.mod.ctx k) with ranges := (s.mod.ctx k).ranges ++ [(base, count)] } ∧
      (∀ i, base ≤ i → i < base + count → t.mod.fab.sync.get 0 i = BitVec.ofNat 64 (leAt ps 8 8)) ∧
      (∀ i, ¬ (base ≤ i ∧ i < base + count) → t.mod.fab.sync.get 0 i = s.mod.fab.sync.get 0 i)) ∧
  (∀ s n ps, Asked s.mod n 0x0302 ps →
    let k := leAt ps 0 1
    let r := (leAt ps 4 4, leAt ps 2 2)
    ps.length = 16 → k < 64 → leAt ps 1 1 = 0 → leAt ps 8 8 = 0 → 1 ≤ r.2 → r.1 + r.2 ≤ 65536 →
    r ∈ (s.mod.ctx k).ranges → ((s.mod.ctx k).state ≠ 0 → (s.mod.ctx k).client = n) → hasAdmitted s.mod k = false →
    Responds (.syncFree n) s n 0 []
      (s.mod.updCtx k (fun v => { v with ranges := v.ranges.erase r }))) ∧
  (∀ s n ps, Asked s.mod n 0x0303 ps →
    let k := leAt ps 0 1
    let i := leAt ps 4 4
    ps.length = 16 → k < 64 → leAt ps 2 2 = 1 → i < 65536 → syncOwned s.mod k i = true →
    ((s.mod.ctx k).state ≠ 0 → (s.mod.ctx k).client = n) →
    (leAt ps 1 1 = 0 → leAt ps 8 8 = 0 →
      Responds (.syncAccess n) s n 0 (leBytes 8 (s.mod.fab.sync.get 0 i).toNat) s.mod) ∧
    (leAt ps 1 1 = 1 → Responds (.syncAccess n) s n 0 [] (syncSet i (BitVec.ofNat 64 (leAt ps 8 8)) s.mod)))) ∧
  ((∀ s n ps, Asked s.mod n 0x0F00 ps →
    let k := leAt ps 0 1
    ps.length = 8 → zeros ((ps.drop 1).take 7) = true → k < 64 → (s.mod.ctx k).state ≠ 0 → (s.mod.ctx k).client = n →
    Responds (.reproStatus n) s n 0 (fields 32 [(0, 8, (s.mod.ctx k).seed.toNat), (8, 8, (s.mod.ctx k).step.toNat),
      (16, 1, (s.mod.ctx k).mode), (17, 1, (s.mod.ctx k).records.length), (18, 1, if hasAdmitted s.mod k then 1 else 0)]) s.mod) ∧
  (∀ s n ps, Asked s.mod n 0x0F01 ps →
    let k := leAt ps 0 1
    ps.length = 16 → zeros ((ps.drop 1).take 7) = true → k < 64 → (s.mod.ctx k).state ≠ 0 → (s.mod.ctx k).client = n →
    hasAdmitted s.mod k = false →
    Responds (.seedSet n) s n 0 [] (s.mod.updCtx k (fun v => { v with seed := BitVec.ofNat 64 (leAt ps 8 8) }))) ∧
  (∀ s n ps, Asked s.mod n 0x0F02 ps →
    let k := leAt ps 0 1
    ps.length = 16 → leAt ps 1 1 ≤ 1 → zeros ((ps.drop 2).take 6) = true → k < 64 → (s.mod.ctx k).state ≠ 0 →
    (s.mod.ctx k).client = n → hasAdmitted s.mod k = false →
    Responds (.stepSet n) s n 0 []
      (s.mod.updCtx k (fun v => { v with step := BitVec.ofNat 64 (leAt ps 8 8), mode := leAt ps 1 1 }))) ∧
  (∀ s n ps, Asked s.mod n 0x0F03 ps → ps.length = 32 → leAt ps 28 4 ≠ 0xFFFFFFFF →
    Responds (.kzcbEval n) s n 0 (kzcbData ps) s.mod) ∧
  (∀ s n ps r, Asked s.mod n 0x0F04 ps →
    let k := leAt ps 0 1
    ps.length = 8 → zeros ((ps.drop 2).take 6) = true → k < 64 → (s.mod.ctx k).state ≠ 0 → (s.mod.ctx k).client = n →
    (s.mod.ctx k).records[leAt ps 1 1]? = some r →
    Responds (.jobRecord n) s n 0 (recordBytes r) s.mod) ∧
  (∀ s n ps, Asked s.mod n 0x0F01 ps → ps.length = 16 → zeros ((ps.drop 1).take 7) = true → leAt ps 0 1 < 64 →
    ((s.mod.ctx (leAt ps 0 1)).state ≠ 0 → (s.mod.ctx (leAt ps 0 1)).client ≠ n →
      Responds (.seedSet n) s n 0x24 [] s.mod) ∧
    ((s.mod.ctx (leAt ps 0 1)).state = 0 → Responds (.seedSet n) s n 0x23 [] s.mod))) ∧
  ((∀ (k0 k1 c0 c1 c2 c3 : W32) (x0 x1 x2 x3 : Nat → W32), x0 0 = c0 → x1 0 = c1 → x2 0 = c2 → x3 0 = c3 →
    (∀ r, r < 12 →
      let rk := (if r % 2 = 0 then k0 else k1) + BitVec.ofNat 32 r * 0x4B5A2048;
      x0 (r + 1) = x0 r + (x3 r ^^^ rk) ∧ x1 (r + 1) = (x1 r ^^^ x0 (r + 1)).rotateLeft ([7, 19, 11, 26].getD (r % 4) 0) ∧
      x2 (r + 1) = x2 r + (x1 (r + 1) ^^^ rk) ∧ x3 (r + 1) = (x3 r + x2 (r + 1)).rotateLeft ([13, 5, 22, 17].getD (r % 4) 0)) →
    kzBlock k0 k1 (c0, c1, c2, c3) = (x0 12 + k1, x1 12 + k0, x2 12 + k1, x3 12 + k0)) ∧
  (∀ k0 k1 c d, kzBlock k0 k1 c = kzBlock k0 k1 d → c = d) ∧
  (∀ seed step, stepKey seed step =
    let b := kzBlock (lo32 seed) (hi32 seed) (lo32 step, hi32 step, 0, 0xFFFFFFFF)
    (b.1, b.2.1)))

/-! ### KV pages and stream queues (chapters 7 and 8) -/

/-- R154, R166, R168 to R171, R244, Table 7-8: each class 0x05 command in execution whose parameters and whose pool break no condition of
its list completes: KV_POOL_CREATE zeroes the page lists and the length table and writes an empty table, KV_POOL_DESTROY of a pool
without a commit frees its sequences, KV_STAGE appends to or begins the staged list, KV_COMMIT is accepted and waits, and KV_RESULT,
KV_SEQ_STATUS and KV_POOL_STATUS answer what the pool or the sequence holds; but for that the module stays. That KV_POOL_CREATE of a
context that is being destroyed completes too is the model's choice (notes/assumptions/93). -/
def Obligations.KvCommands : Prop :=
  (∀ s n ps, Asked s.mod n 0x0500 ps →
    let p := poolOf ps
    ps.length = 64 → zeros ((ps.drop 6).take 2) = true → zeros ((ps.drop 44).take 4) = true → leAt ps 0 1 < 32 →
    poolBad p = false → (s.mod.ctx p.ctx).state ≠ 0 → (s.mod.ctx p.ctx).client = n →
    (s.mod.pool (leAt ps 0 1)).live = false →
    (∀ r ∈ poolRegions p, ddrHeld s.mod p.ctx .read r.1 r.2 = true ∧ ddrHeld s.mod p.ctx .write r.1 r.2 = true) →
    (∀ r ∈ poolCold p, coldCovered s.mod r.1 r.2 = true) →
    Responds (.kvPoolCreate n) s n 0 []
      ((writeBytes8 p.ltBase (lengthTable p 0 [])
        { s.mod with mem := memClear (memClear s.mod.mem p.plBase (p.seqSlots * p.maxPages * 8)) p.ltBase (64 + 16 * p.seqSlots) }).setPool
        (leAt ps 0 1) p)) ∧
  (∀ s n ps, Asked s.mod n 0x0501 ps →
    let k := leAt ps 0 1
    ps.length = 8 → zeros ((ps.drop 1).take 7) = true → k < 32 → (s.mod.pool k).live = true →
    ((s.mod.ctx (s.mod.pool k).ctx).state ≠ 0 → (s.mod.ctx (s.mod.pool k).ctx).client = n) →
    hasAdmitted s.mod (s.mod.pool k).ctx = false → kvBusy s.mod k = false →
    Responds (.kvPoolDestroy n) s n 0 [] { s.mod with kv := { s.mod.kv with
                                                              pools := s.mod.kv.pools.put {} k {}
                                                              seqs := s.mod.kv.seqs.filter (fun q => q.2.pool != k) } }) ∧
  (∀ s n ps, Asked s.mod n 0x0502 ps →
    let k := leAt ps 0 1
    let c := leAt ps 1 1
    let base := if leAt ps 2 1 = 1 then [] else (s.mod.pool k).staged
    let new := (List.range c).map (entryOf ps)
    ps.length = 8 + 8 * c → c ≤ 32 → leAt ps 2 1 ≤ 1 → zeros ((ps.drop 3).take 5) = true →
    (∀ i, i < c → entryBad (entryOf ps i) = false) → k < 32 → (s.mod.pool k).live = true →
    ((s.mod.ctx (s.mod.pool k).ctx).state ≠ 0 → (s.mod.ctx (s.mod.pool k).ctx).client = n) →
    hasAdmitted s.mod (s.mod.pool k).ctx = false → base.length + c ≤ 1024 → kvBusy s.mod k = false →
    Responds (.kvStage n) s n 0 [] (s.mod.setPool k { (s.mod.pool k) with staged := base ++ new })) ∧
  (∀ s n ps, Asked s.mod n 0x0503 ps → Room s.mod n →
    let k := leAt ps 0 1
    ps.length = 8 → k < 32 → zeros ((ps.drop 1).take 7) = true → (s.mod.pool k).live = true →
    ((s.mod.ctx (s.mod.pool k).ctx).state ≠ 0 → (s.mod.ctx (s.mod.pool k).ctx).client = n) →
    hasAdmitted s.mod (s.mod.pool k).ctx = false → stagedBad (s.mod.pool k) = false → stagedState s.mod k = false →
    kvBusy s.mod k = false → s.mod.power.entry = none →
    Gives (.kvCommit n) s (let m := acceptedFor s.mod n k
      { m with kv := { m.kv with waiting := m.kv.waiting ++ [k] } })) ∧
  (∀ s n ps l, Asked s.mod n 0x0504 ps →
    let k := leAt ps 0 1
    let r := (l.drop (leAt ps 2 2)).take 32
    ps.length = 8 → zeros ((ps.drop 1).take 1) = true → zeros ((ps.drop 4).take 4) = true → k < 32 →
    (s.mod.pool k).live = true → ((s.mod.ctx (s.mod.pool k).ctx).state ≠ 0 → (s.mod.ctx (s.mod.pool k).ctx).client = n) →
    (s.mod.pool k).outcomes = some l → leAt ps 2 2 < l.length →
    Responds (.kvResult n) s n 0 (fields 8 [(0, 2, l.length), (2, 1, r.length)] ++ r.flatMap outcomeBytes) s.mod) ∧
  (∀ s n ps, Asked s.mod n 0x0505 ps →
    let q := s.mod.seq (leAt ps 0 2)
    ps.length = 8 → leAt ps 0 2 < 1024 → zeros ((ps.drop 2).take 6) = true →
    (q.state ≠ 0 → (s.mod.ctx (s.mod.pool q.pool).ctx).state ≠ 0 → (s.mod.ctx (s.mod.pool q.pool).ctx).client = n) →
    Responds (.kvSeqStatus n) s n 0 (seqData q) s.mod) ∧
  (∀ s n ps, Asked s.mod n 0x0506 ps →
    let k := leAt ps 0 1
    ps.length = 8 → leAt ps 1 1 ≤ 1 → zeros ((ps.drop 2).take 6) = true → k < 32 → (s.mod.pool k).live = true →
    ((s.mod.ctx (s.mod.pool k).ctx).state ≠ 0 → (s.mod.ctx (s.mod.pool k).ctx).client = n) →
    Responds (.kvPoolStatus n) s n 0 (poolData s.mod k)
      (if leAt ps 1 1 = 1 then s.mod.setPool k { (s.mod.pool k) with ctr := [] } else s.mod))

/-- R153, R160, R161, R162, R166: KV_COMMIT_START decides the oldest commit that waits while none is in progress; KV_COMMIT_COMPLETE, when the
link is up and grants cover the cold frame of every transfer, gives exactly the sequences of the outcomes their decided state,
counts the commit, keeps its outcomes, clears the staged list, writes the length table and completes the command;
KV_SWAP_FAILED of a commit that has transfers leaves every sequence and the commit count as they were.
R148, R149, R156, Table 7-5: the decision of a staged list of one JOIN that fits takes the lowest free slot and the lowest free pages, and its
sequence becomes RESIDENT with outcome 0; one that needs more pages than MAX_PAGES changes no sequence and has outcome 4; a single
LEAVE frees its sequence, with outcome 1.
R157, R158, R159: a single EXTEND takes the pages it lacks, a single RESUME its slot, its pages and the swap-ins of its cold slots. An
EXTEND that lacks pages while no sequence of a lower priority is RESIDENT pre-empts itself: of kind DROP it is dropped, of kind SWAP
swapped where cold slots suffice, and otherwise it stays in place. A JOIN that lacks pages pre-empts a RESIDENT sequence of lower
priority whose pages suffice. A candidate of kind SWAP has its cold slots left by those before it, and of the candidates the
shortest prefix that meets the need is pre-empted. -/
def Obligations.KvCommits : Prop :=
  ((∀ s n ns, s.mod.kv.plan = none → s.mod.kv.waiting = n :: ns →
    Gives .kvCommitStart s { s.mod with kv := { s.mod.kv with waiting := ns, plan := some { kvDecide s.mod n with startAt := s.mod.time.elapsed } } }) ∧
  (∀ s ep pl d, s.mod.kv.plan = some pl → swapsReach s.mod pl = true →
    Outstanding s.mod 0x0503 pl.pool d → (s.mod.pool pl.pool).ltBase % 64 = 0 →
    let p := s.mod.pool pl.pool
    ∃ t, exec (.kvCommitComplete ep) s = .next t ∧ t.mod.kv.plan = none ∧
      (t.mod.pool pl.pool).commits = p.commits + 1 ∧ (t.mod.pool pl.pool).outcomes = some pl.outcomes ∧
      (t.mod.pool pl.pool).staged = [] ∧
      (∀ o ∈ pl.outcomes, t.mod.seq o.seq = pl.seqs.get {} o.seq) ∧
      (∀ i, (∀ o ∈ pl.outcomes, o.seq ≠ i) → t.mod.seq i = s.mod.seq i) ∧
      memBytes t.mod.mem p.ltBase (64 + 16 * pl.table.length) = lengthTable p (p.commits + 1) pl.table ∧
      t.mod.host.deferred = s.mod.host.deferred.erase d) ∧
  (∀ s k pl d, s.mod.kv.plan = some pl → (pl.outs ≠ [] ∨ pl.ins ≠ []) → Outstanding s.mod 0x0503 pl.pool d →
    ∃ t, exec (.kvSwapFailed k) s = .next t ∧ t.mod.kv.plan = none ∧ t.mod.kv.seqs = s.mod.kv.seqs ∧
      t.mod.pool pl.pool = { (s.mod.pool pl.pool) with staged := [] } ∧ t.mod.host.deferred = s.mod.host.deferred.erase d)) ∧
  ((∀ m n e, (m.pool n).staged = [e] → e.action = 1 → m.seq e.seq = {} →
    let p := m.pool n
    let need := pagesFor p e.new
    let w : KvWork := { seqs := m.kv.seqs }
    let pl := kvDecide m n
    (need ≤ p.maxPages → 0 < freeSlots p w n → need ≤ freePages p w n →
      pl.seqs.get {} e.seq = { state := 1, pool := n, attr := e.attr, slot := (lowest 1 p.seqSlots (usedSlots w n)).headD 0,
                               len := e.new, pages := lowest need p.numPages (usedPages w n), joinCommit := p.commits + 1 } ∧
      (∀ i, i ≠ e.seq → pl.seqs.get {} i = m.seq i) ∧ pl.outs = [] ∧ pl.ins = [] ∧
      pl.outcomes.map (fun o => (o.seq, o.code, o.state)) = [(e.seq, 0, 1)]) ∧
    (p.maxPages < need → pl.seqs = m.kv.seqs ∧ pl.outcomes.map (fun o => (o.seq, o.code)) = [(e.seq, 4)])) ∧
  (∀ m n e, (m.pool n).staged = [e] → e.action = 0 →
    (kvDecide m n).seqs.get {} e.seq = {} ∧ (∀ i, i ≠ e.seq → (kvDecide m n).seqs.get {} i = m.seq i) ∧
    (kvDecide m n).outcomes.map (fun o => (o.seq, o.code, o.state)) = [(e.seq, 1, 0)]) ∧
  (∀ m n e, (m.pool n).staged = [e] → e.action = 2 → (m.seq e.seq).state = 1 →
    let p := m.pool n
    let q := m.seq e.seq
    let w : KvWork := { seqs := m.kv.seqs }
    let pl := kvDecide m n
    let need := pagesFor p (q.len + e.new) - pagesFor p q.len
    pagesFor p (q.len + e.new) ≤ p.maxPages →
    (need ≤ freePages p w n →
      pl.seqs.get {} e.seq = { q with pages := q.pages ++ lowest need p.numPages (usedPages w n), len := q.len + e.new } ∧
      (∀ i, i ≠ e.seq → pl.seqs.get {} i = m.seq i) ∧ pl.outs = [] ∧ pl.ins = [] ∧
      pl.outcomes.map (fun o => (o.seq, o.code, o.state)) = [(e.seq, 0, 1)]) ∧
    (freePages p w n < need → (∀ v ∈ poolSeqs m.kv.seqs n, v.2.state = 1 → q.attr % 8 ≤ v.2.attr % 8) →
      (∀ i, i ≠ e.seq → pl.seqs.get {} i = m.seq i) ∧ pl.table = [] ∧
      (8 ≤ q.attr → pl.seqs.get {} e.seq = { q with state := 3, slot := 0, pages := [] } ∧ pl.outs = [] ∧
        pl.outcomes.map (fun o => (o.seq, o.code, o.state)) = [(e.seq, 6, 3)]) ∧
      (q.attr < 8 → pagesFor p q.len ≤ freeCold p w n →
        let pg := q.pages.take (pagesFor p q.len)
        let cs := lowest pg.length p.coldSlots (usedCold w n)
        pl.seqs.get {} e.seq = { q with state := 2, slot := 0, pages := [], cold := cs } ∧ pl.outs = pg.zip cs ∧
        pl.outcomes.map (fun o => (o.seq, o.code, o.state)) = [(e.seq, 5, 2)]) ∧
      (q.attr < 8 → freeCold p w n < pagesFor p q.len →
        pl.seqs.get {} e.seq = q ∧ pl.outs = [] ∧
        pl.outcomes.map (fun o => (o.seq, o.code, o.state)) = [(e.seq, 7, 1)]))) ∧
  (∀ m n e, (m.pool n).staged = [e] → e.action = 3 → (m.seq e.seq).state = 2 →
    let p := m.pool n
    let q := m.seq e.seq
    let w : KvWork := { seqs := m.kv.seqs }
    let pl := kvDecide m n
    let need := pagesFor p (q.len + e.new)
    need ≤ p.maxPages → 0 < freeSlots p w n → need ≤ freePages p w n →
      let pg := lowest need p.numPages (usedPages w n)
      pl.seqs.get {} e.seq = { q with state := 1, slot := (lowest 1 p.seqSlots (usedSlots w n)).headD 0, pages := pg, cold := [],
                                      len := q.len + e.new } ∧
      (∀ i, i ≠ e.seq → pl.seqs.get {} i = m.seq i) ∧ pl.outs = [] ∧ pl.ins = pg.zip q.cold ∧
      pl.outcomes.map (fun o => (o.seq, o.code, o.state)) = [(e.seq, 0, 1)]) ∧
  (∀ m n e i v, (m.pool n).staged = [e] → e.action = 1 → m.seq e.seq = {} → poolSeqs m.kv.seqs n = [(i, v)] → m.seq i = v →
    v.state = 1 → v.attr % 8 < e.attr % 8 → 8 ≤ v.attr →
    let p := m.pool n
    let need := pagesFor p e.new
    let w : KvWork := { seqs := m.kv.seqs }
    let pl := kvDecide m n
    need ≤ p.maxPages → 0 < freeSlots p w n → freePages p w n < need → need ≤ p.numPages → v.pages.length ≤ p.numPages →
      pl.seqs.get {} i = { v with state := 3, slot := 0, pages := [] } ∧
      (pl.seqs.get {} e.seq).state = 1 ∧ (pl.seqs.get {} e.seq).pages = lowest need p.numPages [] ∧
      pl.outcomes.map (fun o => (o.seq, o.code, o.state)) = [(e.seq, 0, 1), (i, 9, 3)] ∧ pl.preempted = 1) ∧
  (∀ p cold l, let c := victimList p cold l
    c.Sublist l ∧ (∀ v ∈ l, 8 ≤ v.2.attr → v ∈ c) ∧
    ((c.filter (fun v => decide (v.2.attr < 8))).map (fun v => pagesFor p v.2.len)).sum ≤ cold) ∧
  (∀ n p need slot vs w,
    let met := fun (w : KvWork) => need ≤ freePages p w n ∧ (slot = true → 0 < freeSlots p w n)
    let after := fun k => (vs.take k).foldl (fun (w : KvWork) v =>
      (preempt n p v.1 { w with victims := w.victims ++ [v.1] }).code v.1 (if 8 ≤ v.2.attr then 9 else 8)) w
    ∃ k, k ≤ vs.length ∧ takeVictims n p need slot vs w = after k ∧ (∀ j, j < k → ¬ met (after j)) ∧
      (k < vs.length → met (after k))))

/-- R173, R175, R177, R180, R181: of an ACTIVE queue whose copies agree, an acceptance moves WRITE_POS of both copies by the words
accepted and a pop READ_POS; on automatic release RELEASE_POS and MARK_POS follow a pop, which delivers the head's first words;
words accepted into an automatic queue whose words are all in the head and that fit there come to it in order, with V set; SQMARK, SQREWIND
and SQRELEASE move the positions they name.
R185: where the copies of an ACTIVE queue differ, the comparison after an update makes the queue FAULTED with PTR_MISMATCH, by a
comparator that works; where they agree it changes nothing.
R182, R183, R188: an acceptance counts the words with EOP in PACKETS; on an S or M queue with notices NOTICE_SYNC goes up by one for each of
them; on an L queue with notices it goes up by one, and the crossings are counted, when the acceptance raises the occupancy from below
LEVEL to LEVEL or above, and not otherwise; without notices, and by a pop, no sync object changes. -/
def Obligations.QueuePositions : Prop :=
  ((∀ m q ws, (m.queue q).main = (m.queue q).shadow → (m.queue q).state = 1 →
    let p := (m.queue q).main
    ((acceptWords q ws m).queue q).main = { p with wp := p.wp + ws.length } ∧
    ((acceptWords q ws m).queue q).shadow = { p with wp := p.wp + ws.length } ∧
    ((acceptWords q ws m).queue q).state = 1) ∧
  (∀ m q n, (m.queue q).main = (m.queue q).shadow → (m.queue q).state = 1 →
    let p := (m.queue q).main
    ((popWords q n m).1.queue q).main =
      (if (m.queue q).auto then { p with rp := p.rp + n, mp := p.rp + n, lp := p.rp + n } else { p with rp := p.rp + n }) ∧
    ((popWords q n m).1.queue q).shadow = ((popWords q n m).1.queue q).main ∧
    (popWords q n m).2 = ((m.queue q).head.take n).map delivered) ∧
  (∀ m q ws, (m.queue q).auto = true → (m.queue q).tail = [] → (m.queue q).head.length + ws.length ≤ 16 →
    (m.queue q).main.rp + (m.queue q).head.length = (m.queue q).main.wp →
    ((acceptWords q ws m).queue q).head =
      (m.queue q).head ++ ws.map (fun w => { w with tag := w.tag ||| 0x80 }) ∧ ((acceptWords q ws m).queue q).tail = []) ∧
  (∀ v : Queue, v.main.mark.mp = v.main.rp ∧ v.main.rewind.rp = v.main.mp ∧ v.main.release.lp = v.main.rp ∧
    v.main.release.mp = v.main.rp)) ∧
  ((∀ m q, (m.queue q).state = 1 → (m.queue q).main ≠ (m.queue q).shadow → m.safety.cmpDead.get false q = false →
    ((comparePos q m).queue q).state = 3 ∧ ((comparePos q m).queue q).mismatch = true) ∧
  (∀ m q, (m.queue q).main = (m.queue q).shadow → comparePos q m = m)) ∧
  (∀ m q ws, let v := m.queue q
    let eops := (ws.filter (fun w => w.tag.getLsbD 4)).length
    let m' := acceptWords q ws m
    (m'.queue q).packets = v.packets + eops ∧
    (v.notices = true → v.form ≠ 2 →
      m'.fab.sync.get 0 v.noticeSync = m.fab.sync.get 0 v.noticeSync + BitVec.ofNat 64 eops) ∧
    (v.notices = true → v.form = 2 → occupancy v < v.level → v.level ≤ occupancy v + ws.length →
      m'.fab.sync.get 0 v.noticeSync = m.fab.sync.get 0 v.noticeSync + 1 ∧
      (m'.queue q).ctr.get 0 3 = min (v.ctr.get 0 3 + 1) 0xFFFFFFFF) ∧
    (v.notices = true → v.form = 2 → v.level ≤ occupancy v ∨ occupancy v + ws.length < v.level →
      m'.fab.sync = m.fab.sync ∧ (m'.queue q).ctr.get 0 3 = v.ctr.get 0 3) ∧
    (v.notices = false → m'.fab.sync = m.fab.sync)) ∧
  (∀ m q n, (popWords q n m).1.fab.sync = m.fab.sync)

/-- R175, R176, R177: SQ_PUSH_ACCEPT, while the stream-queue manager has power, accepts the first push that can be accepted, which is one
that waits and finds room in an ACTIVE queue, and the engine that made it has issued its word, with the registers as they then stand
(the order of the pushes that wait is the model's reading, log entry 30); SQ_REFILL of an ACTIVE
queue whose head holds eight words or fewer, and whose next words lie in the spill region where the firewall lets the owner read, reads
their group of eight, brings the rest of it to the head and moves no position.
R183, R186, R189, R190, Table 8-5, Table 8-6: each class 0x06 command in execution whose parameters and queue break no condition of
its list completes with OK, the response and the change stated, and SQ_DESTROY unbinds Trellis from the queue (R189); SQ_CREATE and SQ_TEST answer FAULTED where the queue's comparator
misses a mismatch, and SQ_TEST BAD_STATE while an endpoint is active. -/
def Obligations.QueueCommands : Prop :=
  ((∀ s q w c e, domOn s.mod 40 = true → acceptable s.mod (s.mod.queue q) = some w → w.who = .engine c e →
    Gives (.sqPushAccept q) s (moveDone c e ((acceptWords q w.words
      (s.mod.setQueue q { (s.mod.queue q) with waiting := (s.mod.queue q).waiting.erase w })).updEng c e
        (fun v => { v with src := moveRegs v })))) ∧
  (∀ s q w, domOn s.mod 40 = true → acceptable s.mod (s.mod.queue q) = some w → (∀ c e, w.who ≠ .engine c e) →
    Gives (.sqPushAccept q) s (acceptWords q w.words
      (s.mod.setQueue q { (s.mod.queue q) with waiting := (s.mod.queue q).waiting.erase w }))) ∧
  (∀ m, ∀ v : Queue, ∀ w, acceptable m v = some w → w ∈ v.waiting ∧ v.state = 1 ∧ w.words.length ≤ freeCount v) ∧
  (∀ s q, domOn s.mod 40 = true → (s.mod.queue q).state = 1 → (s.mod.queue q).head.length ≤ 8 →
    headEnd (s.mod.queue q) + 8 < tailStart (s.mod.queue q) → ((s.mod.queue q).auto = true → (s.mod.queue q).tail.length ≤ 16) →
    let v := s.mod.queue q
    let k := headEnd v
    let slot := k / 8 * 8 % capacity v
    let n := 8 - k % 8
    let sid := sidOf s.mod v.owner 0x23
    fwAllows s.mod sid .read (v.spillBase + 8 * slot) 64 = true → fwAllows s.mod sid .read (v.tagBase + slot) 8 = true →
    ∃ t, exec (.sqRefill q) s = .next t ∧ t.pending = s.pending ∧
      (t.mod.queue q).head = v.head ++ (List.range n).map (fun i => unspill v s.mod (k + i)) ∧
      (t.mod.queue q).main = v.main ∧ (t.mod.queue q).shadow = v.shadow)) ∧
  ((∀ s n ps, Asked s.mod n 0x0600 ps →
    let q := leAt ps 0 2
    let v := queueOf ps
    ps.length = 32 → q < 512 → leAt ps 3 1 ≤ 3 → queueBad v = false → (s.mod.queue q).state = 0 →
    (s.mod.ctx v.owner).state ≠ 0 → (s.mod.ctx v.owner).client = n →
    (v.prodKind = 0 → (s.mod.ctx v.prodId).state ≠ 0 ∧ (s.mod.ctx v.prodId).client = n) →
    (v.consKind = 0 → (s.mod.ctx v.consId).state ≠ 0 ∧ (s.mod.ctx v.consId).client = n) →
    endTaken s.mod true v.prodKind v.prodId = false → endTaken s.mod false v.consKind v.consId = false →
    (∀ r ∈ queueRegions v, asleepAt s.mod r.1 r.2 = false) → (∀ r ∈ queueRegions v, regionHeld s.mod v.owner r.1 r.2 = true) →
    (v.notices = true → syncOwned s.mod (noticeCtx v) v.noticeSync = true) →
    (s.mod.safety.cmpDead.get false q = false → Responds (.sqCreate n) s n 0 [] (s.mod.setQueue q v)) ∧
    (s.mod.safety.cmpDead.get false q = true → Responds (.sqCreate n) s n 0x32 [] s.mod)) ∧
  (∀ s n ps, Asked s.mod n 0x0601 ps →
    let q := leAt ps 0 2
    ps.length = 8 → zeros ((ps.drop 2).take 6) = true → q < 512 → (s.mod.queue q).state ≠ 0 →
    ((s.mod.ctx (s.mod.queue q).owner).state ≠ 0 → (s.mod.ctx (s.mod.queue q).owner).client = n) →
    queueActive s.mod q = false →
    let left := fun (b : Option Nat) => b.filter (fun i => i != q && (s.mod.queue i).state != 0)
    Responds (.sqDestroy n) s n 0 [] ({ s.mod with trl := { s.mod.trl with
      policyQ := left s.mod.trl.policyQ, statusQ := left s.mod.trl.statusQ } }.setQueue q {})) ∧
  (∀ s n ps, Asked s.mod n 0x0602 ps →
    let q := leAt ps 0 2
    let v := s.mod.queue q
    let p : Positions := { wp := v.main.wp, rp := v.main.wp, mp := v.main.wp, lp := v.main.wp }
    ps.length = 8 → zeros ((ps.drop 2).take 6) = true → q < 512 → v.state ≠ 0 →
    ((s.mod.ctx v.owner).state ≠ 0 → (s.mod.ctx v.owner).client = n) → queueActive s.mod q = false →
    Responds (.sqReset n) s n 0 [] (s.mod.setQueue q
      { v with state := 1, main := p, shadow := p, packets := 0, mismatch := false, paritySeen := false, head := [], tail := [], eops := [] })) ∧
  (∀ s n ps, Asked s.mod n 0x0603 ps →
    let q := leAt ps 0 2
    let v := s.mod.queue q
    ps.length = 8 → leAt ps 2 1 ≤ 1 → zeros ((ps.drop 3).take 5) = true → q < 512 → v.state ≠ 0 →
    ((s.mod.ctx v.owner).state ≠ 0 → (s.mod.ctx v.owner).client = n) →
    Responds (.sqStatus n) s n 0 (sqBlock v ++ (List.range 4).flatMap (fun i => leBytes 4 (v.ctr.get 0 i)))
      (if leAt ps 2 1 = 1 then s.mod.setQueue q { v with ctr := [] } else s.mod)) ∧
  (∀ s n ps, Asked s.mod n 0x0604 ps →
    let q := leAt ps 0 2
    let v := s.mod.queue q
    ps.length = 8 → zeros ((ps.drop 2).take 2) = true → q < 512 → v.state ≠ 0 → 1 ≤ leAt ps 4 4 → leAt ps 4 4 ≤ capacity v →
    ((s.mod.ctx v.owner).state ≠ 0 → (s.mod.ctx v.owner).client = n) → v.form = 2 → v.notices = true →
    Responds (.sqLevel n) s n 0 [] (s.mod.setQueue q { v with level := leAt ps 4 4 })) ∧
  (∀ s n ps, Asked s.mod n 0x0605 ps →
    let q := leAt ps 0 2
    ps.length = 8 → zeros ((ps.drop 2).take 6) = true → q < 512 → (s.mod.queue q).state ≠ 0 →
    ((s.mod.ctx (s.mod.queue q).owner).state ≠ 0 → (s.mod.ctx (s.mod.queue q).owner).client = n) →
    queueActive s.mod q = false →
    (s.mod.safety.cmpDead.get false q = false → Responds (.sqTest n) s n 0 [] s.mod) ∧
    (s.mod.safety.cmpDead.get false q = true →
      Responds (.sqTest n) s n 0x32 [] (s.mod.setQueue q { (s.mod.queue q) with state := 3 }))) ∧
  (∀ s n ps, Asked s.mod n 0x0605 ps →
    let q := leAt ps 0 2
    ps.length = 8 → zeros ((ps.drop 2).take 6) = true → q < 512 → (s.mod.queue q).state ≠ 0 →
    ((s.mod.ctx (s.mod.queue q).owner).state ≠ 0 → (s.mod.ctx (s.mod.queue q).owner).client = n) →
    queueActive s.mod q = true →
    Responds (.sqTest n) s n 0x23 [] s.mod))

/-! ### Sensor intake and Trellis (chapters 9 and 10) -/

/-- R191 to R195, R212, Table 9-1: CSI2_RX_PACKET on a configured port whose domains are on: a long packet with a good header, of a RUNNING
stream's virtual channel and data type, brings a raw stream with an open frame its next line, and a JPEG stream its bytes; one
whose CRC fails is counted, and the line is lost or the bytes break off there; a long packet that matches no stream and a short
one whose header cannot be corrected are counted. A payload of another length than a line's makes a damaged line. -/
def Obligations.ReceivePackets : Prop :=
  (∀ s port (p : CsiPacket) i f, (s.mod.rxPort port).live = true → domOn s.mod 46 = true → domOn s.mod 39 = true → p.ecc = 0 →
    p.vc ≤ 15 → p.long = true → p.dtype ≠ 0x12 →
    (streamsOn s.mod port p.vc).find? (fun i => (s.mod.stream i).cfg.dtype == p.dtype) = some i →
    (s.mod.stream i).cfg.format ≠ 5 → (s.mod.stream i).frame = some f → f.lines.length < (s.mod.stream i).cfg.hIn →
    (p.crcOk = true → p.overflow = false →
      Gives (.csi2RxPacket port p) s (s.mod.setStream i { (s.mod.stream i) with
        frame := some { f with lines := f.lines ++ [lineOf (s.mod.stream i).cfg p.payload] } })) ∧
    (p.crcOk = false → p.overflow = false →
      Gives (.csi2RxPacket port p) s ((rxCount port 2 s.mod).setStream i { (s.mod.stream i) with
        frame := some { f with lines := f.lines ++ [none] } }))) ∧
  (∀ s port (p : CsiPacket) i f, (s.mod.rxPort port).live = true → domOn s.mod 46 = true → domOn s.mod 39 = true → p.ecc = 0 →
    p.vc ≤ 15 → p.long = true → p.dtype ≠ 0x12 →
    (streamsOn s.mod port p.vc).find? (fun i => (s.mod.stream i).cfg.dtype == p.dtype) = some i →
    (s.mod.stream i).cfg.format = 5 → (s.mod.stream i).frame = some f → p.overflow = false →
    (p.crcOk = true → Gives (.csi2RxPacket port p) s (s.mod.setStream i { (s.mod.stream i) with
      frame := some { f with jpeg := f.jpeg ++ p.payload.map some } })) ∧
    (p.crcOk = false → Gives (.csi2RxPacket port p) s ((rxCount port 2 s.mod).setStream i { (s.mod.stream i) with
      frame := some { f with jpeg := f.jpeg ++ [none] } }))) ∧
  (∀ s port (p : CsiPacket), (s.mod.rxPort port).live = true → domOn s.mod 46 = true → domOn s.mod 39 = true → p.ecc = 0 →
    p.vc ≤ 15 → p.long = true → p.dtype ≠ 0x12 →
    (∀ i ∈ streamsOn s.mod port p.vc, (s.mod.stream i).cfg.dtype ≠ p.dtype) →
    (p.crcOk = true → Gives (.csi2RxPacket port p) s (rxCount port 3 s.mod)) ∧
    (p.crcOk = false → Gives (.csi2RxPacket port p) s (rxCount port 3 (rxCount port 2 s.mod)))) ∧
  (∀ s port (p : CsiPacket), (s.mod.rxPort port).live = true → domOn s.mod 46 = true → domOn s.mod 39 = true → p.ecc = 2 →
    p.long = false → Gives (.csi2RxPacket port p) s (rxCount port 1 s.mod)) ∧
  (∀ c p, 8 * p.length ≠ c.wIn * pixelBits c.format → lineOf c p = none)

/-- R193, R195, R196, R204, R206: FRAME_START of a RUNNING stream without an open frame opens one, admitted where the queue has room for its
sample and otherwise counted as an overrun, ends the stall and sets the missing deadline; FRAME_END, and FRAME_CLOSE_TIMEOUT once 1.5
FRAME_US have passed, close the open frame; MISSING_DEADLINE, once the deadline has come and no frame is open, makes a MISSING
sample, after which the stream is STALLED with event 0x0712 where MISS_MAX of them have come in a row and has its next deadline
otherwise; a MISSING sample that finds room is counted and takes the next index.
R207, R209: LOW_WATER_CHECK, 10 µs after the last, posts event 0x0710 when the prepared batches have fallen below LOW_WATER, and not again
before they have stood at it; INTAKE_REMAINDER_PUSH pushes the words held while the queue was FROZEN, once it is not;
INTAKE_STOP_COMPLETE of a stream that stops with no admitted frame open makes it READY and completes the command. -/
def Obligations.FramesAndStreams : Prop :=
  ((∀ s i num, (s.mod.stream i).state = 2 → (s.mod.stream i).frame = none → (s.mod.stream i).stopping = false →
    let v := s.mod.stream i
    let room := sampleWords i v.cfg + v.remainder.length ≤ freeCount (s.mod.queue v.cfg.queue)
    ∃ t, exec (.frameStart i num) s = .next t ∧
      (t.mod.stream i).stalled = false ∧ (t.mod.stream i).missing = 0 ∧
      (t.mod.stream i).deadline = some (s.mod.time.elapsed + v.cfg.frameUs * 3 * usUnit / 2) ∧
      (t.mod.stream i).next = v.next ∧
      (room → (t.mod.stream i).frame = some ⟨num % 65536, true, [], [], s.mod.time.elapsed⟩ ∧
        (t.mod.stream i).ctr.get 0 0 = min (v.ctr.get 0 0 + 1) 0xFFFFFFFF) ∧
      (¬ room → (t.mod.stream i).frame = some ⟨num % 65536, false, [], [], s.mod.time.elapsed⟩ ∧
        (t.mod.stream i).ctr.get 0 4 = min (v.ctr.get 0 4 + 1) 0xFFFFFFFF)) ∧
  (∀ s i f, (s.mod.stream i).state = 2 → (s.mod.stream i).frame = some f →
    Gives (.frameEnd i) s (closeFrame i (stampNow s.mod) s.mod) ∧
    (f.startAt + (s.mod.stream i).cfg.frameUs * 3 * usUnit / 2 ≤ s.mod.time.elapsed →
      Gives (.frameCloseTimeout i) s (closeFrame i (free s.mod) (freeNext s.mod)))) ∧
  (∀ m i w f, (m.stream i).frame = some f → ((closeFrame i w m).stream i).frame = none) ∧
  (∀ s i d, (s.mod.stream i).state = 2 → (s.mod.stream i).stopping = false → (s.mod.stream i).stalled = false →
    (s.mod.stream i).deadline = some d → d ≤ s.mod.time.elapsed → 1 ≤ (s.mod.stream i).cfg.missMax →
    (s.mod.stream i).frame = none →
    let m := missingSample i s.mod
    let v := m.stream i
    (v.cfg.missMax ≤ v.missing →
      Gives (.missingDeadline i) s (event 0x0712 0 [(0, 1, i), (8, 8, v.next)] (m.setStream i { v with stalled := true, deadline := none }))) ∧
    (v.missing < v.cfg.missMax → Gives (.missingDeadline i) s
      (m.setStream i { v with deadline := some (d + v.cfg.frameUs * 3 * usUnit / 2) }))) ∧
  (∀ m i, let v := m.stream i
    sampleWords i v.cfg + v.remainder.length ≤ freeCount (m.queue v.cfg.queue) →
    ((missingSample i m).stream i).missing = v.missing + 1 ∧ ((missingSample i m).stream i).next = v.next + 1 ∧
      ((missingSample i m).stream i).cfg = v.cfg)) ∧
  ((∀ s i, (s.mod.stream i).state = 2 → (s.mod.stream i).lowAt + 10 * usUnit ≤ s.mod.time.elapsed →
    let v := { (s.mod.stream i) with lowAt := s.mod.time.elapsed }
    let n := occupancy (s.mod.queue v.cfg.queue) / (sampleWords i v.cfg * v.cfg.batch)
    (v.cfg.lowWater = 0 → Gives (.lowWaterCheck i) s (s.mod.setStream i v)) ∧
    (v.cfg.lowWater ≠ 0 → v.cfg.lowWater ≤ n → Gives (.lowWaterCheck i) s (s.mod.setStream i { v with armed := true, below := false })) ∧
    (v.cfg.lowWater ≠ 0 → n < v.cfg.lowWater → v.armed = true →
      Gives (.lowWaterCheck i) s (event 0x0710 0 [(0, 1, i), (2, 2, min n 0xFFFF), (8, 8, v.next)]
        (s.mod.setStream i { v with armed := false, below := true }))) ∧
    (v.cfg.lowWater ≠ 0 → n < v.cfg.lowWater → v.armed = false →
      Gives (.lowWaterCheck i) s (s.mod.setStream i { v with armed := false, below := true }))) ∧
  (∀ s i, (s.mod.stream i).remainder ≠ [] → (s.mod.queue (s.mod.stream i).cfg.queue).state ≠ 2 →
    Gives (.intakeRemainderPush i) s (streamPush i (s.mod.stream i).remainder
      (s.mod.setStream i { (s.mod.stream i) with remainder := [] }))) ∧
  (∀ s i d, (s.mod.stream i).state = 2 → (s.mod.stream i).stopping = true → (s.mod.stream i).remainder = [] →
    (∀ f, (s.mod.stream i).frame = some f → f.admitted = false) → Outstanding s.mod 0x0704 i d →
    Gives (.intakeStopComplete i) s (completed (s.mod.setStream i { (s.mod.stream i) with
      state := 1, stopping := false, frame := none, deadline := none }) d 0 [])))

/-- R191, R202, R209 to R212, Table 9-6, Table 9-7: each class 0x07 command in execution whose parameters, stream, queue and port break no
condition of its list completes with OK, INTAKE_STOP with ACCEPTED: the port, the configuration, the table and the start values are
stored, the stop is noted, the counters are answered and cleared when asked; but for that the module stays. -/
def Obligations.IntakeCommands : Prop :=
  (∀ s n ps, Asked s.mod n 0x0700 ps →
    let p := leAt ps 0 1
    ps.length = 8 → p ≤ 3 → phyBad (leAt ps 1 1) (leAt ps 2 1) (leAt ps 4 4) = false → zeros ((ps.drop 3).take 1) = true →
    (∀ i, i < 16 → ¬ ((s.mod.stream i).state = 2 ∧ (s.mod.stream i).cfg.port = p)) →
    Responds (.intakePort n) s n 0 [] (s.mod.setRxPort p
      { (s.mod.rxPort p) with live := true, phy := leAt ps 1 1, lanes := leAt ps 2 1, rate := leAt ps 4 4 })) ∧
  (∀ s n ps, Asked s.mod n 0x0701 ps →
    let i := leAt ps 0 1
    let c := streamCfgOf ps
    let q := s.mod.queue c.queue
    ps.length = 48 → streamBad i ps c = false → (c.mode = 2 → (s.mod.stream i).lut ≠ none) → sampleWords i c ≤ capacity q →
    streamForeign s.mod n i = false → foreign s.mod n q.owner = false → (s.mod.stream i).state ≠ 2 → q.state ≠ 0 →
    q.prodKind = 1 → q.prodId = i →
    (∀ j, j < 16 → j ≠ i → (s.mod.stream j).state ≠ 0 →
      ¬ ((s.mod.stream j).cfg.port = c.port ∧ (s.mod.stream j).cfg.vc = c.vc ∧ (s.mod.stream j).cfg.dtype = c.dtype)) →
    (c.conceal = 2 → regionHeld s.mod q.owner c.refBase (c.wIn * c.hIn * channelsOf i c) = true) →
    (c.format = 5 → jpegLoad c + decoderLoad s.mod i (decoderFor s.mod i) ≤ 500) →
    Responds (.intakeConfig n) s n 0 []
      (s.mod.setStream i { (s.mod.stream i) with state := 1, cfg := c, decoder := decoderFor s.mod i })) ∧
  (∀ s n ps, Asked s.mod n 0x0702 ps →
    let i := leAt ps 0 1
    ps.length = 136 → zeros ((ps.drop 1).take 7) = true → i < 16 → streamForeign s.mod n i = false → (s.mod.stream i).state ≠ 2 →
    Responds (.intakeLut n) s n 0 [] (s.mod.setStream i { (s.mod.stream i) with lut := some (ps.drop 8) })) ∧
  (∀ s n ps, Asked s.mod n 0x0703 ps →
    let i := leAt ps 0 1
    ps.length = 32 → zeros ((ps.drop 1).take 7) = true → i < 16 → streamForeign s.mod n i = false → (s.mod.stream i).state = 1 →
    (s.mod.rxPort (s.mod.stream i).cfg.port).live = true → s.mod.power.entry = none →
    ∃ v, Responds (.intakeStart n) s n 0 [] (s.mod.setStream i v) ∧ v.state = 2 ∧ v.cfg = (s.mod.stream i).cfg ∧
      v.lut = (s.mod.stream i).lut ∧ v.seed = BitVec.ofNat 64 (leAt ps 8 8) ∧ v.epoch = BitVec.ofNat 64 (leAt ps 16 8) ∧
      v.base = leAt ps 24 8 ∧ v.next = leAt ps 24 8 ∧ v.stalled = false ∧ v.missing = 0 ∧ v.refAge = none ∧ v.frame = none ∧
      v.deadline = none ∧ v.stopping = false ∧ v.ctr = (s.mod.stream i).ctr) ∧
  (∀ s n ps, Asked s.mod n 0x0704 ps → Room s.mod n →
    let i := leAt ps 0 1
    ps.length = 8 → zeros ((ps.drop 1).take 7) = true → i < 16 → streamForeign s.mod n i = false → (s.mod.stream i).state = 2 →
    (s.mod.stream i).stopping = false →
    Gives (.intakeStop n) s ((acceptedFor s.mod n i).setStream i { (s.mod.stream i) with stopping := true })) ∧
  (∀ s n ps, Asked s.mod n 0x0705 ps →
    let i := leAt ps 0 1
    let p := (s.mod.stream i).cfg.port
    ps.length = 8 → leAt ps 1 1 ≤ 1 → zeros ((ps.drop 2).take 6) = true → i < 16 → streamForeign s.mod n i = false →
    Responds (.intakeStatus n) s n 0 (streamData s.mod i)
      (if leAt ps 1 1 = 1 then (s.mod.setStream i { (s.mod.stream i) with ctr := [] }).setRxPort p { (s.mod.rxPort p) with ctr := [] }
       else s.mod))

/-- R214, R215: POLICY_WORD_READ, while Trellis and the queues have power, takes the next word of an ACTIVE policy queue that Trellis consumes and
whose head holds one. A packet of one good word is committed: both its values enter its bank with the bank's commit time, and no other value of the
policy changes; a packet of which a word breaks R215 is discarded at its EOP, and it and a stray word count once in DISCARDED; a second
SOP discards the open packet.
R217, R218, R222, R226, R230: TRELLIS_TICK, when network time has reached the next base tick and some loop is not OFF, snapshots the
tables for the loops due at it; LOOP_EVALUATION evaluates a loop in a snapshot where it is due, and no loop of a lower number is due in any;
a loop in ARMED without a fresh measurement writes nothing and counts the miss; a NaN in the law puts the loop into FAULT with cause
ARITH, keeps its stage state and last output, and counts one fault.
R220, R221: in RUN without the model check, stage outputs that satisfy the equations of the law, with the reference of stage 0 and of each
later stage as the rules say and no v a NaN, are what the evaluation computes: the command is the last stage's u, the stage state is
their i, sat and y, and the sample is counted. -/
def Obligations.ControlLoops : Prop :=
  ((∀ s q d ds, s.mod.trl.policyQ = some q → domOn s.mod 38 = true → domOn s.mod 40 = true → (s.mod.queue q).state = 1 →
    (s.mod.queue q).consKind = 2 → (s.mod.queue q).consId = 0 → 0 < occupancy (s.mod.queue q) → (s.mod.queue q).head = d :: ds →
    Gives .policyWordRead s (policyWord (delivered d) (popWords q 1 s.mod).1)) ∧
  (∀ m w, w.tag.getLsbD 5 = true → w.tag.getLsbD 4 = true → w.tag.getLsbD 6 = false → w.tag.toNat % 16 < 8 →
    m.trl.packet = none →
    let k := w.tag.toNat % 16
    let t := policyWord w m
    t.trl.policy.get 0 (64 * k) = w.data.extractLsb' 0 32 ∧ t.trl.policy.get 0 (64 * k + 1) = w.data.extractLsb' 32 32 ∧
    (∀ i, i ≠ 64 * k → i ≠ 64 * k + 1 → t.trl.policy.get 0 i = m.trl.policy.get 0 i) ∧
    t.trl.banks.get 0 k = m.time.now + 1 ∧ t.trl.packet = none ∧
    t.trl.ctr.get 0 0 = min (m.trl.ctr.get 0 0 + 1) 0xFFFFFFFF ∧ t.trl.ctr.get 0 1 = m.trl.ctr.get 0 1) ∧
  (∀ m w p, m.trl.packet = some p → w.tag.getLsbD 5 = false → w.tag.getLsbD 4 = true →
    (p.bad = true ∨ w.tag.getLsbD 6 = true ∨ w.tag.toNat % 16 ≠ p.kind ∨ 8 ≤ w.tag.toNat % 16 ∨ 32 ≤ p.words.length) →
    (policyWord w m).trl = { m.trl with packet := none, ctr := bump m.trl.ctr 1 }) ∧
  (∀ m w, m.trl.packet = none → w.tag.getLsbD 5 = false →
    (policyWord w m).trl = { m.trl with ctr := bump m.trl.ctr 1 }) ∧
  (∀ m w p, m.trl.packet = some p → w.tag.getLsbD 5 = true → w.tag.getLsbD 4 = false →
    (policyWord w m).trl.policy = m.trl.policy ∧ (policyWord w m).trl.ctr = bump m.trl.ctr 1 ∧
    ∃ q, (policyWord w m).trl.packet = some q ∧ q.kind = w.tag.toNat % 16 ∧ q.words = [w.data])) ∧
  ((∀ s, allOff s.mod = false → s.mod.trl.lastUs < nowUs s.mod →
    let us := s.mod.trl.lastUs + 1
    let due := (List.range 64).filter (fun i => loopDue (s.mod.loop i) us)
    Gives .trellisTick s { s.mod with trl := { s.mod.trl with
                                               lastUs := us
                                               snaps := if due = [] then s.mod.trl.snaps else s.mod.trl.snaps ++
                                                 [{ us := us, signals := s.mod.trl.signals, policy := s.mod.trl.policy
                                                    banks := s.mod.trl.banks, due := due }] } }) ∧
  (∀ s i k sn, nextDue s.mod = some (i, k) → s.mod.trl.snaps[k]? = some sn →
    Gives .loopEvaluation s (evalAct i k sn s.mod) ∧ i ∈ sn.due ∧ (∀ x ∈ s.mod.trl.snaps, ∀ j ∈ x.due, i ≤ j)) ∧
  (∀ m i sn, (m.loop i).state = .armed → measFresh (m.loop i) sn = false → (m.loop i).missCnt + 1 < (m.loop i).cfg.measMiss →
    let ev := evaluate i sn m
    ev.cmd = none ∧ (ev.m.loop i).state = .armed ∧ (ev.m.loop i).missCnt = (m.loop i).missCnt + 1 ∧
    (ev.m.loop i).stage = (m.loop i).stage) ∧
  (∀ m i sn, let l := m.loop i
    (stagesFrom (if l.first then { l with holdVal := some (measOf l sn 0).val } else l) sn l.cfg.stages 0
      (if l.state = .ramp then (rampOf (if l.first then { l with holdVal := some (measOf l sn 0).val } else l) sn).1
       else refOf (if l.first then { l with holdVal := some (measOf l sn 0).val } else l) sn)).2 = false →
    let ev := runLaw i sn m
    (ev.m.loop i).state = .fault ∧ (ev.m.loop i).cause = 4 ∧ (ev.m.loop i).stage = l.stage ∧
    (ev.m.loop i).lastU = l.lastU ∧ (ev.m.loop i).ctr.get 0 2 = min (l.ctr.get 0 2 + 1) 0xFFFFFFFF) ∧
  (∀ m i sn (outs : List StageOut), let l := m.loop i
    let c := l.cfg
    let n := (sn.us - c.phaseUs) / c.periodUs
    let hold := if l.first then (sn.signals.get {} (c.stage.getD 0 {}).meas).val
      else l.holdVal.getD (sn.signals.get {} (c.stage.getD 0 {}).meas).val
    let r0 := if c.refIndex = 0xFFFF then c.refConst
      else if l.startAt + 1 < sn.banks.get 0 (c.refIndex / 64) then sn.policy.get 0 c.refIndex else hold
    l.state = .run → c.flags.getLsbD 3 = false → 1 ≤ c.stages → outs.length = c.stages →
    (∀ s o, outs[s]? = some o →
      let g := c.stage.getD s {};
      let st := l.stage.getD s {};
      o.r = (if s = 0 then r0 else ((outs[s - 1]?).map (·.u)).getD 0) ∧
      o.y = (sn.signals.get {} g.meas).val ∧ o.e = flSub o.r o.y ∧
      o.i = (if (st.sat = 1 ∧ flLt 0 o.e = true) ∨ (st.sat = -1 ∧ flLt o.e 0 = true) then st.i
             else flMin (flMax (flAdd st.i (flMul g.kit o.e)) g.imin) g.imax) ∧
      o.p = flMul g.kp o.e ∧ o.d = (if l.first then 0 else flMul g.kdt (flSub st.yprev o.y)) ∧
      o.f = (if g.ffIndex = 0xFFFF then 0 else flMul g.kff (sn.policy.get 0 g.ffIndex)) ∧
      o.c = (if s = c.rcStage then l.table.get 0 ((n + c.rcLead) % c.rcLen) else 0) ∧
      o.v = flAdd (flAdd (flAdd (flAdd o.p o.i) o.d) o.f) o.c ∧ isNan o.v = false ∧
      o.sat = (if flLt g.umax o.v then 1 else if flLt o.v g.umin then -1 else 0) ∧
      o.u = flMin (flMax o.v g.umin) g.umax) →
    let u := ((outs[c.stages - 1]?).map (·.u)).getD 0
    let ev := runLaw i sn m
    ev.cmd = some u ∧ (ev.m.loop i).lastU = u ∧ (ev.m.loop i).state = .run ∧ (ev.m.loop i).first = false ∧
    (ev.m.loop i).lastN = n ∧ (ev.m.loop i).stage = outs.map (fun o => ⟨o.i, o.sat, o.y⟩) ∧
    (ev.m.loop i).ctr.get 0 0 = min (l.ctr.get 0 0 + 1) 0xFFFFFFFF))

/-- R213, R214, R224 to R226, R231, R236, Tables 10-3 to 10-5: TRL_CONFIG to TRL_TEMPLATE in execution, each with parameters and a state that
break no condition of its list, complete with OK: the bindings, the map, the configuration, the table, the signal or the template is
stored; TRL_LOOP_START leaves the loop in the first-use state, and TRL_LOOP_STOP leaves it OFF and due in no snapshot; other loops stay as
they were at a start for which no tick is outstanding. The packet that TRL_CONFIG drops open is counted in DISCARDED by the model's
choice (log entry 34), as are the instants settled at a start or stop (log entry 81).
R234 to R237, Table 10-6: TRL_TRACE_CONFIG stores the settings, keeps the ring without FLAGS bit 0, triggers with bit 1 when armed, and re-arms with
bit 0; TRL_TRACE_READ and TRL_STATUS answer the records and the counters, which TRL_STATUS clears when asked. -/
def Obligations.TrellisCommands : Prop :=
  ((∀ s n ps, Asked s.mod n 0x0800 ps →
    let pq := s.mod.queue (leAt ps 0 2)
    let sq := s.mod.queue (leAt ps 2 2)
    ps.length = 8 → leAt ps 0 2 < 512 → (leAt ps 2 2 < 512 ∨ leAt ps 2 2 = 0xFFFF) → zeros ((ps.drop 4).take 4) = true →
    allOff s.mod = true → pq.state ≠ 0 → pq.auto = true → pq.consKind = 2 → pq.consId = 0 →
    (leAt ps 2 2 ≠ 0xFFFF → sq.state ≠ 0 ∧ sq.prodKind = 2) →
    Responds (.trlConfig n) s n 0 [] { s.mod with trl := { s.mod.trl with
                                                           policyQ := some (leAt ps 0 2)
                                                           statusQ := if leAt ps 2 2 = 0xFFFF then none else some (leAt ps 2 2)
                                                           packet := none
                                                           ctr := if s.mod.trl.packet.isSome then bump s.mod.trl.ctr 1
                                                                  else s.mod.trl.ctr } }) ∧
  (∀ s n ps, Asked s.mod n 0x0801 ps →
    let p := inMapOf ps
    let k := leAt ps 0 1
    let on := leAt ps 1 1 = 1
    ps.length = 16 → k ≤ 127 → leAt ps 1 1 ≤ 1 → p.controller ≤ 3 → p.object ≤ 127 → p.byte ≤ 60 → p.format ≤ 3 → p.signal ≤ 255 →
    p.byte + mapBytes p.format ≤ 64 → mapNames s.mod k p.signal = false → signalRead s.mod p.signal = false →
    Responds (.trlInputMap n) s n 0 [] { s.mod with trl := { s.mod.trl with
                                                             maps := s.mod.trl.maps.put none k (if on then some p else none) } }) ∧
  (∀ s n ps, Asked s.mod n 0x0802 ps →
    let i := leAt ps 0 1
    ps.length = 224 → loopBad ps (loopCfgOf ps) = false → ((s.mod.loop i).client = none ∨ (s.mod.loop i).client = some n) →
    (s.mod.loop i).state = .off →
    Responds (.trlLoopConfig n) s n 0 []
      (s.mod.setLoop i { (s.mod.loop i) with client := some n, cfg := loopCfgOf ps, table := [], stage := [], parity := false })) ∧
  (∀ s n ps, Asked s.mod n 0x0803 ps →
    let i := leAt ps 0 1
    let l := s.mod.loop i
    ps.length = 8 → zeros ((ps.drop 1).take 7) = true → i < 64 → startBad s.mod i = false → l.client = some n →
    (l.state = .off ∨ l.state = .fault) → s.mod.time.stepClosed = true → groupBad s.mod i = false → s.mod.power.entry = none →
    ∃ t, exec (.trlLoopStart n) s = .next t ∧ (t.mod.mbx n).state = 3 ∧
      (let v := t.mod.loop i
       v.state = .armed ∧ v.stage = l.cfg.stage.map (fun c => ⟨c.iInit, 0, 0⟩) ∧ v.hist = none ∧ v.missCnt = 0 ∧ v.staleCnt = 0 ∧
       v.resCnt = 0 ∧ v.holdVal = none ∧ v.startAt = s.mod.time.now ∧ v.first = true ∧ v.table = l.table ∧ v.cfg = l.cfg) ∧
      (s.mod.trl.snaps = [] → nowUs s.mod ≤ s.mod.trl.lastUs → ∀ j, j ≠ i → t.mod.loop j = s.mod.loop j)) ∧
  (∀ s n ps, Asked s.mod n 0x0804 ps →
    let i := leAt ps 0 1
    ps.length = 8 → zeros ((ps.drop 1).take 7) = true → i < 64 → (s.mod.loop i).client = some n →
    (∃ t, exec (.trlLoopStop n) s = .next t ∧ (t.mod.mbx n).state = 3 ∧ (t.mod.loop i).state = .off ∧
      (t.mod.loop i).cfg = (s.mod.loop i).cfg ∧ (∀ sn ∈ t.mod.trl.snaps, i ∉ sn.due)) ∧
    (s.mod.trl.snaps = [] → nowUs s.mod ≤ s.mod.trl.lastUs →
      Responds (.trlLoopStop n) s n 0 [] (s.mod.setLoop i { (s.mod.loop i) with state := .off }))) ∧
  (∀ s n ps, Asked s.mod n 0x0805 ps →
    let i := leAt ps 0 1
    let l := s.mod.loop i
    let first := leAt ps 2 2
    let count := leAt ps 4 2
    ps.length = 8 + 4 * count → leAt ps 1 1 = 0 → leAt ps 6 2 = 0 → 1 ≤ count → count ≤ 64 → first + count ≤ 4096 → i < 64 →
    l.client = some n → (l.state = .off ∨ l.state = .fault) →
    ∃ v, Responds (.trlRcLoad n) s n 0 [] (s.mod.setLoop i v) ∧ v = { l with table := v.table } ∧
      (∀ j, j < count → v.table.get 0 (first + j) = BitVec.ofNat 32 (leAt ps (8 + 4 * j) 4)) ∧
      (∀ k, ¬ (first ≤ k ∧ k < first + count) → v.table.get 0 k = l.table.get 0 k)) ∧
  (∀ s n ps, Asked s.mod n 0x0806 ps →
    let i := leAt ps 0 1
    let count := leAt ps 4 2
    ps.length = 8 → leAt ps 1 1 = 0 → leAt ps 6 2 = 0 → 1 ≤ count → count ≤ 64 → leAt ps 2 2 + count ≤ 4096 → i < 64 →
    (s.mod.loop i).client = some n →
    Responds (.trlRcRead n) s n 0 ((List.range count).flatMap (fun j =>
      leBytes 4 ((s.mod.loop i).table.get 0 (leAt ps 2 2 + j)).toNat)) s.mod) ∧
  (∀ s n ps, Asked s.mod n 0x0807 ps →
    ps.length = 8 → leAt ps 0 2 ≤ 255 → zeros ((ps.drop 2).take 2) = true → mapNames s.mod 128 (leAt ps 0 2) = false →
    Responds (.trlSignalSet n) s n 0 [] (setSignal (leAt ps 0 2) (BitVec.ofNat 32 (leAt ps 4 4)) s.mod.time.now s.mod)) ∧
  (∀ s n ps, Asked s.mod n 0x0808 ps →
    let k := leAt ps 0 1
    ps.length = 8 + leAt ps 1 1 → k ≤ 63 → 60 ≤ leAt ps 1 1 → leAt ps 1 1 ≤ 128 → zeros ((ps.drop 2).take 6) = true →
    (∀ i, i < 64 → (s.mod.loop i).state ≠ .off → ¬ ((s.mod.loop i).cfg.outKind = 1 ∧ (s.mod.loop i).cfg.outTemplate = k)) →
    Responds (.trlTemplate n) s n 0 [] { s.mod with trl := { s.mod.trl with templates := s.mod.trl.templates.put [] k (ps.drop 8) } })) ∧
  ((∀ s n ps, Asked s.mod n 0x0809 ps → ps.length = 80 → traceBad ps = false →
    let old := s.mod.trl.trace
    let new := { old with
                 en := BitVec.ofNat 16 (leAt ps 0 2), probes := (List.range 16).map (probeOf ps)
                 trigProbe := leAt ps 2 1, cond := leAt ps 3 1, trigLoop := leAt ps 4 1, post := leAt ps 6 2
                 level := BitVec.ofNat 32 (leAt ps 8 4) }
    (leAt ps 5 1 = 0 → Responds (.trlTraceConfig n) s n 0 [] (traceFreeze { s.mod with trl := { s.mod.trl with trace := new } })) ∧
    (leAt ps 5 1 = 2 → old.armed = true → old.frozen = false → old.trig = none →
      Responds (.trlTraceConfig n) s n 0 [] (traceFreeze { s.mod with trl := { s.mod.trl with
        trace := { new with trig := some (old.ring.length - 1, leAt ps 6 2) } } }))) ∧
  (∀ s n ps, Asked s.mod n 0x0809 ps → ps.length = 80 → traceBad ps = false → leAt ps 5 1 = 1 →
    ∃ t, exec (.trlTraceConfig n) s = .next t ∧ t.mod.trl.trace.armed = true ∧ t.mod.trl.trace.frozen = false ∧
      t.mod.trl.trace.ring = [] ∧ t.mod.trl.trace.trig = none ∧ (t.mod.mbx n).state = 3) ∧
  (∀ s n ps, Asked s.mod n 0x080A ps → ps.length = 8 → leAt ps 0 2 < 16384 → zeros ((ps.drop 2).take 6) = true →
    let r := (s.mod.trl.trace.ring.drop (leAt ps 0 2)).take 16
    Responds (.trlTraceRead n) s n 0 (fields 8 [(0, 1, r.length)] ++ r.flatMap traceBytes) s.mod) ∧
  (∀ s n ps, Asked s.mod n 0x080B ps → ps.length = 8 → leAt ps 0 1 ≤ 63 → leAt ps 1 1 ≤ 1 → zeros ((ps.drop 2).take 6) = true →
    let i := leAt ps 0 1
    (leAt ps 1 1 = 0 → Responds (.trlStatus n) s n 0 (loopData s.mod i) s.mod) ∧
    (leAt ps 1 1 = 1 → ∃ t, exec (.trlStatus n) s = .next t ∧ (t.mod.loop i) = { (s.mod.loop i) with ctr := [] } ∧
      t.mod.trl.ctr = [] ∧ (t.mod.mbx n).state = 3)))

/-! ### Mailboxes, events and host status (chapter 11) -/

/-- R242, R243, Table 11-3: a response holds the command's CODE, its RESULT, its LENGTH, SEQ and the data; OWNER returns to 0, STATE becomes
DONE, BUSY responses are counted, and beside the mailbox only the interrupts and what leaves the module change.
R244, R342: of the checks of a command in execution the first that fails is the response, with LENGTH 0, and no part of the command is
performed; a domain that is off gives BAD_STATE unless a length, a parameter or the client is refused first; where none fails the
command is performed. A command that is not in execution, or that stands while Gragor restarts or after a thermal trip, does nothing: that a command row acts only
while its mailbox holds the command in execution is the model's choice (log entries 4 and 7). -/
def Obligations.Responses : Prop :=
  (∀ m n rc data, data.length ≤ 504 →
    let t := respond n rc data m
    (t.mbx n).resp.take (8 + data.length) =
      leBytes 2 (reqCode m n) ++ leBytes 2 rc ++ leBytes 2 data.length ++ leBytes 1 (m.mbx n).seq ++ [0] ++ data ∧
    (t.mbx n).owner = false ∧ (t.mbx n).state = 3 ∧ (t.mbx n).req = (m.mbx n).req ∧
    (t.mbx n).ctr.get 0 4 = (if rc = 0x10 then min ((m.mbx n).ctr.get 0 4 + 1) 0xFFFFFFFF else (m.mbx n).ctr.get 0 4) ∧
    (∀ k, k ≠ n → t.mbx k = m.mbx k) ∧
    t = { m with host := { m.host with
                           mbx := t.host.mbx, msixPba := t.host.msixPba, ibiPend := t.host.ibiPend, ibiRaised := t.host.ibiRaised }
                 wire := t.wire }) ∧
  ((∀ code n checks body m rc, running m n code = true → firstFail (checks (params m n) m) = some rc →
    (powered m code = true ∨ rc = 0x21 ∨ rc = 0x22 ∨ rc = 0x24 → command code n checks body m = respond n (rc % 0x10000) [] m) ∧
    (powered m code = false → rc ≠ 0x21 → rc ≠ 0x22 → rc ≠ 0x24 → command code n checks body m = respond n 0x23 [] m)) ∧
  (∀ code n checks body m, running m n code = true → firstFail (checks (params m n) m) = none →
    (powered m code = true → command code n checks body m = body (params m n) m) ∧
    (powered m code = false → command code n checks body m = respond n 0x23 [] m)) ∧
  (∀ code n checks body m, ((m.mbx n).state ≠ 2 ∨ reqCode m n ≠ code ∨ 15 ≤ n ∨ m.host.gState = 4 ∨ m.power.tripped = true) →
    command code n checks body m = m) ∧
  (∀ (l : List (Bool × Nat)) rc, firstFail l = some rc → ∃ pre post, l = pre ++ (true, rc) :: post ∧ ∀ x ∈ pre, x.1 = false))

/-- R240, R241, R242, R252, R256: a write to GO that arrives over a path which MBX_PATH admits, to a mailbox the module does not own and
with the reserved field zero, is a hand-over: new, a repeat or a sequence error by its SEQ; while Gragor is not READY it only sets WRB, but on
mailbox 0. One to a mailbox the module owns, or with a non-zero reserved field, is ignored, sets WRB and is counted; one that MBX_PATH does
not admit changes nothing.
R239, R240, R241, R249, Table 11-2: a write of 1 to WRB clears it; one to EVT_TAIL within the head moves the tail, another does nothing;
one to MBX_PATH is taken until LOCK is set; one to REQUEST of a mailbox the module does not own stores its bytes and changes no other byte,
one to a mailbox it owns is ignored, sets WRB and is counted, and one to RESPONSE is ignored and counted and leaves WRB. That
a hand-over to mailbox 0 is one in every state of Gragor, and what the value 3 of MBX_PATH admits, which the statement leaves out, are
the model's choices (log entry 41). -/
def Obligations.MailboxWindow : Prop :=
  (∀ s path n v, reached path s.mod = true → n < 15 → pathField s.mod n ≠ 3 →
    let b := s.mod.mbx n
    let seq := v.toNat % 256
    (pathOk path n s.mod = false → exec (.go path n v) s = .next s) ∧
    (pathOk path n s.mod = true → (b.owner = true ∨ v.toNat / 256 ≠ 0) →
      Gives (.go path n v) s (s.mod.setMbx n { b with wrb := true, ctr := bump b.ctr 3 })) ∧
    (pathOk path n s.mod = true → b.owner = false → v.toNat < 256 → s.mod.host.gState ≠ 3 → n ≠ 0 →
      Gives (.go path n v) s (s.mod.setMbx n { b with wrb := true })) ∧
    (pathOk path n s.mod = true → b.owner = false → v.toNat < 256 → (s.mod.host.gState = 3 ∨ n = 0) →
      ((b.last = none ∨ ∃ l, b.last = some l ∧ seq = (l + 1) % 256) →
        Gives (.go path n v) s (s.mod.setMbx n
          { b with owner := true, state := 1, pend := 0, seq := seq, last := some seq, held := false
                   path := match path with | .pcie => 0 | .i3c => 1 })) ∧
      (b.last = some seq → b.held = true →
        Gives (.go path n v) s (s.mod.setMbx n { b with owner := true, state := 1, pend := 1 })) ∧
      (∀ l, b.last = some l → seq ≠ (l + 1) % 256 → (seq ≠ l ∨ b.held = false) →
        Gives (.go path n v) s (s.mod.setMbx n { b with owner := true, state := 1, pend := 2 })))) ∧
  ((∀ s path n (v : W32), reached path s.mod = true → n < 15 → pathField s.mod n ≠ 3 → pathOk path n s.mod = true →
    v.getLsbD 27 = true → Gives (.ctrl path n v) s (s.mod.setMbx n { (s.mod.mbx n) with wrb := false })) ∧
  (∀ s path v, reached path s.mod = true → s.mod.host.gState ≠ 3 →
    ((v - s.mod.host.evtTail).toNat ≤ (s.mod.host.evtHead - s.mod.host.evtTail).toNat →
      Gives (.evtTail path v) s { s.mod with host := { s.mod.host with evtTail := v } }) ∧
    ((s.mod.host.evtHead - s.mod.host.evtTail).toNat < (v - s.mod.host.evtTail).toNat → exec (.evtTail path v) s = .next s)) ∧
  (∀ s path v, reached path s.mod = true → s.mod.host.gState = 3 → s.mod.host.backlog = [] →
    (v - s.mod.host.evtTail).toNat ≤ (s.mod.host.evtHead - s.mod.host.evtTail).toNat →
    Gives (.evtTail path v) s { s.mod with host := { s.mod.host with evtTail := v } }) ∧
  (∀ s path (v : W32), reached path s.mod = true →
    (s.mod.host.mbxLock = false →
      Gives (.mbxPath path v) s { s.mod with host := { s.mod.host with mbxPath := v.setWidth 30, mbxLock := v.getLsbD 31 } }) ∧
    (s.mod.host.mbxLock = true → exec (.mbxPath path v) s = .next s)) ∧
  (∀ s path n o (bs : List Byte), reached path s.mod = true → n < 15 → pathField s.mod n ≠ 3 → pathOk path n s.mod = true →
    (s.mod.mbx n).owner = false → o + bs.length ≤ 0x200 →
    ∃ t, exec (.registerWrite path (0x800 * n + 0x200 + o) bs) s = .next t ∧
      (∀ i, i < bs.length → (t.mod.mbx n).req.get 0 (o + i) = bs.getD i 0) ∧
      (∀ i, ¬ (o ≤ i ∧ i < o + bs.length) → (t.mod.mbx n).req.get 0 i = (s.mod.mbx n).req.get 0 i) ∧
      t.mod.mbx n = { (s.mod.mbx n) with req := (t.mod.mbx n).req } ∧ (∀ k, k ≠ n → t.mod.mbx k = s.mod.mbx k)) ∧
  (∀ s path n o (bs : List Byte), reached path s.mod = true → n < 15 → pathField s.mod n ≠ 3 → pathOk path n s.mod = true →
    (s.mod.mbx n).owner = true → bs ≠ [] → o + bs.length ≤ 0x200 →
    ∃ t, exec (.registerWrite path (0x800 * n + 0x200 + o) bs) s = .next t ∧
      t.mod.mbx n = { (s.mod.mbx n) with wrb := true, ctr := bump (s.mod.mbx n).ctr 3 }) ∧
  (∀ s path n o (bs : List Byte), reached path s.mod = true → n < 15 → bs ≠ [] → o + bs.length ≤ 0x200 →
    Gives (.registerWrite path (0x800 * n + 0x400 + o) bs) s
      (s.mod.setMbx n { (s.mod.mbx n) with ctr := bump (s.mod.mbx n).ctr 3 })))

/-- R242, R244, R248, R251: MAILBOX_TAKE, while no command but a KV_POOL_CREATE is in execution, takes the hand-over that is next, which is
mailbox 14's where it waits: a new command whose first three checks pass is in execution, and the first check that fails is its response
with LENGTH 0; a repeat ends in DONE and a sequence error in SEQERR, counted, with the mailbox otherwise as it was. While READY, a LENGTH
above 504 fails with 0x21, then an unknown code with 0x20, then a command before IF_OPEN, but for three, with 0x23.
HEARTBEAT_TICK counts a millisecond of elapsed time while READY. -/
def Obligations.MailboxTake : Prop :=
  (∀ s n, domOn s.mod 37 = true → (∀ i, i < 15 → (s.mod.mbx i).state = 2 → reqCode s.mod i = 0x0500) → nextMailbox s.mod = some n →
    let m := if n < 14 then { s.mod with host := { s.mod.host with lastServed := n } } else s.mod
    let b := s.mod.mbx n
    let begun := m.setMbx n { b with state := 2, ctr := bump b.ctr 0 }
    (b.pend = 0 → firstFail (takeChecks s.mod n) = none → Gives .mailboxTake s begun) ∧
    (∀ rc, b.pend = 0 → firstFail (takeChecks s.mod n) = some rc → Gives .mailboxTake s (respond n rc [] begun)) ∧
    (b.pend = 1 → ∃ t, exec .mailboxTake s = .next t ∧ t.mod.mbx n = { b with owner := false, state := 3, ctr := bump b.ctr 1 }) ∧
    (b.pend = 2 → ∃ t, exec .mailboxTake s = .next t ∧ t.mod.mbx n = { b with owner := false, state := 4, ctr := bump b.ctr 2 })) ∧
  (∀ m, m.host.gState = 3 → waits m 14 = true → nextMailbox m = some 14) ∧
  (∀ m n, m.host.gState = 3 → waits m 14 = false → n < 14 → waits m n = true → (∀ k, k < 14 → k ≠ n → waits m k = false) →
    nextMailbox m = some n) ∧
  (∀ m n, m.host.gState = 3 → 504 < reqLen m n → firstFail (takeChecks m n) = some 0x21) ∧
  (∀ m n, m.host.gState = 3 → reqLen m n ≤ 504 → isCode (reqCode m n) = false → firstFail (takeChecks m n) = some 0x20) ∧
  (∀ m n, m.host.gState = 3 → reqLen m n ≤ 504 → isCode (reqCode m n) = true → reqField m n 6 2 = 0 → (m.mbx n).minor = none →
    reqCode m n ≠ 0 → reqCode m n ≠ 1 → reqCode m n ≠ 2 → firstFail (takeChecks m n) = some 0x23) ∧
  (∀ s, s.mod.host.gState = 3 → s.mod.host.lastMs < s.mod.time.elapsed / msUnit →
    Gives .heartbeatTick s { s.mod with host := { s.mod.host with
                                                  heartbeat := s.mod.host.heartbeat + 1, lastMs := s.mod.host.lastMs + 1 } })

/-- R249, R250: while Gragor is READY, a record is posted at number EVT_HEAD while the ring has room and nothing waits before it, and EVT_HEAD
counts it; otherwise it waits in the backlog; with the backlog full a completion is held and an unsolicited event counted in EVT_LOST.
R250: draining a ring with room for every waiting record posts them all, in order, where none is held and none was lost.
R246, R247: a deferred command that completes is outstanding no more and its record is offered with its CODE, its client as SOURCE, its TAG and
the RESULT; one that is accepted is outstanding, and with 256 outstanding it is answered BUSY. -/
def Obligations.EventRing : Prop :=
  (∀ m r, m.host.gState = 3 →
    let t := offer r m
    (m.host.backlog = [] → (m.host.evtHead - m.host.evtTail).toNat < 16 →
      t.host.ring.get {} (m.host.evtHead.toNat % 16) = r ∧ t.host.evtHead = m.host.evtHead + 1 ∧
      (∀ k, k ≠ m.host.evtHead.toNat % 16 → t.host.ring.get {} k = m.host.ring.get {} k) ∧ t.host.backlog = []) ∧
    ((m.host.backlog ≠ [] ∨ 16 ≤ (m.host.evtHead - m.host.evtTail).toNat) → m.host.backlog.length < 1024 →
      t = { m with host := { m.host with backlog := m.host.backlog ++ [r] } }) ∧
    ((m.host.backlog ≠ [] ∨ 16 ≤ (m.host.evtHead - m.host.evtTail).toNat) → 1024 ≤ m.host.backlog.length →
      (r.unsolicited = true →
        t = { m with host := { m.host with
                               evtLost := min (m.host.evtLost + 1) 0xFFFFFFFF, lostSince := m.host.lostSince + 1 } }) ∧
      (r.unsolicited = false → t = { m with host := { m.host with held := m.host.held ++ [r] } }))) ∧
  (∀ m, m.host.held = [] → m.host.lostSince = 0 → m.host.backlog.length + (m.host.evtHead - m.host.evtTail).toNat ≤ 16 →
    let t := ringDrain 16 m
    t.host.backlog = [] ∧ t.host.evtHead = m.host.evtHead + BitVec.ofNat 32 m.host.backlog.length ∧
    ∀ i r, m.host.backlog[i]? = some r → t.host.ring.get {} ((m.host.evtHead + BitVec.ofNat 32 i).toNat % 16) = r) ∧
  ((∀ m code key rc payload d, Outstanding m code key d → finish code key rc payload m =
    offer { code := code, result := rc, source := d.client, unsolicited := false, tag := d.tag,
            payload := setBytes (List.replicate 24 0) 0 payload }
      { m with host := { m.host with deferred := m.host.deferred.erase d } }) ∧
  (∀ m n key body, Room m n → (∀ x, (body x).host.deferred = x.host.deferred) →
    (accept n key body m).host.deferred = m.host.deferred ++ [⟨n, reqTag m n, reqCode m n, key⟩]) ∧
  (∀ m n key body, ¬ Room m n → accept n key body m = respond n 0x10 [] m))

/-- R253, R255, R256, Tables 11-9 to 11-11: the class 0x00 commands in execution whose parameters break no condition of their list: ECHO answers
its parameters; IF_OPEN grants the lower minor version and refuses another major with 0x25; MODULE_INFO answers 64 bytes with the cores,
the firmware version and the client; MBX_STATUS and EVENT_STATUS answer the counters, and the head and tail, and clear when asked. -/
def Obligations.InterfaceCommands : Prop :=
  (∀ s n ps, Asked s.mod n 0x0000 ps → Responds (.echo n) s n 0 ps s.mod) ∧
  (∀ s n ps, Asked s.mod n 0x0001 ps → ps.length = 8 → zeros ((ps.drop 2).take 6) = true →
    ((s.mod.mbx n).minor = none ∨ holdsContext s.mod n = false) →
    let g := min (leAt ps 1 1) (s.mod.host.ifVersion % 256)
    (leAt ps 0 1 = s.mod.host.ifVersion / 256 →
      Responds (.ifOpen n) s n 0 (fields 8 [(0, 1, leAt ps 0 1), (1, 1, g), (4, 4, s.mod.host.fwVersion.toNat)])
        (s.mod.setMbx n { (s.mod.mbx n) with minor := some g })) ∧
    (leAt ps 0 1 ≠ s.mod.host.ifVersion / 256 → Responds (.ifOpen n) s n 0x25 [] s.mod)) ∧
  (∀ s n, Asked s.mod n 0x0002 [] → ∃ data, Responds (.moduleInfo n) s n 0 data s.mod ∧ data.length = 64 ∧
    leAt data 4 4 = s.mod.host.coreEnable.toNat ∧ leAt data 16 4 = s.mod.host.fwVersion.toNat ∧ leAt data 32 1 = n) ∧
  (∀ s n ps, Asked s.mod n 0x0003 ps → ps.length = 8 → leAt ps 0 1 ≤ 1 → zeros ((ps.drop 1).take 7) = true →
    ∃ data, Responds (.mbxStatus n) s n 0 data
      (if leAt ps 0 1 = 1 then s.mod.setMbx n { (s.mod.mbx n) with ctr := [], wrb := false } else s.mod) ∧ data.length = 24 ∧
      (∀ i, i < 5 → (s.mod.mbx n).ctr.get 0 i < 2 ^ 32 → leAt data (4 * i) 4 = (s.mod.mbx n).ctr.get 0 i)) ∧
  (∀ s n ps, Asked s.mod n 0x0004 ps → ps.length = 8 → leAt ps 0 1 ≤ 1 → zeros ((ps.drop 1).take 7) = true →
    ∃ data, Responds (.eventStatus n) s n 0 data
      (if leAt ps 0 1 = 1 then { s.mod with host := { s.mod.host with evtLost := 0 } } else s.mod) ∧ data.length = 20 ∧
      leAt data 0 4 = s.mod.host.evtHead.toNat ∧ leAt data 4 4 = s.mod.host.evtTail.toNat)

/-! ### Contexts and jobs (chapter 12) -/

/-- R263, R266, R267, R268, R103, with Gragor running. Admission: of a context that has no admitted job and no KV work, and is held by
no recovery, while admission is open (R344), the oldest queued job becomes READY with the next admission number and the context's
seed, step counter and mode; a decision falls due, and nothing but the scheduler changes. Decision: a due decision, taken while jobs
may be dispatched, leaves the engines and is no longer due; no two jobs with cores given share one, and the first job of the order (the
reserved slices that are over having begun again), if READY, is given its cores when each is usable. A share period whose number has
changed begins with no client's time used, leaves the jobs and makes a decision due. Dispatch: a job that has been given its cores, each
free, drained, usable and with its set point known, becomes DISPATCHED now on each of them. At its first dispatch each engine of each
ENGINE_MASK has the job's step and seed, its own number and the arguments in S0 to S7, and where no core's INIT tables fault, all issue
at ENTRY; at a later one whose state every core still holds, each engine that was parked or forced issues at its PC with its registers.
R267: the order of a decision holds each admitted job that no recovery holds once, a higher effective priority first, and of equal
ones, outside the reserved slices and the running jobs of priority 8 (log entry 35), the earlier admission and then the lower context.
The effective priority is the highest of the job's own, an inherited one, and 8 while its client is below its share. -/
def Obligations.JobsStart : Prop :=
  (∀ s k j, s.mod.host.gState = 3 → s.mod.sched.jobs.find? (fun i => i.ctx == k && i.state == .queued) = some j →
    hasAdmitted s.mod k = false → kvBusyCtx s.mod k = false → owesCommit s.mod k = false → admitting s.mod = true → ctxHeld s.mod k = false →
    findJob s.mod j.id = some j →
    ∃ t, exec (.jobAdmission k) s = .next t ∧
      findJob t.mod j.id = some { j with
        state := .ready, admitted := s.mod.sched.nextAdmit, seed := (s.mod.ctx k).seed, step := (s.mod.ctx k).step,
        mode := (s.mod.ctx k).mode } ∧
      t.mod.sched.due = true ∧ t = { s with mod := { s.mod with sched := t.mod.sched } }) ∧
  (∀ s, s.mod.host.gState = 3 → s.mod.sched.due = true → dispatching s.mod = true → (s.mod.sched.jobs.map (·.id)).Nodup →
    ∃ t, exec .schedulingDecision s = .next t ∧ t.mod.sched.due = false ∧ t.mod.engines = s.mod.engines ∧
      (∀ a ∈ t.mod.sched.jobs, ∀ b ∈ t.mod.sched.jobs, a.granted = true → b.granted = true → a.id ≠ b.id → a.mask &&& b.mask = 0) ∧
      (∀ j rest, schedOrder ((s.mod.sched.jobs.map (·.id)).foldl nextSlice s.mod) = j :: rest → j.state = .ready → (∀ c ∈ bitsOf j.mask, coreUsable s.mod c = true) →
        findJob t.mod j.id = some { j with granted := true })) ∧
  (∀ s, s.mod.host.gState = 3 → s.mod.sched.period ≠ s.mod.time.now / (100 * msUnit) →
    ∃ t, exec .sharePeriodBoundary s = .next t ∧ t.mod.sched.period = s.mod.time.now / (100 * msUnit) ∧
      t.mod.sched.due = true ∧ (∀ n, n < 15 → (t.mod.client n) = { (s.mod.client n) with used := 0 }) ∧
      t.mod.sched.jobs = s.mod.sched.jobs) ∧
  (∀ s id j, s.mod.host.gState = 3 → findJob s.mod id = some j → j.granted = true → (j.state = .ready ∨ j.state = .parked) →
    dispatching s.mod = true → ctxHeld s.mod j.ctx = false →
    (∀ c ∈ bitsOf j.mask, (s.mod.core c).job = none ∧ coreDrained s.mod c = true ∧ coreUsable s.mod c = true ∧
      coreReady s.mod c = true) →
    ∃ t j', exec (.jobDispatch id) s = .next t ∧ findJob t.mod id = some j' ∧ j'.state = .dispatched ∧ j'.granted = false ∧
      j'.dispatchedAt = s.mod.time.elapsed ∧
      (∀ c ∈ bitsOf j.mask, (t.mod.core c).job = some id ∧ (t.mod.core c).ctx = some j.ctx ∧ (t.mod.core c).parkReq = false ∧
        (t.mod.core c).stopReq = false) ∧
      (j.loaded = false → ∀ c ∈ bitsOf j.mask, ∀ e, e < 64 → (t.mod.core c).mask.getLsbD e = true →
        (t.mod.eng c e).step = j.step ∧ (t.mod.eng c e).seedBase = j.seed ∧ (t.mod.eng c e).engid = BitVec.ofNat 32 e ∧
        (∀ i, i < 8 → (t.mod.eng c e).nxt.scalar i = j.args.getD i 0) ∧
        ((∀ d ∈ bitsOf j.mask, initFault t.mod d (jobImage t.mod j d) = none) →
          (t.mod.eng c e).run = .issuing ∧ (t.mod.eng c e).pc = BitVec.ofNat 12 (imgEntry (jobImage t.mod j c)))) ∧
      (j.loaded = true → (∀ c ∈ bitsOf j.mask, c ∈ j.inPlace) → ∀ c ∈ bitsOf j.mask, ∀ e, e < 64 →
        (s.mod.core c).mask.getLsbD e = true → ((s.mod.eng c e).run = .parked ∨ (s.mod.eng c e).run = .forced) →
        (t.mod.eng c e).run = .issuing ∧ (t.mod.eng c e).pc = (s.mod.eng c e).pc ∧ (t.mod.eng c e).nxt = (s.mod.eng c e).nxt)) ∧
  (∀ m, (schedOrder m).Perm (m.sched.jobs.filter (fun j => j.state != .queued && !ctxHeld m j.ctx)) ∧
    (schedOrder m).Pairwise (fun a b =>
      (effPrio m b ≤ 9 → effPrio m b ≤ effPrio m a) ∧
      (effPrio m a = effPrio m b → inSlice a = false → inSlice b = false → (effPrio m a ≠ 8 ∨ a.state = b.state) →
        a.admitted < b.admitted ∨ (a.admitted = b.admitted ∧ a.ctx ≤ b.ctx)))) ∧
  (∀ m j, j.prio ≤ effPrio m j ∧ j.inherited ≤ effPrio m j ∧ (belowShare m j.client = true → 8 ≤ effPrio m j) ∧
    (belowShare m j.client = false → effPrio m j = j.prio ∨ effPrio m j = j.inherited) ∧
    (belowShare m j.client = true → effPrio m j = j.prio ∨ effPrio m j = j.inherited ∨ effPrio m j = 8))

/-- R269, R270, R272 to R279, R143, R145, with Gragor running. A DISPATCHED job that was to park, whose engines have all stopped and
whose cores' movers hold no descriptor, becomes PARKED: pre-empted once more, its DISPATCHED time kept, its cores free, and a decision
due. Once YIELD_WAIT_US have passed and some engine still runs, a forced pre-emption changes no memory, opens no further bundle on the
job's cores, undoes and stops each engine whose bundle is held at full slots, a pop, a push or a queue that is not ACTIVE or is to be refilled, stops each one between two bundles,
leaves one with slots of its bundle to issue, a halting and a stopped one as they are, and counts once. A wait reported after 20 us
gives the holder's READY or PARKED job of lower effective priority the waiter's for a reserved slice; the slice ends with the inherited
priority when its wait is held no more, and lapses once INHERIT_SLICE_US have been DISPATCHED. A job is complete when every engine has
halted; an admitted one times out at its RUN_LIMIT. A faulted job's engines are stopped first; while one is not at rest nothing else is
done; with all at rest and only engines faulted, the record is of the lowest core and engine, the other faulted engines are counted, and
the active context is torn down. An outcome removes the job, keeps its record among 16, advances the step counter of a completed
job in mode 0, frees its cores and ends its command. The model's choices: what a forced stop does with open bundles and that it counts once
(log entry 82), the details of inheritance and its slices that the rules leave (log entry 35), and what the record of a
job that was never dispatched holds (log entry 90). -/
def Obligations.PreemptionAndEnds : Prop :=
  ((∀ s id j t0, s.mod.host.gState = 3 → findJob s.mod id = some j → j.parkAt = some t0 → j.state = .dispatched →
    ctxHeld s.mod j.ctx = false →
    (∀ p ∈ jobEngines s.mod j, stoppedFor j.forcedAt.isSome (s.mod.eng p.1 p.2) = true) →
    (∀ c ∈ bitsOf j.mask, (s.mod.core c).mover = []) →
    ∃ t j', exec (.jobParked id) s = .next t ∧ findJob t.mod id = some j' ∧ j'.state = .parked ∧ j'.parkAt = none ∧ j'.forcedAt = none ∧
      j'.preemptions = j.preemptions + 1 ∧ j'.dispatched = dispatchedTime s.mod j ∧
      (∀ c ∈ bitsOf j.mask, (t.mod.core c).job = none ∧ (t.mod.core c).parkReq = false) ∧ t.mod.sched.due = true ∧
      (t.mod.client j.client).ctr.get 0 7 = min ((s.mod.client j.client).ctr.get 0 7 + 1) 0xFFFFFFFF) ∧
  (∀ s id j t0, s.mod.host.gState = 3 → findJob s.mod id = some j → j.parkAt = some t0 → j.state = .dispatched →
    t0 + (s.mod.ctx j.ctx).yieldWait * usUnit ≤ s.mod.time.elapsed →
    (∃ p ∈ jobEngines s.mod j, slotRun (s.mod.eng p.1 p.2) = true) →
    ∃ t, exec (.forcedPreemption id) s = .next t ∧ t.mod.mem = s.mod.mem ∧
      findJob t.mod id = some { j with forcedAt := some (j.forcedAt.getD s.mod.time.elapsed) } ∧
      (∀ c ∈ bitsOf j.mask, (s.mod.core c).job = some id → (t.mod.core c).stopReq = true) ∧
      (∀ p ∈ jobEngines s.mod j,
        let v := s.mod.eng p.1 p.2
        let held := v.hold = .slots ∨ v.hold.isPop = true ∨ v.hold.isPush = true ∨ (∃ q, v.hold = .queue q)
        (held → slotRun v = true → t.mod.eng p.1 p.2 = { (unissue v) with run := .forced, hold := .free, told := false }) ∧
        (¬ held → v.run = .issuing → anyLeft v = false →
          t.mod.eng p.1 p.2 = { v with run := .forced, told := false, hold := if released v then v.hold else .free }) ∧
        (¬ held → (anyLeft v = true ∨ v.run = .halting) → t.mod.eng p.1 p.2 = v) ∧
        (slotRun v = false → t.mod.eng p.1 p.2 = v)) ∧
      (t.mod.client j.client).ctr.get 0 8 =
        (if j.forcedAt = none then min ((s.mod.client j.client).ctr.get 0 8 + 1) 0xFFFFFFFF else (s.mod.client j.client).ctr.get 0 8)) ∧
  (∀ s (c : Fin 32) (e : Fin 64) obj thr since id j h g, s.mod.host.gState = 3 →
    (s.mod.eng c e).hold = .sync obj thr since false → (s.mod.core c).job = some id → findJob s.mod id = some j →
    j.state = .dispatched → since + 20 * usUnit ≤ s.mod.time.elapsed → holderOf s.mod j.ctx obj = some h → h ≠ j.ctx →
    (s.mod.sched.jobs.map (·.id)).Nodup → admittedOf s.mod h = some g → (g.state = .ready ∨ g.state = .parked) →
    effPrio s.mod g < effPrio s.mod j →
    ∃ t, exec (.inheritanceReport c e) s = .next t ∧ t.mod.sched.due = true ∧
      findJob t.mod g.id = some { g with
        inherited := effPrio s.mod j, sliceFor := some (j.id, obj, thr), sliceStart := dispatchedTime s.mod g
        lapsed := false, waitDone := false }) ∧
  (∀ s id j, s.mod.host.gState = 3 → findJob s.mod id = some j → inSlice j = true →
    (waitHeld s.mod j = false → ∃ t, exec (.inheritSliceEnd id) s = .next t ∧ t.mod.sched.due = true ∧
      findJob t.mod id = some { j with inherited := 0, sliceFor := none }) ∧
    (waitHeld s.mod j = true → (s.mod.ctx j.ctx).inheritSlice * usUnit ≤ dispatchedTime s.mod j - j.sliceStart →
      ∃ t, exec (.inheritSliceEnd id) s = .next t ∧ t.mod.sched.due = true ∧
      findJob t.mod id = some { j with inherited := 0, lapsed := true }))) ∧
  ((∀ s id j, s.mod.host.gState = 3 → findJob s.mod id = some j → j.state = .dispatched → ctxHeld s.mod j.ctx = false →
    (∀ p ∈ jobEngines s.mod j, (s.mod.eng p.1 p.2).run = .halted) → Gives (.jobComplete id) s (jobOutcome j 0 0 {} s.mod)) ∧
  (∀ s id j, s.mod.host.gState = 3 → findJob s.mod id = some j → j.state ≠ .queued → ctxHeld s.mod j.ctx = false →
    j.runLimit ≠ 0 → j.runLimit * usUnit ≤ dispatchedTime s.mod j →
    Gives (.runLimitTimeout id) s (jobOutcome j 1 0x31 {} s.mod)) ∧
  (∀ s id j, s.mod.host.gState = 3 → findJob s.mod id = some j → j.state ≠ .queued → ctxHeld s.mod j.ctx = false →
    ((s.mod.ctx j.ctx).hwFault ≠ 0 ∨ faultsOf s.mod j ≠ []) →
    let m := stopEngines j s.mod
    ((∃ p ∈ jobEngines m j, atRest (m.eng p.1 p.2) = false) → Gives (.jobFault id) s m) ∧
    (∀ c e f rest, (∀ p ∈ jobEngines m j, atRest (m.eng p.1 p.2) = true) → (s.mod.ctx j.ctx).hwFault = 0 →
      (s.mod.ctx j.ctx).state = 1 → faultsOf m j = (c, e, f) :: rest →
      ∃ t, exec (.jobFault id) s = .next t ∧ (t.mod.ctx j.ctx).state = 2 ∧
        (t.mod.ctx j.ctx).fault = { job := j.id, core := c, eng := e, kind := f.kind, status := f.status, pc := f.pc
                                    desc := f.desc % 2 ^ 32 } ∧
        (t.mod.ctx j.ctx).extraFaults = min 0xFF ((s.mod.ctx j.ctx).extraFaults + rest.length) ∧
        (∀ i ∈ t.mod.sched.jobs, i.ctx ≠ j.ctx) ∧ (∀ w, (t.mod.window w).ctx = j.ctx → (t.mod.window w).state ≠ 1))) ∧
  (∀ m j outcome rc f, findJob m j.id = some j →
    let t := jobOutcome j outcome rc f m
    t.sched.jobs = m.sched.jobs.filter (fun i => i.id != j.id) ∧ t.sched.due = true ∧
    (t.ctx j.ctx).records = (recordOf m j outcome :: (m.ctx j.ctx).records).take 16 ∧
    (t.ctx j.ctx).step = (if outcome = 0 ∧ j.mode = 0 then (m.ctx j.ctx).step + 1 else (m.ctx j.ctx).step) ∧
    (∀ c, c < 32 → (m.core c).job = some j.id → (t.core c).job = none) ∧
    (∀ d, findDeferred m 0x0404 j.id = some d → t.host.deferred = m.host.deferred.erase d)))

/-- R257 to R260, R280, Table 12-4. In execution, with parameters that break no condition of its list: CTX_CREATE makes a FREE context
active with its parameters, where its save region begins at a multiple of 1 MiB, has a slot for each core and room for images, ends in
the module and overlaps no other region in use. CTX_DESTROY of the client's active or torn-down context ends its jobs; with no window
left open the context is FREE, else it is torn down, without images, and waits; no other context changes its state. IMG_LOAD is
accepted, and its slot holds an image that is not loaded. IMG_DROP empties a slot with a loaded image that no job names. CTX_STATUS
answers 40 bytes, with state, cloche and the faulted JOB_ID as said, and changes nothing. An image load that finds room and its
source ends: the bytes are in the image store at the lowest room, the slot holds the image with the CRC its header states, or is
empty where the image breaks R102, and the command has ended; the lowest room is the model's choice (log entry 36). -/
def Obligations.ContextCommands : Prop :=
  (∀ s n ps, Asked s.mod n 0x0400 ps →
    let k := leAt ps 0 1
    let base := leAt ps 16 8
    let bytes := leAt ps 24 8
    ps.length = 32 → k < 64 → leAt ps 1 1 ≤ 15 → leAt ps 2 1 ≤ 7 → zeros ((ps.drop 3).take 1) = true →
    zeros ((ps.drop 12).take 4) = true → 10 ≤ leAt ps 4 4 → leAt ps 4 4 ≤ 500 → 25 ≤ leAt ps 8 4 → leAt ps 8 4 ≤ 10000 →
    base % mib = 0 → bytes % mib = 0 → (nCores s.mod + 1) * mib ≤ bytes → (leAt ps 1 1 = 15 → n = 14) →
    (s.mod.ctx k).state = 0 → base + bytes ≤ 0xE00000000 →
    (∀ i, i < 64 → i ≠ k → (s.mod.ctx i).state ≠ 0 →
      overlaps base bytes (s.mod.ctx i).saveBase (s.mod.ctx i).saveBytes = false) →
    (∀ p, p < 32 → (s.mod.pool p).live = true → ∀ r ∈ poolRegions (s.mod.pool p), overlaps base bytes r.1 r.2 = false) →
    Responds (.ctxCreate n) s n 0 [] (s.mod.setCtx k
      { state := 1, client := n, cloche := leAt ps 1 1, maxPrio := leAt ps 2 1, yieldWait := leAt ps 4 4
        inheritSlice := leAt ps 8 4, saveBase := base, saveBytes := bytes })) ∧
  (∀ s n ps, Asked s.mod n 0x0401 ps → Room s.mod n →
    let k := leAt ps 0 1
    ps.length = 8 → zeros ((ps.drop 1).take 7) = true → k < 64 → (s.mod.ctx k).state = 1 ∨ (s.mod.ctx k).state = 2 →
    (s.mod.ctx k).client = n → (s.mod.ctx k).destroying = false →
    ((∀ p ∈ s.mod.fab.windows, p.2.ctx = k → p.2.state = 0) →
      ∃ t, exec (.ctxDestroy n) s = .next t ∧ t.mod.ctx k = {} ∧ (∀ i, i ≠ k → (t.mod.ctx i).state = (s.mod.ctx i).state) ∧
        ((s.mod.ctx k).state = 1 → ∀ i ∈ t.mod.sched.jobs, i.ctx ≠ k)) ∧
    ((∃ p ∈ s.mod.fab.windows, p.2.ctx = k ∧ p.2.state ≠ 0) →
      ∃ t, exec (.ctxDestroy n) s = .next t ∧ (t.mod.ctx k).state = 2 ∧ (t.mod.ctx k).destroying = true ∧
        (∀ i, (t.mod.ctx k).images.get none i = none) ∧ (∀ i, i ≠ k → (t.mod.ctx i).state = (s.mod.ctx i).state) ∧
        ((s.mod.ctx k).state = 1 → ∀ i ∈ t.mod.sched.jobs, i.ctx ≠ k))) ∧
  (∀ s n ps, Asked s.mod n 0x0402 ps → Room s.mod n →
    let k := leAt ps 0 1
    let i := leAt ps 1 1
    ps.length = 24 → k < 64 → i ≤ 15 → leAt ps 16 4 % 16 = 0 → zeros ((ps.drop 2).take 6) = true →
    zeros ((ps.drop 20).take 4) = true → (s.mod.ctx k).client = n → (s.mod.ctx k).state = 1 → imageOf s.mod k i = none →
    (leAt ps 8 8 < 0x10000000000 → asleepAt s.mod (leAt ps 8 8) (leAt ps 16 4) = false) → sourceHeld s.mod k (leAt ps 8 8) (leAt ps 16 4) = true →
    Gives (.imgLoad n) s ((acceptedFor s.mod n (16 * k + i)).updCtx k (fun v => { v with
      images := v.images.put none i
        (some { base := 0, bytes := leAt ps 16 4, crc := 0, loaded := false, srcAddr := leAt ps 8 8
                startAt := s.mod.time.elapsed }) }))) ∧
  (∀ s k slot i a ep ws d, s.mod.host.gState = 3 → imageOf s.mod k slot = some i → i.loaded = false →
    placeImage s.mod k i.bytes = some a → imageSource s.mod i true ep = some ws → Outstanding s.mod 0x0402 (16 * k + slot) d →
    let m := writeWords (a / 8) ws s.mod
    let bs := memBytes m.mem a i.bytes
    ∃ t, exec (.imgLoadComplete k slot true ep) s = .next t ∧
      imageOf t.mod k slot = (if imageBad i.bytes bs then none
        else some { i with base := a, crc := BitVec.ofNat 32 (leAt bs 12 4), loaded := true }) ∧
      t.mod.mem.bytes = m.mem.bytes ∧ t.mod.host.deferred = s.mod.host.deferred.erase d) ∧
  (∀ s n ps, Asked s.mod n 0x0403 ps →
    let k := leAt ps 0 1
    ps.length = 8 → leAt ps 1 1 ≤ 15 → zeros ((ps.drop 2).take 6) = true → k < 64 → (s.mod.ctx k).state ≠ 0 →
    (s.mod.ctx k).client = n → slotLoaded s.mod k (leAt ps 1 1) = true → slotNamed s.mod k (leAt ps 1 1) = false →
    Responds (.imgDrop n) s n 0 []
      (s.mod.updCtx k (fun v => { v with images := v.images.put none (leAt ps 1 1) none }))) ∧
  (∀ s n ps, Asked s.mod n 0x0406 ps →
    let k := leAt ps 0 1
    ps.length = 8 → zeros ((ps.drop 1).take 7) = true → k < 64 → (s.mod.ctx k).state ≠ 0 → (s.mod.ctx k).client = n →
    ∃ data, Responds (.ctxStatus n) s n 0 data s.mod ∧ data.length = 40 ∧
      leAt data 0 1 = (s.mod.ctx k).state % 256 ∧ leAt data 1 1 = (s.mod.ctx k).cloche % 256 ∧
      leAt data 20 4 = (s.mod.ctx k).fault.job % 2 ^ 32)

/-- R261, R264, R268, R272, R276, R281, Tables 12-5 to 12-7. In execution, with parameters that break no condition of its list:
JOB_SUBMIT for the client's active context, with an image in each slot and no core refused, queues the job of its parameters under the
next JOB_ID, accepts it and counts it, below the client's bound of jobs and of deferred commands; at either it answers BUSY and counts
that, and changes nothing else. JOB_ABORT answers the JOB_ID and ends an outstanding job as aborted, or answers the kept outcome of an
ended one. SCHED_CLIENT sets the bound and the share that its flags name, the shares within 80 %. SCHED_STATUS answers 72 bytes, with
the counters, the outstanding jobs and the bound as said, and clears the counters where asked. SEM_BIND adds a binding of an owned range
to a holder below 16 bindings, or removes the one with that range. -/
def Obligations.JobCommands : Prop :=
  (∀ s n ps, Asked s.mod n 0x0404 ps →
    let k := leAt ps 0 1
    let cs := bitsOf (BitVec.ofNat 32 (leAt ps 4 4))
    let j := jobOf ps n (reqTag s.mod n) s.mod
    ps.length = 80 → zeros ((ps.drop 2).take 2) = true → zeros ((ps.drop 12).take 4) = true → jobBad ps s.mod = false →
    (s.mod.ctx k).state = 1 → (s.mod.ctx k).client = n → (∀ c ∈ cs, slotLoaded s.mod k (leAt ps (48 + c) 1) = true) →
    (∀ c ∈ cs, coreRefused s.mod c = false) →
    (outstanding s.mod n < (s.mod.client n).qb → Room s.mod n →
      Gives (.jobSubmit n) s
        (let m := (acceptedFor s.mod n j.id).setClient n
           { (s.mod.client n) with ctr := (s.mod.client n).ctr.put 0 0 (min ((s.mod.client n).ctr.get 0 0 + 1) 0xFFFFFFFF) }
         { m with sched := { m.sched with
                             jobs := m.sched.jobs ++ [j]
                             nextJob := if s.mod.sched.nextJob ≥ 0xFFFFFFFF then 1 else s.mod.sched.nextJob + 1 } })) ∧
    ((s.mod.client n).qb ≤ outstanding s.mod n ∨ ¬ Room s.mod n →
      Responds (.jobSubmit n) s n 0x10 [] (s.mod.setClient n
        { (s.mod.client n) with ctr := (s.mod.client n).ctr.put 0 1 (min ((s.mod.client n).ctr.get 0 1 + 1) 0xFFFFFFFF) }))) ∧
  (∀ s n ps j, Asked s.mod n 0x0405 ps →
    let k := leAt ps 0 1
    ps.length = 8 → k < 64 → leAt ps 1 1 ≤ 1 → (s.mod.ctx k).state ≠ 0 → (s.mod.ctx k).client = n →
    (abortTarget ps s.mod = some j →
      Gives (.jobAbort n) s (jobOutcome j 1 0x30 {} (respond n 0 (fields 8 [(0, 4, j.id), (4, 1, 1)]) s.mod))) ∧
    (∀ r, abortTarget ps s.mod = none → abortRecord ps s.mod = some r →
      Responds (.jobAbort n) s n 2 (fields 8 [(0, 4, r.jobId), (4, 1, r.outcome)]) s.mod)) ∧
  (∀ s n ps, Asked s.mod n 0x0407 ps →
    let c := leAt ps 0 1
    let fl := leAt ps 1 1
    ps.length = 8 → c < 15 → fl ≤ 3 → zeros ((ps.drop 6).take 2) = true →
    (fl % 2 = 1 → 1 ≤ leAt ps 2 2 ∧ leAt ps 2 2 ≤ 64 ∧ (n = 14 ∨ c = n)) →
    (fl / 2 = 1 → leAt ps 4 2 ≤ 800 ∧ n = 14 ∧ shareSum s.mod c (leAt ps 4 2) ≤ 800) →
    Responds (.schedClient n) s n 0 [] (s.mod.setClient c { (s.mod.client c) with
      qb := if fl % 2 = 1 then leAt ps 2 2 else (s.mod.client c).qb
      share := if fl / 2 = 1 then leAt ps 4 2 else (s.mod.client c).share })) ∧
  (∀ s n ps, Asked s.mod n 0x0408 ps →
    let c := leAt ps 0 1
    ps.length = 8 → c < 15 → leAt ps 1 1 ≤ 1 → zeros ((ps.drop 2).take 6) = true → (n = 14 ∨ c = n) →
    ∃ data, data.length = 72 ∧ leAt data 28 4 = outstanding s.mod c % 2 ^ 32 ∧ leAt data 64 2 = (s.mod.client c).qb % 2 ^ 16 ∧
      (∀ i, i < 7 → leAt data (4 * i) 4 = (s.mod.client c).ctr.get 0 i % 2 ^ 32) ∧
      Responds (.schedStatus n) s n 0 data (if leAt ps 1 1 = 1 then
        s.mod.setClient c { (s.mod.client c) with ctr := [], clearedAt := s.mod.time.elapsed } else s.mod)) ∧
  (∀ s n ps, Asked s.mod n 0x0409 ps →
    let k := leAt ps 0 1
    let h := leAt ps 1 1
    let base := leAt ps 4 4
    let count := leAt ps 2 2
    ps.length = 8 → k < 64 → base + count ≤ 65536 → rangeOwned s.mod k base count = true →
    (s.mod.ctx k).state ≠ 0 → (s.mod.ctx k).client = n →
    (h < 64 → (s.mod.ctx h).state ≠ 0 → (s.mod.ctx h).client = n → (s.mod.ctx k).binds.length < 16 →
      Responds (.semBind n) s n 0 [] (s.mod.updCtx k (fun v => { v with binds := v.binds ++ [⟨base, count, h⟩] }))) ∧
    (h = 0xFF → hasBind s.mod k base count = true →
      Responds (.semBind n) s n 0 []
        (s.mod.updCtx k (fun v => { v with binds := v.binds.filter (fun b => !(b.base == base && b.count == count)) }))))

/-! ### Network time and Ethernet (chapter 13) -/

/-- R283, R284, R286, R287, R289, R290, R297, Tables 13-3 to 13-5. In execution, with parameters that break no condition of its list and,
but for TIME_STATUS, from the host or safety client: TIME_STATUS answers 40 bytes, with the counter's seconds, nanoseconds and fraction
and the last PPS capture as said, and changes nothing. TIME_STEP, while the step is open, no launch waits and every loop is OFF, sets
the counter, or moves it, closes the step and leaves elapsed time and RATE. TIME_CLOSE_STEP closes the step. In mode HOST (0), TIME_RATE sets
RATE, and PTP_CONFIG keeps the configuration, gives a port outside its mask role 0, no port a master's role under SLAVE_ONLY, and begins
the timers anew. TIME_SERVO sets the servo,
leaves counter and RATE, and a new mode clears acc and the state. PPS_CONFIG sets both pins; disabled, PPS_OUT is low. The model's
choices: that a port which takes part shows an open role first (log entry 12) and what a change of mode clears (log entry 37). -/
def Obligations.TimeCommands : Prop :=
  (∀ s n ps, Asked s.mod n 0x0900 ps → ps.length = 8 → zeros ps = true →
    ∃ data, Responds (.timeStatus n) s n 0 data s.mod ∧ data.length = 40 ∧
      leAt data 0 8 = s.mod.time.now / (1000000000 * 2 ^ 64) % 2 ^ 64 ∧ leAt data 8 4 = s.mod.time.now / 2 ^ 64 % 1000000000 ∧
      leAt data 12 2 = s.mod.time.now / 2 ^ 48 % 2 ^ 16 ∧ leAt data 28 4 = s.mod.time.ppsCaptureNs % 2 ^ 32) ∧
  (∀ s n ps, Asked s.mod n 0x0901 ps → ps.length = 24 → leAt ps 0 1 ≤ 1 → zeros ((ps.drop 1).take 7) = true →
    zeros ((ps.drop 20).take 4) = true → stepNsBad ps = false → 0 ≤ stepTarget ps s.mod → (n = 0 ∨ n = 14) →
    s.mod.time.stepClosed = false → launchHeld s.mod = false → canLaunchHeld s.mod = false → loopOn s.mod = false →
    ∃ t, exec (.timeStep n) s = .next t ∧
      t.mod.time.now = (if leAt ps 0 1 = 0 then (leAt ps 8 8 * 1000000000 + leAt ps 16 4) * 2 ^ 64
        else ((s.mod.time.now : Int) + (leIntAt ps 8 8 * 1000000000 + leIntAt ps 16 4) * 2 ^ 64).toNat) % timeMod ∧
      t.mod.time.stepClosed = true ∧ t.mod.time.stepped = true ∧ t.mod.time.elapsed = s.mod.time.elapsed ∧
      t.mod.time.rate = s.mod.time.rate ∧ (t.mod.mbx n).state = 3) ∧
  (∀ s n ps, Asked s.mod n 0x0902 ps → ps.length = 8 → zeros ps = true → (n = 0 ∨ n = 14) → s.mod.time.stepClosed = false →
    Responds (.timeCloseStep n) s n 0 [] { s.mod with time := { s.mod.time with stepClosed := true } }) ∧
  (∀ s n ps, Asked s.mod n 0x0903 ps → ps.length = 8 → (leIntAt ps 0 8).natAbs ≤ 140737488 → (n = 0 ∨ n = 14) →
    s.mod.time.mode = 0 → Responds (.timeRate n) s n 0 [] { s.mod with time := { s.mod.time with rate := leIntAt ps 0 8 } }) ∧
  (∀ s n ps, Asked s.mod n 0x0904 ps → ps.length = 24 → leAt ps 0 1 ≤ 2 → leAt ps 1 1 ≤ 1 → zeros ((ps.drop 2).take 2) = true →
    zeros ((ps.drop 20).take 4) = true → gainBad (BitVec.ofNat 32 (leAt ps 12 4)) = false →
    gainBad (BitVec.ofNat 32 (leAt ps 16 4)) = false → (n = 0 ∨ n = 14) →
    ∃ t, exec (.timeServo n) s = .next t ∧ t.mod.time.mode = leAt ps 0 1 ∧ t.mod.time.autoStep = decide (leAt ps 1 1 = 1) ∧
      t.mod.time.lockNs = leAt ps 4 4 ∧ t.mod.time.stepMinNs = leAt ps 8 4 ∧ t.mod.time.gp = BitVec.ofNat 32 (leAt ps 12 4) ∧
      t.mod.time.gi = BitVec.ofNat 32 (leAt ps 16 4) ∧ t.mod.time.now = s.mod.time.now ∧ t.mod.time.rate = s.mod.time.rate ∧
      (leAt ps 0 1 ≠ s.mod.time.mode → t.mod.time.acc = 0 ∧ t.mod.time.servo = 0) ∧ (t.mod.mbx n).state = 3) ∧
  (∀ s n ps, Asked s.mod n 0x0905 ps → ps.length = 12 → leAt ps 0 1 ≤ 2 →
    leAt ps 1 1 ≤ (if leAt ps 0 1 = 2 then 0 else 127) → leAt ps 2 1 ≤ 15 → 6 ≤ leAt ps 5 1 → leAt ps 6 1 ≤ 1 →
    zeros ((ps.drop 7).take 1) = true → logBad ps 8 (-7) 0 = false → logBad ps 9 (-7) 0 = false →
    logBad ps 10 0 3 = false → logBad ps 11 2 10 = false → (n = 0 ∨ n = 14) → s.mod.time.mode = 0 →
    ∃ roles timers, (∀ p, p < 4 → leAt ps 2 1 / 2 ^ p % 2 = 0 → roles.getD p 0 = 0) ∧
      (leAt ps 6 1 = 1 → ∀ p, p < 4 → roles.getD p 0 ≠ 1) ∧
      (∀ k, k < 16 → Tab.get 0 timers k = s.mod.time.elapsed) ∧
      Responds (.ptpConfig n) s n 0 [] { s.mod with
        time := { s.mod.time with ptp := ps, roles := roles, ptpTimers := timers }, freeCount := s.mod.freeCount + 1 }) ∧
  (∀ s n ps, Asked s.mod n 0x0906 ps → ps.length = 8 → leAt ps 0 1 ≤ 1 → leAt ps 1 1 ≤ 2 → 1 ≤ leAt ps 2 2 → leAt ps 2 2 ≤ 500 →
    leAt ps 4 4 < 1000000000 → (n = 0 ∨ n = 14) →
    ∃ t, exec (.ppsConfig n) s = .next t ∧ t.mod.time.ppsOutEn = decide (leAt ps 0 1 = 1) ∧ t.mod.time.ppsInEdge = leAt ps 1 1 ∧
      t.mod.time.ppsWidthMs = leAt ps 2 2 ∧ t.mod.time.ppsOffsetNs = leAt ps 4 4 ∧
      (leAt ps 0 1 = 0 → t.mod.time.ppsOut = false) ∧ (t.mod.mbx n).state = 3)

/-- R286, R289, R290. The servo's law never takes RATE beyond its limits. A selected edge of PPS_IN is captured to the counter, at the
resolution of R289, and counted; in PPS mode, half a second or more after the capture before it, it is a measurement: acc and RATE are the law's for
the capture's distance from a whole second, over the time since the last measurement; else it changes nothing more, and an edge not
selected nothing. A measurement counts within or outside the lock bound, and eight in a row lock or unlock the servo. Under a
deferring condition the automatic step leaves counter, step, acc and RATE, and stays to be made; else it closes the step, and moves the
counter by the offset where that reaches STEP_MIN_NS. Three seconds without a measurement make the servo FREE and change nothing else of
time. PPS_OUT, enabled and low, rises once the counter has reached its instant of a second, and falls its width after that instant. The model's
choices (log entry 37): that the fall goes by elapsed time, what the automatic step does under a deferring condition, and how the
measurements in and outside the bound are counted. -/
def Obligations.ServoAndPps : Prop :=
  (∀ t o dt x, -140737488 ≤ (servoLaw t o dt x).2 ∧ (servoLaw t o dt x).2 ≤ 140737488) ∧
  (∀ s rising age, s.mod.time.ppsInEdge = (if rising then 1 else 2) → s.mod.time.mode = 2 →
    (∀ e, s.mod.time.ppsLastEdge = some e → e + secUnit / 2 ≤ s.mod.time.elapsed - age * 2 ^ 63) →
    ∃ t x up dt, exec (.ppsInEdge rising age) s = .next t ∧
      t.mod.time.ppsCaptureNs = captured s.mod age / 2 ^ 64 % 1000000000 ∧
      t.mod.time.ppsCount = s.mod.time.ppsCount + 1 ∧ t.mod.time.lastMeas = some s.mod.time.elapsed ∧
      (∀ tm, s.mod.time.lastMeas = some tm → dt = secFloat (s.mod.time.elapsed - tm)) ∧
      (t.mod.time.acc, t.mod.time.rate) = servoLaw s.mod.time (ppsOffset (captured s.mod age) up) dt x) ∧
  (∀ s rising age, s.mod.time.ppsInEdge = (if rising then 1 else 2) →
    (s.mod.time.mode ≠ 2 ∨ ∃ e, s.mod.time.ppsLastEdge = some e ∧ s.mod.time.elapsed - age * 2 ^ 63 < e + secUnit / 2) →
    Gives (.ppsInEdge rising age) s { s.mod with
      time := { s.mod.time with
                ppsCaptureNs := captured s.mod age / 2 ^ 64 % 1000000000, ppsCount := s.mod.time.ppsCount + 1
                ppsLastEdge := some (s.mod.time.elapsed - age * 2 ^ 63) } }) ∧
  (∀ s rising age, s.mod.time.ppsInEdge ≠ (if rising then 1 else 2) → Gives (.ppsInEdge rising age) s s.mod) ∧
  (∀ o m, let inn := o.natAbs ≤ m.time.lockNs * 2 ^ 64
    let t := (servoCount o m).time
    t.inLock = (if inn then m.time.inLock + 1 else 0) ∧ t.outLock = (if inn then 0 else m.time.outLock + 1) ∧
    t.servo = (if m.time.servo = 0 then (if 8 ≤ t.inLock then 2 else 1)
      else if m.time.servo = 1 ∧ 8 ≤ t.inLock then 2 else if m.time.servo = 2 ∧ 8 ≤ t.outLock then 1 else m.time.servo)) ∧
  (∀ m o,
    (deferCond o m ≠ 0 → (autoStep o m).time.now = m.time.now ∧ (autoStep o m).time.stepClosed = m.time.stepClosed ∧
      (autoStep o m).time.servo = 1 ∧ (autoStep o m).time.acc = m.time.acc ∧ (autoStep o m).time.rate = m.time.rate ∧
      (autoStep o m).time.firstMeas = m.time.firstMeas) ∧
    (deferCond o m = 0 → (autoStep o m).time.stepClosed = true ∧ (autoStep o m).time.firstMeas = false ∧
      (m.time.stepMinNs * 2 ^ 64 ≤ o.natAbs →
        (autoStep o m).time.now = ((m.time.now : Int) - o).toNat % timeMod ∧ (autoStep o m).time.stepped = true) ∧
      (o.natAbs < m.time.stepMinNs * 2 ^ 64 → (autoStep o m).time.now = m.time.now))) ∧
  (∀ s tm, s.mod.time.lastMeas = some tm → s.mod.time.mode ≠ 0 → s.mod.time.servo ≠ 0 →
    tm + 3 * secUnit ≤ s.mod.time.elapsed →
    ∃ t, exec .servoTimeout s = .next t ∧ t.mod.time = { s.mod.time with servo := 0, inLock := 0, outLock := 0 }) ∧
  (∀ s n, s.mod.time.ppsOutEn = true → s.mod.time.ppsOut = false → s.mod.time.ppsLastSec ≠ some n →
    n * secUnit + s.mod.time.ppsOffsetNs * nsUnit ≤ s.mod.time.now →
    s.mod.time.now < (n + 1) * secUnit + s.mod.time.ppsOffsetNs * nsUnit →
    ∃ t, exec .ppsOutEdge s = .next t ∧ t.mod.time = { s.mod.time with
        ppsOut := true, ppsLastSec := some n
        ppsFallAt := s.mod.time.elapsed + s.mod.time.ppsWidthMs * msUnit
          - (s.mod.time.now - (n * secUnit + s.mod.time.ppsOffsetNs * nsUnit)) } ∧
      t.mod.wire = .pps true :: s.mod.wire) ∧
  (∀ s, s.mod.time.ppsOutEn = true → s.mod.time.ppsOut = true → s.mod.time.ppsFallAt ≤ s.mod.time.elapsed →
    ∃ t, exec .ppsOutEdge s = .next t ∧ t.mod.time = { s.mod.time with ppsOut := false } ∧
      t.mod.wire = .pps false :: s.mod.wire)

/-- R286 to R288, R292 to R298, Table 13-6. In execution, with parameters that break no condition of its list: ETH_PORT sets a port with
nothing queued, ETH_QUEUE an empty queue, ETH_STATUS answers the nine counters and clears them and the late marks where asked,
ETH_RX_BIND binds a filter to a ring its context holds, or unbinds it. A working port whose line is free takes the head of the
highest-numbered queue that is due, the time-stamp of a frame begun now having reached L, else its timing queue: the frame goes out with
FCS and time-stamp, takes the line for itself and 24 byte times, and is counted; a late one under DROP is discarded and counted, under
SEND counted late as well; else nothing happens. Late heads are discarded or marked, and told. A link change shows the port up at its one
speed only. A bad frame is counted. A good frame not of EtherType 0x88F7 goes to the ring of the first filter that matches (time-stamp,
length, bytes; nothing else of memory changes; the sync object goes up by one) while there is room, else counted, as is one no
filter matches. A timing frame reaches the timing instance only: on a port of the instance, in the subset, while Gragor runs, it has the
profile's outcome, an operand (notes/assumptions/12), and its offset, less the port's asymmetry, is a measurement in PTP mode; else it
is counted as ignored. The receipt timeout, and the interval timers that have run out, act and begin again; what is sent joins the timing
queues if sendable, padded to the least frame; under SLAVE_ONLY no port becomes a master. The model's choices: the profile's outcome as
an operand (log entry 12), the asymmetry subtracted, frames ignored while Gragor does not run, and master messages from master ports
only (log entry 85), and CONSUMED compared as an integer (log entry 38). -/
def Obligations.EthernetFrames : Prop :=
  ((∀ s n ps, Asked s.mod n 0x0907 ps → ps.length = 24 → leAt ps 0 1 ≤ 3 → leAt ps 1 1 ≤ 1 →
    zeros ((ps.drop 20).take 4) = true → (n = 0 ∨ n = 14) →
    let p := leAt ps 0 1
    (s.mod.port p).timing = [] → (∀ q, q < 8 → (s.mod.lq p q).frames = []) →
    Responds (.ethPort n) s n 0 [] (s.mod.setPort p { (s.mod.port p) with
      enable := leAt ps 1 1 = 1, mac := (ps.drop 2).take 6, txLat := leAt ps 8 4, rxLat := leAt ps 12 4
      asym := leIntAt ps 16 4 })) ∧
  (∀ s n ps, Asked s.mod n 0x0908 ps → ps.length = 8 → leAt ps 0 1 ≤ 3 → leAt ps 1 1 ≤ 7 → leAt ps 2 1 ≤ 1 →
    zeros ((ps.drop 3).take 1) = true → leAt ps 4 4 ≤ 1000000 → (n = 0 ∨ n = 14) →
    (s.mod.lq (leAt ps 0 1) (leAt ps 1 1)).frames = [] →
    Responds (.ethQueue n) s n 0 [] (s.mod.setLq (leAt ps 0 1) (leAt ps 1 1)
      { frames := [], policy := leAt ps 2 1, lateNs := leAt ps 4 4, told := false })) ∧
  (∀ s n ps, Asked s.mod n 0x090A ps → ps.length = 8 → leAt ps 0 1 ≤ 3 → leAt ps 1 1 ≤ 1 → zeros ((ps.drop 2).take 6) = true →
    let p := leAt ps 0 1
    ∃ m data, Responds (.ethStatus n) s n 0 data m ∧ data.length = 44 ∧
      (∀ i, i < 9 → leAt data (8 + 4 * i) 4 = (s.mod.port p).ctr.get 0 i % 2 ^ 32) ∧ (leAt ps 1 1 = 0 → m = s.mod) ∧
      (leAt ps 1 1 = 1 → (m.port p).ctr = [] ∧ ∀ q, q < 8 → m.lq p q = { (s.mod.lq p q) with told := false })) ∧
  (∀ s p, ethWorks s.mod p = true → lineFree s.mod p = true →
    let sent := fun (timing : Bool) (bs : List Byte) (t : State) =>
      t.mod.wire = .eth p timing (bs ++ leBytes 4 (crc32 bs).toNat) (captured s.mod 0 + txDelay s.mod p) :: s.mod.wire ∧
      (t.mod.port p).freeAt = s.mod.time.elapsed + (bs.length + 24) * byteTime p ∧
      (t.mod.port p).ctr.get 0 0 = min ((s.mod.port p).ctr.get 0 0 + 1) 0xFFFFFFFF
    (∀ q f, dueQueue s.mod p = some (q, f) →
      let late := f.late = true ∨ lateNow s.mod p q f = true
      ∃ t, exec (.ethTxStart p) s = .next t ∧ (t.mod.lq p q).frames = (s.mod.lq p q).frames.drop 1 ∧
        (∀ k, k ≠ q → t.mod.lq p k = s.mod.lq p k) ∧ (t.mod.port p).timing = (s.mod.port p).timing ∧
        (¬ (late ∧ (s.mod.lq p q).policy = 0) → sent false f.bytes t) ∧
        (late → (s.mod.lq p q).policy ≠ 0 → (t.mod.port p).ctr.get 0 7 = min ((s.mod.port p).ctr.get 0 7 + 1) 0xFFFFFFFF) ∧
        (late → (s.mod.lq p q).policy = 0 → t.mod.wire = s.mod.wire ∧ (t.mod.port p).freeAt = (s.mod.port p).freeAt ∧
          (t.mod.port p).ctr.get 0 6 = min ((s.mod.port p).ctr.get 0 6 + 1) 0xFFFFFFFF)) ∧
    (∀ bs rest, dueQueue s.mod p = none → (s.mod.port p).timing = bs :: rest →
      ∃ t, exec (.ethTxStart p) s = .next t ∧ sent true bs t ∧ (t.mod.port p).timing = rest ∧
        (t.mod.port p).queues = (s.mod.port p).queues)) ∧
  (∀ s p, (ethWorks s.mod p = false ∨ lineFree s.mod p = false) → Gives (.ethTxStart p) s s.mod) ∧
  (∀ m p q f, dueQueue m p = some (q, f) ↔
    q < 8 ∧ (m.lq p q).frames.head? = some f ∧ f.at_ ≤ captured m 0 + txDelay m p ∧
      ∀ k g, q < k → k < 8 → (m.lq p k).frames.head? = some g → captured m 0 + txDelay m p < g.at_) ∧
  (∀ s p q, p < 4 → q < 8 → (∃ f ∈ (s.mod.lq p q).frames, f.late = false ∧ lateNow s.mod p q f = true) →
    ((s.mod.lq p q).policy = 0 → ∃ t, exec (.launchFrameLate p q) s = .next t ∧
      (t.mod.lq p q).frames = (s.mod.lq p q).frames.filter (fun f => !lateNow s.mod p q f) ∧ (t.mod.lq p q).told = true) ∧
    ((s.mod.lq p q).policy = 1 → ∃ t, exec (.launchFrameLate p q) s = .next t ∧
      (t.mod.lq p q).frames = (s.mod.lq p q).frames.map (fun f => { f with late := f.late || lateNow s.mod p q f }) ∧
      (t.mod.lq p q).told = true)) ∧
  (∀ s p speed, p < 4 → let up : Bool := speed = (if p < 2 then 10000 else 1000)
    ((s.mod.port p).link ≠ up → (up = false ∨ domOn s.mod 45 = true) →
      ∃ t, exec (.ethLinkChange p speed) s = .next t ∧ t.mod.port p = { (s.mod.port p) with link := up } ∧
        (∀ k, k ≠ p → t.mod.port k = s.mod.port k)) ∧
    ((s.mod.port p).link = up → Gives (.ethLinkChange p speed) s s.mod))) ∧
  ((∀ s n ps, Asked s.mod n 0x0909 ps → ps.length = 32 →
    let k := leAt ps 2 1
    let slots := leAt ps 12 4
    leAt ps 0 1 ≤ 3 → leAt ps 1 1 ≤ 15 → k < 64 → zeros ((ps.drop 3).take 1) = true → zeros ((ps.drop 26).take 6) = true →
    16 ≤ slots → slots ≤ 4096 → slots = 2 ^ slots.log2 → leAt ps 16 8 % 64 = 0 → (s.mod.ctx k).state ≠ 0 →
    (s.mod.ctx k).client = n → asleepAt s.mod (leAt ps 16 8) (64 + slots * 2048) = false →
    ringHeld s.mod k (leAt ps 16 8) (64 + slots * 2048) = true →
    syncOwned s.mod k (leAt ps 24 2) = true →
    Responds (.ethRxBind n) s n 0 [] (s.mod.setFilter (leAt ps 0 1) (leAt ps 1 1)
      (some { ctx := k, ethertype := leAt ps 4 2, mac := (ps.drop 6).take 6, slots := slots, base := leAt ps 16 8
              sync := leAt ps 24 2, n := 0 }))) ∧
  (∀ s n ps, Asked s.mod n 0x0909 ps → ps.length = 32 → leAt ps 0 1 ≤ 3 → leAt ps 1 1 ≤ 15 → leAt ps 2 1 = 0xFF →
    let slots := leAt ps 12 4
    16 ≤ slots → slots ≤ 4096 → slots = 2 ^ slots.log2 → leAt ps 16 8 % 64 = 0 →
    zeros ((ps.drop 3).take 1) = true → zeros ((ps.drop 26).take 6) = true →
    (∀ v, s.mod.filter (leAt ps 0 1) (leAt ps 1 1) = some v → (s.mod.ctx v.ctx).state ≠ 0 → (s.mod.ctx v.ctx).client = n) →
    Responds (.ethRxBind n) s n 0 [] (s.mod.setFilter (leAt ps 0 1) (leAt ps 1 1) none)) ∧
  (∀ s p f, ethWorks s.mod p = true → (f.fcs ≠ crc32 f.bytes ∨ isPause f.bytes = true ∨ f.bytes.length < 60 ∨ 1518 < f.bytes.length) →
    Gives (.ethRxFrame p f) s (ethCount p 2 s.mod)) ∧
  (∀ s p f, ethWorks s.mod p = true → frameBad f = false → etherType f.bytes ≠ 0x88F7 →
    (∀ i v, i < 16 → s.mod.filter p i = some v → filterMatches v f.bytes = false) →
    Gives (.ethRxFrame p f) s (ethCount p 3 s.mod)) ∧
  (∀ s p f i v, ethWorks s.mod p = true → frameBad f = false → etherType f.bytes ≠ 0x88F7 → i < 16 →
    s.mod.filter p i = some v → filterMatches v f.bytes = true →
    (∀ k u, k < i → s.mod.filter p k = some u → filterMatches u f.bytes = false) →
    let at_ := v.base + 64 + v.n % v.slots * 2048
    let bs := slotBytes s.mod p f
    fwAllows s.mod (sidOf s.mod v.ctx 0x26) .read v.base 8 = true →
    fwAllows s.mod (sidOf s.mod v.ctx 0x26) .write at_ bs.length = true →
    syncOwned s.mod v.ctx v.sync = true →
    (v.n < leNat (memBytes s.mod.mem v.base 8) + v.slots →
      ∃ t, exec (.ethRxFrame p f) s = .next t ∧ memBytes t.mod.mem at_ bs.length = bs ∧
        (∀ a, ¬ (at_ ≤ a ∧ a < at_ + bs.length) → memByte t.mod.mem a = memByte s.mod.mem a) ∧
        t.mod.filter p i = some { v with n := v.n + 1 } ∧ t.mod.fab.sync.get 0 v.sync = s.mod.fab.sync.get 0 v.sync + 1) ∧
    (leNat (memBytes s.mod.mem v.base 8) + v.slots ≤ v.n →
      ∃ t, exec (.ethRxFrame p f) s = .next t ∧ t.mod.mem.bytes = s.mod.mem.bytes ∧ t.mod.filter p i = some v ∧
        (t.mod.port p).ctr.get 0 4 = min ((s.mod.port p).ctr.get 0 4 + 1) 0xFFFFFFFF)) ∧
  (∀ s p f o, ethWorks s.mod p = true → frameBad f = false → etherType f.bytes = 0x88F7 →
    let m := ptpOutcome o (ethCount p 1 (if ptpKind f.bytes = 11 then ptpRestart p s.mod 3 else s.mod))
    let taken := s.mod.host.gState = 3 ∧ ptpPort s.mod p = true ∧ ptpInSubset s.mod.time.ptp f.bytes = true
    Gives (.ethRxFrame p f) s s.mod ∧
    (taken → (o.offset = none ∨ s.mod.time.mode ≠ 1) → Gives (.ptpFrameReceive p f o) s m) ∧
    (∀ x dt, taken → o.offset = some (x, dt) → s.mod.time.mode = 1 →
      Gives (.ptpFrameReceive p f o) s (measure (x - (s.mod.port p).asym * 2 ^ 48) (secFloat dt) m)) ∧
    (¬ taken → Gives (.ptpFrameReceive p f o) s (ethCount p 8 s.mod))) ∧
  (∀ s p o, ptpPort s.mod p = true → s.mod.host.gState = 3 →
    (ptpTimer s.mod p 3 + ptpInterval s.mod 3 ≤ s.mod.time.elapsed →
      Gives (.announceReceiptTimeout p o) s (ptpOutcome o (ptpRestart p s.mod 3))) ∧
    Gives (.ptpIntervalExpiry p o) s (ptpSend (o.send.filter (fun x => x.1 == p && (ptpTimed (ptpKind x.2)).any (ptpDue s.mod p).contains))
      ((ptpDue s.mod p).foldl (ptpRestart p) s.mod))) ∧
  (∀ m o, (ptpOutcome o m).time.gm = o.gm ∧ ∀ p, p < 4 → (ptpOutcome o m).time.roles.getD p 0 = ptpRole m o p ∧
    (leAt m.time.ptp 6 1 = 1 → ptpRole m o p ≠ 1)) ∧
  (∀ m (l : List (Nat × List Byte)), (∀ k, (m.port k).queues = ((ptpSend l m).port k).queues) ∧
    (∀ k, ptpPort m k = true →
      let sent := l.filter (fun x => x.1 == k && ptpSendable m.time.ptp x.2 && (!ptpOfMaster (ptpKind x.2) || m.time.roles.getD k 0 = 1))
      ∃ qs, ((ptpSend l m).port k).timing = (m.port k).timing ++ qs ∧ qs.length = sent.length ∧
        ∀ (i : Nat) (x : Nat × List Byte) (q : List Byte), sent[i]? = some x → qs[i]? = some q → q.take x.2.length = x.2 ∧ q.length = max 60 x.2.length)) ∧
  (∀ c bs, ptpSendable c bs = true → bs.length ≤ 1518))

/-! ### CAN FD (chapter 14) -/

/-- R300 to R304, R306, R310, R313 to R315, Tables 14-5 to 14-9. In execution, with parameters that break no condition of its list:
CAN_CONFIG sets an OFF controller and CAN_MODE asks a configured one for a mode, CAN_OBJ_CONFIG sets an object with no frame that no map
or running loop names, and leaves every other object and controller, CAN_FILTER sets a filter, all from the host or safety client.
CAN_OBJ_SEND of an object's owner hands its frame over, for its launch time or now, replacing and counting one that waits. CAN_OBJ_READ
answers 88 bytes, with LAST, COUNT and of the last frame seconds, length and identifier as said, and clears LAST of an RX object.
CAN_RX_READ takes up to COUNT frames from the front of its queue. CAN_RECOVER lets a bus-off controller without automatic recovery recover. CAN_STATUS
answers 76 bytes, with mode, error state, receive error counter and counters as said, and clears the counters where asked. The model's choices (log
entry 40): that CAN_OBJ_SEND stores DATA where a frame waits, and that mode requests queue in order. -/
def Obligations.CanCommands : Prop :=
  (∀ s n ps, Asked s.mod n 0x0A00 ps → ps.length = 24 → canCfgBad ps = false → canRateBad ps = false →
    zeros ((ps.drop 22).take 2) = true → (n = 0 ∨ n = 14) →
    let k := leAt ps 0 1
    (s.mod.canCtl k).mode = 0 →
    Responds (.canConfig n) s n 0 [] (s.mod.setCan k { (s.mod.canCtl k) with
      cfg := ps.take 22, configured := true, told := false })) ∧
  (∀ s n ps, Asked s.mod n 0x0A01 ps → Room s.mod n →
    let k := leAt ps 0 1
    ps.length = 8 → k ≤ 3 → leAt ps 1 1 ≤ 3 → zeros ((ps.drop 2).take 6) = true → (n = 0 ∨ n = 14) →
    (s.mod.canCtl k).configured = true →
    Gives (.canMode n) s ((acceptedFor s.mod n k).setCan k { (s.mod.canCtl k) with
      modeReq := (s.mod.canCtl k).modeReq ++ [leAt ps 1 1] })) ∧
  (∀ s n ps, Asked s.mod n 0x0A02 ps → ps.length = 88 → canObjBad ps = false → (n = 0 ∨ n = 14) →
    let k := leAt ps 0 1
    let o := leAt ps 1 1
    (s.mod.canObj k o).pending = none → (s.mod.canObj k o).onBus = none → mapsOf s.mod k o = [] → loopNames s.mod k o = false →
    ∃ t, exec (.canObjConfig n) s = .next t ∧ (t.mod.mbx n).state = 3 ∧
      (t.mod.canObj k o).dir = leAt ps 2 1 ∧ (t.mod.canObj k o).owner = leAt ps 3 1 ∧ (t.mod.canObj k o).len = leAt ps 5 1 ∧
      (t.mod.canObj k o).ide = decide (leAt ps 4 1 % 2 = 1) ∧ (t.mod.canObj k o).fdf = decide (leAt ps 4 1 / 2 % 2 = 1) ∧
      (t.mod.canObj k o).brs = decide (leAt ps 4 1 / 4 % 2 = 1) ∧ (t.mod.canObj k o).copy = decide (leAt ps 4 1 / 8 % 2 = 1) ∧
      (t.mod.canObj k o).lateSend = decide (leAt ps 4 1 / 16 % 2 = 1) ∧ (t.mod.canObj k o).lateNs = leAt ps 16 4 ∧
      (t.mod.canObj k o).data = ps.drop 24 ∧ (t.mod.canObj k o).last = 0 ∧ (t.mod.canObj k o).count = 0 ∧
      (∀ p, p ≠ o → t.mod.canObj k p = s.mod.canObj k p) ∧ (∀ j, j ≠ k → t.mod.canCtl j = s.mod.canCtl j)) ∧
  (∀ s n ps, Asked s.mod n 0x0A03 ps → ps.length = 88 →
    let k := leAt ps 0 1
    let o := leAt ps 1 1
    let x := s.mod.canObj k o
    let timed := leAt ps 2 1 = 1
    let frame : CanPend :=
      ⟨if timed then (leAt ps 8 8 * 1000000000 + leAt ps 16 4) * 2 ^ 64 else s.mod.time.now, (ps.drop 24).take x.len, false, false⟩
    k ≤ 3 → o ≤ 127 → leAt ps 2 1 ≤ 1 → zeros ((ps.drop 3).take 5) = true → zeros ((ps.drop 20).take 4) = true →
    (timed → leAt ps 16 4 < 1000000000) → (¬ timed → leAt ps 8 8 = 0 ∧ leAt ps 16 4 = 0) → (n = x.owner ∨ n = 14) →
    x.dir = 2 → x.owner ≠ 15 →
    (x.onBus = none → Responds (.canObjSend n) s n 0 []
      (let m := s.mod.setCanObj k o { x with data := ps.drop 24, pending := some frame, last := if x.pending.isSome then 3 else x.last }
       if x.pending.isSome then canCount k 8 m else m)) ∧
    (x.onBus.isSome = true → Responds (.canObjSend n) s n 0 []
      (let m := s.mod.setCanObj k o { x with data := ps.drop 24, newer := some frame, last := if x.newer.isSome then 3 else x.last }
       if x.newer.isSome then canCount k 8 m else m))) ∧
  (∀ s n ps, Asked s.mod n 0x0A04 ps → ps.length = 8 →
    let k := leAt ps 0 1
    let o := leAt ps 1 1
    let x := s.mod.canObj k o
    k ≤ 3 → o ≤ 127 → zeros ((ps.drop 2).take 6) = true → ((x.dir = 2 ∧ n = x.owner) ∨ n = 0 ∨ n = 14) →
    ∃ data, Responds (.canObjRead n) s n 0 data (if x.dir = 1 then s.mod.setCanObj k o { x with last := 0 } else s.mod) ∧
      data.length = 88 ∧ leAt data 1 1 = x.last % 256 ∧ leAt data 4 4 = x.count % 2 ^ 32 ∧
      leAt data 8 4 = x.lastFrame.time / (1000000000 * 2 ^ 64) % 2 ^ 32 ∧ leAt data 18 1 = x.lastFrame.len % 256 ∧
      leAt data 20 4 = x.lastFrame.id.toNat) ∧
  (∀ s n ps, Asked s.mod n 0x0A05 ps → ps.length = 12 →
    let k := leAt ps 0 1
    k ≤ 3 → leAt ps 1 1 ≤ 63 → leAt ps 2 1 ≤ 3 → leAt ps 3 1 ≤ 1 → (n = 0 ∨ n = 14) →
    leAt ps 4 4 < (if leAt ps 3 1 = 1 then 2 ^ 29 else 2 ^ 11) → leAt ps 8 4 < (if leAt ps 3 1 = 1 then 2 ^ 29 else 2 ^ 11) →
    Responds (.canFilter n) s n 0 [] (s.mod.setCan k { (s.mod.canCtl k) with
      filters := (s.mod.canCtl k).filters.put {} (leAt ps 1 1)
        { action := leAt ps 2 1, ide := leAt ps 3 1 = 1, id := BitVec.ofNat 29 (leAt ps 4 4)
          mask := BitVec.ofNat 29 (leAt ps 8 4) } })) ∧
  (∀ s n ps, Asked s.mod n 0x0A06 ps → ps.length = 8 →
    let k := leAt ps 0 1
    let v := s.mod.canCtl k
    let c := leAt ps 2 1
    k ≤ 3 → leAt ps 1 1 ≤ 1 → 1 ≤ c → c ≤ 6 → zeros ((ps.drop 3).take 5) = true →
    (n = canReader v (leAt ps 1 1) ∨ n = 14) →
    (leAt ps 1 1 = 0 → Responds (.canRxRead n) s n 0
      (fields 8 [(0, 1, min c v.q0.length)] ++ (v.q0.take c).flatMap recBytes) (s.mod.setCan k { v with q0 := v.q0.drop c })) ∧
    (leAt ps 1 1 = 1 → Responds (.canRxRead n) s n 0
      (fields 8 [(0, 1, min c v.q1.length)] ++ (v.q1.take c).flatMap recBytes) (s.mod.setCan k { v with q1 := v.q1.drop c }))) ∧
  (∀ s n ps, Asked s.mod n 0x0A07 ps → ps.length = 8 →
    let k := leAt ps 0 1
    k ≤ 3 → zeros ((ps.drop 1).take 7) = true → (n = 0 ∨ n = 14) → (s.mod.canCtl k).err = 2 →
    canAutoRecover (s.mod.canCtl k) = false →
    Responds (.canRecover n) s n 0 [] (s.mod.setCan k { (s.mod.canCtl k) with recovering := true })) ∧
  (∀ s n ps, Asked s.mod n 0x0A08 ps → ps.length = 8 →
    let k := leAt ps 0 1
    let v := s.mod.canCtl k
    k ≤ 3 → leAt ps 1 1 ≤ 1 → zeros ((ps.drop 2).take 6) = true →
    ∃ data, Responds (.canStatus n) s n 0 data
      (if leAt ps 1 1 = 1 then s.mod.setCan k { v with ctr := [], told := false } else s.mod) ∧ data.length = 76 ∧
      leAt data 0 1 = v.mode % 256 ∧ leAt data 1 1 = v.err % 256 ∧ leAt data 3 1 = v.recc % 256 ∧
      (∀ i, i < 17 → leAt data (8 + 4 * i) 4 = v.ctr.get 0 i % 2 ^ 32))

/-- R300, R305 to R313, R315. A requested mode takes effect while no frame is on the bus: OFF cancels what waits, leaving OFF begins error
active with counters zero, and the command ends. A powered controller out of OFF integrates, and leaves bus-off where recovery is
automatic or was asked for. On the bus and not sending: an error it detects adds 1 or 8 to the receive error counter, or 8 to the
transmit error counter after a flag it sent as transmitter, and sends an error frame, in NORMAL only, and is counted; a protocol exception is counted and ends integration. A frame of a format of Table 14-1 is
counted, acknowledged in NORMAL and RESTRICTED only, followed by an overload frame in NORMAL only where its overload condition asks, and in NORMAL lowers the receive error counter; a remote one is counted and stored
nowhere; a data frame is stored by the lowest RX object that matches it, and, without such an object or with COPY, its first filter puts
it at the end of a queue below 32 frames, counts it as lost at 32, or discards it, as no filter does. In NORMAL with a free bus the due
frame of the lowest key begins, with its time-stamp, and no other object changes. A frame that ends well goes onto the wire, is the
object's last, and takes 1 from the transmit error counter; lost arbitration or an error keeps it pending or lets a newer one replace
it, is counted, and an error that counts adds 8. A pending frame that has become late is dropped, or stays marked.
With PD_LS off no frame ends (R345). The amounts by which the error counters move, 119 to 127 among them, are ISO 11898-1's as the model
takes them (PRESUMED, log entry 39). -/
def Obligations.CanFrames : Prop :=
  (∀ s k mode rest d, k < 4 → domOn s.mod 47 = true → (s.mod.canCtl k).modeReq = mode :: rest → canBusy s.mod k = false → Outstanding s.mod 0x0A01 k d →
    ∃ t, exec (.canModeEffect k) s = .next t ∧ (t.mod.canCtl k).mode = mode ∧ (t.mod.canCtl k).modeReq = rest ∧
      t.mod.host.deferred = s.mod.host.deferred.erase d ∧
      ((s.mod.canCtl k).mode ≠ 0 → mode = 0 → (t.mod.canCtl k).integrated = false ∧
        ∀ o, o < 128 → (t.mod.canObj k o).pending = none ∧ (t.mod.canObj k o).newer = none) ∧
      ((s.mod.canCtl k).mode = 0 → mode ≠ 0 → (t.mod.canCtl k).tec = 0 ∧ (t.mod.canCtl k).recc = 0 ∧
        (t.mod.canCtl k).err = 0 ∧ (t.mod.canCtl k).integrated = false)) ∧
  (∀ s k, k < 4 → domOn s.mod 47 = true → (s.mod.canCtl k).mode ≠ 0 → (s.mod.canCtl k).integrated = false →
    Gives (.canBusIntegrated k) s (s.mod.setCan k { (s.mod.canCtl k) with integrated := true })) ∧
  (∀ s k, k < 4 → domOn s.mod 47 = true → (s.mod.canCtl k).mode ≠ 0 → (s.mod.canCtl k).err = 2 →
    (canAutoRecover (s.mod.canCtl k) = true ∨ (s.mod.canCtl k).recovering = true) →
    ∃ t, exec (.canBusoffRecovery k) s = .next t ∧ (t.mod.canCtl k).tec = 0 ∧ (t.mod.canCtl k).recc = 0 ∧
      (t.mod.canCtl k).err = 0 ∧ (t.mod.canCtl k).recovering = false ∧ (t.mod.canCtl k).objs = (s.mod.canCtl k).objs) ∧
  (∀ s k after flag, canLive s.mod k = true → canBusy s.mod k = false →
    let v := s.mod.canCtl k
    let own := v.flagTx && (after || flag)
    let tec := if own then v.tec + 8 else v.tec
    let recc := if own then v.recc else v.recc + (if after || flag then 8 else 1)
    (v.mode = 1 → ∃ t pre, exec (.canBusError k after flag false) s = .next t ∧ t.mod.wire = pre ++ .canError k :: s.mod.wire ∧
      (t.mod.canCtl k).tec = tec ∧ (t.mod.canCtl k).recc = min recc 255 ∧
      (t.mod.canCtl k).err = (if 255 < tec then 2 else if 128 ≤ tec ∨ 128 ≤ recc then 1 else 0) ∧
      (t.mod.canCtl k).ctr.get 0 14 = min (v.ctr.get 0 14 + 1) 0xFFFFFFFF) ∧
    (v.mode ≠ 1 → Gives (.canBusError k after flag false) s (canCount k 14 (s.mod.setCan k { v with flagTx := own }))) ∧
    Gives (.canBusError k after flag true) s (canCount k 16 (s.mod.setCan k { v with integrated := false }))) ∧
  (∀ s k (f : CanFrame), canLive s.mod k = true → canBusy s.mod k = false → canFrameOk f = true →
    let v := s.mod.canCtl k
    ∃ t pre, exec (.canRxFrame k f) s = .next t ∧
      t.mod.wire = pre ++ (if v.mode = 1 ∨ v.mode = 2 then [.canAck k] else []) ++ s.mod.wire ∧ Wire.canAck k ∉ pre ∧
      (Wire.canOverload k ∈ pre ↔ v.mode = 1 ∧ f.overload = true) ∧
      (t.mod.canCtl k).tec = v.tec ∧ (t.mod.canCtl k).ctr.get 0 0 = min (v.ctr.get 0 0 + 1) 0xFFFFFFFF ∧
      (v.mode = 1 → v.recc ≤ 127 → (t.mod.canCtl k).recc = v.recc - 1) ∧
      (v.mode = 1 → 127 < v.recc → 119 ≤ (t.mod.canCtl k).recc ∧ (t.mod.canCtl k).recc ≤ 127) ∧
      (v.mode ≠ 1 → (t.mod.canCtl k).recc = v.recc) ∧
      (f.remote = true → (t.mod.canCtl k).objs = v.objs ∧ (t.mod.canCtl k).q0 = v.q0 ∧ (t.mod.canCtl k).q1 = v.q1 ∧
        (t.mod.canCtl k).ctr.get 0 5 = min (v.ctr.get 0 5 + 1) 0xFFFFFFFF)) ∧
  (∀ s k (f : CanFrame), canLive s.mod k = true → canBusy s.mod k = false → canFrameOk f = true → f.remote = false →
    let v := s.mod.canCtl k
    let hit := fun i => ((v.filters.get {} i).action ≠ 0 ∧
      idMatches (v.filters.get {} i).ide (v.filters.get {} i).id (v.filters.get {} i).mask f = true)
    (∀ o, rxObject v f = some o →
      ∃ t, exec (.canRxFrame k f) s = .next t ∧
        t.mod.canObj k o = { (s.mod.canObj k o) with
          data := (rxRecord v (captured s.mod f.age) f).data, last := 1, count := min ((s.mod.canObj k o).count + 1) 0xFFFFFFFF
          lastFrame := rxRecord v (captured s.mod f.age) f } ∧
        ((s.mod.canObj k o).copy = false → (t.mod.canCtl k).q0 = v.q0 ∧ (t.mod.canCtl k).q1 = v.q1 ∧
        (t.mod.canCtl k).ctr.get 0 1 = min (v.ctr.get 0 1 + 1) 0xFFFFFFFF)) ∧
    ((∀ o, rxObject v f = some o → (s.mod.canObj k o).copy = true) →
      (∀ i, i < 64 → hit i → (∀ j, j < i → ¬ hit j) →
        ((v.filters.get {} i).action = 1 → v.q0.length < 32 → ∃ t, exec (.canRxFrame k f) s = .next t ∧
          (t.mod.canCtl k).q0 = v.q0 ++ [rxRecord v (captured s.mod f.age) f] ∧ (t.mod.canCtl k).q1 = v.q1) ∧
        ((v.filters.get {} i).action = 1 → 32 ≤ v.q0.length → ∃ t, exec (.canRxFrame k f) s = .next t ∧
          (t.mod.canCtl k).q0 = v.q0 ∧ (t.mod.canCtl k).ctr.get 0 4 = min (v.ctr.get 0 4 + 1) 0xFFFFFFFF) ∧
        ((v.filters.get {} i).action = 2 → v.q1.length < 32 → ∃ t, exec (.canRxFrame k f) s = .next t ∧
          (t.mod.canCtl k).q1 = v.q1 ++ [rxRecord v (captured s.mod f.age) f] ∧ (t.mod.canCtl k).q0 = v.q0) ∧
        ((v.filters.get {} i).action = 2 → 32 ≤ v.q1.length → ∃ t, exec (.canRxFrame k f) s = .next t ∧
          (t.mod.canCtl k).q1 = v.q1 ∧ (t.mod.canCtl k).ctr.get 0 4 = min (v.ctr.get 0 4 + 1) 0xFFFFFFFF) ∧
        ((v.filters.get {} i).action = 3 → ∃ t, exec (.canRxFrame k f) s = .next t ∧ (t.mod.canCtl k).q0 = v.q0 ∧
          (t.mod.canCtl k).q1 = v.q1 ∧ (t.mod.canCtl k).ctr.get 0 3 = min (v.ctr.get 0 3 + 1) 0xFFFFFFFF)) ∧
      ((∀ i, i < 64 → ¬ hit i) → ∃ t, exec (.canRxFrame k f) s = .next t ∧ (t.mod.canCtl k).q0 = v.q0 ∧
        (t.mod.canCtl k).q1 = v.q1 ∧ (t.mod.canCtl k).ctr.get 0 3 = min (v.ctr.get 0 3 + 1) 0xFFFFFFFF))) ∧
  (∀ s k meas o p, canLive s.mod k = true → (s.mod.canCtl k).mode = 1 → canBusy s.mod k = false →
    lowestKey (canDue s.mod k) = some o → (s.mod.canObj k o).pending = some p →
    ∃ t, exec (.canTxStart k meas) s = .next t ∧
      t.mod.canObj k o = { (s.mod.canObj k o) with
        pending := none, onBus := some { p with late := p.late || canLateNow s.mod (s.mod.canObj k o) p }
        sof := captured s.mod 0 + canTxLat (s.mod.canCtl k) } ∧
      (∀ q, q ≠ o → t.mod.canObj k q = s.mod.canObj k q)) ∧
  (∀ l o, lowestKey l = some o → ∃ k, (o, k) ∈ l ∧ ∀ x ∈ l, k ≤ x.2) ∧
  (∀ s k out, domOn s.mod 47 = false → exec (.canTxEnd k out) s = .next s) ∧
  (∀ s k o p, o < 128 → domOn s.mod 47 = true → (s.mod.canObj k o).onBus = some p → (∀ q, q < o → (s.mod.canObj k q).onBus = none) →
    let x := s.mod.canObj k o
    let v := s.mod.canCtl k
    (∃ t pre, exec (.canTxEnd k 0) s = .next t ∧ t.mod.wire = pre ++ .can k o p.data :: s.mod.wire ∧
      t.mod.canObj k o = { x with
        onBus := none, pending := x.newer, newer := none, last := 1, count := min (x.count + 1) 0xFFFFFFFF
        lastFrame := txRecord x p (v.err = 1) } ∧
      (v.mode = 1 → v.err ≠ 2 → (t.mod.canCtl k).tec = v.tec - 1)) ∧
    (∀ out, 1 ≤ out → out ≤ 3 → ∃ t, exec (.canTxEnd k out) s = .next t ∧
      t.mod.canObj k o = (match x.newer with
        | some q => { x with onBus := none, pending := some q, newer := none, last := 3 }
        | none => { x with onBus := none, pending := some p }) ∧
      (t.mod.canCtl k).tec = (if out = 2 ∧ v.mode = 1 ∧ v.err ≠ 2 then v.tec + 8 else v.tec) ∧
      (t.mod.canCtl k).ctr.get 0 7 = (if out = 1 then min (v.ctr.get 0 7 + 1) 0xFFFFFFFF else v.ctr.get 0 7) ∧
      (t.mod.canCtl k).ctr.get 0 14 = (if out = 1 then v.ctr.get 0 14 else min (v.ctr.get 0 14 + 1) 0xFFFFFFFF))) ∧
  (∀ s k o p, (s.mod.canObj k o).pending = some p → p.late = false → canLateAt s.mod (s.mod.canObj k o) p = true →
    let x := s.mod.canObj k o
    (x.lateSend = false → ∃ t, exec (.canFrameLate k o) s = .next t ∧ t.mod.canObj k o = { x with pending := none, last := 2 } ∧
      (t.mod.canCtl k).ctr.get 0 9 = min ((s.mod.canCtl k).ctr.get 0 9 + 1) 0xFFFFFFFF) ∧
    (x.lateSend = true → ∃ t, exec (.canFrameLate k o) s = .next t ∧
      t.mod.canObj k o = { x with pending := some { p with late := true } }))

/-! ### Host links and runners (chapter 15) -/

/-- R319, R320, R325, R327, R330, R332 to R334, R340, Tables 15-4 and 15-5. In execution, with parameters that break no condition of its
list: HL_STATUS answers 68 bytes, with the PCIe link and the counters as said, and clears the counters where asked. PCIE_GRANT sets a free
grant whose range overlaps no other; PCIE_UNGRANT, accepted, begins to withdraw one and leaves the others. CSI_TX_CONFIG sets a stopped
port for an automatic queue it consumes that holds a frame; CSI_TX_RUN starts a configured port at once, or asks it to stop. RUNNER_UP
begins to train a runner that is down and joins one that trains; up, it ends at once. During a power entry a start of a port and RUNNER_UP
are BUSY (R340). RUNNER_DOWN answers a runner that is down; another goes down, and what is in flight across it, no mover descriptor being
so, ends with LINK_FAILED. RUNNER_ROUTE sets the table, without an entry for this module. HL_ID_SCAN is accepted. HL_ID_READ answers a
slot's state and record. Grants, CSI-2, runners and the scan are the host's and the safety client's. The model's choices:
notes/assumptions/42 (CSI_TX_CONFIG leaves the frame number and a frame on the lanes) and notes/assumptions/80 (a runner that goes up or
down starts with an empty replay buffer and keeps what is in transit). -/
def Obligations.LinkCommands : Prop :=
  (∀ s n ps, Asked s.mod n 0x0E00 ps → ps.length = 8 → leAt ps 0 1 ≤ 1 → zeros ((ps.drop 1).take 7) = true →
    ∃ data, data.length = 68 ∧ leAt data 0 1 = (s.mod.links.pcieSpeed * 16 + s.mod.links.pcieWidth) % 256 ∧
      (∀ i, i < 14 → leAt data (12 + 4 * i) 4 = s.mod.links.ctr.get 0 i % 2 ^ 32) ∧
      Responds (.hlStatus n) s n 0 data
        { s.mod with
          links := { s.mod.links with ctr := if leAt ps 0 1 = 1 then [] else s.mod.links.ctr }
          freeCount := s.mod.freeCount + 1 }) ∧
  (∀ s n ps, Asked s.mod n 0x0E01 ps →
    let g := leAt ps 0 1
    let l := leAt ps 1 1
    let base := leAt ps 8 8
    ps.length = 24 → g ≤ 63 → 12 ≤ l → l ≤ 40 → zeros ((ps.drop 2).take 6) = true → base % 2 ^ l = 0 → leAt ps 16 8 % 4096 = 0 →
    0x10000000000 ≤ base → base + 2 ^ l ≤ 0x20000000000 →
    (∀ i o, i < 64 → s.mod.links.grants.get none i = some o → overlaps base (2 ^ l) o.coldBase (2 ^ o.log2) = false) →
    (n = 0 ∨ n = 14) → s.mod.links.grants.get none g = none →
    Responds (.pcieGrant n) s n 0 [] { s.mod with
      links := { s.mod.links with grants := s.mod.links.grants.put none g (some ⟨base, l, leAt ps 16 8, false⟩) } }) ∧
  (∀ s n ps v, Asked s.mod n 0x0E02 ps → Room s.mod n →
    let g := leAt ps 0 1
    ps.length = 8 → g ≤ 63 → zeros ((ps.drop 1).take 7) = true → (n = 0 ∨ n = 14) → s.mod.links.grants.get none g = some v →
    v.closing = false →
    Gives (.pcieUngrant n) s (withdrawGrant g (acceptedFor s.mod n g)) ∧
    ∃ t, exec (.pcieUngrant n) s = .next t ∧ t.mod.links.grants.get none g = some { v with closing := true } ∧
      ∀ i, i ≠ g → t.mod.links.grants.get none i = s.mod.links.grants.get none i) ∧
  (∀ s n ps, Asked s.mod n 0x0E03 ps → ps.length = 24 → txBad ps = false → zeros ((ps.drop 5).take 1) = true →
    zeros ((ps.drop 18).take 6) = true → (n = 0 ∨ n = 14) →
    let p := leAt ps 0 1
    let q := s.mod.queue (leAt ps 6 2)
    let t := s.mod.txPort p
    (leAt ps 14 2 + leAt ps 16 2) * leAt ps 12 2 / 8 ≤ capacity q → t.running = false → t.stopping = false → q.state ≠ 0 →
    q.consKind = 3 → q.consId = p → q.auto = true →
    Responds (.csiTxConfig n) s n 0 [] (s.mod.setTx p { t with
      live := true, phy := leAt ps 1 1, lanes := leAt ps 2 1, vc := leAt ps 3 1, dtype := leAt ps 4 1, queue := leAt ps 6 2
      rate := leAt ps 8 4, lineBytes := leAt ps 12 2, metaLines := leAt ps 14 2, dataLines := leAt ps 16 2, told := false })) ∧
  (∀ s n ps, Asked s.mod n 0x0E04 ps → Room s.mod n → ps.length = 8 → leAt ps 0 1 ≤ 1 → zeros ((ps.drop 2).take 6) = true →
    (n = 0 ∨ n = 14) →
    let p := leAt ps 0 1
    (s.mod.txPort p).live = true → (s.mod.txPort p).stopping = false →
    (leAt ps 1 1 = 1 → s.mod.power.entry = none →
      Gives (.csiTxRun n) s
        (finish 0x0E04 p 0 [] ((acceptedFor s.mod n p).setTx p { (s.mod.txPort p) with running := true }))) ∧
    (leAt ps 1 1 = 1 → s.mod.power.entry ≠ none → Responds (.csiTxRun n) s n 0x10 [] s.mod) ∧
    (leAt ps 1 1 = 0 →
      Gives (.csiTxRun n) s ((acceptedFor s.mod n p).setTx p { (s.mod.txPort p) with stopping := true }))) ∧
  (∀ s n ps, Asked s.mod n 0x0E05 ps → Room s.mod n → ps.length = 8 → leAt ps 0 1 ≤ 3 → zeros ((ps.drop 1).take 7) = true →
    (n = 0 ∨ n = 14) → s.mod.power.entry = none →
    let r := leAt ps 0 1
    ((s.mod.runner r).state = 0 → ∃ t, exec (.runnerUp n) s = .next t ∧ t.mod.runner r = { state := 1, transit := (s.mod.runner r).transit } ∧
      t.mod.host.deferred = s.mod.host.deferred ++ [⟨n, reqTag s.mod n, 0x0E05, r⟩]) ∧
    ((s.mod.runner r).state = 1 → Gives (.runnerUp n) s (acceptedFor s.mod n r)) ∧
    ((s.mod.runner r).state = 2 → Gives (.runnerUp n) s (finish 0x0E05 r 0 [] (acceptedFor s.mod n r)))) ∧
  (∀ s n ps, Asked s.mod n 0x0E05 ps → ps.length = 8 → leAt ps 0 1 ≤ 3 → zeros ((ps.drop 1).take 7) = true → (n = 0 ∨ n = 14) →
    s.mod.power.entry ≠ none → Responds (.runnerUp n) s n 0x10 [] s.mod) ∧
  (∀ s n ps, Asked s.mod n 0x0E06 ps → ps.length = 8 → leAt ps 0 1 ≤ 3 → zeros ((ps.drop 1).take 7) = true → (n = 0 ∨ n = 14) →
    let r := leAt ps 0 1
    ((s.mod.runner r).state = 0 → Responds (.runnerDown n) s n 0 [] s.mod) ∧
    ((s.mod.runner r).state ≠ 0 → (∀ c, c < 32 → (s.mod.core c).mover = []) →
      ∃ t, exec (.runnerDown n) s = .next t ∧ t.mod.runner r = { transit := (t.mod.runner r).transit } ∧
        (t.mod.mbx n).state = 3 ∧
        t.mod.fab.ops = s.mod.fab.ops.map (fun o =>
          if offModule s.mod o = true ∧ o.runner = some r ∧ o.phase = 2 then { o with phase := 3, status := 0xA } else o))) ∧
  (∀ s n ps, Asked s.mod n 0x0E07 ps → ps.length = 16 → (∀ i, i < 16 → leAt ps i 1 ≤ 3 ∨ leAt ps i 1 = 0xFF) →
    leAt ps s.mod.host.moduleId 1 = 0xFF → (n = 0 ∨ n = 14) →
    Responds (.runnerRoute n) s n 0 []
      { s.mod with links := { s.mod.links with route := (List.range 16).map (fun i => leAt ps i 1) } }) ∧
  (∀ s n ps, Asked s.mod n 0x0E08 ps → Room s.mod n → ps.length = 8 → zeros ps = true → (n = 0 ∨ n = 14) →
    Gives (.hlIdScan n) s (acceptedFor s.mod n 0)) ∧
  (∀ s n ps, Asked s.mod n 0x0E09 ps → ps.length = 8 → leAt ps 0 1 ≤ 1 → 0x50 ≤ leAt ps 1 1 → leAt ps 1 1 ≤ 0x57 →
    zeros ((ps.drop 2).take 6) = true →
    let r := slotRec s.mod (8 * leAt ps 0 1 + (leAt ps 1 1 - 0x50))
    ∃ data, Responds (.hlIdRead n) s n 0 data s.mod ∧ data.length = 264 ∧
      leAt data 0 1 = (match r with | none => 0 | some bs => if recordValid bs = true then 2 else 1) ∧
      (∀ bs, r = some bs → bs.length = 256 → data.drop 8 = bs))

/-- R126, R145, R316 to R325, R327 to R332, R413, R414. A link change is told and leaves the rest; the host's unmasking of a vector sets its
message and sends what is pending. A cold-frame transfer times out 50 ms after its start, counted: a load leaves its slot empty,
the commit or the IMAGE_FETCH ends. A grant withdrawn ends once nothing uses its range; a scan is kept, compared and told under R414; a port asked to stop stops once no frame is on its lanes. A running port's packet of the
right lines goes out as a frame of CSI-2 packets, its number advances, and its Frame End follows when its time is over; any other is
counted, and the first since CSI_TX_CONFIG told (0x0E12). The I3C target port takes an address, by ENTDAA with its provisional ID
and an IBI-capable BCR or by its own static address only; a private write, cut at the window's end, and a read reach the mailbox window;
in-band interrupts are raised one at a time. A training runner comes up, or stays down, and its commands end. A runner takes
a packet whose CRC is right and acknowledges it, an old one again too, and none after a bad one until that comes again. A packet for
this module waits for its check; one for another goes on with one more crossing, numbered and with its CRC; where
its egress retrains it waits, or with its buffer full is not taken; without a route it is answered NO_ROUTE. A retry
is counted, also in the jobs with packets in the replay, drops what was acknowledged, and replays the rest unless it is the eighth in a
row; a retrain is counted, and replays and then sends what waited, or the third that fails takes the runner down. The model's choices:
notes/assumptions/16 (MSIX_UNMASK writes the entry and enables MSI-X), 42 (what ungranting waits for, the time of a frame), 43 (the private
write cut at the window's end, one interrupt at a time), 83 (the scan that BUILD_ACCEPT accepted) and 80 (a retry's acknowledgement, the
eighth retry not replayed, a full transit buffer). -/
def Obligations.LinkEvents : Prop :=
  ((∀ s speed width, linkStateOk speed width = true → (mayTrain s.mod = true ∨ speed = 0) →
    let w := { s.mod with links := { s.mod.links with pcieSpeed := speed, pcieWidth := width } }
    (speed = s.mod.links.pcieSpeed → width = s.mod.links.pcieWidth → Gives (.pcieLinkChange speed width) s w) ∧
    (16 * speed + width ≠ 16 * s.mod.links.pcieSpeed + s.mod.links.pcieWidth →
      Gives (.pcieLinkChange speed width) s (event 0x0E10 0 [(0, 1, 16 * speed + width)] w))) ∧
  (∀ s v (addr : W64) (data : W32), v < 16 → s.mod.links.pcieSpeed ≠ 0 →
    let h := { s.mod.host with
      msixOn := true, msixMask := setBit s.mod.host.msixMask v false, msixTab := s.mod.host.msixTab.put (0, 0) v (addr, data) }
    (s.mod.host.msixPba.getLsbD v = false → Gives (.msixUnmask ⟨v, addr, data⟩) s { s.mod with host := h }) ∧
    (s.mod.host.msixPba.getLsbD v = true → Gives (.msixUnmask ⟨v, addr, data⟩) s
      { s.mod with host := { h with msixPba := setBit s.mod.host.msixPba v false }, wire := .msix v addr data :: s.mod.wire })) ∧
  (∀ s k slot i, s.mod.host.gState = 3 → k < 64 → slot < 16 → imageOf s.mod k slot = some i → i.loaded = false →
    0x10000000000 ≤ i.srcAddr →
    (i.startAt + 50 * msUnit ≤ s.mod.time.elapsed → ∃ t, exec (.coldFrameTimeout (16 * k + slot)) s = .next t ∧
      imageOf t.mod k slot = none ∧ t.mod.links.ctr.get 0 0 = min (s.mod.links.ctr.get 0 0 + 1) 0xFFFFFFFF) ∧
    (s.mod.time.elapsed < i.startAt + 50 * msUnit → Gives (.coldFrameTimeout (16 * k + slot)) s s.mod)) ∧
  (∀ s p, s.mod.host.gState = 3 → swapping s.mod = some p →
    (p.startAt + 50 * msUnit ≤ s.mod.time.elapsed → Gives (.coldFrameTimeout 1024) s
      (endCommit 0x32 p.pool { s.mod with links := { s.mod.links with ctr := bump s.mod.links.ctr 0 } })) ∧
    (s.mod.time.elapsed < p.startAt + 50 * msUnit → Gives (.coldFrameTimeout 1024) s s.mod)) ∧
  (∀ s f rest, s.mod.host.gState = 3 → s.mod.boot.fetching = f :: rest →
    (f.2.2 + 50 * msUnit ≤ s.mod.time.elapsed → ∃ t, exec (.coldFrameTimeout 1025) s = .next t ∧ t.mod.boot.fetching = rest ∧
      t.mod.links.ctr.get 0 0 = min (s.mod.links.ctr.get 0 0 + 1) 0xFFFFFFFF) ∧
    (s.mod.time.elapsed < f.2.2 + 50 * msUnit → Gives (.coldFrameTimeout 1025) s s.mod)) ∧
  (∀ s g v d, s.mod.host.gState = 3 → s.mod.links.grants.get none g = some v → v.closing = true →
    Outstanding s.mod 0x0E02 g d →
    (rangeBusy s.mod v.coldBase (2 ^ v.log2) = false →
      ∃ t, exec (.pcieUngrantComplete g) s = .next t ∧ t.mod.links.grants.get none g = none ∧
        t.mod.host.deferred = s.mod.host.deferred.erase d ∧ t.mod.hostMem = s.mod.hostMem) ∧
    (rangeBusy s.mod v.coldBase (2 ^ v.log2) = true → Gives (.pcieUngrantComplete g) s s.mod)) ∧
  (∀ s recs, s.mod.host.gState = 3 → findDeferred s.mod 0x0E08 0 ≠ none →
    let ids := recs.take 16
    let same := s.mod.boot.quiet = some ids
    let k := if same then [0, 0, 0, 0] else buildMasks { s.mod with links := { s.mod.links with ids := ids } }
    let w := { s.mod with
      links := { s.mod.links with ids := ids }
      boot := { s.mod.boot with masks := k, compared := true, quiet := if same then s.mod.boot.quiet else none } }
    let e := event 0x0D10 0 [(0, 2, (k.getD 0 0).toNat), (2, 2, (k.getD 1 0).toNat), (4, 2, (k.getD 2 0).toNat), (6, 2, (k.getD 3 0).toNat)] w
    let valid := leBytes 2 (maskOf 16 ((List.range 16).filter (fun i => slotState (ids.getD i none) = 2))).toNat
    ((∃ x ∈ k, x ≠ 0) → (s.mod.boot.compared = false ∨ k ≠ s.mod.boot.masks) → Gives (.hlIdScanComplete recs) s (finish 0x0E08 0 0 valid e)) ∧
    (((∀ x ∈ k, x = 0) ∨ (s.mod.boot.compared = true ∧ k = s.mod.boot.masks)) →
      Gives (.hlIdScanComplete recs) s (finish 0x0E08 0 0 valid w))) ∧
  (∀ s p, (s.mod.txPort p).stopping = true →
    ((s.mod.txPort p).frame = none → ∃ t, exec (.csiTxStopComplete p) s = .next t ∧
      t.mod.txPort p = { (s.mod.txPort p) with running := false, stopping := false }) ∧
    ((s.mod.txPort p).frame ≠ none → Gives (.csiTxStopComplete p) s s.mod)) ∧
  (∀ s p, p < 2 →
    let t := s.mod.txPort p
    let v := s.mod.queue t.queue
    t.running = true → t.stopping = false → t.frame = none → domOn s.mod 46 = true → domOn s.mod 40 = true → v.state = 1 → v.consKind = 3 →
    v.consId = p → (∃ e ∈ v.eops, v.main.rp ≤ e.1) →
    let ws := (popPacket (occupancy v) t.queue s.mod []).2
    let md := (ws.filter (fun w => (w.tag.extractLsb' 0 4).toNat = 15)).flatMap (fun w => leBytes 8 w.data.toNat)
    let data := (ws.filter (fun w => (w.tag.extractLsb' 0 4).toNat ≠ 15)).flatMap (fun w => leBytes 8 w.data.toNat)
    (md.length = t.metaLines * t.lineBytes → data.length = t.dataLines * t.lineBytes →
      ∃ u pre rest at_, exec (.csiTxFrame p) s = .next u ∧
        u.mod.wire = pre ++ .csi p (csiFrame t (statusLine t at_ ws :: linesOf t.metaLines t.lineBytes md)
          (linesOf t.dataLines t.lineBytes data)) :: rest ∧
        u.mod.txPort p = { t with
          num := if t.num ≥ 65535 then 1 else t.num + 1, frame := some (csiFrameEnd t, s.mod.time.elapsed + frameTime t) } ∧
        u.mod.links.ctr.get 0 (10 + p) = min (s.mod.links.ctr.get 0 (10 + p) + 1) 0xFFFFFFFF) ∧
    ((md.length ≠ t.metaLines * t.lineBytes ∨ data.length ≠ t.dataLines * t.lineBytes) →
      ∃ u, exec (.csiTxFrame p) s = .next u ∧ u.mod.txPort p = { t with told := true } ∧
        u.mod.links.ctr.get 0 (12 + p) = min (s.mod.links.ctr.get 0 (12 + p) + 1) 0xFFFFFFFF ∧
        (t.told = false → ∃ w, u.mod = event 0x0E12 0 [(0, 1, p)] w ∧ w.txPort p = { t with told := true }))) ∧
  (∀ s p e T, p < 2 → s.pending = [] → (s.mod.txPort p).frame = some (e, T) →
    (T ≤ (tscCycle s.mod).time.elapsed → ∃ u, step s = .next u ∧ u.mod.txPort p = { (s.mod.txPort p) with frame := none } ∧
      Wire.csi p [e] ∈ u.mod.wire) ∧
    ((tscCycle s.mod).time.elapsed < T → ∃ u, step s = .next u ∧ u.mod.txPort p = s.mod.txPort p))) ∧
  ((∀ s addr, domOn s.mod 37 = true → domOn s.mod 47 = true → addr < 128 →
    let host := { s.mod.host with i3cAddr := some addr }
    (∃ bcr : Byte, bcr &&& 6 = 6 ∧ Gives (.i3cAddressAssign addr none) s { s.mod with
      host := host, freeCount := s.mod.freeCount + 1
      wire := .i3cId (BitVec.ofNat 48 (0x2F2A * 2 ^ 33 + s.mod.host.part * 2 ^ 16 + s.mod.host.moduleId * 2 ^ 12
        + s.mod.host.serialNo.toNat % 2 ^ 12)) bcr :: s.mod.wire }) ∧
    Gives (.i3cAddressAssign addr (some (0x28 + s.mod.host.moduleId))) s { s.mod with host := host } ∧
    (∀ a, a ≠ 0x28 + s.mod.host.moduleId → Gives (.i3cAddressAssign addr (some a)) s s.mod)) ∧
  (∀ s off bs, reached .i3c s.mod = true → bs.length ≤ 512 → off < 0x10000 →
    Gives (.i3cPrivateWrite off bs) s
      (windowWrite .i3c off (bs.take (0x10000 - off)) { s.mod with host := { s.mod.host with i3cOff := off } })) ∧
  (∀ s n, reached .i3c s.mod = true →
    Gives (.i3cPrivateRead n) s
      { s.mod with
        host := { s.mod.host with i3cOff := (s.mod.host.i3cOff + n) % 0x10000 }
        wire := .i3c ((List.range n).map (fun i => windowByte s.mod ((s.mod.host.i3cOff + i) % 0x10000))) :: s.mod.wire }) ∧
  (∀ s, reached .i3c s.mod = true →
    Gives (.i3cEnec false) s { s.mod with host := { s.mod.host with ibiOn := false } } ∧
    (∀ n rest, s.mod.host.ibiRaised = none → bitsOf s.mod.host.ibiPend = n :: rest →
      Gives (.i3cEnec true) s
        { s.mod with host := { s.mod.host with ibiOn := true, ibiRaised := some n }, wire := .ibi n :: s.mod.wire }) ∧
    ((s.mod.host.ibiRaised ≠ none ∨ bitsOf s.mod.host.ibiPend = []) → Gives (.i3cEnec true) s { s.mod with host := { s.mod.host with ibiOn := true } })) ∧
  (∀ s n, domOn s.mod 47 = true → s.mod.host.ibiRaised = some n → s.mod.host.ibiOn = true →
    let pend := setBit s.mod.host.ibiPend n false
    (bitsOf pend = [] →
      Gives (.i3cIbiAccepted n) s { s.mod with host := { s.mod.host with ibiRaised := none, ibiPend := pend } }) ∧
    (∀ k rest, bitsOf pend = k :: rest →
      Gives (.i3cIbiAccepted n) s
        { s.mod with host := { s.mod.host with ibiRaised := some k, ibiPend := pend }, wire := .ibi k :: s.mod.wire })) ∧
  (∀ s r width peer, r < 4 → domOn s.mod 44 = true → (s.mod.runner r).state = 1 → peer < 16 →
    ((width = 4 ∨ width = 8) → peer ≠ s.mod.host.moduleId →
      ∃ t, exec (.runnerTrained r width peer) s = .next t ∧
        t.mod.runner r = { state := 2, width := width, peer := some peer, transit := (s.mod.runner r).transit } ∧
        t.mod.host.deferred = s.mod.host.deferred.filter (fun d => !(d.code == 0x0E05 && d.key == r))) ∧
    ((width = 0 ∨ ((width = 4 ∨ width = 8) ∧ peer = s.mod.host.moduleId)) →
      ∃ t, exec (.runnerTrained r width peer) s = .next t ∧ t.mod.runner r = { transit := (s.mod.runner r).transit } ∧
        t.mod.host.deferred = s.mod.host.deferred.filter (fun d => !(d.code == 0x0E05 && d.key == r)))) ∧
  (∀ s r seq ok p waits, r < 4 → domOn s.mod 44 = true → (s.mod.runner r).state = 2 → p.dest < 16 →
    let v := s.mod.runner r
    let c := Instr.runnerPacketReceive r { seq := seq, crcOk := ok, packet := p, waits := waits }
    let bad := if v.rxBad = some seq then none else v.rxBad
    let empty := ∀ k < 4, (s.mod.runner k).transit = []
    let held := (v.transit.filter (fun w => w.1.crossed == p.crossed)).length
    let away := p.dest ≠ s.mod.host.moduleId ∧ p.crossed < 4 ∧ s.mod.links.route.getD p.dest 0xFF < 4 ∧
      (s.mod.runner (s.mod.links.route.getD p.dest 0xFF)).state = 2
    let x := s.mod.links.route.getD p.dest 0xFF
    let q := { p with crossed := p.crossed + 1 }
    (ok = false → v.rx ≤ seq →
      Gives c s (s.mod.setRunner r { v with rxBad := some (match v.rxBad with | some b => min seq b | none => seq) })) ∧
    (ok = false → seq < v.rx → Gives c s s.mod) ∧
    (ok = true → seq < v.rx → Gives c s { s.mod with wire := .linkAck r seq :: s.mod.wire }) ∧
    (∀ b, ok = true → v.rx ≤ seq → v.rxBad = some b → b < seq → Gives c s s.mod) ∧
    (ok = true → v.rx ≤ seq → (∀ b, v.rxBad = some b → seq ≤ b) →
      (∀ o, p.dest = s.mod.host.moduleId → p.op = some o → ∃ t, exec c s = .next t ∧
        t.mod.fab.ops = s.mod.fab.ops ++ [{ peerRop { o with runner := r } with id := s.mod.fab.nextOp }] ∧
        t.mod.wire.head? = some (.linkAck r seq) ∧ (t.mod.runner r).rx = seq + 1 ∧ (t.mod.runner r).rxBad = bad) ∧
      (away → waits = false → empty → (s.mod.runner x).retryRun < 8 → pathBlocked s.mod (partOfRunner r) (partOfRunner x) = false →
        let n := (s.mod.runner x).seq
        ∃ t pre, exec c s = .next t ∧ pre.length ≤ 1 ∧ (p.op = none → pre = []) ∧
          t.mod.wire = .linkAck r seq :: (pre ++ .runner x n (Config.linkCrc n (.transit q)) (.transit q) :: s.mod.wire) ∧
          ⟨n, s.mod.time.elapsed, .transit q⟩ ∈ (t.mod.runner x).replay ∧ (t.mod.runner r).rx = seq + 1) ∧
      (away → (waits = true ∨ (empty ∧ 8 ≤ (s.mod.runner x).retryRun)) → held < 64 → ∃ t pre, exec c s = .next t ∧
        (t.mod.runner r).transit = v.transit ++ [(p, s.mod.time.elapsed)] ∧ pre.length ≤ 1 ∧
        t.mod.wire = .linkAck r seq :: (pre ++ s.mod.wire) ∧ (t.mod.runner r).rx = seq + 1) ∧
      (away → waits = true → 64 ≤ held → Gives c s s.mod) ∧
      (∀ o y, p.dest ≠ s.mod.host.moduleId → p.op = some o → waits = true →
        (4 ≤ p.crossed ∨ 4 ≤ x ∨ (s.mod.runner x).state ≠ 2) → answerRoute s.mod r o.module = some y → (s.mod.runner y).retryRun < 8 →
        let n := (s.mod.runner y).seq
        let a := LinkPacket.reply o.module 1 2 [] []
        ∃ t pre, exec c s = .next t ∧ t.mod.links.ctr.get 0 9 = min (s.mod.links.ctr.get 0 9 + 1) 0xFFFFFFFF ∧ pre.length ≤ 1 ∧
          t.mod.wire = .linkAck r seq :: (pre ++ .runner y n (Config.linkCrc n a) a :: s.mod.wire)))) ∧
  (∀ s r f, r < 4 → (s.mod.runner r).state = 2 → (s.mod.runner r).retryRun < 8 →
    let v := s.mod.runner r
    ((∃ p ∈ v.replay, p.seq = f.seq ∧ (f.silent = true → p.at_ + usUnit ≤ s.mod.time.elapsed)) →
      let left := v.replay.filter (fun p => decide (f.seq ≤ p.seq))
      let run := if v.retrySeq = some f.seq then v.retryRun + 1 else 1
      let hit := fun (j : Job) => j.firstDispatch ≠ none ∧ ∃ p ∈ left, ∃ q, p.packet = .own q ∧ q.body.context = j.ctx
      ∃ t, exec (.runnerRetry r f) s = .next t ∧
        t.mod.links.ctr.get 0 (1 + r) = min (s.mod.links.ctr.get 0 (1 + r) + 1) 0xFFFFFFFF ∧
        (run < 8 →
          t.mod.runner r = { v with
            replay := left.map (fun p => { p with at_ := s.mod.time.elapsed }), retrySeq := some f.seq, retryRun := run } ∧
          t.mod.wire = (left.map (fun p => Wire.runner r p.seq (Config.linkCrc p.seq p.packet) p.packet)).reverse ++ s.mod.wire) ∧
        (8 ≤ run → t.mod.runner r = { v with replay := left, retrySeq := some f.seq, retryRun := run } ∧ t.mod.wire = s.mod.wire) ∧
        t.mod.sched.jobs.length = s.mod.sched.jobs.length ∧
        (∀ (i : Nat) (j : Job), s.mod.sched.jobs[i]? = some j → ∃ k, t.mod.sched.jobs[i]? = some k ∧
          (hit j → k = { j with retries := min (j.retries + 1) 0xFFFFFFFF }) ∧ (¬ hit j → k = j))) ∧
    ((∀ p ∈ v.replay, p.seq = f.seq → f.silent = true ∧ s.mod.time.elapsed < p.at_ + usUnit) → Gives (.runnerRetry r f) s s.mod)) ∧
  (∀ s r, r < 4 → (s.mod.runner r).state = 2 → (s.mod.runner r).retryRun = 8 →
    let v := s.mod.runner r
    (∃ t post, exec (.runnerRetrain r true) s = .next t ∧ (t.mod.runner r).state = 2 ∧ (t.mod.runner r).retryRun = 0 ∧
      (t.mod.runner r).failRun = 0 ∧ (t.mod.runner r).retrySeq = none ∧ (t.mod.runner r).queue = [] ∧
      t.mod.wire = post ++ ((v.queue.zipIdx v.seq).map (fun p => Wire.runner r p.2 (Config.linkCrc p.2 p.1) p.1)).reverse
        ++ (v.replay.map (fun p => Wire.runner r p.seq (Config.linkCrc p.seq p.packet) p.packet)).reverse ++ s.mod.wire) ∧
    (v.failRun < 2 → ∃ t, exec (.runnerRetrain r false) s = .next t ∧ t.mod.runner r = { v with failRun := v.failRun + 1 } ∧
      t.mod.wire = s.mod.wire) ∧
    (2 ≤ v.failRun → ∃ t, exec (.runnerRetrain r false) s = .next t ∧ t.mod.runner r = { transit := (t.mod.runner r).transit }) ∧
    (∀ ok, ∃ t, exec (.runnerRetrain r ok) s = .next t ∧
      t.mod.links.ctr.get 0 (5 + r) = min (s.mod.links.ctr.get 0 (5 + r) + 1) 0xFFFFFFFF)))
/-! ### Power (chapter 16) -/

/-- R338, R339, R343, R349 to R351, R382, Tables 16-2, 16-9 and 16-10. In execution, with parameters that break no condition of its list,
from the host or safety client but for the two status reads: PWR_STATUS answers 208 bytes, with domains, latches and the last refusal as
said, and clears counters and last refusal and abort where asked. PWR_STATE to another state, no entry or wake being under way: out of Hold
or Sleep towards Run or Hold it starts a wake, otherwise an entry; what a unit refuses is answered REFUSED, recorded and counted. A target is
refused where a row of Table 16-2 says so, and the refuser is the lowest unit that has one. PWR_DOMAIN in Run: a switch on is accepted and
waits; a domain no unit refuses is off at once, no other changes, and its completion waits; a refusal is answered and recorded; a core, a
quadrant and each unit's domain are refused exactly on what R350 names. PWR_WAKE_CONFIG sets mask, target and time. CLK_STATUS answers 73
bytes, with Gragor's clock as said. The model's choices (notes/assumptions/45): PWR_DOMAIN off takes effect at acceptance, the clear flag
sets LAST_OBJECT to 0xFFFF, the job named is the first accepted, and JOB_SUBMIT counts for reason 3. -/
def Obligations.PowerCommands : Prop :=
  (∀ s n ps, Asked s.mod n 0x0200 ps → ps.length = 8 → leAt ps 0 1 ≤ 1 → zeros ((ps.drop 1).take 7) = true →
    ∃ data, data.length = 208 ∧ leAt data 8 8 = s.mod.power.on.toNat ∧ leAt data 4 1 = s.mod.power.lastRefuser % 256 ∧
      leAt data 5 1 = s.mod.power.lastReason % 256 ∧ leAt data 3 1 = s.mod.power.latches.toNat ∧
      Responds (.pwrStatus n) s n 0 data (if leAt ps 0 1 = 1 then
        { s.mod with power := { s.mod.power with
                                refusedBy := [], abortedBy := [], lastRefuser := 0xFF, lastReason := 0xFF, lastObject := 0xFFFF
                                lastAborter := 0xFF, abortReason := 0xFF } }
        else s.mod)) ∧
  (∀ s n ps, Asked s.mod n 0x0201 ps → Room s.mod n →
    let t := leAt ps 0 1
    ps.length = 8 → t ≠ 1 → t ≤ 4 → leAt ps 1 1 ≤ 1 → zeros ((ps.drop 2).take 6) = true → (n = 0 ∨ n = 14) →
    t ≠ s.mod.power.state → s.mod.power.entry = none → s.mod.power.waking = none → s.mod.power.state ≠ 4 →
    (isWake s.mod t = true → (s.mod.power.state = 2 ∨ s.mod.power.state = 3) → Gives (.pwrState n) s
      (let m := acceptedFor s.mod n 0
       { m with power := { m.power with waking := some t, wakeCause := 0x20 } })) ∧
    (isWake s.mod t = false → refusal s.mod t (leAt ps 1 1 = 1) = none →
      Gives (.pwrState n) s (startEntry t 0x20 (acceptedFor s.mod n 0))) ∧
    (∀ r, isWake s.mod t = false → refusal s.mod t (leAt ps 1 1 = 1) = some r →
      Responds (.pwrState n) s n 0x25 [] { s.mod with
        power := { s.mod.power with
                   lastRefuser := r.1, lastReason := r.2.1, lastObject := r.2.2
                   refusedBy := s.mod.power.refusedBy.put 0 r.1 (min 0xFFFF (s.mod.power.refusedBy.get 0 r.1 + 1)) } })) ∧
  (∀ s n ps, Asked s.mod n 0x0202 ps → Room s.mod n →
    let d := leAt ps 0 1
    ps.length = 8 → switchable s.mod d = true → leAt ps 1 1 ≤ 1 → zeros ((ps.drop 2).take 6) = true → (n = 0 ∨ n = 14) →
    s.mod.power.state = 0 → s.mod.power.entry = none →
    (leAt ps 1 1 = 1 → Gives (.pwrDomain n) s
      (let m := acceptedFor s.mod n d
       { m with power := { m.power with domainReq := m.power.domainReq ++ [(d, true)] } })) ∧
    (leAt ps 1 1 = 0 → domainRefusal s.mod d = none →
      ∃ t, exec (.pwrDomain n) s = .next t ∧ domOn t.mod d = false ∧ t.mod.power.offByCmd.getLsbD d = true ∧
        t.mod.power.domainReq = s.mod.power.domainReq ++ [(d, false)] ∧ (∀ e, e ≠ d → domOn t.mod e = domOn s.mod e)) ∧
    (∀ r, leAt ps 1 1 = 0 → domainRefusal s.mod d = some r →
      Responds (.pwrDomain n) s n 0x25 [] (recordRefusal r s.mod))) ∧
  (∀ s n ps, Asked s.mod n 0x0203 ps → ps.length = 24 → leAt ps 0 4 ≤ 63 → (leAt ps 4 1 = 0 ∨ leAt ps 4 1 = 2) →
    leAt ps 16 4 < 1000000000 → zeros ((ps.drop 5).take 3) = true → zeros ((ps.drop 20).take 4) = true → (n = 0 ∨ n = 14) →
    Responds (.pwrWakeConfig n) s n 0 [] { s.mod with
      power := { s.mod.power with
                 wakeMask := BitVec.ofNat 6 (leAt ps 0 4), wakeTo := leAt ps 4 1
                 wakeAt := some ((leAt ps 8 8 * 1000000000 + leAt ps 16 4) * 2 ^ 64) } }) ∧
  (∀ s n ps, Asked s.mod n 0x0204 ps → ps.length = 8 → zeros ps = true →
    ∃ data, Responds (.clkStatus n) s n 0 data s.mod ∧ data.length = 73 ∧
      leAt data 16 4 = (if domOn s.mod 37 then (if s.mod.power.onFio then 200000 else 1100000) else 0)) ∧
  (∀ m target park,
    let refuses : Nat → Nat → Nat → Prop := fun unit why obj =>
      (unit < 32 ∧ why = 1 ∧ park = false ∧ ∃ j ∈ m.sched.jobs, j.state ≠ .queued ∧ j.ctx = obj ∧ j.mask.getLsbD unit = true ∧
        ∀ i < unit, j.mask.getLsbD i = false) ∨
      (unit = 0x20 ∧ why = 2 ∧ obj < 32 ∧ kvBusy m obj = true) ∨
      (unit = 0x20 ∧ why = 3 ∧ target ≠ 2 ∧ ∃ d ∈ m.host.deferred, d.client = obj) ∨
      (unit = 0x21 ∧ why = 4 ∧ obj < 16 ∧ (m.stream obj).state = 2) ∨
      (unit = 0x22 ∧ why = 5 ∧ target ≠ 2 ∧ obj < 64 ∧ (m.loop obj).state ≠ .off) ∨
      (unit = 0x23 ∧ why = 6 ∧ target ≠ 2 ∧ obj < 512 ∧ (m.queue obj).state = 1 ∧ occupancy (m.queue obj) ≠ 0) ∨
      (unit = 0x25 ∧ why = 7 ∧ obj < 4 ∧ (m.runner obj).state ≠ 0) ∨
      (unit = 0x26 ∧ why = 8 ∧ target ≠ 2 ∧ obj < 4 ∧ ∃ q < 8, (m.lq obj q).frames ≠ []) ∨
      (unit = 0x28 ∧ why = 9 ∧ obj < 2 ∧ (m.txPort obj).running = true) ∨
      (unit = 0x29 ∧ why = 10 ∧ obj = 0 ∧ ((target ≠ 2 ∧ m.safety.asserted = false) ∨
        ∃ k < 64, let w := m.safety.wdogs.get {} k; (w.state = 1 ∨ w.state = 2) ∧ ¬(target = 2 ∧ (w.source = 2 ∨ w.source = 5)))) ∨
      (unit = 0x2A ∧ why = 11 ∧ obj < 4 ∧
        ((∃ i < 512, (m.queue i).state ≠ 0 ∧ ∃ r ∈ queueRegions (m.queue i), inQuad obj r.1 r.2 = true) ∨
         (∃ w < 256, (m.window w).state = 1 ∧ inQuad obj (m.window w).base (2 ^ (m.window w).log2) = true) ∨
         (∃ i < 16, let c := (m.stream i).cfg;
            (m.stream i).state ≠ 0 ∧ c.conceal = 2 ∧ inQuad obj c.refBase (c.wIn * c.hIn * channelsOf i c) = true) ∨
         ∃ p < 4, ∃ f < 16, ∃ v, (m.port p).filters.get none f = some v ∧ inQuad obj v.base (64 + v.slots * 2048) = true))
    (refusal m target park = none ↔ ∀ unit why obj, ¬ refuses unit why obj) ∧
    ∀ r, refusal m target park = some r →
      refuses r.1 r.2.1 r.2.2 ∧ ∀ unit why obj, refuses unit why obj → r.1 < unit ∨ (r.1 = unit ∧ r.2.1 ≤ why)) ∧
  (∀ m d, switchable m d = true →
    let refuses : Nat → Nat → Nat → Prop := fun unit why obj =>
      (d < 32 ∧ unit = d ∧ why = 1 ∧ ∃ j ∈ m.sched.jobs, j.mask.getLsbD d = true ∧ j.ctx = obj) ∨
      (32 ≤ d ∧ d < 36 ∧ unit = 0x2A ∧ why = 11 ∧ obj = d - 32 ∧ quadUsed m (d - 32) = true) ∨
      (d = 38 ∧ unit = 0x22 ∧ why = 5 ∧ obj < 64 ∧ (m.loop obj).state ≠ .off) ∨
      (d = 39 ∧ unit = 0x21 ∧ why = 4 ∧ obj < 16 ∧ (m.stream obj).state = 2) ∨
      (d = 44 ∧ unit = 0x25 ∧ why = 7 ∧ obj < 4 ∧ (m.runner obj).state ≠ 0) ∨
      (d = 45 ∧ unit = 0x26 ∧ why = 8 ∧ obj < 4 ∧ ((m.port obj).enable = true ∨ ∃ q < 8, (m.lq obj q).frames ≠ [])) ∨
      (d = 46 ∧ unit = 0x28 ∧ why = 9 ∧ obj < 2 ∧ (m.txPort obj).running = true)
    (domainRefusal m d = none ↔ ∀ unit why obj, ¬ refuses unit why obj) ∧
    ∀ r, domainRefusal m d = some r → refuses r.1 r.2.1 r.2.2)

/-- R337 to R341, R343 to R346, R350, R351, with Gragor running but for WAKE_AT. A waiting request for Hold, in Run: where no unit
refuses, an entry to Hold begins for Gragor or the safety block; a refusal is recorded, and the request is gone; in Hold it has been met.
An entry asks every dispatched job to park, on all its cores. Complete, with all parked and no abort due, it is in its target: only
the domains the target keeps stay on, a core's scratchpad reads as zero, DDR4 keeps its bytes (the runners being down), Sleep captures
the latch of SAFE_FAULT#, Off those of TXD as well, recessive. An abort ends it in the state it left, with every domain as it was, its
aborter recorded; before any domain was switched it changes no memory. WAKE_AT, when network time has reached it, starts a wake from Hold
or Sleep towards WAKE_TO, or makes an abort due in an entry to either. A wake sequence ends in its target; in Run every domain is on but those
switched off by command and held cores. A PWR_DOMAIN completes, for a switch on once its domain is usable, which it then is, unless an off
accepted later is the next of that domain: it is then off again. The model's choices: notes/assumptions/2 (what a domain that goes off has lost
reads as zero) and 45 (an internal request is met in Hold, WAKE_AT is used up once, an off pending behind an on, the unit of an entry's
cause) -/
def Obligations.PowerTransitions : Prop :=
  (∀ s fromSafety, s.mod.host.gState = 3 →
    let who := if fromSafety then 2 else 1
    s.mod.power.waiting.contains who = true → s.mod.power.entry = none → s.mod.power.waking = none → s.mod.power.state = 0 →
    (refusal { s.mod with power := { s.mod.power with waiting := s.mod.power.waiting.erase who } } 2 true = none →
      ∃ t, exec (.powerEntryRequest fromSafety) s = .next t ∧ t.mod.power.entry = some 2 ∧
        t.mod.power.entryUnit = (if fromSafety then 0x29 else 0x20) ∧ t.mod.power.waiting = s.mod.power.waiting.erase who) ∧
    (∀ r, refusal { s.mod with power := { s.mod.power with waiting := s.mod.power.waiting.erase who } } 2 true = some r →
      ∃ t, exec (.powerEntryRequest fromSafety) s = .next t ∧ t.mod.power.entry = none ∧ t.mod.power.lastRefuser = r.1 ∧
        t.mod.power.lastReason = r.2.1 ∧ t.mod.power.lastObject = r.2.2 ∧ t.mod.sched = s.mod.sched)) ∧
  (∀ s fromSafety, s.mod.host.gState = 3 → s.mod.power.entry = none → s.mod.power.waking = none → s.mod.power.state = 2 →
    let who := if fromSafety then 2 else 1
    s.mod.power.waiting.contains who = true →
    Gives (.powerEntryRequest fromSafety) s { s.mod with power := { s.mod.power with waiting := s.mod.power.waiting.erase who } }) ∧
  (∀ m target unit, (m.sched.jobs.map (·.id)).Nodup →
    let t := startEntry target unit m
    t.power.entry = some target ∧ t.power.entryUnit = unit ∧
    (∀ j ∈ t.sched.jobs, j.state = .dispatched → j.parkAt ≠ none) ∧
    (∀ j ∈ m.sched.jobs, j.state = .dispatched → j.parkAt = none → ∀ c ∈ bitsOf j.mask, (t.core c).parkReq = true)) ∧
  (∀ s target, s.mod.host.gState = 3 → s.mod.power.entry = some target → allParked s.mod = true → s.mod.power.abortDue = none →
    (target = 2 ∨ target = 3 ∨ target = 4) →
    ∃ t, exec .powerEntryComplete s = .next t ∧ t.mod.power.state = target ∧ t.mod.power.entry = none ∧
      (∀ d, d < 50 → domOn t.mod d = (domOn s.mod d && (keeps target).contains d)) ∧
      (∀ c a, c < 32 → domOn s.mod c = true → spadBase c ≤ a → a < spadBase c + 0x80000 → memByte t.mod.mem a = 0) ∧
      ((∀ r, r < 4 → (s.mod.runner r).state = 0) → ∀ a, a < 0xE00000000 → memByte t.mod.mem a = memByte s.mod.mem a) ∧
      t.mod.power.latches = s.mod.power.latches ||| (if target = 2 then 0 else if target = 3 then 1 else 0x1F) ∧
      (target ≠ 2 → s.mod.power.latches.getLsbD 0 = false → t.mod.power.levels.getLsbD 0 = !s.mod.safety.asserted) ∧
      (∀ i, target = 4 → 1 ≤ i → i ≤ 4 → s.mod.power.latches.getLsbD i = false → t.mod.power.levels.getLsbD i = true)) ∧
  (∀ s target reason unit u off d failed, s.mod.host.gState = 3 → s.mod.power.entry = some target →
    abortCause reason unit s.mod = some u → (off = 0 ∨ allParked s.mod = true) → Outstanding s.mod 0x0201 0 d →
    ∃ t, exec (.powerEntryAbort reason unit off failed) s = .next t ∧ t.mod.power.entry = none ∧
      t.mod.power.state = s.mod.power.state ∧ (∀ d, d < 50 → domOn t.mod d = domOn s.mod d) ∧ t.mod.power.lastAborter = u ∧
      t.mod.power.abortReason = reason ∧ t.mod.sched.due = true ∧
      (off = 0 → t.mod.host.deferred = s.mod.host.deferred.erase d ∧ t.mod.mem = s.mod.mem)) ∧
  (∀ s at_, s.mod.power.wakeAt = some at_ → s.mod.power.wakeMask.getLsbD 1 = true → at_ ≤ s.mod.time.now →
    domOn s.mod 49 = true →
    (s.mod.power.entry = none → s.mod.power.waking = none → (s.mod.power.state = 2 ∨ s.mod.power.state = 3) →
      (s.mod.power.wakeTo = 0 ∨ s.mod.power.wakeTo = 2) → Gives .wakeAt s { s.mod with
        power := { s.mod.power with wakeAt := none, waking := some s.mod.power.wakeTo, wakeCause := 0x2C } }) ∧
    ((s.mod.power.entry = some 2 ∨ s.mod.power.entry = some 3) → Gives .wakeAt s { s.mod with
      power := { s.mod.power with wakeAt := none, abortDue := some (s.mod.power.abortDue.getD 0x2C) } })) ∧
  (∀ s target failed, s.mod.host.gState = 3 → s.mod.power.waking = some target →
    ∃ t, exec (.wakeSequence failed) s = .next t ∧ t.mod.power.state = target ∧ t.mod.power.waking = none ∧
      t.mod.sched.due = true ∧
      (target = 0 → ∀ d, d < 47 → validDomain s.mod d = true → s.mod.power.offByCmd.getLsbD d = false →
        (d < 32 → (s.mod.core d).marginHeld = false ∧ (s.mod.core d).thermalHeld = false) → domOn t.mod d = true)) ∧
  (∀ s d e, s.mod.host.gState = 3 → Outstanding s.mod 0x0202 d e → ∀ failed,
    (s.mod.power.domainReq.find? (fun r => r.1 == d) = some (d, false) →
      ∃ t, exec (.pwrDomainComplete d failed) s = .next t ∧ t.mod.power.on = s.mod.power.on ∧
        t.mod.power.domainReq = s.mod.power.domainReq.erase (d, false) ∧ t.mod.host.deferred = s.mod.host.deferred.erase e) ∧
    (s.mod.power.domainReq.find? (fun r => r.1 == d) = some (d, true) → s.mod.power.state = 0 →
      s.mod.power.entry = none → (d < 32 → (s.mod.core d).marginHeld = false ∧ (s.mod.core d).thermalHeld = false) → d < 50 →
      let left := s.mod.power.domainReq.erase (d, true)
      (left.find? (fun r => r.1 == d) ≠ some (d, false) → ∃ t, exec (.pwrDomainComplete d failed) s = .next t ∧ domOn t.mod d = true ∧
        t.mod.power.offByCmd.getLsbD d = false ∧ t.mod.power.domainReq = left ∧ t.mod.host.deferred = s.mod.host.deferred.erase e) ∧
      (left.find? (fun r => r.1 == d) = some (d, false) → ∃ t, exec (.pwrDomainComplete d failed) s = .next t ∧ domOn t.mod d = false ∧
        t.mod.power.offByCmd.getLsbD d = true ∧ t.mod.power.domainReq = left)) ∧
    (s.mod.power.domainReq.find? (fun r => r.1 == d) = some (d, true) → (s.mod.power.state ≠ 0 ∨ s.mod.power.entry ≠ none ∨
        (d < 32 ∧ ((s.mod.core d).marginHeld = true ∨ (s.mod.core d).thermalHeld = true))) →
      Gives (.pwrDomainComplete d failed) s s.mod))

/-! ### Health (chapter 17) -/

/-- R54, R352, R354, R360, R361, R365 to R368, Tables 17-4 and 17-5. In execution, with parameters that break no condition of its list:
HLTH_STATUS answers 32 bytes, with bin, pending change and counters as said, and clears the counters where asked. HLTH_SENSORS answers 184
bytes: the readings, 0x80 for a sensor not read, the voltages of domains that are on, and the process classes, 0xFF for a monitor not
read or of a domain that is off. HLTH_PLAN answers 28 bytes: set point, required voltage,
process class, its two terms, the flags of baseline and holds, D and the four ratios. HLTH_BIN gives consent to another bin, to
bin 0 only where no core needs more than 950 mV. HLTH_LOG_READ answers the records from a number that the region holds. PROFILE_READ
answers a stored profile and whether it is valid; PROFILE_WRITE of a valid one is accepted and, when it completes, that profile alone
has changed; PROFILE_SELECT of a valid one sets or clears the override and logs it. HLTH_ENGINES answers a core's failed engines and its
graft table. The profile commands and HLTH_BIN are the safety client's, and the host's where the profile in use is unlocked. The model's
choices: notes/assumptions/46 (PROFILE_SELECT needs a valid INDEX in either case, the hottest sensor is free before any reading). -/
def Obligations.HealthCommands : Prop :=
  (∀ s n ps, Asked s.mod n 0x0100 ps → ps.length = 8 → leAt ps 0 1 ≤ 1 → zeros ((ps.drop 1).take 7) = true →
    ∃ data, data.length = 32 ∧ leAt data 2 1 = s.mod.power.bin % 256 ∧ leAt data 3 1 = s.mod.health.binPending % 256 ∧
      (∀ i, i < 4 → leAt data (16 + 4 * i) 4 = s.mod.health.ctr.get 0 i % 2 ^ 32) ∧
      Responds (.hlthStatus n) s n 0 data
        { s.mod with
          health := { s.mod.health with ctr := if leAt ps 0 1 = 1 then [] else s.mod.health.ctr }
          freeCount := s.mod.freeCount + 1 }) ∧
  (∀ s n ps, Asked s.mod n 0x0101 ps → ps.length = 8 → zeros ps = true →
    ∃ data, Responds (.hlthSensors n) s n 0 data s.mod ∧ data.length = 184 ∧
      (∀ i, i < 48 → data.getD i 0 =
        (match s.mod.health.temps.get none i with | some x => BitVec.ofInt 8 x | none => 0x80)) ∧
      (∀ d, d < 50 → leAt data (48 + 2 * d) 2 = (if domOn s.mod d then s.mod.health.volts.get 0 d % 2 ^ 16 else 0)) ∧
      (∀ i, i < 36 → leAt data (148 + i) 1 =
        (if (monitored s.mod i).any (domOn s.mod) then (s.mod.health.classes.get none i).getD 0xFF % 256 else 0xFF))) ∧
  (∀ s n ps, Asked s.mod n 0x0102 ps → ps.length = 8 → leAt ps 0 1 < nCores s.mod → zeros ((ps.drop 1).take 7) = true →
    ∃ data, Responds (.hlthPlan n) s n 0 data s.mod ∧ data.length = 28 ∧
      let c := leAt ps 0 1
      let p := s.mod.plan c
      leAt data 0 2 = p.vset % 2 ^ 16 ∧ leAt data 2 2 = vReq s.mod c % 2 ^ 16 ∧ leAt data 4 1 = p.cls % 256 ∧
      leAt data 5 1 = tAdd s.mod c ∧ leAt data 6 1 = ageOf s.mod c % 256 ∧
      leAt data 7 1 = (if p.base = none then 0 else 1) + (if (s.mod.core c).thermalHeld = true then 2 else 0) +
        (if (s.mod.core c).marginHeld = true then 4 else 0) ∧
      leAt data 8 4 = p.d % 2 ^ 32 ∧ ∀ i, i < 4 → leAt data (12 + 4 * i) 4 = p.ratios.getD i 0 % 2 ^ 32) ∧
  (∀ s n ps, Asked s.mod n 0x0103 ps → ps.length = 8 → leAt ps 0 1 ≤ 1 → zeros ((ps.drop 1).take 7) = true →
    (n = 14 ∨ (n = 0 ∧ locked s.mod = false)) → leAt ps 0 1 ≠ s.mod.power.bin →
    (leAt ps 0 1 = 0 → ∀ c, c < nCores s.mod → vReqIn s.mod 0 c ≤ 950) →
    Responds (.hlthBin n) s n 0 [] { s.mod with
      health := { s.mod.health with
                  binPending := 2, binTarget := leAt ps 0 1, consentAt := some s.mod.time.elapsed } }) ∧
  (∀ s n ps, Asked s.mod n 0x0104 ps → ps.length = 16 → leAt ps 0 1 ≤ 1 → 1 ≤ leAt ps 8 1 → leAt ps 8 1 ≤ 15 →
    zeros ((ps.drop 1).take 3) = true → zeros ((ps.drop 9).take 7) = true →
    let l := if leAt ps 0 1 = 0 then s.mod.health.logFixed.recs else s.mod.health.logRing.recs
    (∃ r ∈ l, r.seq = leAt ps 4 4) →
    let rs := (l.filter (fun r => decide (leAt ps 4 4 ≤ r.seq))).take (leAt ps 8 1)
    Responds (.hlthLogRead n) s n 0 (fields 8 [(0, 1, rs.length)] ++ rs.flatMap logBytes) s.mod) ∧
  (∀ s n ps, Asked s.mod n 0x0105 ps → ps.length = 8 → leAt ps 0 1 ≤ 3 → zeros ((ps.drop 1).take 7) = true →
    let bs := storedProfile s.mod (leAt ps 0 1)
    Responds (.profileRead n) s n 0
      (fields 8 [(0, 1, if profileValid (leAt ps 0 1) bs = true then 1 else 0)] ++ bs) s.mod) ∧
  (∀ s n ps, Asked s.mod n 0x0106 ps → Room s.mod n → ps.length = 136 → leAt ps 0 1 ≤ 3 → zeros ((ps.drop 1).take 7) = true →
    profileValid (leAt ps 0 1) (ps.drop 8) = true → (n = 14 ∨ (n = 0 ∧ locked s.mod = false)) →
    Gives (.profileWrite n) s
      (let m := acceptedFor s.mod n (leAt ps 0 1)
       { m with health := { m.health with writing := m.health.writing ++ [(leAt ps 0 1, ps.drop 8)] } })) ∧
  (∀ s i bs rest d, s.mod.host.gState = 3 → s.mod.health.writing = (i, bs) :: rest → Outstanding s.mod 0x0106 i d →
    ∃ t, exec .profileWriteComplete s = .next t ∧ t.mod.health.profiles.get [] i = bs ∧ t.mod.health.writing = rest ∧
      (∀ k, k ≠ i → t.mod.health.profiles.get [] k = s.mod.health.profiles.get [] k) ∧
      t.mod.host.deferred = s.mod.host.deferred.erase d) ∧
  (∀ s n ps, Asked s.mod n 0x0107 ps → ps.length = 8 → leAt ps 0 1 ≤ 1 → leAt ps 1 1 ≤ 3 → zeros ((ps.drop 2).take 6) = true →
    (n = 14 ∨ (n = 0 ∧ locked s.mod = false)) →
    profileValid (leAt ps 1 1) (storedProfile s.mod (leAt ps 1 1)) = true →
    ∃ t, exec (.profileSelect n) s = .next t ∧ (t.mod.mbx n).state = 3 ∧
      t.mod.health.override = (if leAt ps 0 1 = 1 then some (leAt ps 1 1) else none) ∧
      t.mod.health.logSeq = s.mod.health.logSeq + 1 ∧ t.mod.health.profile = s.mod.health.profile) ∧
  (∀ s n ps, Asked s.mod n 0x0108 ps → ps.length = 8 → leAt ps 0 1 < nCores s.mod → zeros ((ps.drop 1).take 7) = true →
    Responds (.hlthEngines n) s n 0
      (setBytes (List.replicate 16 0) 0 (leBytes 9 (maskOf 68 (s.mod.core (leAt ps 0 1)).failed).toNat) ++
        (s.mod.core (leAt ps 0 1)).graft.flatMap (leBytes 1)) s.mod)

/-- R352 to R358, R361 to R363. While PD_AON is on and no trip has been, a reading below 125 °C of a sensor that exists is kept, and no other
changes; with Gragor running, one at HOT, the last it answered having been below, asks for Hold or, of a core, holds the core. A second
reading in a row from 125 °C on trips: recorded, TRIP asserts SAFE_FAULT#, only PD_AON stays on, and Gragor stops. The request for Hold is repeated after
10 ms while such a sensor is at HOT, else no more. A core off and cool for 100 ms, and cool still, is held no longer, and on again in Run unless
something else keeps it off. A voltage is kept; below −10 % it raises VOLTAGE, which nothing higher does; outside ±5 % it is counted by
Gragor. A process class is kept and planned with. Ageing ratios are kept, D never falls, and the reading is logged; the first baseline is
the medians of 16 readings a pair, how half a unit rounds being open, with D zero, in the fixed region. A pending lowering takes effect on a
core without a job. A bin change under consent with no job dispatched takes effect and is logged; 1 s after consent every dispatched
job is asked to park. What a core
or a quadrant needs is v_req of R357. The model's choices: notes/assumptions/46 (the reading that Gragor last answered is what a rise is
counted from, the median of 16 is the mean of the middle two, a half rounding as a free bit says). -/
def Obligations.HealthEvents : Prop :=
  (∀ s i t, i < 48 → domOn s.mod 49 = true → s.mod.power.tripped = false → -128 < t → t < 125 →
    (32 ≤ i ∨ (coreAtPos s.mod i).isSome = true) →
    ∃ u, exec (.junctionTempSample i t) s = .next u ∧ u.mod.health.temps.get none i = some t ∧
      u.mod.health.tripRun.get 0 i = 0 ∧ (∀ k, k ≠ i → u.mod.health.temps.get none k = s.mod.health.temps.get none k) ∧
      u.mod.power.tripped = false ∧
      (s.mod.host.gState = 3 → hotAt s.mod ≤ t → (∀ x, s.mod.health.answered.get none i = some x → x < hotAt s.mod) →
        (32 ≤ i → 1 ∈ u.mod.power.waiting) ∧
        (∀ c, i < 32 → coreAtPos s.mod i = some c → (u.mod.core c).thermalHeld = true))) ∧
  (∀ s i t, i < 48 → domOn s.mod 49 = true → s.mod.power.tripped = false → 125 ≤ t → t < 128 →
    (32 ≤ i ∨ (coreAtPos s.mod i).isSome = true) → 1 ≤ s.mod.health.tripRun.get 0 i →
    ∃ u, exec (.junctionTempSample i t) s = .next u ∧ u.mod.power.tripped = true ∧ u.mod.health.tripRec = some (i, t) ∧
      u.mod.safety.latched.getLsbD 5 = true ∧ u.mod.safety.asserted = true ∧ (∀ d, d < 49 → domOn u.mod d = false) ∧
      domOn u.mod 49 = true ∧ u.mod.host.gState = 0) ∧
  (∀ s t0, s.mod.host.gState = 3 → s.mod.health.holdRetry = some t0 → t0 + 10 * msUnit ≤ s.mod.time.elapsed →
    ((∃ i x, i < 16 ∧ s.mod.health.temps.get none (32 + i) = some x ∧ hotAt s.mod ≤ x) →
      ∃ t, exec .thermalHoldRetry s = .next t ∧ 1 ∈ t.mod.power.waiting ∧
        t.mod.health.holdRetry = some s.mod.time.elapsed) ∧
    ((∀ i x, i < 16 → s.mod.health.temps.get none (32 + i) = some x → x < hotAt s.mod) →
      Gives .thermalHoldRetry s { s.mod with health := { s.mod.health with holdRetry := none } })) ∧
  (∀ s (c : Fin 32) t0 failed, s.mod.host.gState = 3 → (s.mod.plan c).coolSince = some t0 → (s.mod.core c).thermalHeld = true →
    domOn s.mod c = false → t0 + 100 * msUnit ≤ s.mod.time.elapsed →
    (∀ x, s.mod.health.temps.get none (sensorOf s.mod c) = some x → x < hotAt s.mod - 10 →
      ∃ t, exec (.coreThermalReturn c failed) s = .next t ∧ (t.mod.core c).thermalHeld = false ∧
        (s.mod.power.state = 0 → s.mod.power.offByCmd.getLsbD c = false → (s.mod.core c).marginHeld = false →
          domOn t.mod c = true ∧ (t.mod.core c).tested = true)) ∧
    (∀ x, s.mod.health.temps.get none (sensorOf s.mod c) = some x → hotAt s.mod - 10 ≤ x →
      Gives (.coreThermalReturn c failed) s s.mod)) ∧
  (∀ s d mv, d < 50 → domOn s.mod d = true → mv < 0x10000 →
    ∃ t, exec (.voltageExcursion d mv) s = .next t ∧ t.mod.health.volts.get 0 d = mv ∧
      (10 * mv < 9 * setPointOf s.mod d → t.mod.safety.latched.getLsbD 4 = true ∧ t.mod.safety.asserted = true) ∧
      (9 * setPointOf s.mod d ≤ 10 * mv → t.mod.safety.latched = s.mod.safety.latched) ∧
      (s.mod.host.gState = 3 → (20 * mv < 19 * setPointOf s.mod d ∨ 21 * setPointOf s.mod d < 20 * mv) →
        t.mod.health.ctr.get 0 2 = min (s.mod.health.ctr.get 0 2 + 1) 0xFFFFFFFF)) ∧
  (∀ s i cls k, s.mod.host.gState = 3 → monitored s.mod i = some k → cls < 4 → domOn s.mod k = true →
    ∃ t, exec (.processSample i cls) s = .next t ∧ t.mod.health.classes.get none i = some cls ∧ (t.mod.plan k).cls = cls) ∧
  (∀ s (c : Fin 32) ratios r0, s.mod.host.gState = 3 → c.val < nCores s.mod → domOn s.mod c = true → ratios.length = 4 →
    (∀ r ∈ ratios, r < 2 ^ 32) → (s.mod.plan c).base = some r0 →
    ∃ t, exec (.ageingReading c ratios) s = .next t ∧ (t.mod.plan c).ratios = ratios ∧
      (t.mod.plan c).d = max (s.mod.plan c).d (ageD r0 ratios) ∧ (t.mod.plan c).base = some r0 ∧
      t.mod.health.logSeq = s.mod.health.logSeq + 1) ∧
  (∀ s (c : Fin 32) readings, s.mod.host.gState = 3 → c.val < nCores s.mod → domOn s.mod c = true → (s.mod.plan c).base = none →
    (s.mod.core c).job = none → readings.length = 4 → (∀ l ∈ readings, l.length = 16 ∧ ∀ r ∈ l, r < 2 ^ 32) →
    ∃ t up, exec (.baselineTake c readings) s = .next t ∧ up < 2 ∧ (t.mod.plan c).base = some (readings.map (fun l => median l up)) ∧
      (t.mod.plan c).d = 0 ∧ t.mod.health.logFixed.recs.length = s.mod.health.logFixed.recs.length + 1) ∧
  (∀ s (c : Fin 32), s.mod.host.gState = 3 → (s.mod.plan c).lower = true → (s.mod.core c).job = none →
    Gives (.vsetLower c) s (s.mod.setPlan c
      { (s.mod.plan c) with vset := min (s.mod.plan c).vset (vReq s.mod c), lower := false })) ∧
  (∀ s failed, s.mod.host.gState = 3 → s.mod.health.binPending = 2 → (∀ j ∈ s.mod.sched.jobs, j.state ≠ .dispatched) →
    ∃ t, exec (.binChange failed) s = .next t ∧ t.mod.power.bin = s.mod.health.binTarget ∧ t.mod.sched.due = true ∧
      (s.mod.health.binTarget = 1 → t.mod.health.binPending = 0 ∧ t.mod.health.consentAt = none) ∧
      (t.mod.health.logFixed.recs.getLast?).map (·.type) = some 4) ∧
  (∀ s t0, s.mod.host.gState = 3 → s.mod.health.consentAt = some t0 → s.mod.health.binPending = 2 → s.mod.health.binForce = false →
    t0 + 1000 * msUnit ≤ s.mod.time.elapsed → (s.mod.sched.jobs.map (·.id)).Nodup →
    (∃ j ∈ s.mod.sched.jobs, j.state = .dispatched) →
    ∃ t, exec .binChangeForce s = .next t ∧ t.mod.health.binForce = true ∧
      ∀ j ∈ t.mod.sched.jobs, j.state = .dispatched → j.parkAt ≠ none) ∧
  (∀ m i,
    let temp := m.health.temps.get none (if i < 32 then posOfCore m i else i)
    let tAdd := match temp with | some t => if t < 0 then 20 else if 100 < t then 10 else 0 | none => 0
    ∃ age, vReq m i + (if m.power.bin = 1 then 60 else 0) = 780 + 20 * (m.plan i).cls + tAdd + age ∧
      (32 ≤ i → age = 0) ∧ (i < 32 → (m.plan i).base = none → age = 40) ∧
      (i < 32 → (m.plan i).base ≠ none → ∃ k, age = 5 * k ∧ (m.plan i).d ≤ 2000 * k ∧ 2000 * k < (m.plan i).d + 2000)) ∧
  (∀ m i, 950 < vReq m i → i < 32 → (m.core i).marginHeld = false →
    ((replan i m).core i).marginHeld = true) ∧
  (∀ m i, vReq m i ≤ 950 →
    ((m.plan i).vset ≤ vReq m i → ((replan i m).plan i).vset = vReq m i ∧ ((replan i m).plan i).lower = false) ∧
    (vReq m i < (m.plan i).vset → i < 32 → ((replan i m).plan i).vset = (m.plan i).vset ∧ ((replan i m).plan i).lower = true) ∧
    (vReq m i < (m.plan i).vset → 32 ≤ i → ((replan i m).plan i).vset = vReq m i))

/-! ### The safety block (chapter 18) -/

/-- R370 to R375, R378, R381, R385, R386, Tables 18-5 and 18-6. A transfer is allowed exactly where it lies in DDR4, the chip store or one
scratchpad and is Gragor's, or touches no reserved range and each copy of the table holds an entry that covers it wholly and either grants
it to the SID's cloche and context or shares a read with the cloche; no entry grants a write across cloches. In execution, with parameters
that break no condition of its list: SAFE_STATUS answers 96 bytes, with signal, latches, causes present and two counters as said, and
clears the counters where asked. SAFE_REGION writes or clears an entry in both copies, for the safety client or for a context of its client
outside cloche 15, while no context with an admitted job is covered. From the safety client alone: SAFE_WDOG sets a watchdog, to be armed
only if it is not so; SAFE_KICK kicks one whose source is a command; SAFE_GOLDEN sets the golden tile from the next instant on;
SAFE_CHECK sets a checker channel, to be enabled only over two queues; SAFE_CLEAR releases the signal and the latches after a passed
self-test with no cause present, else answers BAD_STATE; SAFE_ASSERT raises cause 11. The model's choices:
notes/assumptions/47 (an entry without a context is held by its whole cloche; a cleared entry's ranges are checked; SAFE_CHECK may disable
over FREE queues, which clears TRIPPED). -/
def Obligations.SafetyCommands : Prop :=
  (∀ m (sid : W16) acc a n,
    let k := sid.toNat / 64 % 64
    let cl := sid.toNat / 4096
    let grants := fun (r : Region) => r.rights ≠ 0 ∧ r.base ≤ a ∧ a + n ≤ r.base + r.pages * 4096 ∧
      ((r.cloche = cl ∧ (r.ctx = 0xFF ∨ r.ctx = k) ∧ r.rights.getLsbD acc.bit = true) ∨ (acc = .read ∧ r.share.getLsbD cl = true))
    let there := placeRange m a n = .ddr ∨ placeRange m a n = .store ∨ ∃ c, placeRange m a n = .spad c
    (fwAllows m sid acc a n = true ↔ there ∧ (sid.toNat % 64 = 0x20 ∨ (reservedRange m acc a n = false ∧
      (∃ i, i < 1024 ∧ grants (m.safety.regions.get {} i)) ∧ ∃ i, i < 1024 ∧ grants (m.safety.regionsB.get {} i))))) ∧
  (∀ r cl k acc a n, regionAllows r cl k acc a n = true → acc ≠ .read → r.cloche = cl) ∧
  (∀ s n ps, Asked s.mod n 0x0B00 ps → ps.length = 8 → leAt ps 0 1 ≤ 1 → zeros ((ps.drop 1).take 7) = true →
    ∃ data, data.length = 96 ∧ leAt data 0 1 = (if s.mod.safety.asserted then 1 else 0) ∧
      leAt data 4 4 = s.mod.safety.latched.toNat ∧ leAt data 8 4 = (present_ s.mod).toNat ∧
      leAt data 12 4 = s.mod.safety.ctr.get 0 0 % 2 ^ 32 ∧ leAt data 92 4 = s.mod.safety.ctr.get 0 15 % 2 ^ 32 ∧
      Responds (.safeStatus n) s n 0 data
        (if leAt ps 0 1 = 1 then { s.mod with safety := { s.mod.safety with ctr := [] } } else s.mod)) ∧
  (∀ s n ps, Asked s.mod n 0x0B01 ps →
    let i := leAt ps 0 2
    let k := leAt ps 2 1
    let cl := leAt ps 3 1
    let r := leAt ps 4 1
    let old := s.mod.safety.regions.get {} i
    ps.length = 24 → i < 1024 → (k < 64 ∨ k = 0xFF) → cl ≤ 15 → r ≤ 7 → zeros ((ps.drop 5).take 1) = true →
    zeros ((ps.drop 20).take 4) = true →
    leAt ps 8 8 % 4096 = 0 → 1 ≤ leAt ps 16 4 → leAt ps 16 4 ≤ 2 ^ 24 → oneRegion s.mod (leAt ps 8 8) (4096 * leAt ps 16 4) = true →
    (n = 14 ∨ (cl ≠ 15 ∧ k ≠ 0xFF ∧ (s.mod.ctx k).state ≠ 0 ∧ (s.mod.ctx k).client = n)) →
    (∀ c, c < 64 → hasAdmitted s.mod c = true → covers s.mod cl k c = false ∧
      (old.rights ≠ 0 → covers s.mod old.cloche old.ctx c = false)) →
    let entry : Region := if r = 0 then {} else
      { base := leAt ps 8 8, pages := leAt ps 16 4, cloche := cl, ctx := k
        rights := BitVec.ofNat 3 r, share := BitVec.ofNat 16 (leAt ps 6 2) }
    Responds (.safeRegion n) s n 0 [] { s.mod with
      safety := { s.mod.safety with
                  regions := s.mod.safety.regions.put {} i entry, regionsB := s.mod.safety.regionsB.put {} i entry } }) ∧
  (∀ s ps, Asked s.mod 14 0x0B02 ps →
    let k := leAt ps 0 1
    ps.length = 24 → k ≤ 63 → leAt ps 1 1 ≤ 5 → leAt ps 2 1 ≤ 7 → (leAt ps 3 1 ≤ 63 ∨ leAt ps 3 1 = 0xFF) →
    leAt ps 4 2 ≤ srcLimit (leAt ps 1 1) → leAt ps 6 1 ≤ 1 → 10 ≤ leAt ps 12 4 → leAt ps 12 4 ≤ 10000000 →
    leAt ps 8 4 < leAt ps 12 4 → zeros ((ps.drop 7).take 1) = true → zeros ((ps.drop 20).take 4) = true →
    (leAt ps 6 1 = 1 → (s.mod.safety.wdogs.get {} k).state ≠ 1 ∧ (s.mod.safety.wdogs.get {} k).state ≠ 2) →
    Responds (.safeWdog 14) s 14 0 [] { s.mod with
      safety := { s.mod.safety with
                  wdogs := s.mod.safety.wdogs.put {} k
                    { state := leAt ps 6 1, source := leAt ps 1 1, action := BitVec.ofNat 3 (leAt ps 2 1), ctx := leAt ps 3 1
                      srcId := leAt ps 4 2, minUs := leAt ps 8 4, maxUs := leAt ps 12 4, firstUs := leAt ps 16 4
                      since := s.mod.time.elapsed } } }) ∧
  (∀ s ps, Asked s.mod 14 0x0B03 ps → ps.length = 8 → leAt ps 0 1 ≤ 63 → zeros ((ps.drop 1).take 7) = true →
    (s.mod.safety.wdogs.get {} (leAt ps 0 1)).source = 5 →
    Responds (.safeKick 14) s 14 0 [] (wdogKick (leAt ps 0 1) s.mod)) ∧
  (∀ s ps, Asked s.mod 14 0x0B04 ps → ps.length = 16 → leAt ps 0 1 ≤ 1 → 1 ≤ leAt ps 1 1 → leAt ps 1 1 ≤ 8 → leAt ps 2 1 ≤ 3 →
    2000 ≤ leAt ps 4 4 → leAt ps 4 4 ≤ 1000000 → leAt ps 8 4 < leAt ps 4 4 → zeros ((ps.drop 3).take 1) = true →
    zeros ((ps.drop 12).take 4) = true →
    ∃ t, exec (.safeGolden 14) s = .next t ∧ (t.mod.mbx 14).state = 3 ∧ t.mod.safety =
      { s.mod.safety with
        gtOn := decide (leAt ps 0 1 = 1), gtCores := leAt ps 1 1, gtAction := BitVec.ofNat 2 (leAt ps 2 1), gtPeriod := leAt ps 4 4
        gtPhase := leAt ps 8 4, gtLast := goldenInstant t.mod }) ∧
  (∀ s ps, Asked s.mod 14 0x0B05 ps → ps.length = 24 → leAt ps 0 1 ≤ 7 → leAt ps 1 1 ≤ 1 → leAt ps 2 1 ≤ 3 → 1 ≤ leAt ps 3 1 →
    leAt ps 4 2 ≤ 511 → leAt ps 6 2 ≤ 511 → leAt ps 20 1 ≤ 64 → zeros ((ps.drop 21).take 3) = true →
    (leAt ps 1 1 = 1 → (s.mod.queue (leAt ps 4 2)).state ≠ 0 ∧ (s.mod.queue (leAt ps 6 2)).state ≠ 0) →
    Responds (.safeCheck 14) s 14 0 [] (s.mod.setChecker (leAt ps 0 1)
      { enable := leAt ps 1 1 = 1, action := BitVec.ofNat 2 (leAt ps 2 1), runMax := leAt ps 3 1, winMax := leAt ps 20 1
        primary := leAt ps 4 2, check := leAt ps 6 2, absTol := BitVec.ofNat 32 (leAt ps 8 4)
        relTol := BitVec.ofNat 32 (leAt ps 12 4), pairUs := leAt ps 16 4 })) ∧
  (∀ s ps, Asked s.mod 14 0x0B06 ps → ps.length = 8 → zeros ps = true →
    (s.mod.safety.selfTest = 1 → present_ s.mod = 0 →
      ∃ t, exec (.safeClear 14) s = .next t ∧ (t.mod.mbx 14).state = 3 ∧
        t.mod.safety = { s.mod.safety with asserted := false, latched := 0 }) ∧
    ((s.mod.safety.selfTest ≠ 1 ∨ present_ s.mod ≠ 0) → Responds (.safeClear 14) s 14 0x23 [] s.mod)) ∧
  (∀ s ps, Asked s.mod 14 0x0B07 ps → ps.length = 8 → zeros ps = true →
    Responds (.safeAssert 14) s 14 0 [] (raiseCause 11 s.mod) ∧
    (raiseCause 11 s.mod).safety.latched.getLsbD 11 = true ∧ (raiseCause 11 s.mod).safety.asserted = true)

/-- R372 to R381, R385. A kick starts an armed watchdog and restarts a running one, in time, trips it when too early or too late, and does
nothing to another; a trip marks it and does what its ACTION asks (SAFE_FAULT#, Hold, a hang of its context); without a kick its limit
trips it. With no core to skip, a golden slot takes the next cores in rotation; a slot, Gragor running in Run, its instant new and no older
than 1,000 us, takes them with the ACTION of its start, skipped ones counted, and an instant passed over raises cause 1. A verdict, the core
drained: all signatures right counts a run, clears the scratchpad and latches nothing; one wrong engine whose retest is right counts a
transient, one whose retest is wrong a permanent fault, with its physical engine listed as failed and cause 1 where asked. A slot without all
verdicts, or an instant not taken, after 1,000 us raises cause 1, whether or not Gragor runs. A pair of the checker that is complete in time
agrees exactly on R379's conditions and ends the run of disagreements; one that does not, or that lacks its partner, is counted, and trips
at either limit. A cause raised is latched, the others stay, and the signal is asserted, counted when it was not. A clock fault raises
cause 9, comparators that disagree and a failed self-test cause 10. A refused transfer is counted, and raises cause 7 exactly where the
two copies disagree. The model's choices: notes/assumptions/47 (a run is counted for each core's verdict, the golden tile clears the
core's memories, KIND is that of the first word, the late limit is told once) and 84 (a fault of the second copy of the table takes its
entry). -/
def Obligations.SafetyEvents : Prop :=
  (∀ m k, let w := m.safety.wdogs.get {} k
    let dt := m.time.elapsed - w.since
    (w.state = 1 → dt ≤ w.firstUs * usUnit → wdogKick k m = { m with
      safety := { m.safety with wdogs := m.safety.wdogs.put {} k { w with state := 2, since := m.time.elapsed } } }) ∧
    (w.state = 2 → w.minUs * usUnit ≤ dt → dt ≤ w.maxUs * usUnit → wdogKick k m = { m with
      safety := { m.safety with wdogs := m.safety.wdogs.put {} k { w with since := m.time.elapsed } } }) ∧
    (w.state = 2 → dt < w.minUs * usUnit → wdogKick k m = wdogTrip k 1 m) ∧
    (w.state = 1 → w.firstUs * usUnit < dt → wdogKick k m = wdogTrip k 3 m) ∧
    (w.state = 2 → w.minUs * usUnit ≤ dt → w.maxUs * usUnit < dt → wdogKick k m = wdogTrip k 2 m) ∧
    ((w.state = 0 ∨ w.state = 3) → wdogKick k m = m)) ∧
  (∀ m k kind, k < 64 → let w := m.safety.wdogs.get {} k
    let t := wdogTrip k kind m
    (t.safety.wdogs.get {} k).state = 3 ∧ (w.action.getLsbD 0 = true → t.safety.latched.getLsbD 0 = true ∧ t.safety.asserted = true) ∧
    (w.action.getLsbD 1 = true → 2 ∈ t.power.waiting) ∧
    (w.action.getLsbD 2 = true → w.ctx < 64 → (m.ctx w.ctx).state ≠ 0 → t.rcv.ctr.get 0 0 = min (m.rcv.ctr.get 0 0 + 1) 0xFFFFFFFF)) ∧
  (∀ s k, k < 64 → domOn s.mod 48 = true →
    let w := s.mod.safety.wdogs.get {} k
    (w.state = 1 → w.firstUs * usUnit < s.mod.time.elapsed - w.since → Gives (.wdogExpiry k) s (wdogTrip k 3 s.mod)) ∧
    (w.state = 2 → w.maxUs * usUnit < s.mod.time.elapsed - w.since → Gives (.wdogExpiry k) s (wdogTrip k 2 s.mod))) ∧
  (∀ m want c, want ≤ nCores m → c < nCores m → (∀ i, i < nCores m → goldenSkips m i = false) →
    goldenRotate m (nCores m) want c = ((List.range want).map (fun i => (c + i) % nCores m), 0, (c + want) % nCores m)) ∧
  (∀ s u, s.mod.host.gState = 3 → s.mod.safety.gtOn = true → s.mod.power.state = 0 → goldenInstant s.mod = some u →
    s.mod.safety.gtLast ≠ some u →
    let r := goldenRotate s.mod (nCores s.mod) s.mod.safety.gtCores s.mod.safety.gtNext
    let at0 := s.mod.time.elapsed - (s.mod.time.now - u * usUnit)
    (s.mod.time.elapsed < at0 + 1000 * usUnit →
      ∃ t, exec .goldenSlot s = .next t ∧ t.mod.safety.gtLast = some u ∧ t.mod.safety.gtNext = r.2.2 ∧
        t.mod.safety.gtAt = at0 ∧ t.mod.safety.gtRun = s.mod.safety.gtAction ∧ t.mod.safety.gtCount = s.mod.safety.gtCount + 1 ∧
        t.mod.safety.ctr.get 0 5 = min (s.mod.safety.ctr.get 0 5 + r.2.1) 0xFFFFFFFF ∧ (∀ c ∈ r.1, c ∈ t.mod.safety.gtPending) ∧
        (∀ l, s.mod.safety.gtLast = some l → l + s.mod.safety.gtPeriod < u →
          t.mod.safety.latched.getLsbD 1 = true ∧ t.mod.safety.asserted = true)) ∧
    (at0 + 1000 * usUnit ≤ s.mod.time.elapsed → Gives .goldenSlot s s.mod ∧ (domOn s.mod 48 = true →
      ∃ t, exec .goldenLateLimit s = .next t ∧ t.mod.safety.gtLast = some u ∧ t.mod.safety.gtAt = at0 ∧ t.mod.safety.gtLate = true ∧
        t.mod.safety.latched.getLsbD 1 = true ∧ t.mod.safety.asserted = true))) ∧
  (∀ s (c : Fin 32) sigs retest, s.mod.host.gState = 3 → s.mod.safety.gtPending.contains c.val = true → domOn s.mod c = true →
    (s.mod.core c).job = none → coreDrained s.mod c = true → sigs.length = 64 → retest.length = 64 →
    ((∀ e, e < 64 → signed_ sigs e = true) →
      ∃ t, exec (.goldenVerdict c sigs retest) s = .next t ∧ t.mod.safety.gtPending = s.mod.safety.gtPending.erase c.val ∧
        t.mod.safety.ctr = s.mod.safety.ctr.put 0 2 (min (s.mod.safety.ctr.get 0 2 + 1) 0xFFFFFFFF) ∧
        t.mod.safety.latched = s.mod.safety.latched ∧ t.mod.sched.due = true ∧
        (∀ a, spadBase c ≤ a → a < spadBase c + 0x80000 → memByte t.mod.mem a = 0)) ∧
    (∀ e, e < 64 → signed_ sigs e = false → signed_ retest e = true → (∀ i, i < 64 → i ≠ e → signed_ sigs i = true) →
      ∃ t, exec (.goldenVerdict c sigs retest) s = .next t ∧
        t.mod.safety.ctr.get 0 3 = min (s.mod.safety.ctr.get 0 3 + 1) 0xFFFFFFFF) ∧
    (∀ e, e < 64 → signed_ sigs e = false → signed_ retest e = false → (∀ i, i < 64 → i ≠ e → signed_ sigs i = true) →
      ∃ t, exec (.goldenVerdict c sigs retest) s = .next t ∧
        t.mod.safety.ctr.get 0 4 = min (s.mod.safety.ctr.get 0 4 + 1) 0xFFFFFFFF ∧
        ((s.mod.core c).graft.getD e e < 68 → (s.mod.core c).graft.getD e e ∈ (t.mod.core c).failed) ∧
        (s.mod.safety.gtRun.getLsbD 0 = true → t.mod.safety.latched.getLsbD 1 = true ∧ t.mod.safety.asserted = true))) ∧
  (∀ s, domOn s.mod 48 = true → (s.mod.safety.gtPending ≠ [] ∨ s.mod.safety.gtLost = true) → s.mod.safety.gtLate = false →
    s.mod.safety.gtAt + 1000 * usUnit ≤ s.mod.time.elapsed →
    (s.mod.safety.gtOn = false ∨ s.mod.power.state ≠ 0 ∨ goldenInstant s.mod = s.mod.safety.gtLast) →
    ∃ t, exec .goldenLateLimit s = .next t ∧ t.mod.safety.latched.getLsbD 1 = true ∧ t.mod.safety.asserted = true ∧
      t.mod.safety.gtLate = true) ∧
  (∀ s ch p ps, ch < 8 → domOn s.mod 48 = true →
    let c := s.mod.checker ch
    c.enable = true → c.tripped = false → c.bufP = p :: ps → p.done = true → c.bufC = [] →
    p.at_ + c.pairUs * usUnit < s.mod.time.elapsed →
    ∃ t, exec (.checkerPairTimeout ch) s = .next t ∧ (t.mod.checker ch).bufP = ps ∧ (t.mod.checker ch).lateC = c.lateC + 1 ∧
      (t.mod.checker ch).pairs = c.pairs + 1 ∧ (t.mod.checker ch).run = min (c.run + 1) 255 ∧
      ((t.mod.checker ch).tripped = true ↔
        (c.runMax ≤ c.run + 1 ∨ (c.winMax ≠ 0 ∧ c.winMax ≤ ((true :: c.last64).take 64 |>.filter id).length)))) ∧
  (∀ c p k, judgePair c p k = none ↔ p.words.length = k.words.length ∧
    (p.words.head?.map (fun w => w.2.toNat % 16)) = (k.words.head?.map (fun w => w.2.toNat % 16)) ∧
    (∀ w, (w ∈ p.words ∨ w ∈ k.words) → w.2.getLsbD 6 = false) ∧
    ∀ i, i < 2 * p.words.length → lanesAgree c ((lanesOf p).getD i 0) ((lanesOf k).getD i 0) = true) ∧
  (∀ c a b, (isNan a = true ∨ isNan b = true → lanesAgree c a b = false) ∧ (isNan a = false → lanesAgree c a a = true)) ∧
  (∀ m ch p k ps ks,
    let c := m.checker ch
    c.bufP = p :: ps → c.bufC = k :: ks → p.done = true → k.done = true → c.tripped = false → apart c p k = false →
    let t := (checkerPairs 1 ch m).checker ch
    t.bufP = ps ∧ t.bufC = ks ∧ t.pairs = c.pairs + 1 ∧
    (judgePair c p k = none → t.run = 0 ∧ t.tripped = false ∧ (checkerPairs 1 ch m).safety.ctr = m.safety.ctr) ∧
    (∀ lane, judgePair c p k = some lane → t.run = min (c.run + 1) 255 ∧
      (t.tripped = true ↔ (c.runMax ≤ c.run + 1 ∨ (c.winMax ≠ 0 ∧ c.winMax ≤ ((true :: c.last64).take 64 |>.filter id).length))))) ∧
  (∀ m bit, bit < 13 → (raiseCause bit m).safety.latched.getLsbD bit = true ∧ (raiseCause bit m).safety.asserted = true ∧
    (∀ b, b ≠ bit → (raiseCause bit m).safety.latched.getLsbD b = m.safety.latched.getLsbD b) ∧
    (raiseCause bit m).safety.ctr.get 0 15 =
      (if m.safety.asserted then m.safety.ctr.get 0 15 else min (m.safety.ctr.get 0 15 + 1) 0xFFFFFFFF)) ∧
  (∀ s, domOn s.mod 48 = true → Gives .clockMonitorFault s (raiseCause 9 s.mod) ∧
    Gives (.safetyBlockDisagreement 0) s (raiseCause 10 s.mod) ∧
    Gives (.safetyBlockDisagreement 1) s
      (raiseCause 10 { s.mod with safety := { s.mod.safety with selfTest := 2 } }) ∧
    (∀ what, 2 ≤ what → Gives (.safetyBlockDisagreement what) s
      { s.mod with safety := { s.mod.safety with regionsB := s.mod.safety.regionsB.put {} (what - 2) {} } })) ∧
  (∀ m sid acc a n, oneRegion m a n = true → fwAllows m sid acc a n = false →
    let t := countRefused sid acc a n m
    let split := granted m.safety.regions sid acc a n ≠ granted m.safety.regionsB sid acc a n
    t.safety.ctr.get 0 0 = min (m.safety.ctr.get 0 0 + 1) 0xFFFFFFFF ∧
    (split → t.safety.latched.getLsbD 7 = true ∧ t.safety.asserted = true) ∧ (¬ split → t.safety.latched = m.safety.latched))

/-! ### Hangs, resets and recovery (chapter 19) -/

/-- R387 to R391. A hang is counted; of an object whose recovery runs, is due or is awaited it does nothing more; otherwise it takes the
next capture number, and under AUTO or a command the reset falls due behind the others, else the capture is kept and the reset
awaited, with its cause; a FREE context has none. With Gragor running a hang is reported for a stopped engine not drained 1 ms after its
forced stop began (of the partition into which all it has in flight waits at bridges, where that is so, else of the context), for a bridge
queue whose head has been on its way BRIDGE_MS, and for a fabric error. The context reset that is first in the queue, nothing else running,
begins: the context's engines issue no more, no queue bound to it stays ACTIVE, and its capture is kept, at most four in all. Drained, it
ends: an active context is so again, without a job, a fault or a reset awaited, its engines cleared, counted, and a decision due. Undrained
after 1 ms it escalates to each partition in which something of it is held or lost, whose reset then runs, is due or is awaited, and ends
itself where there is none. The model's choices: notes/assumptions/48 (under AUTO the number is taken at detection, one report for each
forced stop, the reset that finds nothing held ends), 49 (what can wait at a bridge, and since when) and 100 (a FREE context). -/
def Obligations.HangsAndContextReset : Prop :=
  ((∀ m part obj cause held by_,
    let waiting := if part then m.rcv.partWaiting.getLsbD obj else m.rcv.ctxWaiting.getLsbD obj
    let auto := by_.isSome || (if part then m.rcv.partAction else m.rcv.ctxAction) = 1
    let t := hang part obj cause held by_ m
    (part = false → (m.ctx obj).state = 0 → t = m) ∧
    ((part = true ∨ (m.ctx obj).state ≠ 0) → t.rcv.ctr.get 0 0 = min (m.rcv.ctr.get 0 0 + 1) 0xFFFFFFFF ∧
    ((recovering m part obj = true ∨ waiting = true) → t = { m with rcv := { m.rcv with ctr := bump m.rcv.ctr 0 } }) ∧
    (recovering m part obj = false → waiting = false → t.rcv.nextCapture = m.rcv.nextCapture + 1 ∧
      (auto = true → t.rcv.queue = m.rcv.queue ++ [⟨part, obj, m.rcv.nextCapture, cause, by_⟩] ∧
        t.rcv.captures = m.rcv.captures) ∧
      (auto = false → t.rcv.queue = m.rcv.queue ∧ (t.rcv.captures.head?).map (·.id) = some m.rcv.nextCapture ∧
        (part = true → obj < 4 → t.rcv.partWaiting.getLsbD obj = true ∧ t.rcv.partCause.get 0 obj = cause) ∧
        (part = false → obj < 64 → t.rcv.ctxWaiting.getLsbD obj = true ∧ t.rcv.ctxCause.get 0 obj = cause))))) ∧
  (∀ s (c : Fin 32) (e : Fin 64) k id j t0, s.mod.host.gState = 3 → (s.mod.core c).ctx = some k → (s.mod.core c).job = some id →
    findJob s.mod id = some j → j.forcedAt = some t0 → slotRun (s.mod.eng c e) = false → (s.mod.eng c e).inflight ≠ 0 →
    (s.mod.eng c e).told = false → t0 + msUnit ≤ s.mod.time.elapsed →
    let m := s.mod.setEng c e { (s.mod.eng c e) with told := true }
    Gives (.quiesceTimeout c e none) s (hang false k 2 0 none m) ∧
    (∀ n, allHeld m n c e = true → Gives (.quiesceTimeout c e (some n)) s (hang true n 3 (s.mod.eng c e).inflight none m)) ∧
    (∀ n, allHeld m n c e = false → Gives (.quiesceTimeout c e (some n)) s (hang false k 2 0 none m))) ∧
  (∀ m n c e, n < 4 → (m.core c).mover.any (fun j => j.eng == e) = false →
    (allHeld m n c e = true ↔ opsOf m c e ≠ [] ∧ ∀ o ∈ opsOf m c e, heldInto m n o = true)) ∧
  (∀ m n o, heldInto m n o = true ↔ o.phase = 1 ∧
    ∃ b ∈ opWays m o, (opFrom m o < n ∧ n ≤ b) ∨ (b ≤ n ∧ n < opFrom m o)) ∧
  (∀ s n p held, s.mod.host.gState = 3 → n < 4 →
    (∀ x ∈ p :: held, (canHold s.mod n x = true ∨ canAnswer s.mod n x = true) ∧ (p :: held).count x ≤ packetBound s.mod x) →
    (sinceOf s.mod p + s.mod.rcv.bridgeMs * msUnit ≤ s.mod.time.elapsed →
      Gives (.bridgeStall n (p :: held)) s (hang true n 3 (held.length + 1) none s.mod)) ∧
    (s.mod.time.elapsed < sinceOf s.mod p + s.mod.rcv.bridgeMs * msUnit → Gives (.bridgeStall n (p :: held)) s s.mod)) ∧
  (∀ s n, s.mod.host.gState = 3 → n < 4 → Gives (.fabricError n) s (hang true n 4 0 none s.mod))) ∧
  ((∀ s k r rest, s.mod.host.gState = 3 → s.mod.power.entry = none → s.mod.rcv.ctxRst = none → s.mod.rcv.partRst = none →
    s.mod.rcv.queue = r :: rest → r.part = false → r.obj = k →
    ∃ t new, exec (.contextReset k) s = .next t ∧ t.mod.rcv.ctxRst = some ⟨k, r.capture, s.mod.time.elapsed, false, r.by_⟩ ∧
      t.mod.rcv.queue = rest ++ new ∧ (t.mod.rcv.captures.head?).map (·.id) = some r.capture ∧ t.mod.rcv.captures.length ≤ 4 ∧
      (∀ c ∈ coresOf s.mod k, ∀ e, e < 64 → (s.mod.core c).mask.getLsbD e = true → (t.mod.eng c e).run ≠ .issuing) ∧
      (∀ q, q < 512 → boundTo (s.mod.queue q) k = true → (t.mod.queue q).state ≠ 1)) ∧
  (∀ s d r, s.mod.host.gState = 3 → d.ctx < 64 → s.mod.rcv.ctxRst = some r → r.ctx = d.ctx →
    let k := d.ctx
    let due := r.since + msUnit ≤ s.mod.time.elapsed
    let stuck := fun n => n ∈ d.into ∧ mayStick s.mod k n = true
    ((ctxDrained s.mod k = true ∨ (due ∧ (∀ n, ¬ stuck n) ∧ r.escalated = false)) →
      (s.mod.ctx k).state = 1 → (s.mod.ctx k).destroying = false →
      ∃ t, exec (.contextResetDrain d) s = .next t ∧ t.mod.rcv.ctxRst = none ∧ (t.mod.ctx k).state = 1 ∧
        (t.mod.ctx k).hwFault = 0 ∧ (∀ j ∈ t.mod.sched.jobs, j.ctx ≠ k) ∧ t.mod.rcv.ctxWaiting.getLsbD k = false ∧
        t.mod.rcv.ctr.get 0 1 = min (s.mod.rcv.ctr.get 0 1 + 1) 0xFFFFFFFF ∧ t.mod.sched.due = true ∧
        (∀ c ∈ coresOf s.mod k, ∀ e, e < 64 → t.mod.eng c e = {})) ∧
    (ctxDrained s.mod k = false → ¬ due → Gives (.contextResetDrain d) s s.mod) ∧
    (ctxDrained s.mod k = false → due → (r.escalated = true ∨ ∃ n, stuck n) →
      ∃ t, exec (.contextResetDrain d) s = .next t ∧ t.mod.rcv.ctxRst = some { r with escalated := true } ∧
        ∀ n, stuck n → recovering t.mod true n = true ∨ t.mod.rcv.partWaiting.getLsbD n = true)))

/-- R187, R393, R394, with Gragor running. The partition reset that is first in the queue, no entry or other reset running and nothing lost or
held at its bridges, begins: the bridges of the partition are closed, its DDR4 is in self-refresh, the contexts of its cores noted, its
quadrant and the scratchpads of its cores read as zero, and their engines are cleared; where no operation, commit, stream or mover was under
way, the capture is kept and DDR4 keeps its bytes. An operation held at a bridge into it ends at its issuer, which faults, counted; one lost
inside it, or whose response is held, never ends. Complete, once the contexts that step 5 faulted are done with: no reset runs or is awaited,
the bridges are open, the reset is counted, a decision is due, and a FROZEN queue with a region in the partition is FAULTED. The model's
choices: notes/assumptions/49 (which packets are held or lost is the command's, among those that can be). -/
def Obligations.PartitionReset : Prop :=
  (∀ s n r rest, s.mod.host.gState = 3 → s.mod.power.entry = none → s.mod.rcv.ctxRst = none → s.mod.rcv.partRst = none → n < 4 →
    s.mod.rcv.queue = r :: rest → r.part = true → r.obj = n →
    ∃ t p, exec (.partitionReset n [] [] []) s = .next t ∧ t.mod.rcv.partRst = some p ∧ p.part = n ∧ p.capture = r.capture ∧
      p.by_ = r.by_ ∧ p.ctxs = maskOf 64 (ctxsInPart s.mod n) ∧ p.left = p.ctxs ∧ t.mod.mem.partRefresh.getLsbD n = true ∧
      t.mod.rcv.ctr.get 0 3 = s.mod.rcv.ctr.get 0 3 ∧ t.mod.fab.bridgeClosed.get false n = true ∧
      (∀ a, storeBase + n * quadBytes ≤ a → a < storeBase + (n + 1) * quadBytes → memByte t.mod.mem a = 0) ∧
      (∀ c ∈ coresIn s.mod n, ∀ a, spadBase c ≤ a → a < spadBase c + 0x80000 → memByte t.mod.mem a = 0) ∧
      (∀ c ∈ coresIn s.mod n, ∀ e, e < 64 → t.mod.eng c e = {}) ∧
      (s.mod.fab.ops = [] → s.mod.kv.waiting = [] → s.mod.kv.plan = none → s.mod.streams = [] →
        (∀ c, c < 32 → (s.mod.core c).mover = []) →
        (t.mod.rcv.captures.head?).map (·.id) = some r.capture ∧
        ∀ a, a < 0xE00000000 → memByte t.mod.mem a = memByte s.mod.mem a)) ∧
  (∀ s n r rest id o, s.mod.host.gState = 3 → s.mod.power.entry = none → s.mod.rcv.ctxRst = none → s.mod.rcv.partRst = none → n < 4 →
    s.mod.rcv.queue = r :: rest → r.part = true → r.obj = n → findOp s.mod id = some o → o.peer = none → o.core ∉ coresIn s.mod n →
    (heldInto s.mod n o = true → s.mod.kv.waiting = [] → s.mod.kv.plan = none →
      ∃ t, exec (.partitionReset n [.op id] [] []) s = .next t ∧ findOp t.mod id = none ∧
        t.mod.rcv.ctr.get 0 3 = min (s.mod.rcv.ctr.get 0 3 + 1) 0xFFFFFFFF ∧
        ((s.mod.core o.core).ctx = some o.ctx → (s.mod.eng o.core o.eng).run ≠ .off → (t.mod.eng o.core o.eng).fault ≠ none)) ∧
    (insidePart s.mod n o = true → ∃ t i, exec (.partitionReset n [] [.op id] []) s = .next t ∧ findOp t.mod id = some i ∧ i.phase = 4) ∧
    (responseInto s.mod n o = true → ∃ t i, exec (.partitionReset n [] [] [.op id]) s = .next t ∧ findOp t.mod id = some i ∧ i.phase = 4)) ∧
  (∀ s n p failed, s.mod.host.gState = 3 → s.mod.rcv.partRst = some p → p.part = n → n < 4 → hitDone s.mod p = true →
    ∃ t, exec (.partitionResetComplete n failed) s = .next t ∧ t.mod.rcv.partRst = none ∧
      t.mod.fab.bridgeClosed.get false n = false ∧ t.mod.mem.partRefresh.getLsbD n = false ∧ t.mod.rcv.partWaiting.getLsbD n = false ∧
      t.mod.rcv.ctr.get 0 2 = min (s.mod.rcv.ctr.get 0 2 + 1) 0xFFFFFFFF ∧ t.mod.sched.due = true ∧
      (∀ q, q < 512 → queueInPart (s.mod.queue q) n = true → (s.mod.queue q).state = 2 → (t.mod.queue q).state = 3))

/-- R126, R392, R395, R398, R399, Table 19-7. A group abort leaves no job of a context of the group and keeps every other. A notice, Gragor
running, is acted on once for its origin and number: it aborts the group here, is counted, answered, and sent on over every other runner that
is up, on one of Gragor's 64 credits there or once one returns; the credit it came on returns in every case. The abort command that is oldest
ends when every module of the route table has replied, or after 10 ms. In execution, with parameters that break no condition of its list:
RCV_STATUS answers 44 bytes, with what runs, what is awaited and the counters as said, and clears the counters where asked. RCV_POLICY sets the
policies. CTX_RESET, of a context of the client or from the safety client, and PART_RESET are accepted and report a hang with cause HOST, or
put a reset that is awaited into the queue with the cause it has; of an object whose reset runs or is due they are BUSY. RCV_CAPTURE_READ
answers up to 496 bytes of a kept capture. FABRIC_GROUP sets an active context's group; FABRIC_ABORT is accepted and aborts a group here and by
notices. The model's choices: notes/assumptions/48 (an object that only awaits its reset is not BUSY), 51 (the oldest command ends, and only
modules of the route table count) and 101 (the way a reply takes). -/
def Obligations.RecoveryCommands : Prop :=
  ((∀ m g, ∀ j ∈ (abortGroup g m).1.sched.jobs, (m.ctx j.ctx).group ≠ g ∨ (m.ctx j.ctx).state = 0) ∧
  (∀ m g, ∀ j ∈ m.sched.jobs, (∀ i ∈ m.sched.jobs, i.id = j.id → i = j) → ((m.ctx j.ctx).group ≠ g ∨ (m.ctx j.ctx).state = 0) →
    ∃ i ∈ (abortGroup g m).1.sched.jobs, i.id = j.id) ∧
  (∀ s r origin g seq, s.mod.host.gState = 3 → r < 4 → (s.mod.runner r).state = 2 → origin < 16 → 0 < g → g < 65536 →
    ((origin, seq) ∈ s.mod.rcv.seen → Gives (.fabricAbortNotice r origin g seq) s (sendRunner r (.credit 64 1) s.mod)) ∧
    ((origin, seq) ∉ s.mod.rcv.seen → ∃ t, exec (.fabricAbortNotice r origin g seq) s = .next t ∧
      (∀ j ∈ t.mod.sched.jobs, (s.mod.ctx j.ctx).group ≠ g ∨ (s.mod.ctx j.ctx).state = 0) ∧
      (origin, seq) ∈ t.mod.rcv.seen ∧ t.mod.rcv.ctr.get 0 5 = min (s.mod.rcv.ctr.get 0 5 + 1) 0xFFFFFFFF ∧
      let sent := fun (x : Nat) (p : LinkPacket) => (∃ k c, Wire.runner x k c p ∈ t.mod.wire) ∨ p ∈ (t.mod.runner x).queue
      sent r (.credit 64 1) ∧ (∃ y, answerRoute s.mod r origin = some y ∧ sent y (.noticeReply origin 1 seq)) ∧
      (∀ x, x < 4 → x ≠ r → (s.mod.runner x).state = 2 →
        ((s.mod.ownCredit x).inUse < 64 → sent x (.notice origin g seq) ∧ (t.mod.ownCredit x).inUse = (s.mod.ownCredit x).inUse + 1) ∧
        (64 ≤ (s.mod.ownCredit x).inUse → .notice origin g seq ∈ (t.mod.ownCredit x).waiting)))) ∧
  (∀ s replied g t0 rest d, s.mod.host.gState = 3 → s.mod.rcv.aborts = (g, t0) :: rest → Outstanding s.mod 0x0C06 g d →
    (∀ i ∈ bitsOf replied, i ∈ routed s.mod) →
    ((∀ i ∈ routed s.mod, replied.getLsbD i = true) ∨ t0 + 10 * msUnit ≤ s.mod.time.elapsed) →
    ∃ t, exec (.fabricAbortComplete replied) s = .next t ∧ t.mod.rcv.aborts = rest ∧
      t.mod.host.deferred = s.mod.host.deferred.erase d)) ∧
  ((∀ s n ps, Asked s.mod n 0x0C00 ps → ps.length = 8 → leAt ps 0 1 ≤ 1 → zeros ((ps.drop 1).take 7) = true →
    ∃ data, data.length = 44 ∧ leAt data 0 1 = (if s.mod.rcv.partRst.isSome then 2 else if s.mod.rcv.ctxRst.isSome then 1 else 0) ∧
      leAt data 3 1 = s.mod.rcv.partWaiting.toNat ∧ leAt data 8 8 = s.mod.rcv.ctxWaiting.toNat ∧
      (∀ i, i < 6 → leAt data (20 + 4 * i) 4 = s.mod.rcv.ctr.get 0 i % 2 ^ 32) ∧
      Responds (.rcvStatus n) s n 0 data
        (if leAt ps 0 1 = 1 then { s.mod with rcv := { s.mod.rcv with ctr := [] } } else s.mod)) ∧
  (∀ s n ps, Asked s.mod n 0x0C01 ps → ps.length = 8 → leAt ps 0 1 ≤ 1 → leAt ps 1 1 ≤ 1 → 1 ≤ leAt ps 2 2 → leAt ps 2 2 ≤ 1000 →
    zeros ((ps.drop 4).take 4) = true → (n = 0 ∨ n = 14) →
    Responds (.rcvPolicy n) s n 0 [] { s.mod with
      rcv := { s.mod.rcv with ctxAction := leAt ps 0 1, partAction := leAt ps 1 1, bridgeMs := leAt ps 2 2 } }) ∧
  (∀ s n ps, Asked s.mod n 0x0C02 ps → ps.length = 8 → leAt ps 0 1 < 64 → zeros ((ps.drop 1).take 7) = true →
    (s.mod.ctx (leAt ps 0 1)).state ≠ 0 → (n = 14 ∨ (s.mod.ctx (leAt ps 0 1)).client = n) → recovering s.mod false (leAt ps 0 1) = true →
    Responds (.ctxReset n) s n 0x10 [] s.mod) ∧
  (∀ s n ps, Asked s.mod n 0x0C03 ps → ps.length = 8 → leAt ps 0 1 < 4 → zeros ((ps.drop 1).take 7) = true → (n = 0 ∨ n = 14) →
    recovering s.mod true (leAt ps 0 1) = true → Responds (.partReset n) s n 0x10 [] s.mod) ∧
  (∀ s n ps, Asked s.mod n 0x0C02 ps → Room s.mod n →
    let k := leAt ps 0 1
    ps.length = 8 → k < 64 → zeros ((ps.drop 1).take 7) = true → (s.mod.ctx k).state ≠ 0 →
    (n = 14 ∨ (s.mod.ctx k).client = n) → recovering s.mod false k = false →
    (s.mod.rcv.ctxWaiting.getLsbD k = false →
      Gives (.ctxReset n) s (hang false k 5 0 (some (n, reqTag s.mod n)) (acceptedFor s.mod n k))) ∧
    (s.mod.rcv.ctxWaiting.getLsbD k = true → ∃ t, exec (.ctxReset n) s = .next t ∧
      t.mod.rcv.queue = s.mod.rcv.queue ++
        [⟨false, k, s.mod.rcv.nextCapture, s.mod.rcv.ctxCause.get 0 k, some (n, reqTag s.mod n)⟩] ∧
      t.mod.rcv.ctr = s.mod.rcv.ctr)) ∧
  (∀ s n ps, Asked s.mod n 0x0C03 ps → Room s.mod n →
    let p := leAt ps 0 1
    ps.length = 8 → p < 4 → zeros ((ps.drop 1).take 7) = true → (n = 0 ∨ n = 14) → recovering s.mod true p = false →
    (s.mod.rcv.partWaiting.getLsbD p = false →
      Gives (.partReset n) s (hang true p 5 0 (some (n, reqTag s.mod n)) (acceptedFor s.mod n p))) ∧
    (s.mod.rcv.partWaiting.getLsbD p = true → ∃ t, exec (.partReset n) s = .next t ∧
      t.mod.rcv.queue = s.mod.rcv.queue ++
        [⟨true, p, s.mod.rcv.nextCapture, s.mod.rcv.partCause.get 0 p, some (n, reqTag s.mod n)⟩] ∧
      t.mod.rcv.ctr = s.mod.rcv.ctr)) ∧
  (∀ s n ps c, Asked s.mod n 0x0C04 ps → ps.length = 8 → s.mod.rcv.captures.find? (fun c => c.id == leAt ps 0 4) = some c →
    leAt ps 4 4 < c.bytes.length →
    let part := (c.bytes.drop (leAt ps 4 4)).take 496
    Responds (.rcvCaptureRead n) s n 0 (leBytes 2 part.length ++ leBytes 6 0 ++ part) s.mod) ∧
  (∀ s n ps, Asked s.mod n 0x0C05 ps →
    let k := leAt ps 0 1
    ps.length = 8 → k < 64 → leAt ps 1 1 ≤ 1 → zeros ((ps.drop 4).take 4) = true → (n = 14 ∨ (s.mod.ctx k).client = n) →
    (s.mod.ctx k).state = 1 →
    Responds (.fabricGroup n) s n 0 []
      (s.mod.updCtx k (fun v => { v with group := leAt ps 2 2, groupAuto := leAt ps 1 1 = 1 }))) ∧
  (∀ s n ps, Asked s.mod n 0x0C06 ps → Room s.mod n → ps.length = 8 → leAt ps 0 2 ≠ 0 → zeros ((ps.drop 2).take 6) = true →
    (n = 0 ∨ n = 14) →
    Gives (.fabricAbort n) s (fabricOriginate (leAt ps 0 2) true (acceptedFor s.mod n (leAt ps 0 2)))))

/-- R246, R252, R256, R377, R381, R390, R393, R396, R397, R399. GRAGOR_RESTART, from the host or safety client, is answered and restarts Gragor;
so do a missed deadline while it runs, and a lockstep mismatch once it has begun, which raises cause 8 where the safety block is on. A restart
leaves Gragor RESTARTING, counted, with no deferred command (those ended are kept by client for READY, with those of a restart before it),
context, job, queue, operation or window and no hang, each context's counted as reset; it keeps one capture for each partition, DDR4 is in
self-refresh, and a golden slot that it cuts is remembered as lost; the mailboxes' counters are zero, every core's engines cleared and the
chip store zero; network time, both copies of the region table, the latches, the CAN controllers and the lists of failed engines go on. The
model's choices: notes/assumptions/50 (every effect comes with the row, the four captures, the count of hangs). -/
def Obligations.GragorRestarts : Prop :=
  (∀ s n ps, Asked s.mod n 0x0C07 ps → ps.length = 8 → zeros ps = true → (n = 0 ∨ n = 14) →
    Gives (.gragorRestart n) s (gragorRestart (respond n 0 [] s.mod))) ∧
  (∀ s, s.mod.host.gState = 3 → Gives .gragorDeadlineMiss s (gragorRestart s.mod)) ∧
  (∀ s, let m := if domOn s.mod 48 then raiseCause 8 s.mod else s.mod
    (domOn s.mod 37 = true → 2 ≤ s.mod.host.gState → s.mod.host.gState ≤ 4 → Gives .lockstepMismatch s (gragorRestart m)) ∧
    (domOn s.mod 37 = true → (s.mod.host.gState < 2 ∨ 4 < s.mod.host.gState) → Gives .lockstepMismatch s m) ∧
    (domOn s.mod 37 = false → Gives .lockstepMismatch s s.mod)) ∧
  (∀ m, let t := gragorRestart m
    t.host.gState = 4 ∧ t.host.restarts = min 0xFFFF (m.host.restarts + 1) ∧ t.host.deferred = [] ∧ t.sched.ctxs = [] ∧
    t.sched.jobs = [] ∧ t.queues = [] ∧ t.fab.ops = [] ∧ t.fab.windows = [] ∧ t.time.now = m.time.now ∧
    t.safety.regions = m.safety.regions ∧ t.safety.regionsB = m.safety.regionsB ∧
    t.rcv.captures.map (·.id) = [3, 2, 1, 0].map (m.rcv.nextCapture + ·) ∧ t.rcv.nextCapture = m.rcv.nextCapture + 4 ∧
    t.rcv.queue = [] ∧ t.rcv.ctxRst = none ∧ t.rcv.partRst = none ∧ t.rcv.ctxWaiting = 0 ∧ t.rcv.partWaiting = 0 ∧
    t.rcv.ctr.get 0 1 = min (m.rcv.ctr.get 0 1 + hungCtxs m) 0xFFFFFFFF ∧ t.mem.partRefresh = 15 ∧ t.safety.gtPending = [] ∧
    (m.safety.gtPending ≠ [] → t.safety.gtLost = true) ∧ t.host.evtLost = 0 ∧ (∀ n, (t.mbx n).ctr = []) ∧
    (∀ n, n < 15 → t.host.ended.get 0 n = min 255 ((if m.host.gState = 4 then m.host.ended.get 0 n else 0) +
      (m.host.deferred.filter (fun d => d.client == n)).length)) ∧ t.power.latches = m.power.latches ∧ t.can = m.can ∧
    (∀ c e, c < nCores m → e < 64 → t.eng c e = {}) ∧
    (∀ c, c < 32 → (t.core c).job = none ∧ (t.core c).failed = (m.core c).failed) ∧
    (∀ a, storeBase ≤ a → a < storeBase + 4 * quadBytes → memByte t.mem a = 0))

/-! ### Start-up, images, attestation and pins (chapters 20 and 21) -/

/-- R316, R403 to R411, R413 to R415, Tables 20-4 to 20-6 and 20-8. The checks of an image give the reason of the first in their order that
fails: format, digest, SVN, then the two signatures. An ECDSA signature is r, then s, over the SHA-384; an HSS signature verifies only with
L = 2, LMS type 6 and LM-OTS type 3 throughout; the module's uses leaf N div 1,024 above and N mod 1,024 below, its upper part depending on
the first alone; a certificate is Table 20-5's. In execution, with parameters that break no condition of its list: BOOT_STATUS answers 72
bytes, with state, reason, source, SVNs and counts as said. IMAGE_WRITE puts its bytes into staging and nothing else there; IMAGE_FETCH, the
link being up, is accepted under Gragor for a granted range, and in the boot ROM fetches at once, in reads of at most 4,096 bytes; either
fetch ends with the bytes staged, or leaves its range open. IMAGE_RUN in the boot ROM starts a staged image that passes, or answers and shows
its reason. FW_INSTALL is accepted, and ends, staging cleared, with the image in eMMC, with its reason and eMMC as it was, or with an eMMC
that passes no check and the reason of that. SVN_COMMIT answers UNCHANGED, commits in an authenticated record, or reports that the write
failed. CERT_READ and ATTEST_READ answer up to 496 bytes. ATTEST is accepted while leaves are left, and ends with a report signed over its
first 256 bytes, a leaf used, at most four reports kept; with no leaf; or, its write having failed, without a report. BUILD_STATUS answers
slots, masks and whether a build is accepted; BUILD_ACCEPT stores the last scan in the copy that is not in force, or reports that its write
failed, the accepted build then standing. The model's choices: notes/assumptions/10 (what the standards compute is uninterpreted), 52 (what a
failed fetch, install or write leaves) and 83 (copies of the build). -/
def Obligations.BootCommands : Prop :=
  (∀ svn bs, let h := part bs 0 256
    let body := leAt h 8 4
    let r := imageReason svn bs
    let digestOk := part h 32 48 = digestBytes 48 (Config.sha384 (part bs 256 body)).toNat
    (formatOk h = false → r = 2) ∧
    (formatOk h = true → r =
      if ¬ digestOk then 3 else if leAt h 12 4 < svn then 4
      else if ecdsaGood Config.firmwareEcdsa h (part bs (256 + body) 96) = false then 5
      else if hssGood Config.firmwareHss h (part bs (352 + body) 5076) = false then 6 else 0)) ∧
  (∀ pub msg r s, r < 2 ^ 384 → s < 2 ^ 384 →
    ecdsaGood pub msg (digestBytes 48 r ++ digestBytes 48 s) = Config.p384Verify pub (Config.sha384 msg) (r, s)) ∧
  (∀ key msg sig, (beField key 0 4 ≠ 2 ∨ beField key 4 4 ≠ 6 ∨ beField key 8 4 ≠ 3 ∨ beField sig 0 4 ≠ 1 ∨
    1024 ≤ beField sig 4 4 ∨ beField sig 8 4 ≠ 3 ∨ beField sig 2188 4 ≠ 6 ∨ beField sig 2512 4 ≠ 6 ∨ beField sig 2516 4 ≠ 3 ∨
    1024 ≤ beField sig 2568 4 ∨ beField sig 2572 4 ≠ 3 ∨ beField sig 4752 4 ≠ 6) → hssGood key msg sig = false) ∧
  (∀ n msg, n < 2 ^ 20 → (hssSign n msg).length = 5076 ∧ beField (hssSign n msg) 4 4 = n / 1024 ∧
    beField (hssSign n msg) 2568 4 = n % 1024 ∧
    ∀ k msg', k / 1024 = n / 1024 → (hssSign k msg').take 2568 = (hssSign n msg).take 2568) ∧
  (∀ m i, i ≤ 1 → let c := certificate m i
    c.length = 5428 ∧ leAt c 0 4 = 0x4B5A4345 ∧ leAt c 4 2 = 1 ∧ leAt c 6 1 = i ∧
    leAt c 8 8 = (if i = 0 then m.host.serialNo.toNat else 0) ∧ leAt c 20 4 = (if i = 0 then m.host.coreEnable.toNat else 0) ∧
    (∀ k, k < 156 → c.getD (32 + k) 0 = (Config.certKeys i).getD k 0) ∧ identityKeys.length = 156) ∧
  (∀ s n ps, Asked s.mod n 0x0D00 ps → ps.length = 8 → zeros ps = true →
    ∃ data, data.length = 72 ∧ leAt data 0 1 = s.mod.host.gState % 256 ∧ leAt data 1 1 = s.mod.boot.reason % 256 ∧
      leAt data 2 1 = s.mod.boot.source % 256 ∧ leAt data 4 4 = s.mod.boot.svn % 2 ^ 32 ∧
      leAt data 8 4 = s.mod.boot.rpmbSvn % 2 ^ 32 ∧ leAt data 12 4 = s.mod.boot.lmsNext % 2 ^ 32 ∧
      leAt data 16 4 = s.mod.boot.bootCount % 2 ^ 32 ∧ leAt data 20 4 = s.mod.boot.staged % 2 ^ 32 ∧
      (s.mod.boot.source = 0xFF → data.drop 24 = List.replicate 48 0) ∧ Responds (.bootStatus n) s n 0 data s.mod) ∧
  (∀ s n ps, Asked s.mod n 0x0D01 ps →
    let off := leAt ps 0 4
    let k := leAt ps 4 2
    1 ≤ k → k ≤ 496 → ps.length = 8 + k → off + k ≤ 1578292 → zeros ((ps.drop 6).take 2) = true →
    (s.mod.host.gState = 3 → n = 0 ∨ n = 14) →
    ∃ st, (∀ i, i < k → st.get (0 : Byte) (off + i) = ps.getD (8 + i) 0) ∧
      (∀ i, ¬ (off ≤ i ∧ i < off + k) → st.get (0 : Byte) i = s.mod.boot.staging.get 0 i) ∧
      Responds (.imageWrite n) s n 0 [] { s.mod with
        boot := { s.mod.boot with
                  staging := st, staged := max s.mod.boot.staged (off + k)
                  stagedBy := if (s.mod.mbx n).path = 1 then 1 else 2 } }) ∧
  (∀ s n ok ps, Asked s.mod n 0x0D02 ps →
    let src := leAt ps 0 8
    let k := leAt ps 8 4
    ps.length = 16 → k ≤ 1578292 → zeros ((ps.drop 12).take 4) = true → s.mod.links.pcieSpeed ≠ 0 →
    (s.mod.host.gState = 3 → (n = 0 ∨ n = 14) → coldCovered s.mod src k = true → Room s.mod n →
      Gives (.imageFetch n ok) s { acceptedFor s.mod n 0 with
        boot := { s.mod.boot with fetching := s.mod.boot.fetching ++ [(src, k, s.mod.time.elapsed)] } }) ∧
    (s.mod.host.gState ≠ 3 → ok = true →
      ∃ st, (∀ i, i < k → st.get (0 : Byte) i = hostByte s.mod (src + i)) ∧
        Responds (.imageFetch n ok) s n 0 [] { s.mod with
          boot := { s.mod.boot with staging := st, staged := k, stagedBy := 2 }
          wire := ((pieces src k).map (fun c => Wire.hostRead c.1 c.2)).reverse ++ s.mod.wire }) ∧
    (s.mod.host.gState ≠ 3 → ok = false →
      ∃ st c, (∀ i, k ≤ i → st.get (0 : Byte) i = s.mod.boot.staging.get 0 i) ∧
        Responds (.imageFetch n ok) s n 0x32 [] { s.mod with
          boot := { s.mod.boot with staging := st }, freeCount := c
          wire := ((pieces src k).map (fun c => Wire.hostRead c.1 c.2)).reverse ++ s.mod.wire })) ∧
  (∀ a n, (∀ c ∈ pieces a n, 1 ≤ n → 1 ≤ c.2 ∧ c.2 ≤ 4096 ∧ a ≤ c.1 ∧ c.1 + c.2 ≤ a + n) ∧
    ((pieces a n).map Prod.snd).sum = n) ∧
  (∀ s ok src k t0 rest d, s.mod.host.gState = 3 → s.mod.boot.fetching = (src, k, t0) :: rest → Outstanding s.mod 0x0D02 0 d →
    ((ok = true ∧ s.mod.links.pcieSpeed ≠ 0 ∧ coldCovered s.mod src k = true) →
      ∃ st, (∀ i, i < k → st.get (0 : Byte) i = (coldRead s.mod src k).getD i 0) ∧
        Gives (.imageFetchComplete ok) s (completed { s.mod with
          boot := { s.mod.boot with fetching := rest, staging := st, staged := k, stagedBy := 2 }
          wire := (coldAsk src k s.mod).wire } d 0 [])) ∧
    (¬ (ok = true ∧ s.mod.links.pcieSpeed ≠ 0 ∧ coldCovered s.mod src k = true) →
      ∃ st c, Gives (.imageFetchComplete ok) s (completed { s.mod with
        boot := { s.mod.boot with fetching := rest, staging := st }
        freeCount := c } d 0x32 []))) ∧
  (∀ s n ps, Asked s.mod n 0x0D03 ps → ps.length = 8 → zeros ps = true → s.mod.host.gState ≠ 3 →
    let bs := stagedImage s.mod
    if imageReason s.mod.boot.rpmbSvn bs = 0 then
      (∃ t, exec (.imageRun n) s = .next t ∧ (t.mod.mbx n).state = 3 ∧ t.mod.host.gState = 2 ∧
        t.mod.host.fwVersion = BitVec.ofNat 32 (leAt (part bs 0 256) 16 4) ∧
        t.mod.boot = { s.mod.boot with
                       staging := [], staged := 0, stagedBy := 0, source := s.mod.boot.stagedBy
                       svn := leAt (part bs 0 256) 12 4, header := part bs 0 256 })
    else
      Responds (.imageRun n) s n 0x40 [] { s.mod with
        host := { s.mod.host with gState := 1 }
        boot := { s.mod.boot with reason := imageReason s.mod.boot.rpmbSvn bs } }) ∧
  (∀ s n ps, Asked s.mod n 0x0D04 ps → ps.length = 8 → zeros ps = true → (n = 0 ∨ n = 14) → s.mod.boot.installing = false →
    Room s.mod n →
    Gives (.fwInstall n) s { acceptedFor s.mod n 0 with boot := { s.mod.boot with installing := true } }) ∧
  (∀ s ok d, s.mod.host.gState = 3 → s.mod.boot.installing = true → Outstanding s.mod 0x0D04 0 d →
    let bs := stagedImage s.mod
    let r := imageReason s.mod.boot.rpmbSvn bs
    if r ≠ 0 then Gives (.fwInstallComplete ok) s
      (completed { s.mod with
        boot := { s.mod.boot with installing := false, reason := r, staging := [], staged := 0, stagedBy := 0 } } d 0x40 [])
    else if ok = true then Gives (.fwInstallComplete ok) s
      (completed { s.mod with
        boot := { s.mod.boot with
                  installing := false, emmc := bs, emmcValid := true, staging := [], staged := 0, stagedBy := 0 } } d 0 [])
    else ∃ bad c, imageReason s.mod.boot.rpmbSvn bad ≠ 0 ∧ Gives (.fwInstallComplete ok) s
      (completed { s.mod with
        boot := { s.mod.boot with
                  installing := false, emmc := bad, emmcValid := false, staging := [], staged := 0, stagedBy := 0
                  reason := if bad = [] then 1 else imageReason s.mod.boot.rpmbSvn bad }
        freeCount := c } d 0x40 [])) ∧
  (∀ s n ok ps, Asked s.mod n 0x0D05 ps → ps.length = 8 → zeros ps = true → (n = 0 ∨ n = 14) → s.mod.boot.installing = false →
    (s.mod.boot.rpmbSvn = s.mod.boot.svn → Responds (.svnCommit n ok) s n 2 [] s.mod) ∧
    (s.mod.boot.rpmbSvn ≠ s.mod.boot.svn → ok = true →
      Responds (.svnCommit n ok) s n 0 [] { s.mod with
        boot := { s.mod.boot with
                  rpmbSvn := max s.mod.boot.rpmbSvn s.mod.boot.svn
                  rpmbAuth := Config.rpmbTag rpmbKey
                    (rpmbRecord s.mod.boot.lmsNext (max s.mod.boot.rpmbSvn s.mod.boot.svn) s.mod.boot.bootCount) } }) ∧
    (s.mod.boot.rpmbSvn ≠ s.mod.boot.svn → ok = false → Responds (.svnCommit n ok) s n 0x32 [] s.mod)) ∧
  (∀ s n ps, Asked s.mod n 0x0D06 ps → ps.length = 8 → leAt ps 0 1 ≤ 1 → zeros ((ps.drop 1).take 3) = true → leAt ps 4 4 < 5428 →
    let data := ((certificate s.mod (leAt ps 0 1)).drop (leAt ps 4 4)).take 496
    Responds (.certRead n) s n 0 (leBytes 2 data.length ++ leBytes 6 0 ++ data) s.mod) ∧
  (∀ s n ps, Asked s.mod n 0x0D07 ps → ps.length = 32 → s.mod.boot.lmsNext < 2 ^ 20 → Room s.mod n →
    Gives (.attest n) s { acceptedFor s.mod n 0 with boot := { s.mod.boot with attests := s.mod.boot.attests ++ [ps] } }) ∧
  (∀ s ok nonce rest d, s.mod.host.gState = 3 → s.mod.boot.attests = nonce :: rest → nonce.length = 32 →
    Outstanding s.mod 0x0D07 0 d →
    let leaf := s.mod.boot.lmsNext
    (2 ^ 20 ≤ leaf → Gives (.attestComplete ok) s
      (completed { s.mod with boot := { s.mod.boot with attests := rest } } d 0x11 [])) ∧
    (leaf < 2 ^ 20 → ok = false → ∃ b c, b ≤ 1 ∧ Gives (.attestComplete ok) s
      (completed { s.mod with
        boot := { s.mod.boot with
                  attests := rest, lmsNext := leaf + b
                  rpmbAuth := Config.rpmbTag rpmbKey (rpmbRecord (leaf + b) s.mod.boot.rpmbSvn s.mod.boot.bootCount) }
        freeCount := c } d 0x32 [])) ∧
    (leaf < 2 ^ 20 → ok = true → ∃ bs : List Byte, bs.length = 5428 ∧ leAt bs 0 4 = 0x4B5A4154 ∧
      leAt bs 8 8 = s.mod.host.serialNo.toNat ∧ leAt bs 28 4 = s.mod.boot.svn % 2 ^ 32 ∧ leAt bs 40 4 = leaf ∧
      (bs.drop 72).take 32 = nonce ∧ (bs.drop 256).take 96 = ecdsaSign (bs.take 256) ∧
      bs.drop 352 = hssSign leaf (bs.take 256) ∧
      Gives (.attestComplete ok) s (completed { s.mod with
        boot := { s.mod.boot with
                  attests := rest, lmsNext := leaf + 1
                  rpmbAuth := Config.rpmbTag rpmbKey (rpmbRecord (leaf + 1) s.mod.boot.rpmbSvn s.mod.boot.bootCount), nextReport := s.mod.boot.nextReport + 1
                  reports := (⟨s.mod.boot.nextReport, bs⟩ :: s.mod.boot.reports).take 4 } } d 0
        (leBytes 4 s.mod.boot.nextReport ++ leBytes 4 leaf)))) ∧
  (∀ s n ps r, Asked s.mod n 0x0D08 ps → ps.length = 8 → leAt ps 4 4 < 5428 →
    s.mod.boot.reports.find? (fun r => r.id == leAt ps 0 4) = some r →
    let data := (r.bytes.drop (leAt ps 4 4)).take 496
    Responds (.attestRead n) s n 0 (leBytes 2 data.length ++ leBytes 6 0 ++ data) s.mod) ∧
  (∀ s n ps, Asked s.mod n 0x0D09 ps → ps.length = 8 → zeros ps = true →
    ∃ data, data.length = 80 ∧ (∀ i, i < 16 → leAt data i 1 = slotState (slotRec s.mod i)) ∧
      (∀ i, i < 4 → leAt data (16 + 2 * i) 2 = (s.mod.boot.masks.getD i 0).toNat) ∧
      leAt data 24 8 = (if (acceptedBuild s.mod).isSome then 1 else 0) ∧ Responds (.buildStatus n) s n 0 data s.mod) ∧
  (∀ s n ok ps, Asked s.mod n 0x0D0A ps → ps.length = 8 → zeros ps = true → (n = 0 ∨ n = 14) →
    (ok = true → ∃ t, exec (.buildAccept n ok) s = .next t ∧ (t.mod.mbx n).state = 3 ∧ t.mod.boot.masks = [0, 0, 0, 0] ∧
      acceptedBuild t.mod = some ((List.range 16).map (fun i => (slotState (slotRec s.mod i), slotDigest (slotRec s.mod i)))) ∧
      t.mod.boot.quiet = some s.mod.links.ids ∧
      (t.mod.boot.buildA = s.mod.boot.buildA ∨ t.mod.boot.buildB = s.mod.boot.buildB)) ∧
    (ok = false → ∃ t, exec (.buildAccept n ok) s = .next t ∧ (t.mod.mbx n).state = 3 ∧ acceptedBuild t.mod = acceptedBuild s.mod ∧
      t.mod.boot.masks = s.mod.boot.masks))

/-- R242, R251, R252, R340, R343, R345, R346, R363, R366, R392, R401, R402, R406, R425 to R430, Table 20-1. Start-up samples the straps, leaves
memory, engines, queues, contexts and jobs empty, keeps eMMC and RPMB, latches SAFE_FAULT# for its self-test, and halts on the reserved strap
and on a failed root of trust or pull-up check, waits for an image where eMMC has none that can be read or that passes, or starts the one in
eMMC; it counts boots. Input power begins it, also where it is present already, but not in a trip or beside a reset; its loss and a RESET#
of 10 us leave every domain off and no job, engine or memory. RESET# keeps a trip, its record and its cause, and a locked debug access: its
release starts up with those, or, in a trip, leaves PD_AON alone on. A low of less than 2 us is not seen. WAKE# from Off or after a trip
starts up with the latches held and debug access locked as it was; in Hold or Sleep, enabled, it wakes towards WAKE_TO; in an entry to Off,
or enabled to another, it makes an abort due. The cut-off of Off switches the rest off and captures PPS_OUT. PERST# takes the link down until
its release lets it train, and what MSI-X holds stays. The TAP shows the instruction selected and, for IDCODE, the code of part and stepping.
READY, from STARTING or RESTARTING, posts its record first, forgets reports, keeps captures and numbers them anew, ends every command of a
mailbox as restarted, forgets L only after a restart, and leaves a locked path and a locked debug access as they were. The model's choices:
notes/assumptions/53 (a low from 2 to 10 us is seen or not; RESET# keeps a trip, which R363 lets only WAKE# and 12 V end; PERST# and
MSI-X), 16, 52 (the order at start-up) and 54 (an instruction not offered). -/
def Obligations.StartUpAndPins : Prop :=
  (∀ reason b m, m.boot.installing = false →
    let t := startUp reason b m
    let src := b.bootSrc % 4
    t.power.locked = true ∧ t.host.moduleId = b.moduleId % 16 ∧ t.host.bootSrc = src ∧ t.host.profileStrap = b.profile % 4 ∧
    t.host.readyReason = reason ∧ t.sched.ctxs = [] ∧ t.sched.jobs = [] ∧ t.queues = [] ∧ t.engines = [] ∧ t.mem = {} ∧
    t.boot.rpmbSvn = m.boot.rpmbSvn ∧ t.boot.emmc = m.boot.emmc ∧ t.safety.latched = 0x1000 ∧ t.safety.asserted = true ∧ t.safety.selfTest = 0 ∧
    (src = 3 → t.host.gState = 5 ∧ t.boot.reason = 9 ∧ t.boot.bootCount = m.boot.bootCount) ∧
    (src ≠ 3 → b.fail = 8 → t.host.gState = 5 ∧ t.boot.reason = 8) ∧
    (src ≠ 3 → b.fail = 7 → t.host.gState = 5 ∧ t.boot.reason = 7) ∧
    (src ≠ 3 → b.fail ≠ 8 → b.fail ≠ 7 → t.boot.bootCount = (m.boot.bootCount + 1) % 2 ^ 32 ∧
      (src ≠ 0 → t.host.gState = 1 ∧ t.boot.reason = 0) ∧
      (src = 0 → (m.boot.emmc = [] ∨ b.fail = 1) → t.host.gState = 1 ∧ t.boot.reason = 1) ∧
      t.boot.rpmbAuth = Config.rpmbTag rpmbKey (rpmbRecord t.boot.lmsNext m.boot.rpmbSvn t.boot.bootCount) ∧
      (src = 0 → m.boot.emmc ≠ [] → b.fail ≠ 1 →
        if imageReason m.boot.rpmbSvn m.boot.emmc = 0 then
          t.host.gState = 2 ∧ t.boot.source = 0 ∧ t.boot.svn = leAt (part m.boot.emmc 0 256) 12 4
        else t.host.gState = 1 ∧ t.boot.reason = imageReason m.boot.rpmbSvn m.boot.emmc))) ∧
  (∀ s b, s.mod.power.input = false →
    Gives (.powerOn b) s (startUp 0 b { s.mod with power := { s.mod.power with input := true } })) ∧
  (∀ s b, s.mod.power.input = true →
    ((s.mod.host.gState = 0 ∧ s.mod.power.locked = false ∧ s.mod.power.resetLow = false ∧ s.mod.power.tripped = false ∧
        s.mod.power.state = 0) → Gives (.powerOn b) s (startUp 0 b s.mod)) ∧
    ((s.mod.power.tripped = true ∨ s.mod.power.locked = true ∨ s.mod.power.resetLow = true ∨ s.mod.power.state ≠ 0) →
      Gives (.powerOn b) s s.mod)) ∧
  (∀ s, s.mod.power.input = true → ∃ t, exec .inputPowerLoss s = .next t ∧
    t.mod.power = { input := false, on := 0, latches := 0 } ∧ t.mod.sched = {} ∧ t.mod.engines = [] ∧ t.mod.mem = {}) ∧
  (∀ s us, s.mod.power.input = true → s.mod.power.resetLow = false →
    (10 ≤ us → ∃ t, exec (.resetAssert us) s = .next t ∧ t.mod.power = { input := true, on := 0, resetLow := true, tripped := s.mod.power.tripped } ∧
      t.mod.sched = {} ∧ t.mod.engines = [] ∧ t.mod.mem = {} ∧
      t.mod.safety = { sticky := setBit 0 5 (s.mod.safety.sticky.getLsbD 5) } ∧
      t.mod.health.debugLock = s.mod.health.debugLock ∧ t.mod.health.tripRec = s.mod.health.tripRec) ∧
    (us < 2 → ∃ c, Gives (.resetAssert us) s { s.mod with freeCount := c })) ∧
  (∀ s b, s.mod.power.resetLow = true →
    (s.mod.power.tripped = false → ∃ t, exec (.resetRelease b) s = .next t ∧ t.mod.power.resetLow = false ∧
      t.mod.power.tripped = false ∧ t.mod.host = (startUp 1 b s.mod).host ∧ t.mod.boot = (startUp 1 b s.mod).boot ∧
      t.mod.safety.sticky = setBit 0 5 (s.mod.safety.sticky.getLsbD 5) ∧
      t.mod.health.debugLock = s.mod.health.debugLock ∧ t.mod.health.tripRec = s.mod.health.tripRec) ∧
    (s.mod.power.tripped = true → Gives (.resetRelease b) s { s.mod with
      power := { s.mod.power with resetLow := false, on := setBit 0 49 true } })) ∧
  (∀ s us b, s.mod.power.input = true → s.mod.power.resetLow = false →
    (10 ≤ us → (s.mod.power.state = 4 ∨ s.mod.power.tripped = true) → ∃ t c, exec (.wakePin us b) s = .next t ∧
      t.mod.host = (startUp 0 b { s.mod with freeCount := c }).host ∧ t.mod.boot = (startUp 0 b { s.mod with freeCount := c }).boot ∧
      t.mod.power.latches = s.mod.power.latches ∧ t.mod.power.levels = s.mod.power.levels ∧ t.mod.power.wakeCause = 0x2C ∧
      t.mod.power.tripped = false ∧ t.mod.health.debugLock = s.mod.health.debugLock) ∧
    (10 ≤ us → s.mod.power.tripped = false → s.mod.power.entry = none → s.mod.power.waking = none →
      s.mod.power.wakeMask.getLsbD 0 = true → (s.mod.power.state = 2 ∨ s.mod.power.state = 3) →
      (s.mod.power.wakeTo = 0 ∨ s.mod.power.wakeTo = 2) →
      ∃ c, Gives (.wakePin us b) s { s.mod with
        power := { s.mod.power with waking := some s.mod.power.wakeTo, wakeCause := 0x2C }
        freeCount := c }) ∧
    (10 ≤ us → s.mod.power.tripped = false → s.mod.power.state ≠ 4 →
      (s.mod.power.entry = some 4 ∨
        ((s.mod.power.entry = some 2 ∨ s.mod.power.entry = some 3) ∧ s.mod.power.wakeMask.getLsbD 0 = true)) →
      ∃ c, Gives (.wakePin us b) s { s.mod with
        power := { s.mod.power with abortDue := some (s.mod.power.abortDue.getD 0x2C) }
        freeCount := c }) ∧
    (us < 2 → ∃ c, Gives (.wakePin us b) s { s.mod with freeCount := c })) ∧
  (∀ s t0, s.mod.power.offAt = some t0 → s.mod.power.state = 4 → t0 + 10 * msUnit ≤ s.mod.time.elapsed →
    ∃ t, exec .offCutoff s = .next t ∧ t.mod.power.on = 0 ∧ t.mod.power.state = 4 ∧
      t.mod.power.latches = s.mod.power.latches ||| 0x20 ∧
      (∀ i, i ≠ 5 → t.mod.power.levels.getLsbD i = s.mod.power.levels.getLsbD i) ∧
      t.mod.power.levels.getLsbD 5 = (if s.mod.power.latches.getLsbD 5 then s.mod.power.levels.getLsbD 5 else s.mod.time.ppsOut) ∧ t.mod.sched = {} ∧ t.mod.mem = {}) ∧
  (∀ s, ∃ t, exec .perstAssert s = .next t ∧ t.mod.links = { s.mod.links with perst := true, pcieSpeed := 0, pcieWidth := 0 } ∧
    t.mod.host.msixOn = s.mod.host.msixOn ∧ t.mod.host.msixMask = s.mod.host.msixMask ∧ t.mod.host.msixTab = s.mod.host.msixTab ∧
    ∀ n, s.mod.host.msixPba.getLsbD n = true → t.mod.host.msixPba.getLsbD n = true) ∧
  (∀ s, Gives .perstRelease s { s.mod with links := { s.mod.links with perst := false } }) ∧
  (∀ s ir, s.mod.power.input = true →
    (s.mod.power.resetLow = false → domOn s.mod 49 = true → ∀ i, i = (if ir ≤ 1 then ir else 0) →
      Gives (.tapInstruction ir) s { s.mod with
        boot := { s.mod.boot with tap := i }
        wire := .tap i (if i = 1 then idcode s.mod else 0) :: s.mod.wire }) ∧
    (s.mod.power.resetLow = true → ir ≤ 5 → Gives (.tapInstruction ir) s { s.mod with
      boot := { s.mod.boot with tap := ir }
      wire := .tap ir (if ir = 1 then idcode s.mod else 0) :: s.mod.wire })) ∧
  (∀ m, (m.host.part ≠ Config.part1536 → m.host.stepping ≠ 0xA1 → idcode m = 0x22048B47) ∧
    (m.host.part ≠ Config.part1536 → m.host.stepping = 0xA1 → idcode m = 0x12048B47) ∧
    (m.host.part = Config.part1536 → m.host.stepping ≠ 0xA1 → idcode m = 0x21536B47)) ∧
  (∀ s failed recs, (s.mod.host.gState = 2 ∨ s.mod.host.gState = 4) →
    ∃ t, exec (.gragorReady failed recs) s = .next t ∧ t.mod.host.gState = 3 ∧ t.mod.host.evtTail = 0 ∧
      (t.mod.host.ring.get {} 0).code = 0x0010 ∧ (t.mod.host.ring.get {} 0).source = 0xFF ∧
      t.mod.boot.reports = [] ∧ t.mod.boot.nextReport = 1 ∧ t.mod.rcv.captures = s.mod.rcv.captures ∧
      t.mod.rcv.nextCapture = 1 ∧ t.mod.mem.partRefresh = 0 ∧ (s.mod.host.gState = 4 → t.mod.boot.compared = false) ∧
      (s.mod.host.gState = 2 → s.mod.health.debugLock = true → t.mod.health.debugLock = true ∧ t.mod.health.debugOpen = false) ∧
      (s.mod.host.gState = 2 → s.mod.host.mbxLock = true → t.mod.host.mbxLock = true ∧ t.mod.host.mbxPath = s.mod.host.mbxPath) ∧
      (∀ n, n < 15 → (t.mod.mbx n).owner = false ∧
        (t.mod.mbx n).last = (if s.mod.host.gState = 4 then none else (s.mod.mbx n).last) ∧
        ((s.mod.mbx n).owner = true → (t.mod.mbx n).state = 5)))

/-! ### The whole machine -/

/-- A step takes the command at the front of the queue and runs it on the module with the queue's rest. On an empty queue, no frame being
on a transmit port's lanes, the time counter passes one TSC cycle (R283; that an empty queue does so is the model's choice,
notes/assumptions/3), counted where PD_FAB is on, and rests until the root PLL has locked (R348). -/
def Obligations.StepRunsFront : Prop :=
  (∀ s i rest, s.pending = i :: rest → step s = exec i { s with pending := rest }) ∧
  (∀ s, s.pending = [] → (∀ p < 2, (s.mod.txPort p).frame = none) →
    (s.mod.power.locked = false → step s = .next s) ∧
    (s.mod.power.locked = true → s.mod.time.now < timeMod - 6 * nsUnit → |s.mod.time.rate| ≤ 140737488 →
      ∃ t d, step s = .next t ∧ t = { s with mod := { s.mod with
          time := { s.mod.time with
            now := s.mod.time.now + d, elapsed := s.mod.time.elapsed + d
            cycles := s.mod.time.cycles + (if domOn s.mod 36 then 1 else 0) } } } ∧
        (d : Int) = 5 * 2 ^ 63 + s.mod.time.rate * 163840))

/-- R8: after power-on every field is at its Reset value (a sample over every kind of state), nothing waits, SAFE_FAULT# is asserted with
POWER_ON latched (R381), GRAGOR_STATE is BOOT_ROM (Table 20-1), and memory is in canonical form with nothing listed. The values that
entries 1, 2, 13 and 15 of notes/assumptions/ name are the model's choice. -/
def Obligations.ResetState : Prop :=
  let m := State.reset.mod
  core.reset = State.reset ∧ State.reset.pending = [] ∧ m.memOk ∧ (∀ a, memByte m.mem a = 0) ∧
  (∀ c e, m.eng c e = {} ∧ (m.eng c e).run = .off) ∧ (∀ k, (m.ctx k).state = 0) ∧ (∀ q, (m.queue q).state = 0) ∧
  (∀ n, (m.mbx n).state = 0 ∧ (m.mbx n).owner = false ∧ (m.mbx n).last = none) ∧ (∀ i, m.fab.sync.get 0 i = 0) ∧
  m.host.gState = 0 ∧ m.host.evtHead = 0 ∧ m.host.evtTail = 0 ∧ m.host.mbxPath = 0 ∧ m.host.mbxLock = false ∧
  m.time.now = 0 ∧ m.power.locked = false ∧ m.links.pcieSpeed = 0 ∧ m.safety.asserted = true ∧ m.safety.latched = 0x1000 ∧
  (∀ i, m.safety.regions.get {} i = {}) ∧ m.boot.tap = 1 ∧ m.rcv.captures = [] ∧ m.kv.pools = [] ∧
  (∀ k, (m.canCtl k).mode = 0) ∧ (∀ i, (m.loop i).state = .off) ∧ (∀ i, (m.stream i).state = 0)

/-- Commands are taken first in, first out, none is lost and none is made: as long as every step answers a next state, after k steps the
queue is the old one without its first k. -/
def Obligations.QueueIsFifo : Prop :=
  ∀ k s t, core.run k s = .next t → t.pending = s.pending.drop k

/-- Every step that answers a next state keeps the bytes of memory, its poison and host memory in canonical form. -/
def Obligations.StepsKeepMemoryForm : Prop :=
  ∀ s t, s.mod.memOk → step s = .next t → t.mod.memOk

/-- R381: SAFE_FAULT#, asserted, is released by no step but that of a SAFE_CLEAR of mailbox 14 at the queue's front which finds the
self-test passed and no cause present, and clears the latches. -/
def Obligations.SafeFaultHeld : Prop :=
  ∀ s t, step s = .next t → s.mod.safety.asserted = true → t.mod.safety.asserted = false →
    (∃ rest, s.pending = .safeClear 14 :: rest) ∧ s.mod.safety.selfTest = 1 ∧ present_ s.mod = 0 ∧ t.mod.safety.latched = 0

/-- R406, R410: nothing lowers FW_SVN, and only SVN_COMMIT raises it, to the running image's SVN; LMS_NEXT never falls, and a report that
is new was signed with a leaf that LMS_NEXT has passed. -/
def Obligations.SecurityCountersNeverFall : Prop :=
  ∀ s t, step s = .next t →
    s.mod.boot.rpmbSvn ≤ t.mod.boot.rpmbSvn ∧
    (s.mod.boot.rpmbSvn ≠ t.mod.boot.rpmbSvn →
      (∃ n ok rest, s.pending = .svnCommit n ok :: rest) ∧ t.mod.boot.rpmbSvn = s.mod.boot.svn) ∧
    s.mod.boot.lmsNext ≤ t.mod.boot.lmsNext ∧
    (∀ r ∈ t.mod.boot.reports, r ∉ s.mod.boot.reports →
      leAt r.bytes 40 4 = s.mod.boot.lmsNext ∧ t.mod.boot.lmsNext = s.mod.boot.lmsNext + 1)

end
end

