-- ==== Sys2Proof/Laws/State.lean ====
section
/-!
SUPPORT. One lemma per field per update of the module, each true by rfl: what an update of one numbered thing leaves, so that no
later proof unfolds a record update.
-/

namespace Sys2Proof.Machine

/-! ### setCore -/

@[simp] theorem Module.setCore_engines (m : Module) (c : Nat) (v : Core) : (m.setCore c v).engines = m.engines := rfl
@[simp] theorem Module.setCore_mem (m : Module) (c : Nat) (v : Core) : (m.setCore c v).mem = m.mem := rfl
@[simp] theorem Module.setCore_fab (m : Module) (c : Nat) (v : Core) : (m.setCore c v).fab = m.fab := rfl
@[simp] theorem Module.setCore_sched (m : Module) (c : Nat) (v : Core) : (m.setCore c v).sched = m.sched := rfl
@[simp] theorem Module.setCore_kv (m : Module) (c : Nat) (v : Core) : (m.setCore c v).kv = m.kv := rfl
@[simp] theorem Module.setCore_queues (m : Module) (c : Nat) (v : Core) : (m.setCore c v).queues = m.queues := rfl
@[simp] theorem Module.setCore_rx (m : Module) (c : Nat) (v : Core) : (m.setCore c v).rx = m.rx := rfl
@[simp] theorem Module.setCore_streams (m : Module) (c : Nat) (v : Core) : (m.setCore c v).streams = m.streams := rfl
@[simp] theorem Module.setCore_trl (m : Module) (c : Nat) (v : Core) : (m.setCore c v).trl = m.trl := rfl
@[simp] theorem Module.setCore_host (m : Module) (c : Nat) (v : Core) : (m.setCore c v).host = m.host := rfl
@[simp] theorem Module.setCore_time (m : Module) (c : Nat) (v : Core) : (m.setCore c v).time = m.time := rfl
@[simp] theorem Module.setCore_can (m : Module) (c : Nat) (v : Core) : (m.setCore c v).can = m.can := rfl
@[simp] theorem Module.setCore_links (m : Module) (c : Nat) (v : Core) : (m.setCore c v).links = m.links := rfl
@[simp] theorem Module.setCore_power (m : Module) (c : Nat) (v : Core) : (m.setCore c v).power = m.power := rfl
@[simp] theorem Module.setCore_health (m : Module) (c : Nat) (v : Core) : (m.setCore c v).health = m.health := rfl
@[simp] theorem Module.setCore_safety (m : Module) (c : Nat) (v : Core) : (m.setCore c v).safety = m.safety := rfl
@[simp] theorem Module.setCore_rcv (m : Module) (c : Nat) (v : Core) : (m.setCore c v).rcv = m.rcv := rfl
@[simp] theorem Module.setCore_boot (m : Module) (c : Nat) (v : Core) : (m.setCore c v).boot = m.boot := rfl
@[simp] theorem Module.setCore_hostMem (m : Module) (c : Nat) (v : Core) : (m.setCore c v).hostMem = m.hostMem := rfl
@[simp] theorem Module.setCore_wire (m : Module) (c : Nat) (v : Core) : (m.setCore c v).wire = m.wire := rfl
@[simp] theorem Module.setCore_freeCount (m : Module) (c : Nat) (v : Core) : (m.setCore c v).freeCount = m.freeCount := rfl
@[simp] theorem Module.setCore_eng (m : Module) (c : Nat) (v : Core) (c' e' : Nat) : (m.setCore c v).eng c' e' = m.eng c' e' := rfl
@[simp] theorem Module.setCore_ctx (m : Module) (c : Nat) (v : Core) (k' : Nat) : (m.setCore c v).ctx k' = m.ctx k' := rfl
@[simp] theorem Module.setCore_client (m : Module) (c : Nat) (v : Core) (n' : Nat) : (m.setCore c v).client n' = m.client n' := rfl
@[simp] theorem Module.setCore_queue (m : Module) (c : Nat) (v : Core) (q' : Nat) : (m.setCore c v).queue q' = m.queue q' := rfl
@[simp] theorem Module.setCore_mbx (m : Module) (c : Nat) (v : Core) (n' : Nat) : (m.setCore c v).mbx n' = m.mbx n' := rfl
@[simp] theorem Module.setCore_window (m : Module) (c : Nat) (v : Core) (w' : Nat) : (m.setCore c v).window w' = m.window w' := rfl
@[simp] theorem Module.setCore_stream (m : Module) (c : Nat) (v : Core) (i' : Nat) : (m.setCore c v).stream i' = m.stream i' := rfl
@[simp] theorem Module.setCore_canCtl (m : Module) (c : Nat) (v : Core) (k' : Nat) : (m.setCore c v).canCtl k' = m.canCtl k' := rfl
@[simp] theorem Module.setCore_port (m : Module) (c : Nat) (v : Core) (p' : Nat) : (m.setCore c v).port p' = m.port p' := rfl
@[simp] theorem Module.setCore_loop (m : Module) (c : Nat) (v : Core) (i' : Nat) : (m.setCore c v).loop i' = m.loop i' := rfl
@[simp] theorem Module.setCore_runner (m : Module) (c : Nat) (v : Core) (r' : Nat) : (m.setCore c v).runner r' = m.runner r' := rfl
@[simp] theorem Module.setCore_credit (m : Module) (c : Nat) (v : Core) (r' k' : Nat) : (m.setCore c v).credit r' k' = m.credit r' k' := rfl
@[simp] theorem Module.setCore_ownCredit (m : Module) (c : Nat) (v : Core) (r' : Nat) : (m.setCore c v).ownCredit r' = m.ownCredit r' := rfl
@[simp] theorem Module.setCore_plan (m : Module) (c : Nat) (v : Core) (i' : Nat) : (m.setCore c v).plan i' = m.plan i' := rfl
@[simp] theorem Module.setCore_txPort (m : Module) (c : Nat) (v : Core) (p' : Nat) : (m.setCore c v).txPort p' = m.txPort p' := rfl
@[simp] theorem Module.setCore_rxPort (m : Module) (c : Nat) (v : Core) (p' : Nat) : (m.setCore c v).rxPort p' = m.rxPort p' := rfl
@[simp] theorem Module.setCore_pool (m : Module) (c : Nat) (v : Core) (p' : Nat) : (m.setCore c v).pool p' = m.pool p' := rfl
@[simp] theorem Module.setCore_checker (m : Module) (c : Nat) (v : Core) (ch' : Nat) : (m.setCore c v).checker ch' = m.checker ch' := rfl

/-! ### setEng -/

@[simp] theorem Module.setEng_cores (m : Module) (c e : Nat) (v : Engine) : (m.setEng c e v).cores = m.cores := rfl
@[simp] theorem Module.setEng_mem (m : Module) (c e : Nat) (v : Engine) : (m.setEng c e v).mem = m.mem := rfl
@[simp] theorem Module.setEng_fab (m : Module) (c e : Nat) (v : Engine) : (m.setEng c e v).fab = m.fab := rfl
@[simp] theorem Module.setEng_sched (m : Module) (c e : Nat) (v : Engine) : (m.setEng c e v).sched = m.sched := rfl
@[simp] theorem Module.setEng_kv (m : Module) (c e : Nat) (v : Engine) : (m.setEng c e v).kv = m.kv := rfl
@[simp] theorem Module.setEng_queues (m : Module) (c e : Nat) (v : Engine) : (m.setEng c e v).queues = m.queues := rfl
@[simp] theorem Module.setEng_rx (m : Module) (c e : Nat) (v : Engine) : (m.setEng c e v).rx = m.rx := rfl
@[simp] theorem Module.setEng_streams (m : Module) (c e : Nat) (v : Engine) : (m.setEng c e v).streams = m.streams := rfl
@[simp] theorem Module.setEng_trl (m : Module) (c e : Nat) (v : Engine) : (m.setEng c e v).trl = m.trl := rfl
@[simp] theorem Module.setEng_host (m : Module) (c e : Nat) (v : Engine) : (m.setEng c e v).host = m.host := rfl
@[simp] theorem Module.setEng_time (m : Module) (c e : Nat) (v : Engine) : (m.setEng c e v).time = m.time := rfl
@[simp] theorem Module.setEng_can (m : Module) (c e : Nat) (v : Engine) : (m.setEng c e v).can = m.can := rfl
@[simp] theorem Module.setEng_links (m : Module) (c e : Nat) (v : Engine) : (m.setEng c e v).links = m.links := rfl
@[simp] theorem Module.setEng_power (m : Module) (c e : Nat) (v : Engine) : (m.setEng c e v).power = m.power := rfl
@[simp] theorem Module.setEng_health (m : Module) (c e : Nat) (v : Engine) : (m.setEng c e v).health = m.health := rfl
@[simp] theorem Module.setEng_safety (m : Module) (c e : Nat) (v : Engine) : (m.setEng c e v).safety = m.safety := rfl
@[simp] theorem Module.setEng_rcv (m : Module) (c e : Nat) (v : Engine) : (m.setEng c e v).rcv = m.rcv := rfl
@[simp] theorem Module.setEng_boot (m : Module) (c e : Nat) (v : Engine) : (m.setEng c e v).boot = m.boot := rfl
@[simp] theorem Module.setEng_hostMem (m : Module) (c e : Nat) (v : Engine) : (m.setEng c e v).hostMem = m.hostMem := rfl
@[simp] theorem Module.setEng_wire (m : Module) (c e : Nat) (v : Engine) : (m.setEng c e v).wire = m.wire := rfl
@[simp] theorem Module.setEng_freeCount (m : Module) (c e : Nat) (v : Engine) : (m.setEng c e v).freeCount = m.freeCount := rfl
@[simp] theorem Module.setEng_core (m : Module) (c e : Nat) (v : Engine) (c' : Nat) : (m.setEng c e v).core c' = m.core c' := rfl
@[simp] theorem Module.setEng_ctx (m : Module) (c e : Nat) (v : Engine) (k' : Nat) : (m.setEng c e v).ctx k' = m.ctx k' := rfl
@[simp] theorem Module.setEng_client (m : Module) (c e : Nat) (v : Engine) (n' : Nat) : (m.setEng c e v).client n' = m.client n' := rfl
@[simp] theorem Module.setEng_queue (m : Module) (c e : Nat) (v : Engine) (q' : Nat) : (m.setEng c e v).queue q' = m.queue q' := rfl
@[simp] theorem Module.setEng_mbx (m : Module) (c e : Nat) (v : Engine) (n' : Nat) : (m.setEng c e v).mbx n' = m.mbx n' := rfl
@[simp] theorem Module.setEng_window (m : Module) (c e : Nat) (v : Engine) (w' : Nat) : (m.setEng c e v).window w' = m.window w' := rfl
@[simp] theorem Module.setEng_stream (m : Module) (c e : Nat) (v : Engine) (i' : Nat) : (m.setEng c e v).stream i' = m.stream i' := rfl
@[simp] theorem Module.setEng_canCtl (m : Module) (c e : Nat) (v : Engine) (k' : Nat) : (m.setEng c e v).canCtl k' = m.canCtl k' := rfl
@[simp] theorem Module.setEng_port (m : Module) (c e : Nat) (v : Engine) (p' : Nat) : (m.setEng c e v).port p' = m.port p' := rfl
@[simp] theorem Module.setEng_loop (m : Module) (c e : Nat) (v : Engine) (i' : Nat) : (m.setEng c e v).loop i' = m.loop i' := rfl
@[simp] theorem Module.setEng_runner (m : Module) (c e : Nat) (v : Engine) (r' : Nat) : (m.setEng c e v).runner r' = m.runner r' := rfl
@[simp] theorem Module.setEng_credit (m : Module) (c e : Nat) (v : Engine) (r' k' : Nat) : (m.setEng c e v).credit r' k' = m.credit r' k' := rfl
@[simp] theorem Module.setEng_ownCredit (m : Module) (c e : Nat) (v : Engine) (r' : Nat) : (m.setEng c e v).ownCredit r' = m.ownCredit r' := rfl
@[simp] theorem Module.setEng_plan (m : Module) (c e : Nat) (v : Engine) (i' : Nat) : (m.setEng c e v).plan i' = m.plan i' := rfl
@[simp] theorem Module.setEng_txPort (m : Module) (c e : Nat) (v : Engine) (p' : Nat) : (m.setEng c e v).txPort p' = m.txPort p' := rfl
@[simp] theorem Module.setEng_rxPort (m : Module) (c e : Nat) (v : Engine) (p' : Nat) : (m.setEng c e v).rxPort p' = m.rxPort p' := rfl
@[simp] theorem Module.setEng_pool (m : Module) (c e : Nat) (v : Engine) (p' : Nat) : (m.setEng c e v).pool p' = m.pool p' := rfl
@[simp] theorem Module.setEng_checker (m : Module) (c e : Nat) (v : Engine) (ch' : Nat) : (m.setEng c e v).checker ch' = m.checker ch' := rfl

/-! ### setCtx -/

@[simp] theorem Module.setCtx_cores (m : Module) (k : Nat) (v : Ctx) : (m.setCtx k v).cores = m.cores := rfl
@[simp] theorem Module.setCtx_engines (m : Module) (k : Nat) (v : Ctx) : (m.setCtx k v).engines = m.engines := rfl
@[simp] theorem Module.setCtx_mem (m : Module) (k : Nat) (v : Ctx) : (m.setCtx k v).mem = m.mem := rfl
@[simp] theorem Module.setCtx_fab (m : Module) (k : Nat) (v : Ctx) : (m.setCtx k v).fab = m.fab := rfl
@[simp] theorem Module.setCtx_kv (m : Module) (k : Nat) (v : Ctx) : (m.setCtx k v).kv = m.kv := rfl
@[simp] theorem Module.setCtx_queues (m : Module) (k : Nat) (v : Ctx) : (m.setCtx k v).queues = m.queues := rfl
@[simp] theorem Module.setCtx_rx (m : Module) (k : Nat) (v : Ctx) : (m.setCtx k v).rx = m.rx := rfl
@[simp] theorem Module.setCtx_streams (m : Module) (k : Nat) (v : Ctx) : (m.setCtx k v).streams = m.streams := rfl
@[simp] theorem Module.setCtx_trl (m : Module) (k : Nat) (v : Ctx) : (m.setCtx k v).trl = m.trl := rfl
@[simp] theorem Module.setCtx_host (m : Module) (k : Nat) (v : Ctx) : (m.setCtx k v).host = m.host := rfl
@[simp] theorem Module.setCtx_time (m : Module) (k : Nat) (v : Ctx) : (m.setCtx k v).time = m.time := rfl
@[simp] theorem Module.setCtx_can (m : Module) (k : Nat) (v : Ctx) : (m.setCtx k v).can = m.can := rfl
@[simp] theorem Module.setCtx_links (m : Module) (k : Nat) (v : Ctx) : (m.setCtx k v).links = m.links := rfl
@[simp] theorem Module.setCtx_power (m : Module) (k : Nat) (v : Ctx) : (m.setCtx k v).power = m.power := rfl
@[simp] theorem Module.setCtx_health (m : Module) (k : Nat) (v : Ctx) : (m.setCtx k v).health = m.health := rfl
@[simp] theorem Module.setCtx_safety (m : Module) (k : Nat) (v : Ctx) : (m.setCtx k v).safety = m.safety := rfl
@[simp] theorem Module.setCtx_rcv (m : Module) (k : Nat) (v : Ctx) : (m.setCtx k v).rcv = m.rcv := rfl
@[simp] theorem Module.setCtx_boot (m : Module) (k : Nat) (v : Ctx) : (m.setCtx k v).boot = m.boot := rfl
@[simp] theorem Module.setCtx_hostMem (m : Module) (k : Nat) (v : Ctx) : (m.setCtx k v).hostMem = m.hostMem := rfl
@[simp] theorem Module.setCtx_wire (m : Module) (k : Nat) (v : Ctx) : (m.setCtx k v).wire = m.wire := rfl
@[simp] theorem Module.setCtx_freeCount (m : Module) (k : Nat) (v : Ctx) : (m.setCtx k v).freeCount = m.freeCount := rfl
@[simp] theorem Module.setCtx_sched_jobs (m : Module) (k : Nat) (v : Ctx) : (m.setCtx k v).sched.jobs = m.sched.jobs := rfl
@[simp] theorem Module.setCtx_sched_nextJob (m : Module) (k : Nat) (v : Ctx) : (m.setCtx k v).sched.nextJob = m.sched.nextJob := rfl
@[simp] theorem Module.setCtx_sched_nextAdmit (m : Module) (k : Nat) (v : Ctx) : (m.setCtx k v).sched.nextAdmit = m.sched.nextAdmit := rfl
@[simp] theorem Module.setCtx_sched_clients (m : Module) (k : Nat) (v : Ctx) : (m.setCtx k v).sched.clients = m.sched.clients := rfl
@[simp] theorem Module.setCtx_sched_period (m : Module) (k : Nat) (v : Ctx) : (m.setCtx k v).sched.period = m.sched.period := rfl
@[simp] theorem Module.setCtx_sched_periodStart (m : Module) (k : Nat) (v : Ctx) : (m.setCtx k v).sched.periodStart = m.sched.periodStart := rfl
@[simp] theorem Module.setCtx_sched_periodLen (m : Module) (k : Nat) (v : Ctx) : (m.setCtx k v).sched.periodLen = m.sched.periodLen := rfl
@[simp] theorem Module.setCtx_sched_due (m : Module) (k : Nat) (v : Ctx) : (m.setCtx k v).sched.due = m.sched.due := rfl
@[simp] theorem Module.setCtx_sched_lastMs (m : Module) (k : Nat) (v : Ctx) : (m.setCtx k v).sched.lastMs = m.sched.lastMs := rfl
@[simp] theorem Module.setCtx_core (m : Module) (k : Nat) (v : Ctx) (c' : Nat) : (m.setCtx k v).core c' = m.core c' := rfl
@[simp] theorem Module.setCtx_eng (m : Module) (k : Nat) (v : Ctx) (c' e' : Nat) : (m.setCtx k v).eng c' e' = m.eng c' e' := rfl
@[simp] theorem Module.setCtx_client (m : Module) (k : Nat) (v : Ctx) (n' : Nat) : (m.setCtx k v).client n' = m.client n' := rfl
@[simp] theorem Module.setCtx_queue (m : Module) (k : Nat) (v : Ctx) (q' : Nat) : (m.setCtx k v).queue q' = m.queue q' := rfl
@[simp] theorem Module.setCtx_mbx (m : Module) (k : Nat) (v : Ctx) (n' : Nat) : (m.setCtx k v).mbx n' = m.mbx n' := rfl
@[simp] theorem Module.setCtx_window (m : Module) (k : Nat) (v : Ctx) (w' : Nat) : (m.setCtx k v).window w' = m.window w' := rfl
@[simp] theorem Module.setCtx_stream (m : Module) (k : Nat) (v : Ctx) (i' : Nat) : (m.setCtx k v).stream i' = m.stream i' := rfl
@[simp] theorem Module.setCtx_canCtl (m : Module) (k : Nat) (v : Ctx) (k' : Nat) : (m.setCtx k v).canCtl k' = m.canCtl k' := rfl
@[simp] theorem Module.setCtx_port (m : Module) (k : Nat) (v : Ctx) (p' : Nat) : (m.setCtx k v).port p' = m.port p' := rfl
@[simp] theorem Module.setCtx_loop (m : Module) (k : Nat) (v : Ctx) (i' : Nat) : (m.setCtx k v).loop i' = m.loop i' := rfl
@[simp] theorem Module.setCtx_runner (m : Module) (k : Nat) (v : Ctx) (r' : Nat) : (m.setCtx k v).runner r' = m.runner r' := rfl
@[simp] theorem Module.setCtx_credit (m : Module) (k : Nat) (v : Ctx) (r' k' : Nat) : (m.setCtx k v).credit r' k' = m.credit r' k' := rfl
@[simp] theorem Module.setCtx_ownCredit (m : Module) (k : Nat) (v : Ctx) (r' : Nat) : (m.setCtx k v).ownCredit r' = m.ownCredit r' := rfl
@[simp] theorem Module.setCtx_plan (m : Module) (k : Nat) (v : Ctx) (i' : Nat) : (m.setCtx k v).plan i' = m.plan i' := rfl
@[simp] theorem Module.setCtx_txPort (m : Module) (k : Nat) (v : Ctx) (p' : Nat) : (m.setCtx k v).txPort p' = m.txPort p' := rfl
@[simp] theorem Module.setCtx_rxPort (m : Module) (k : Nat) (v : Ctx) (p' : Nat) : (m.setCtx k v).rxPort p' = m.rxPort p' := rfl
@[simp] theorem Module.setCtx_pool (m : Module) (k : Nat) (v : Ctx) (p' : Nat) : (m.setCtx k v).pool p' = m.pool p' := rfl
@[simp] theorem Module.setCtx_checker (m : Module) (k : Nat) (v : Ctx) (ch' : Nat) : (m.setCtx k v).checker ch' = m.checker ch' := rfl

/-! ### setClient -/

@[simp] theorem Module.setClient_cores (m : Module) (n : Nat) (v : Client) : (m.setClient n v).cores = m.cores := rfl
@[simp] theorem Module.setClient_engines (m : Module) (n : Nat) (v : Client) : (m.setClient n v).engines = m.engines := rfl
@[simp] theorem Module.setClient_mem (m : Module) (n : Nat) (v : Client) : (m.setClient n v).mem = m.mem := rfl
@[simp] theorem Module.setClient_fab (m : Module) (n : Nat) (v : Client) : (m.setClient n v).fab = m.fab := rfl
@[simp] theorem Module.setClient_kv (m : Module) (n : Nat) (v : Client) : (m.setClient n v).kv = m.kv := rfl
@[simp] theorem Module.setClient_queues (m : Module) (n : Nat) (v : Client) : (m.setClient n v).queues = m.queues := rfl
@[simp] theorem Module.setClient_rx (m : Module) (n : Nat) (v : Client) : (m.setClient n v).rx = m.rx := rfl
@[simp] theorem Module.setClient_streams (m : Module) (n : Nat) (v : Client) : (m.setClient n v).streams = m.streams := rfl
@[simp] theorem Module.setClient_trl (m : Module) (n : Nat) (v : Client) : (m.setClient n v).trl = m.trl := rfl
@[simp] theorem Module.setClient_host (m : Module) (n : Nat) (v : Client) : (m.setClient n v).host = m.host := rfl
@[simp] theorem Module.setClient_time (m : Module) (n : Nat) (v : Client) : (m.setClient n v).time = m.time := rfl
@[simp] theorem Module.setClient_can (m : Module) (n : Nat) (v : Client) : (m.setClient n v).can = m.can := rfl
@[simp] theorem Module.setClient_links (m : Module) (n : Nat) (v : Client) : (m.setClient n v).links = m.links := rfl
@[simp] theorem Module.setClient_power (m : Module) (n : Nat) (v : Client) : (m.setClient n v).power = m.power := rfl
@[simp] theorem Module.setClient_health (m : Module) (n : Nat) (v : Client) : (m.setClient n v).health = m.health := rfl
@[simp] theorem Module.setClient_safety (m : Module) (n : Nat) (v : Client) : (m.setClient n v).safety = m.safety := rfl
@[simp] theorem Module.setClient_rcv (m : Module) (n : Nat) (v : Client) : (m.setClient n v).rcv = m.rcv := rfl
@[simp] theorem Module.setClient_boot (m : Module) (n : Nat) (v : Client) : (m.setClient n v).boot = m.boot := rfl
@[simp] theorem Module.setClient_hostMem (m : Module) (n : Nat) (v : Client) : (m.setClient n v).hostMem = m.hostMem := rfl
@[simp] theorem Module.setClient_wire (m : Module) (n : Nat) (v : Client) : (m.setClient n v).wire = m.wire := rfl
@[simp] theorem Module.setClient_freeCount (m : Module) (n : Nat) (v : Client) : (m.setClient n v).freeCount = m.freeCount := rfl
@[simp] theorem Module.setClient_sched_ctxs (m : Module) (n : Nat) (v : Client) : (m.setClient n v).sched.ctxs = m.sched.ctxs := rfl
@[simp] theorem Module.setClient_sched_jobs (m : Module) (n : Nat) (v : Client) : (m.setClient n v).sched.jobs = m.sched.jobs := rfl
@[simp] theorem Module.setClient_sched_nextJob (m : Module) (n : Nat) (v : Client) : (m.setClient n v).sched.nextJob = m.sched.nextJob := rfl
@[simp] theorem Module.setClient_sched_nextAdmit (m : Module) (n : Nat) (v : Client) : (m.setClient n v).sched.nextAdmit = m.sched.nextAdmit := rfl
@[simp] theorem Module.setClient_sched_period (m : Module) (n : Nat) (v : Client) : (m.setClient n v).sched.period = m.sched.period := rfl
@[simp] theorem Module.setClient_sched_periodStart (m : Module) (n : Nat) (v : Client) : (m.setClient n v).sched.periodStart = m.sched.periodStart := rfl
@[simp] theorem Module.setClient_sched_periodLen (m : Module) (n : Nat) (v : Client) : (m.setClient n v).sched.periodLen = m.sched.periodLen := rfl
@[simp] theorem Module.setClient_sched_due (m : Module) (n : Nat) (v : Client) : (m.setClient n v).sched.due = m.sched.due := rfl
@[simp] theorem Module.setClient_sched_lastMs (m : Module) (n : Nat) (v : Client) : (m.setClient n v).sched.lastMs = m.sched.lastMs := rfl
@[simp] theorem Module.setClient_core (m : Module) (n : Nat) (v : Client) (c' : Nat) : (m.setClient n v).core c' = m.core c' := rfl
@[simp] theorem Module.setClient_eng (m : Module) (n : Nat) (v : Client) (c' e' : Nat) : (m.setClient n v).eng c' e' = m.eng c' e' := rfl
@[simp] theorem Module.setClient_ctx (m : Module) (n : Nat) (v : Client) (k' : Nat) : (m.setClient n v).ctx k' = m.ctx k' := rfl
@[simp] theorem Module.setClient_queue (m : Module) (n : Nat) (v : Client) (q' : Nat) : (m.setClient n v).queue q' = m.queue q' := rfl
@[simp] theorem Module.setClient_mbx (m : Module) (n : Nat) (v : Client) (n' : Nat) : (m.setClient n v).mbx n' = m.mbx n' := rfl
@[simp] theorem Module.setClient_window (m : Module) (n : Nat) (v : Client) (w' : Nat) : (m.setClient n v).window w' = m.window w' := rfl
@[simp] theorem Module.setClient_stream (m : Module) (n : Nat) (v : Client) (i' : Nat) : (m.setClient n v).stream i' = m.stream i' := rfl
@[simp] theorem Module.setClient_canCtl (m : Module) (n : Nat) (v : Client) (k' : Nat) : (m.setClient n v).canCtl k' = m.canCtl k' := rfl
@[simp] theorem Module.setClient_port (m : Module) (n : Nat) (v : Client) (p' : Nat) : (m.setClient n v).port p' = m.port p' := rfl
@[simp] theorem Module.setClient_loop (m : Module) (n : Nat) (v : Client) (i' : Nat) : (m.setClient n v).loop i' = m.loop i' := rfl
@[simp] theorem Module.setClient_runner (m : Module) (n : Nat) (v : Client) (r' : Nat) : (m.setClient n v).runner r' = m.runner r' := rfl
@[simp] theorem Module.setClient_credit (m : Module) (n : Nat) (v : Client) (r' k' : Nat) : (m.setClient n v).credit r' k' = m.credit r' k' := rfl
@[simp] theorem Module.setClient_ownCredit (m : Module) (n : Nat) (v : Client) (r' : Nat) : (m.setClient n v).ownCredit r' = m.ownCredit r' := rfl
@[simp] theorem Module.setClient_plan (m : Module) (n : Nat) (v : Client) (i' : Nat) : (m.setClient n v).plan i' = m.plan i' := rfl
@[simp] theorem Module.setClient_txPort (m : Module) (n : Nat) (v : Client) (p' : Nat) : (m.setClient n v).txPort p' = m.txPort p' := rfl
@[simp] theorem Module.setClient_rxPort (m : Module) (n : Nat) (v : Client) (p' : Nat) : (m.setClient n v).rxPort p' = m.rxPort p' := rfl
@[simp] theorem Module.setClient_pool (m : Module) (n : Nat) (v : Client) (p' : Nat) : (m.setClient n v).pool p' = m.pool p' := rfl
@[simp] theorem Module.setClient_checker (m : Module) (n : Nat) (v : Client) (ch' : Nat) : (m.setClient n v).checker ch' = m.checker ch' := rfl

/-! ### setQueue -/

@[simp] theorem Module.setQueue_cores (m : Module) (q : Nat) (v : Queue) : (m.setQueue q v).cores = m.cores := rfl
@[simp] theorem Module.setQueue_engines (m : Module) (q : Nat) (v : Queue) : (m.setQueue q v).engines = m.engines := rfl
@[simp] theorem Module.setQueue_mem (m : Module) (q : Nat) (v : Queue) : (m.setQueue q v).mem = m.mem := rfl
@[simp] theorem Module.setQueue_fab (m : Module) (q : Nat) (v : Queue) : (m.setQueue q v).fab = m.fab := rfl
@[simp] theorem Module.setQueue_sched (m : Module) (q : Nat) (v : Queue) : (m.setQueue q v).sched = m.sched := rfl
@[simp] theorem Module.setQueue_kv (m : Module) (q : Nat) (v : Queue) : (m.setQueue q v).kv = m.kv := rfl
@[simp] theorem Module.setQueue_rx (m : Module) (q : Nat) (v : Queue) : (m.setQueue q v).rx = m.rx := rfl
@[simp] theorem Module.setQueue_streams (m : Module) (q : Nat) (v : Queue) : (m.setQueue q v).streams = m.streams := rfl
@[simp] theorem Module.setQueue_trl (m : Module) (q : Nat) (v : Queue) : (m.setQueue q v).trl = m.trl := rfl
@[simp] theorem Module.setQueue_host (m : Module) (q : Nat) (v : Queue) : (m.setQueue q v).host = m.host := rfl
@[simp] theorem Module.setQueue_time (m : Module) (q : Nat) (v : Queue) : (m.setQueue q v).time = m.time := rfl
@[simp] theorem Module.setQueue_can (m : Module) (q : Nat) (v : Queue) : (m.setQueue q v).can = m.can := rfl
@[simp] theorem Module.setQueue_links (m : Module) (q : Nat) (v : Queue) : (m.setQueue q v).links = m.links := rfl
@[simp] theorem Module.setQueue_power (m : Module) (q : Nat) (v : Queue) : (m.setQueue q v).power = m.power := rfl
@[simp] theorem Module.setQueue_health (m : Module) (q : Nat) (v : Queue) : (m.setQueue q v).health = m.health := rfl
@[simp] theorem Module.setQueue_safety (m : Module) (q : Nat) (v : Queue) : (m.setQueue q v).safety = m.safety := rfl
@[simp] theorem Module.setQueue_rcv (m : Module) (q : Nat) (v : Queue) : (m.setQueue q v).rcv = m.rcv := rfl
@[simp] theorem Module.setQueue_boot (m : Module) (q : Nat) (v : Queue) : (m.setQueue q v).boot = m.boot := rfl
@[simp] theorem Module.setQueue_hostMem (m : Module) (q : Nat) (v : Queue) : (m.setQueue q v).hostMem = m.hostMem := rfl
@[simp] theorem Module.setQueue_wire (m : Module) (q : Nat) (v : Queue) : (m.setQueue q v).wire = m.wire := rfl
@[simp] theorem Module.setQueue_freeCount (m : Module) (q : Nat) (v : Queue) : (m.setQueue q v).freeCount = m.freeCount := rfl
@[simp] theorem Module.setQueue_core (m : Module) (q : Nat) (v : Queue) (c' : Nat) : (m.setQueue q v).core c' = m.core c' := rfl
@[simp] theorem Module.setQueue_eng (m : Module) (q : Nat) (v : Queue) (c' e' : Nat) : (m.setQueue q v).eng c' e' = m.eng c' e' := rfl
@[simp] theorem Module.setQueue_ctx (m : Module) (q : Nat) (v : Queue) (k' : Nat) : (m.setQueue q v).ctx k' = m.ctx k' := rfl
@[simp] theorem Module.setQueue_client (m : Module) (q : Nat) (v : Queue) (n' : Nat) : (m.setQueue q v).client n' = m.client n' := rfl
@[simp] theorem Module.setQueue_mbx (m : Module) (q : Nat) (v : Queue) (n' : Nat) : (m.setQueue q v).mbx n' = m.mbx n' := rfl
@[simp] theorem Module.setQueue_window (m : Module) (q : Nat) (v : Queue) (w' : Nat) : (m.setQueue q v).window w' = m.window w' := rfl
@[simp] theorem Module.setQueue_stream (m : Module) (q : Nat) (v : Queue) (i' : Nat) : (m.setQueue q v).stream i' = m.stream i' := rfl
@[simp] theorem Module.setQueue_canCtl (m : Module) (q : Nat) (v : Queue) (k' : Nat) : (m.setQueue q v).canCtl k' = m.canCtl k' := rfl
@[simp] theorem Module.setQueue_port (m : Module) (q : Nat) (v : Queue) (p' : Nat) : (m.setQueue q v).port p' = m.port p' := rfl
@[simp] theorem Module.setQueue_loop (m : Module) (q : Nat) (v : Queue) (i' : Nat) : (m.setQueue q v).loop i' = m.loop i' := rfl
@[simp] theorem Module.setQueue_runner (m : Module) (q : Nat) (v : Queue) (r' : Nat) : (m.setQueue q v).runner r' = m.runner r' := rfl
@[simp] theorem Module.setQueue_credit (m : Module) (q : Nat) (v : Queue) (r' k' : Nat) : (m.setQueue q v).credit r' k' = m.credit r' k' := rfl
@[simp] theorem Module.setQueue_ownCredit (m : Module) (q : Nat) (v : Queue) (r' : Nat) : (m.setQueue q v).ownCredit r' = m.ownCredit r' := rfl
@[simp] theorem Module.setQueue_plan (m : Module) (q : Nat) (v : Queue) (i' : Nat) : (m.setQueue q v).plan i' = m.plan i' := rfl
@[simp] theorem Module.setQueue_txPort (m : Module) (q : Nat) (v : Queue) (p' : Nat) : (m.setQueue q v).txPort p' = m.txPort p' := rfl
@[simp] theorem Module.setQueue_rxPort (m : Module) (q : Nat) (v : Queue) (p' : Nat) : (m.setQueue q v).rxPort p' = m.rxPort p' := rfl
@[simp] theorem Module.setQueue_pool (m : Module) (q : Nat) (v : Queue) (p' : Nat) : (m.setQueue q v).pool p' = m.pool p' := rfl
@[simp] theorem Module.setQueue_checker (m : Module) (q : Nat) (v : Queue) (ch' : Nat) : (m.setQueue q v).checker ch' = m.checker ch' := rfl

/-! ### setMbx -/

@[simp] theorem Module.setMbx_cores (m : Module) (n : Nat) (v : Mbx) : (m.setMbx n v).cores = m.cores := rfl
@[simp] theorem Module.setMbx_engines (m : Module) (n : Nat) (v : Mbx) : (m.setMbx n v).engines = m.engines := rfl
@[simp] theorem Module.setMbx_mem (m : Module) (n : Nat) (v : Mbx) : (m.setMbx n v).mem = m.mem := rfl
@[simp] theorem Module.setMbx_fab (m : Module) (n : Nat) (v : Mbx) : (m.setMbx n v).fab = m.fab := rfl
@[simp] theorem Module.setMbx_sched (m : Module) (n : Nat) (v : Mbx) : (m.setMbx n v).sched = m.sched := rfl
@[simp] theorem Module.setMbx_kv (m : Module) (n : Nat) (v : Mbx) : (m.setMbx n v).kv = m.kv := rfl
@[simp] theorem Module.setMbx_queues (m : Module) (n : Nat) (v : Mbx) : (m.setMbx n v).queues = m.queues := rfl
@[simp] theorem Module.setMbx_rx (m : Module) (n : Nat) (v : Mbx) : (m.setMbx n v).rx = m.rx := rfl
@[simp] theorem Module.setMbx_streams (m : Module) (n : Nat) (v : Mbx) : (m.setMbx n v).streams = m.streams := rfl
@[simp] theorem Module.setMbx_trl (m : Module) (n : Nat) (v : Mbx) : (m.setMbx n v).trl = m.trl := rfl
@[simp] theorem Module.setMbx_time (m : Module) (n : Nat) (v : Mbx) : (m.setMbx n v).time = m.time := rfl
@[simp] theorem Module.setMbx_can (m : Module) (n : Nat) (v : Mbx) : (m.setMbx n v).can = m.can := rfl
@[simp] theorem Module.setMbx_links (m : Module) (n : Nat) (v : Mbx) : (m.setMbx n v).links = m.links := rfl
@[simp] theorem Module.setMbx_power (m : Module) (n : Nat) (v : Mbx) : (m.setMbx n v).power = m.power := rfl
@[simp] theorem Module.setMbx_health (m : Module) (n : Nat) (v : Mbx) : (m.setMbx n v).health = m.health := rfl
@[simp] theorem Module.setMbx_safety (m : Module) (n : Nat) (v : Mbx) : (m.setMbx n v).safety = m.safety := rfl
@[simp] theorem Module.setMbx_rcv (m : Module) (n : Nat) (v : Mbx) : (m.setMbx n v).rcv = m.rcv := rfl
@[simp] theorem Module.setMbx_boot (m : Module) (n : Nat) (v : Mbx) : (m.setMbx n v).boot = m.boot := rfl
@[simp] theorem Module.setMbx_hostMem (m : Module) (n : Nat) (v : Mbx) : (m.setMbx n v).hostMem = m.hostMem := rfl
@[simp] theorem Module.setMbx_wire (m : Module) (n : Nat) (v : Mbx) : (m.setMbx n v).wire = m.wire := rfl
@[simp] theorem Module.setMbx_freeCount (m : Module) (n : Nat) (v : Mbx) : (m.setMbx n v).freeCount = m.freeCount := rfl
@[simp] theorem Module.setMbx_host_lastServed (m : Module) (n : Nat) (v : Mbx) : (m.setMbx n v).host.lastServed = m.host.lastServed := rfl
@[simp] theorem Module.setMbx_host_deferred (m : Module) (n : Nat) (v : Mbx) : (m.setMbx n v).host.deferred = m.host.deferred := rfl
@[simp] theorem Module.setMbx_host_evtHead (m : Module) (n : Nat) (v : Mbx) : (m.setMbx n v).host.evtHead = m.host.evtHead := rfl
@[simp] theorem Module.setMbx_host_evtTail (m : Module) (n : Nat) (v : Mbx) : (m.setMbx n v).host.evtTail = m.host.evtTail := rfl
@[simp] theorem Module.setMbx_host_evtLost (m : Module) (n : Nat) (v : Mbx) : (m.setMbx n v).host.evtLost = m.host.evtLost := rfl
@[simp] theorem Module.setMbx_host_lostSince (m : Module) (n : Nat) (v : Mbx) : (m.setMbx n v).host.lostSince = m.host.lostSince := rfl
@[simp] theorem Module.setMbx_host_backlog (m : Module) (n : Nat) (v : Mbx) : (m.setMbx n v).host.backlog = m.host.backlog := rfl
@[simp] theorem Module.setMbx_host_held (m : Module) (n : Nat) (v : Mbx) : (m.setMbx n v).host.held = m.host.held := rfl
@[simp] theorem Module.setMbx_host_ring (m : Module) (n : Nat) (v : Mbx) : (m.setMbx n v).host.ring = m.host.ring := rfl
@[simp] theorem Module.setMbx_host_part (m : Module) (n : Nat) (v : Mbx) : (m.setMbx n v).host.part = m.host.part := rfl
@[simp] theorem Module.setMbx_host_grade (m : Module) (n : Nat) (v : Mbx) : (m.setMbx n v).host.grade = m.host.grade := rfl
@[simp] theorem Module.setMbx_host_stepping (m : Module) (n : Nat) (v : Mbx) : (m.setMbx n v).host.stepping = m.host.stepping := rfl
@[simp] theorem Module.setMbx_host_coreEnable (m : Module) (n : Nat) (v : Mbx) : (m.setMbx n v).host.coreEnable = m.host.coreEnable := rfl
@[simp] theorem Module.setMbx_host_serialNo (m : Module) (n : Nat) (v : Mbx) : (m.setMbx n v).host.serialNo = m.host.serialNo := rfl
@[simp] theorem Module.setMbx_host_fwVersion (m : Module) (n : Nat) (v : Mbx) : (m.setMbx n v).host.fwVersion = m.host.fwVersion := rfl
@[simp] theorem Module.setMbx_host_ifVersion (m : Module) (n : Nat) (v : Mbx) : (m.setMbx n v).host.ifVersion = m.host.ifVersion := rfl
@[simp] theorem Module.setMbx_host_gState (m : Module) (n : Nat) (v : Mbx) : (m.setMbx n v).host.gState = m.host.gState := rfl
@[simp] theorem Module.setMbx_host_restarts (m : Module) (n : Nat) (v : Mbx) : (m.setMbx n v).host.restarts = m.host.restarts := rfl
@[simp] theorem Module.setMbx_host_heartbeat (m : Module) (n : Nat) (v : Mbx) : (m.setMbx n v).host.heartbeat = m.host.heartbeat := rfl
@[simp] theorem Module.setMbx_host_lastMs (m : Module) (n : Nat) (v : Mbx) : (m.setMbx n v).host.lastMs = m.host.lastMs := rfl
@[simp] theorem Module.setMbx_host_moduleId (m : Module) (n : Nat) (v : Mbx) : (m.setMbx n v).host.moduleId = m.host.moduleId := rfl
@[simp] theorem Module.setMbx_host_bootSrc (m : Module) (n : Nat) (v : Mbx) : (m.setMbx n v).host.bootSrc = m.host.bootSrc := rfl
@[simp] theorem Module.setMbx_host_profileStrap (m : Module) (n : Nat) (v : Mbx) : (m.setMbx n v).host.profileStrap = m.host.profileStrap := rfl
@[simp] theorem Module.setMbx_host_mbxPath (m : Module) (n : Nat) (v : Mbx) : (m.setMbx n v).host.mbxPath = m.host.mbxPath := rfl
@[simp] theorem Module.setMbx_host_mbxLock (m : Module) (n : Nat) (v : Mbx) : (m.setMbx n v).host.mbxLock = m.host.mbxLock := rfl
@[simp] theorem Module.setMbx_host_msixOn (m : Module) (n : Nat) (v : Mbx) : (m.setMbx n v).host.msixOn = m.host.msixOn := rfl
@[simp] theorem Module.setMbx_host_msixMask (m : Module) (n : Nat) (v : Mbx) : (m.setMbx n v).host.msixMask = m.host.msixMask := rfl
@[simp] theorem Module.setMbx_host_msixPba (m : Module) (n : Nat) (v : Mbx) : (m.setMbx n v).host.msixPba = m.host.msixPba := rfl
@[simp] theorem Module.setMbx_host_msixTab (m : Module) (n : Nat) (v : Mbx) : (m.setMbx n v).host.msixTab = m.host.msixTab := rfl
@[simp] theorem Module.setMbx_host_ibiOn (m : Module) (n : Nat) (v : Mbx) : (m.setMbx n v).host.ibiOn = m.host.ibiOn := rfl
@[simp] theorem Module.setMbx_host_ibiPend (m : Module) (n : Nat) (v : Mbx) : (m.setMbx n v).host.ibiPend = m.host.ibiPend := rfl
@[simp] theorem Module.setMbx_host_ibiRaised (m : Module) (n : Nat) (v : Mbx) : (m.setMbx n v).host.ibiRaised = m.host.ibiRaised := rfl
@[simp] theorem Module.setMbx_host_i3cOff (m : Module) (n : Nat) (v : Mbx) : (m.setMbx n v).host.i3cOff = m.host.i3cOff := rfl
@[simp] theorem Module.setMbx_host_i3cAddr (m : Module) (n : Nat) (v : Mbx) : (m.setMbx n v).host.i3cAddr = m.host.i3cAddr := rfl
@[simp] theorem Module.setMbx_host_readyReason (m : Module) (n : Nat) (v : Mbx) : (m.setMbx n v).host.readyReason = m.host.readyReason := rfl
@[simp] theorem Module.setMbx_host_ended (m : Module) (n : Nat) (v : Mbx) : (m.setMbx n v).host.ended = m.host.ended := rfl
@[simp] theorem Module.setMbx_core (m : Module) (n : Nat) (v : Mbx) (c' : Nat) : (m.setMbx n v).core c' = m.core c' := rfl
@[simp] theorem Module.setMbx_eng (m : Module) (n : Nat) (v : Mbx) (c' e' : Nat) : (m.setMbx n v).eng c' e' = m.eng c' e' := rfl
@[simp] theorem Module.setMbx_ctx (m : Module) (n : Nat) (v : Mbx) (k' : Nat) : (m.setMbx n v).ctx k' = m.ctx k' := rfl
@[simp] theorem Module.setMbx_client (m : Module) (n : Nat) (v : Mbx) (n' : Nat) : (m.setMbx n v).client n' = m.client n' := rfl
@[simp] theorem Module.setMbx_queue (m : Module) (n : Nat) (v : Mbx) (q' : Nat) : (m.setMbx n v).queue q' = m.queue q' := rfl
@[simp] theorem Module.setMbx_window (m : Module) (n : Nat) (v : Mbx) (w' : Nat) : (m.setMbx n v).window w' = m.window w' := rfl
@[simp] theorem Module.setMbx_stream (m : Module) (n : Nat) (v : Mbx) (i' : Nat) : (m.setMbx n v).stream i' = m.stream i' := rfl
@[simp] theorem Module.setMbx_canCtl (m : Module) (n : Nat) (v : Mbx) (k' : Nat) : (m.setMbx n v).canCtl k' = m.canCtl k' := rfl
@[simp] theorem Module.setMbx_port (m : Module) (n : Nat) (v : Mbx) (p' : Nat) : (m.setMbx n v).port p' = m.port p' := rfl
@[simp] theorem Module.setMbx_loop (m : Module) (n : Nat) (v : Mbx) (i' : Nat) : (m.setMbx n v).loop i' = m.loop i' := rfl
@[simp] theorem Module.setMbx_runner (m : Module) (n : Nat) (v : Mbx) (r' : Nat) : (m.setMbx n v).runner r' = m.runner r' := rfl
@[simp] theorem Module.setMbx_credit (m : Module) (n : Nat) (v : Mbx) (r' k' : Nat) : (m.setMbx n v).credit r' k' = m.credit r' k' := rfl
@[simp] theorem Module.setMbx_ownCredit (m : Module) (n : Nat) (v : Mbx) (r' : Nat) : (m.setMbx n v).ownCredit r' = m.ownCredit r' := rfl
@[simp] theorem Module.setMbx_plan (m : Module) (n : Nat) (v : Mbx) (i' : Nat) : (m.setMbx n v).plan i' = m.plan i' := rfl
@[simp] theorem Module.setMbx_txPort (m : Module) (n : Nat) (v : Mbx) (p' : Nat) : (m.setMbx n v).txPort p' = m.txPort p' := rfl
@[simp] theorem Module.setMbx_rxPort (m : Module) (n : Nat) (v : Mbx) (p' : Nat) : (m.setMbx n v).rxPort p' = m.rxPort p' := rfl
@[simp] theorem Module.setMbx_pool (m : Module) (n : Nat) (v : Mbx) (p' : Nat) : (m.setMbx n v).pool p' = m.pool p' := rfl
@[simp] theorem Module.setMbx_checker (m : Module) (n : Nat) (v : Mbx) (ch' : Nat) : (m.setMbx n v).checker ch' = m.checker ch' := rfl

/-! ### setWindow -/

@[simp] theorem Module.setWindow_cores (m : Module) (w : Nat) (v : Window) : (m.setWindow w v).cores = m.cores := rfl
@[simp] theorem Module.setWindow_engines (m : Module) (w : Nat) (v : Window) : (m.setWindow w v).engines = m.engines := rfl
@[simp] theorem Module.setWindow_mem (m : Module) (w : Nat) (v : Window) : (m.setWindow w v).mem = m.mem := rfl
@[simp] theorem Module.setWindow_sched (m : Module) (w : Nat) (v : Window) : (m.setWindow w v).sched = m.sched := rfl
@[simp] theorem Module.setWindow_kv (m : Module) (w : Nat) (v : Window) : (m.setWindow w v).kv = m.kv := rfl
@[simp] theorem Module.setWindow_queues (m : Module) (w : Nat) (v : Window) : (m.setWindow w v).queues = m.queues := rfl
@[simp] theorem Module.setWindow_rx (m : Module) (w : Nat) (v : Window) : (m.setWindow w v).rx = m.rx := rfl
@[simp] theorem Module.setWindow_streams (m : Module) (w : Nat) (v : Window) : (m.setWindow w v).streams = m.streams := rfl
@[simp] theorem Module.setWindow_trl (m : Module) (w : Nat) (v : Window) : (m.setWindow w v).trl = m.trl := rfl
@[simp] theorem Module.setWindow_host (m : Module) (w : Nat) (v : Window) : (m.setWindow w v).host = m.host := rfl
@[simp] theorem Module.setWindow_time (m : Module) (w : Nat) (v : Window) : (m.setWindow w v).time = m.time := rfl
@[simp] theorem Module.setWindow_can (m : Module) (w : Nat) (v : Window) : (m.setWindow w v).can = m.can := rfl
@[simp] theorem Module.setWindow_links (m : Module) (w : Nat) (v : Window) : (m.setWindow w v).links = m.links := rfl
@[simp] theorem Module.setWindow_power (m : Module) (w : Nat) (v : Window) : (m.setWindow w v).power = m.power := rfl
@[simp] theorem Module.setWindow_health (m : Module) (w : Nat) (v : Window) : (m.setWindow w v).health = m.health := rfl
@[simp] theorem Module.setWindow_safety (m : Module) (w : Nat) (v : Window) : (m.setWindow w v).safety = m.safety := rfl
@[simp] theorem Module.setWindow_rcv (m : Module) (w : Nat) (v : Window) : (m.setWindow w v).rcv = m.rcv := rfl
@[simp] theorem Module.setWindow_boot (m : Module) (w : Nat) (v : Window) : (m.setWindow w v).boot = m.boot := rfl
@[simp] theorem Module.setWindow_hostMem (m : Module) (w : Nat) (v : Window) : (m.setWindow w v).hostMem = m.hostMem := rfl
@[simp] theorem Module.setWindow_wire (m : Module) (w : Nat) (v : Window) : (m.setWindow w v).wire = m.wire := rfl
@[simp] theorem Module.setWindow_freeCount (m : Module) (w : Nat) (v : Window) : (m.setWindow w v).freeCount = m.freeCount := rfl
@[simp] theorem Module.setWindow_fab_ops (m : Module) (w : Nat) (v : Window) : (m.setWindow w v).fab.ops = m.fab.ops := rfl
@[simp] theorem Module.setWindow_fab_nextOp (m : Module) (w : Nat) (v : Window) : (m.setWindow w v).fab.nextOp = m.fab.nextOp := rfl
@[simp] theorem Module.setWindow_fab_sync (m : Module) (w : Nat) (v : Window) : (m.setWindow w v).fab.sync = m.fab.sync := rfl
@[simp] theorem Module.setWindow_fab_credits (m : Module) (w : Nat) (v : Window) : (m.setWindow w v).fab.credits = m.fab.credits := rfl
@[simp] theorem Module.setWindow_fab_own (m : Module) (w : Nat) (v : Window) : (m.setWindow w v).fab.own = m.fab.own := rfl
@[simp] theorem Module.setWindow_fab_bridgeClosed (m : Module) (w : Nat) (v : Window) : (m.setWindow w v).fab.bridgeClosed = m.fab.bridgeClosed := rfl
@[simp] theorem Module.setWindow_core (m : Module) (w : Nat) (v : Window) (c' : Nat) : (m.setWindow w v).core c' = m.core c' := rfl
@[simp] theorem Module.setWindow_eng (m : Module) (w : Nat) (v : Window) (c' e' : Nat) : (m.setWindow w v).eng c' e' = m.eng c' e' := rfl
@[simp] theorem Module.setWindow_ctx (m : Module) (w : Nat) (v : Window) (k' : Nat) : (m.setWindow w v).ctx k' = m.ctx k' := rfl
@[simp] theorem Module.setWindow_client (m : Module) (w : Nat) (v : Window) (n' : Nat) : (m.setWindow w v).client n' = m.client n' := rfl
@[simp] theorem Module.setWindow_queue (m : Module) (w : Nat) (v : Window) (q' : Nat) : (m.setWindow w v).queue q' = m.queue q' := rfl
@[simp] theorem Module.setWindow_mbx (m : Module) (w : Nat) (v : Window) (n' : Nat) : (m.setWindow w v).mbx n' = m.mbx n' := rfl
@[simp] theorem Module.setWindow_stream (m : Module) (w : Nat) (v : Window) (i' : Nat) : (m.setWindow w v).stream i' = m.stream i' := rfl
@[simp] theorem Module.setWindow_canCtl (m : Module) (w : Nat) (v : Window) (k' : Nat) : (m.setWindow w v).canCtl k' = m.canCtl k' := rfl
@[simp] theorem Module.setWindow_port (m : Module) (w : Nat) (v : Window) (p' : Nat) : (m.setWindow w v).port p' = m.port p' := rfl
@[simp] theorem Module.setWindow_loop (m : Module) (w : Nat) (v : Window) (i' : Nat) : (m.setWindow w v).loop i' = m.loop i' := rfl
@[simp] theorem Module.setWindow_runner (m : Module) (w : Nat) (v : Window) (r' : Nat) : (m.setWindow w v).runner r' = m.runner r' := rfl
@[simp] theorem Module.setWindow_credit (m : Module) (w : Nat) (v : Window) (r' k' : Nat) : (m.setWindow w v).credit r' k' = m.credit r' k' := rfl
@[simp] theorem Module.setWindow_ownCredit (m : Module) (w : Nat) (v : Window) (r' : Nat) : (m.setWindow w v).ownCredit r' = m.ownCredit r' := rfl
@[simp] theorem Module.setWindow_plan (m : Module) (w : Nat) (v : Window) (i' : Nat) : (m.setWindow w v).plan i' = m.plan i' := rfl
@[simp] theorem Module.setWindow_txPort (m : Module) (w : Nat) (v : Window) (p' : Nat) : (m.setWindow w v).txPort p' = m.txPort p' := rfl
@[simp] theorem Module.setWindow_rxPort (m : Module) (w : Nat) (v : Window) (p' : Nat) : (m.setWindow w v).rxPort p' = m.rxPort p' := rfl
@[simp] theorem Module.setWindow_pool (m : Module) (w : Nat) (v : Window) (p' : Nat) : (m.setWindow w v).pool p' = m.pool p' := rfl
@[simp] theorem Module.setWindow_checker (m : Module) (w : Nat) (v : Window) (ch' : Nat) : (m.setWindow w v).checker ch' = m.checker ch' := rfl

/-! ### setStream -/

@[simp] theorem Module.setStream_cores (m : Module) (i : Nat) (v : Stream) : (m.setStream i v).cores = m.cores := rfl
@[simp] theorem Module.setStream_engines (m : Module) (i : Nat) (v : Stream) : (m.setStream i v).engines = m.engines := rfl
@[simp] theorem Module.setStream_mem (m : Module) (i : Nat) (v : Stream) : (m.setStream i v).mem = m.mem := rfl
@[simp] theorem Module.setStream_fab (m : Module) (i : Nat) (v : Stream) : (m.setStream i v).fab = m.fab := rfl
@[simp] theorem Module.setStream_sched (m : Module) (i : Nat) (v : Stream) : (m.setStream i v).sched = m.sched := rfl
@[simp] theorem Module.setStream_kv (m : Module) (i : Nat) (v : Stream) : (m.setStream i v).kv = m.kv := rfl
@[simp] theorem Module.setStream_queues (m : Module) (i : Nat) (v : Stream) : (m.setStream i v).queues = m.queues := rfl
@[simp] theorem Module.setStream_rx (m : Module) (i : Nat) (v : Stream) : (m.setStream i v).rx = m.rx := rfl
@[simp] theorem Module.setStream_trl (m : Module) (i : Nat) (v : Stream) : (m.setStream i v).trl = m.trl := rfl
@[simp] theorem Module.setStream_host (m : Module) (i : Nat) (v : Stream) : (m.setStream i v).host = m.host := rfl
@[simp] theorem Module.setStream_time (m : Module) (i : Nat) (v : Stream) : (m.setStream i v).time = m.time := rfl
@[simp] theorem Module.setStream_can (m : Module) (i : Nat) (v : Stream) : (m.setStream i v).can = m.can := rfl
@[simp] theorem Module.setStream_links (m : Module) (i : Nat) (v : Stream) : (m.setStream i v).links = m.links := rfl
@[simp] theorem Module.setStream_power (m : Module) (i : Nat) (v : Stream) : (m.setStream i v).power = m.power := rfl
@[simp] theorem Module.setStream_health (m : Module) (i : Nat) (v : Stream) : (m.setStream i v).health = m.health := rfl
@[simp] theorem Module.setStream_safety (m : Module) (i : Nat) (v : Stream) : (m.setStream i v).safety = m.safety := rfl
@[simp] theorem Module.setStream_rcv (m : Module) (i : Nat) (v : Stream) : (m.setStream i v).rcv = m.rcv := rfl
@[simp] theorem Module.setStream_boot (m : Module) (i : Nat) (v : Stream) : (m.setStream i v).boot = m.boot := rfl
@[simp] theorem Module.setStream_hostMem (m : Module) (i : Nat) (v : Stream) : (m.setStream i v).hostMem = m.hostMem := rfl
@[simp] theorem Module.setStream_wire (m : Module) (i : Nat) (v : Stream) : (m.setStream i v).wire = m.wire := rfl
@[simp] theorem Module.setStream_freeCount (m : Module) (i : Nat) (v : Stream) : (m.setStream i v).freeCount = m.freeCount := rfl
@[simp] theorem Module.setStream_core (m : Module) (i : Nat) (v : Stream) (c' : Nat) : (m.setStream i v).core c' = m.core c' := rfl
@[simp] theorem Module.setStream_eng (m : Module) (i : Nat) (v : Stream) (c' e' : Nat) : (m.setStream i v).eng c' e' = m.eng c' e' := rfl
@[simp] theorem Module.setStream_ctx (m : Module) (i : Nat) (v : Stream) (k' : Nat) : (m.setStream i v).ctx k' = m.ctx k' := rfl
@[simp] theorem Module.setStream_client (m : Module) (i : Nat) (v : Stream) (n' : Nat) : (m.setStream i v).client n' = m.client n' := rfl
@[simp] theorem Module.setStream_queue (m : Module) (i : Nat) (v : Stream) (q' : Nat) : (m.setStream i v).queue q' = m.queue q' := rfl
@[simp] theorem Module.setStream_mbx (m : Module) (i : Nat) (v : Stream) (n' : Nat) : (m.setStream i v).mbx n' = m.mbx n' := rfl
@[simp] theorem Module.setStream_window (m : Module) (i : Nat) (v : Stream) (w' : Nat) : (m.setStream i v).window w' = m.window w' := rfl
@[simp] theorem Module.setStream_canCtl (m : Module) (i : Nat) (v : Stream) (k' : Nat) : (m.setStream i v).canCtl k' = m.canCtl k' := rfl
@[simp] theorem Module.setStream_port (m : Module) (i : Nat) (v : Stream) (p' : Nat) : (m.setStream i v).port p' = m.port p' := rfl
@[simp] theorem Module.setStream_loop (m : Module) (i : Nat) (v : Stream) (i' : Nat) : (m.setStream i v).loop i' = m.loop i' := rfl
@[simp] theorem Module.setStream_runner (m : Module) (i : Nat) (v : Stream) (r' : Nat) : (m.setStream i v).runner r' = m.runner r' := rfl
@[simp] theorem Module.setStream_credit (m : Module) (i : Nat) (v : Stream) (r' k' : Nat) : (m.setStream i v).credit r' k' = m.credit r' k' := rfl
@[simp] theorem Module.setStream_ownCredit (m : Module) (i : Nat) (v : Stream) (r' : Nat) : (m.setStream i v).ownCredit r' = m.ownCredit r' := rfl
@[simp] theorem Module.setStream_plan (m : Module) (i : Nat) (v : Stream) (i' : Nat) : (m.setStream i v).plan i' = m.plan i' := rfl
@[simp] theorem Module.setStream_txPort (m : Module) (i : Nat) (v : Stream) (p' : Nat) : (m.setStream i v).txPort p' = m.txPort p' := rfl
@[simp] theorem Module.setStream_rxPort (m : Module) (i : Nat) (v : Stream) (p' : Nat) : (m.setStream i v).rxPort p' = m.rxPort p' := rfl
@[simp] theorem Module.setStream_pool (m : Module) (i : Nat) (v : Stream) (p' : Nat) : (m.setStream i v).pool p' = m.pool p' := rfl
@[simp] theorem Module.setStream_checker (m : Module) (i : Nat) (v : Stream) (ch' : Nat) : (m.setStream i v).checker ch' = m.checker ch' := rfl

/-! ### setCan -/

@[simp] theorem Module.setCan_cores (m : Module) (k : Nat) (v : CanCtl) : (m.setCan k v).cores = m.cores := rfl
@[simp] theorem Module.setCan_engines (m : Module) (k : Nat) (v : CanCtl) : (m.setCan k v).engines = m.engines := rfl
@[simp] theorem Module.setCan_mem (m : Module) (k : Nat) (v : CanCtl) : (m.setCan k v).mem = m.mem := rfl
@[simp] theorem Module.setCan_fab (m : Module) (k : Nat) (v : CanCtl) : (m.setCan k v).fab = m.fab := rfl
@[simp] theorem Module.setCan_sched (m : Module) (k : Nat) (v : CanCtl) : (m.setCan k v).sched = m.sched := rfl
@[simp] theorem Module.setCan_kv (m : Module) (k : Nat) (v : CanCtl) : (m.setCan k v).kv = m.kv := rfl
@[simp] theorem Module.setCan_queues (m : Module) (k : Nat) (v : CanCtl) : (m.setCan k v).queues = m.queues := rfl
@[simp] theorem Module.setCan_rx (m : Module) (k : Nat) (v : CanCtl) : (m.setCan k v).rx = m.rx := rfl
@[simp] theorem Module.setCan_streams (m : Module) (k : Nat) (v : CanCtl) : (m.setCan k v).streams = m.streams := rfl
@[simp] theorem Module.setCan_trl (m : Module) (k : Nat) (v : CanCtl) : (m.setCan k v).trl = m.trl := rfl
@[simp] theorem Module.setCan_host (m : Module) (k : Nat) (v : CanCtl) : (m.setCan k v).host = m.host := rfl
@[simp] theorem Module.setCan_time (m : Module) (k : Nat) (v : CanCtl) : (m.setCan k v).time = m.time := rfl
@[simp] theorem Module.setCan_links (m : Module) (k : Nat) (v : CanCtl) : (m.setCan k v).links = m.links := rfl
@[simp] theorem Module.setCan_power (m : Module) (k : Nat) (v : CanCtl) : (m.setCan k v).power = m.power := rfl
@[simp] theorem Module.setCan_health (m : Module) (k : Nat) (v : CanCtl) : (m.setCan k v).health = m.health := rfl
@[simp] theorem Module.setCan_safety (m : Module) (k : Nat) (v : CanCtl) : (m.setCan k v).safety = m.safety := rfl
@[simp] theorem Module.setCan_rcv (m : Module) (k : Nat) (v : CanCtl) : (m.setCan k v).rcv = m.rcv := rfl
@[simp] theorem Module.setCan_boot (m : Module) (k : Nat) (v : CanCtl) : (m.setCan k v).boot = m.boot := rfl
@[simp] theorem Module.setCan_hostMem (m : Module) (k : Nat) (v : CanCtl) : (m.setCan k v).hostMem = m.hostMem := rfl
@[simp] theorem Module.setCan_wire (m : Module) (k : Nat) (v : CanCtl) : (m.setCan k v).wire = m.wire := rfl
@[simp] theorem Module.setCan_freeCount (m : Module) (k : Nat) (v : CanCtl) : (m.setCan k v).freeCount = m.freeCount := rfl
@[simp] theorem Module.setCan_core (m : Module) (k : Nat) (v : CanCtl) (c' : Nat) : (m.setCan k v).core c' = m.core c' := rfl
@[simp] theorem Module.setCan_eng (m : Module) (k : Nat) (v : CanCtl) (c' e' : Nat) : (m.setCan k v).eng c' e' = m.eng c' e' := rfl
@[simp] theorem Module.setCan_ctx (m : Module) (k : Nat) (v : CanCtl) (k' : Nat) : (m.setCan k v).ctx k' = m.ctx k' := rfl
@[simp] theorem Module.setCan_client (m : Module) (k : Nat) (v : CanCtl) (n' : Nat) : (m.setCan k v).client n' = m.client n' := rfl
@[simp] theorem Module.setCan_queue (m : Module) (k : Nat) (v : CanCtl) (q' : Nat) : (m.setCan k v).queue q' = m.queue q' := rfl
@[simp] theorem Module.setCan_mbx (m : Module) (k : Nat) (v : CanCtl) (n' : Nat) : (m.setCan k v).mbx n' = m.mbx n' := rfl
@[simp] theorem Module.setCan_window (m : Module) (k : Nat) (v : CanCtl) (w' : Nat) : (m.setCan k v).window w' = m.window w' := rfl
@[simp] theorem Module.setCan_stream (m : Module) (k : Nat) (v : CanCtl) (i' : Nat) : (m.setCan k v).stream i' = m.stream i' := rfl
@[simp] theorem Module.setCan_port (m : Module) (k : Nat) (v : CanCtl) (p' : Nat) : (m.setCan k v).port p' = m.port p' := rfl
@[simp] theorem Module.setCan_loop (m : Module) (k : Nat) (v : CanCtl) (i' : Nat) : (m.setCan k v).loop i' = m.loop i' := rfl
@[simp] theorem Module.setCan_runner (m : Module) (k : Nat) (v : CanCtl) (r' : Nat) : (m.setCan k v).runner r' = m.runner r' := rfl
@[simp] theorem Module.setCan_credit (m : Module) (k : Nat) (v : CanCtl) (r' k' : Nat) : (m.setCan k v).credit r' k' = m.credit r' k' := rfl
@[simp] theorem Module.setCan_ownCredit (m : Module) (k : Nat) (v : CanCtl) (r' : Nat) : (m.setCan k v).ownCredit r' = m.ownCredit r' := rfl
@[simp] theorem Module.setCan_plan (m : Module) (k : Nat) (v : CanCtl) (i' : Nat) : (m.setCan k v).plan i' = m.plan i' := rfl
@[simp] theorem Module.setCan_txPort (m : Module) (k : Nat) (v : CanCtl) (p' : Nat) : (m.setCan k v).txPort p' = m.txPort p' := rfl
@[simp] theorem Module.setCan_rxPort (m : Module) (k : Nat) (v : CanCtl) (p' : Nat) : (m.setCan k v).rxPort p' = m.rxPort p' := rfl
@[simp] theorem Module.setCan_pool (m : Module) (k : Nat) (v : CanCtl) (p' : Nat) : (m.setCan k v).pool p' = m.pool p' := rfl
@[simp] theorem Module.setCan_checker (m : Module) (k : Nat) (v : CanCtl) (ch' : Nat) : (m.setCan k v).checker ch' = m.checker ch' := rfl

/-! ### setPort -/

@[simp] theorem Module.setPort_cores (m : Module) (p : Nat) (v : EthPort) : (m.setPort p v).cores = m.cores := rfl
@[simp] theorem Module.setPort_engines (m : Module) (p : Nat) (v : EthPort) : (m.setPort p v).engines = m.engines := rfl
@[simp] theorem Module.setPort_mem (m : Module) (p : Nat) (v : EthPort) : (m.setPort p v).mem = m.mem := rfl
@[simp] theorem Module.setPort_fab (m : Module) (p : Nat) (v : EthPort) : (m.setPort p v).fab = m.fab := rfl
@[simp] theorem Module.setPort_sched (m : Module) (p : Nat) (v : EthPort) : (m.setPort p v).sched = m.sched := rfl
@[simp] theorem Module.setPort_kv (m : Module) (p : Nat) (v : EthPort) : (m.setPort p v).kv = m.kv := rfl
@[simp] theorem Module.setPort_queues (m : Module) (p : Nat) (v : EthPort) : (m.setPort p v).queues = m.queues := rfl
@[simp] theorem Module.setPort_rx (m : Module) (p : Nat) (v : EthPort) : (m.setPort p v).rx = m.rx := rfl
@[simp] theorem Module.setPort_streams (m : Module) (p : Nat) (v : EthPort) : (m.setPort p v).streams = m.streams := rfl
@[simp] theorem Module.setPort_trl (m : Module) (p : Nat) (v : EthPort) : (m.setPort p v).trl = m.trl := rfl
@[simp] theorem Module.setPort_host (m : Module) (p : Nat) (v : EthPort) : (m.setPort p v).host = m.host := rfl
@[simp] theorem Module.setPort_can (m : Module) (p : Nat) (v : EthPort) : (m.setPort p v).can = m.can := rfl
@[simp] theorem Module.setPort_links (m : Module) (p : Nat) (v : EthPort) : (m.setPort p v).links = m.links := rfl
@[simp] theorem Module.setPort_power (m : Module) (p : Nat) (v : EthPort) : (m.setPort p v).power = m.power := rfl
@[simp] theorem Module.setPort_health (m : Module) (p : Nat) (v : EthPort) : (m.setPort p v).health = m.health := rfl
@[simp] theorem Module.setPort_safety (m : Module) (p : Nat) (v : EthPort) : (m.setPort p v).safety = m.safety := rfl
@[simp] theorem Module.setPort_rcv (m : Module) (p : Nat) (v : EthPort) : (m.setPort p v).rcv = m.rcv := rfl
@[simp] theorem Module.setPort_boot (m : Module) (p : Nat) (v : EthPort) : (m.setPort p v).boot = m.boot := rfl
@[simp] theorem Module.setPort_hostMem (m : Module) (p : Nat) (v : EthPort) : (m.setPort p v).hostMem = m.hostMem := rfl
@[simp] theorem Module.setPort_wire (m : Module) (p : Nat) (v : EthPort) : (m.setPort p v).wire = m.wire := rfl
@[simp] theorem Module.setPort_freeCount (m : Module) (p : Nat) (v : EthPort) : (m.setPort p v).freeCount = m.freeCount := rfl
@[simp] theorem Module.setPort_time_now (m : Module) (p : Nat) (v : EthPort) : (m.setPort p v).time.now = m.time.now := rfl
@[simp] theorem Module.setPort_time_elapsed (m : Module) (p : Nat) (v : EthPort) : (m.setPort p v).time.elapsed = m.time.elapsed := rfl
@[simp] theorem Module.setPort_time_cycles (m : Module) (p : Nat) (v : EthPort) : (m.setPort p v).time.cycles = m.time.cycles := rfl
@[simp] theorem Module.setPort_time_rate (m : Module) (p : Nat) (v : EthPort) : (m.setPort p v).time.rate = m.time.rate := rfl
@[simp] theorem Module.setPort_time_stepClosed (m : Module) (p : Nat) (v : EthPort) : (m.setPort p v).time.stepClosed = m.time.stepClosed := rfl
@[simp] theorem Module.setPort_time_stepped (m : Module) (p : Nat) (v : EthPort) : (m.setPort p v).time.stepped = m.time.stepped := rfl
@[simp] theorem Module.setPort_time_mode (m : Module) (p : Nat) (v : EthPort) : (m.setPort p v).time.mode = m.time.mode := rfl
@[simp] theorem Module.setPort_time_autoStep (m : Module) (p : Nat) (v : EthPort) : (m.setPort p v).time.autoStep = m.time.autoStep := rfl
@[simp] theorem Module.setPort_time_lockNs (m : Module) (p : Nat) (v : EthPort) : (m.setPort p v).time.lockNs = m.time.lockNs := rfl
@[simp] theorem Module.setPort_time_stepMinNs (m : Module) (p : Nat) (v : EthPort) : (m.setPort p v).time.stepMinNs = m.time.stepMinNs := rfl
@[simp] theorem Module.setPort_time_gp (m : Module) (p : Nat) (v : EthPort) : (m.setPort p v).time.gp = m.time.gp := rfl
@[simp] theorem Module.setPort_time_gi (m : Module) (p : Nat) (v : EthPort) : (m.setPort p v).time.gi = m.time.gi := rfl
@[simp] theorem Module.setPort_time_acc (m : Module) (p : Nat) (v : EthPort) : (m.setPort p v).time.acc = m.time.acc := rfl
@[simp] theorem Module.setPort_time_servo (m : Module) (p : Nat) (v : EthPort) : (m.setPort p v).time.servo = m.time.servo := rfl
@[simp] theorem Module.setPort_time_inLock (m : Module) (p : Nat) (v : EthPort) : (m.setPort p v).time.inLock = m.time.inLock := rfl
@[simp] theorem Module.setPort_time_outLock (m : Module) (p : Nat) (v : EthPort) : (m.setPort p v).time.outLock = m.time.outLock := rfl
@[simp] theorem Module.setPort_time_lastMeas (m : Module) (p : Nat) (v : EthPort) : (m.setPort p v).time.lastMeas = m.time.lastMeas := rfl
@[simp] theorem Module.setPort_time_offsetNs (m : Module) (p : Nat) (v : EthPort) : (m.setPort p v).time.offsetNs = m.time.offsetNs := rfl
@[simp] theorem Module.setPort_time_firstMeas (m : Module) (p : Nat) (v : EthPort) : (m.setPort p v).time.firstMeas = m.time.firstMeas := rfl
@[simp] theorem Module.setPort_time_ptp (m : Module) (p : Nat) (v : EthPort) : (m.setPort p v).time.ptp = m.time.ptp := rfl
@[simp] theorem Module.setPort_time_ptpTimers (m : Module) (p : Nat) (v : EthPort) : (m.setPort p v).time.ptpTimers = m.time.ptpTimers := rfl
@[simp] theorem Module.setPort_time_roles (m : Module) (p : Nat) (v : EthPort) : (m.setPort p v).time.roles = m.time.roles := rfl
@[simp] theorem Module.setPort_time_gm (m : Module) (p : Nat) (v : EthPort) : (m.setPort p v).time.gm = m.time.gm := rfl
@[simp] theorem Module.setPort_time_ppsOutEn (m : Module) (p : Nat) (v : EthPort) : (m.setPort p v).time.ppsOutEn = m.time.ppsOutEn := rfl
@[simp] theorem Module.setPort_time_ppsInEdge (m : Module) (p : Nat) (v : EthPort) : (m.setPort p v).time.ppsInEdge = m.time.ppsInEdge := rfl
@[simp] theorem Module.setPort_time_ppsWidthMs (m : Module) (p : Nat) (v : EthPort) : (m.setPort p v).time.ppsWidthMs = m.time.ppsWidthMs := rfl
@[simp] theorem Module.setPort_time_ppsOffsetNs (m : Module) (p : Nat) (v : EthPort) : (m.setPort p v).time.ppsOffsetNs = m.time.ppsOffsetNs := rfl
@[simp] theorem Module.setPort_time_ppsOut (m : Module) (p : Nat) (v : EthPort) : (m.setPort p v).time.ppsOut = m.time.ppsOut := rfl
@[simp] theorem Module.setPort_time_ppsLastSec (m : Module) (p : Nat) (v : EthPort) : (m.setPort p v).time.ppsLastSec = m.time.ppsLastSec := rfl
@[simp] theorem Module.setPort_time_ppsFallAt (m : Module) (p : Nat) (v : EthPort) : (m.setPort p v).time.ppsFallAt = m.time.ppsFallAt := rfl
@[simp] theorem Module.setPort_time_ppsCaptureNs (m : Module) (p : Nat) (v : EthPort) : (m.setPort p v).time.ppsCaptureNs = m.time.ppsCaptureNs := rfl
@[simp] theorem Module.setPort_time_ppsLastEdge (m : Module) (p : Nat) (v : EthPort) : (m.setPort p v).time.ppsLastEdge = m.time.ppsLastEdge := rfl
@[simp] theorem Module.setPort_time_ppsCount (m : Module) (p : Nat) (v : EthPort) : (m.setPort p v).time.ppsCount = m.time.ppsCount := rfl
@[simp] theorem Module.setPort_core (m : Module) (p : Nat) (v : EthPort) (c' : Nat) : (m.setPort p v).core c' = m.core c' := rfl
@[simp] theorem Module.setPort_eng (m : Module) (p : Nat) (v : EthPort) (c' e' : Nat) : (m.setPort p v).eng c' e' = m.eng c' e' := rfl
@[simp] theorem Module.setPort_ctx (m : Module) (p : Nat) (v : EthPort) (k' : Nat) : (m.setPort p v).ctx k' = m.ctx k' := rfl
@[simp] theorem Module.setPort_client (m : Module) (p : Nat) (v : EthPort) (n' : Nat) : (m.setPort p v).client n' = m.client n' := rfl
@[simp] theorem Module.setPort_queue (m : Module) (p : Nat) (v : EthPort) (q' : Nat) : (m.setPort p v).queue q' = m.queue q' := rfl
@[simp] theorem Module.setPort_mbx (m : Module) (p : Nat) (v : EthPort) (n' : Nat) : (m.setPort p v).mbx n' = m.mbx n' := rfl
@[simp] theorem Module.setPort_window (m : Module) (p : Nat) (v : EthPort) (w' : Nat) : (m.setPort p v).window w' = m.window w' := rfl
@[simp] theorem Module.setPort_stream (m : Module) (p : Nat) (v : EthPort) (i' : Nat) : (m.setPort p v).stream i' = m.stream i' := rfl
@[simp] theorem Module.setPort_canCtl (m : Module) (p : Nat) (v : EthPort) (k' : Nat) : (m.setPort p v).canCtl k' = m.canCtl k' := rfl
@[simp] theorem Module.setPort_loop (m : Module) (p : Nat) (v : EthPort) (i' : Nat) : (m.setPort p v).loop i' = m.loop i' := rfl
@[simp] theorem Module.setPort_runner (m : Module) (p : Nat) (v : EthPort) (r' : Nat) : (m.setPort p v).runner r' = m.runner r' := rfl
@[simp] theorem Module.setPort_credit (m : Module) (p : Nat) (v : EthPort) (r' k' : Nat) : (m.setPort p v).credit r' k' = m.credit r' k' := rfl
@[simp] theorem Module.setPort_ownCredit (m : Module) (p : Nat) (v : EthPort) (r' : Nat) : (m.setPort p v).ownCredit r' = m.ownCredit r' := rfl
@[simp] theorem Module.setPort_plan (m : Module) (p : Nat) (v : EthPort) (i' : Nat) : (m.setPort p v).plan i' = m.plan i' := rfl
@[simp] theorem Module.setPort_txPort (m : Module) (p : Nat) (v : EthPort) (p' : Nat) : (m.setPort p v).txPort p' = m.txPort p' := rfl
@[simp] theorem Module.setPort_rxPort (m : Module) (p : Nat) (v : EthPort) (p' : Nat) : (m.setPort p v).rxPort p' = m.rxPort p' := rfl
@[simp] theorem Module.setPort_pool (m : Module) (p : Nat) (v : EthPort) (p' : Nat) : (m.setPort p v).pool p' = m.pool p' := rfl
@[simp] theorem Module.setPort_checker (m : Module) (p : Nat) (v : EthPort) (ch' : Nat) : (m.setPort p v).checker ch' = m.checker ch' := rfl

/-! ### setLoop -/

@[simp] theorem Module.setLoop_cores (m : Module) (i : Nat) (v : Loop) : (m.setLoop i v).cores = m.cores := rfl
@[simp] theorem Module.setLoop_engines (m : Module) (i : Nat) (v : Loop) : (m.setLoop i v).engines = m.engines := rfl
@[simp] theorem Module.setLoop_mem (m : Module) (i : Nat) (v : Loop) : (m.setLoop i v).mem = m.mem := rfl
@[simp] theorem Module.setLoop_fab (m : Module) (i : Nat) (v : Loop) : (m.setLoop i v).fab = m.fab := rfl
@[simp] theorem Module.setLoop_sched (m : Module) (i : Nat) (v : Loop) : (m.setLoop i v).sched = m.sched := rfl
@[simp] theorem Module.setLoop_kv (m : Module) (i : Nat) (v : Loop) : (m.setLoop i v).kv = m.kv := rfl
@[simp] theorem Module.setLoop_queues (m : Module) (i : Nat) (v : Loop) : (m.setLoop i v).queues = m.queues := rfl
@[simp] theorem Module.setLoop_rx (m : Module) (i : Nat) (v : Loop) : (m.setLoop i v).rx = m.rx := rfl
@[simp] theorem Module.setLoop_streams (m : Module) (i : Nat) (v : Loop) : (m.setLoop i v).streams = m.streams := rfl
@[simp] theorem Module.setLoop_host (m : Module) (i : Nat) (v : Loop) : (m.setLoop i v).host = m.host := rfl
@[simp] theorem Module.setLoop_time (m : Module) (i : Nat) (v : Loop) : (m.setLoop i v).time = m.time := rfl
@[simp] theorem Module.setLoop_can (m : Module) (i : Nat) (v : Loop) : (m.setLoop i v).can = m.can := rfl
@[simp] theorem Module.setLoop_links (m : Module) (i : Nat) (v : Loop) : (m.setLoop i v).links = m.links := rfl
@[simp] theorem Module.setLoop_power (m : Module) (i : Nat) (v : Loop) : (m.setLoop i v).power = m.power := rfl
@[simp] theorem Module.setLoop_health (m : Module) (i : Nat) (v : Loop) : (m.setLoop i v).health = m.health := rfl
@[simp] theorem Module.setLoop_safety (m : Module) (i : Nat) (v : Loop) : (m.setLoop i v).safety = m.safety := rfl
@[simp] theorem Module.setLoop_rcv (m : Module) (i : Nat) (v : Loop) : (m.setLoop i v).rcv = m.rcv := rfl
@[simp] theorem Module.setLoop_boot (m : Module) (i : Nat) (v : Loop) : (m.setLoop i v).boot = m.boot := rfl
@[simp] theorem Module.setLoop_hostMem (m : Module) (i : Nat) (v : Loop) : (m.setLoop i v).hostMem = m.hostMem := rfl
@[simp] theorem Module.setLoop_wire (m : Module) (i : Nat) (v : Loop) : (m.setLoop i v).wire = m.wire := rfl
@[simp] theorem Module.setLoop_freeCount (m : Module) (i : Nat) (v : Loop) : (m.setLoop i v).freeCount = m.freeCount := rfl
@[simp] theorem Module.setLoop_trl_signals (m : Module) (i : Nat) (v : Loop) : (m.setLoop i v).trl.signals = m.trl.signals := rfl
@[simp] theorem Module.setLoop_trl_maps (m : Module) (i : Nat) (v : Loop) : (m.setLoop i v).trl.maps = m.trl.maps := rfl
@[simp] theorem Module.setLoop_trl_policy (m : Module) (i : Nat) (v : Loop) : (m.setLoop i v).trl.policy = m.trl.policy := rfl
@[simp] theorem Module.setLoop_trl_banks (m : Module) (i : Nat) (v : Loop) : (m.setLoop i v).trl.banks = m.trl.banks := rfl
@[simp] theorem Module.setLoop_trl_policyQ (m : Module) (i : Nat) (v : Loop) : (m.setLoop i v).trl.policyQ = m.trl.policyQ := rfl
@[simp] theorem Module.setLoop_trl_statusQ (m : Module) (i : Nat) (v : Loop) : (m.setLoop i v).trl.statusQ = m.trl.statusQ := rfl
@[simp] theorem Module.setLoop_trl_packet (m : Module) (i : Nat) (v : Loop) : (m.setLoop i v).trl.packet = m.trl.packet := rfl
@[simp] theorem Module.setLoop_trl_templates (m : Module) (i : Nat) (v : Loop) : (m.setLoop i v).trl.templates = m.trl.templates := rfl
@[simp] theorem Module.setLoop_trl_lastUs (m : Module) (i : Nat) (v : Loop) : (m.setLoop i v).trl.lastUs = m.trl.lastUs := rfl
@[simp] theorem Module.setLoop_trl_snaps (m : Module) (i : Nat) (v : Loop) : (m.setLoop i v).trl.snaps = m.trl.snaps := rfl
@[simp] theorem Module.setLoop_trl_trace (m : Module) (i : Nat) (v : Loop) : (m.setLoop i v).trl.trace = m.trl.trace := rfl
@[simp] theorem Module.setLoop_trl_ctr (m : Module) (i : Nat) (v : Loop) : (m.setLoop i v).trl.ctr = m.trl.ctr := rfl
@[simp] theorem Module.setLoop_core (m : Module) (i : Nat) (v : Loop) (c' : Nat) : (m.setLoop i v).core c' = m.core c' := rfl
@[simp] theorem Module.setLoop_eng (m : Module) (i : Nat) (v : Loop) (c' e' : Nat) : (m.setLoop i v).eng c' e' = m.eng c' e' := rfl
@[simp] theorem Module.setLoop_ctx (m : Module) (i : Nat) (v : Loop) (k' : Nat) : (m.setLoop i v).ctx k' = m.ctx k' := rfl
@[simp] theorem Module.setLoop_client (m : Module) (i : Nat) (v : Loop) (n' : Nat) : (m.setLoop i v).client n' = m.client n' := rfl
@[simp] theorem Module.setLoop_queue (m : Module) (i : Nat) (v : Loop) (q' : Nat) : (m.setLoop i v).queue q' = m.queue q' := rfl
@[simp] theorem Module.setLoop_mbx (m : Module) (i : Nat) (v : Loop) (n' : Nat) : (m.setLoop i v).mbx n' = m.mbx n' := rfl
@[simp] theorem Module.setLoop_window (m : Module) (i : Nat) (v : Loop) (w' : Nat) : (m.setLoop i v).window w' = m.window w' := rfl
@[simp] theorem Module.setLoop_stream (m : Module) (i : Nat) (v : Loop) (i' : Nat) : (m.setLoop i v).stream i' = m.stream i' := rfl
@[simp] theorem Module.setLoop_canCtl (m : Module) (i : Nat) (v : Loop) (k' : Nat) : (m.setLoop i v).canCtl k' = m.canCtl k' := rfl
@[simp] theorem Module.setLoop_port (m : Module) (i : Nat) (v : Loop) (p' : Nat) : (m.setLoop i v).port p' = m.port p' := rfl
@[simp] theorem Module.setLoop_runner (m : Module) (i : Nat) (v : Loop) (r' : Nat) : (m.setLoop i v).runner r' = m.runner r' := rfl
@[simp] theorem Module.setLoop_credit (m : Module) (i : Nat) (v : Loop) (r' k' : Nat) : (m.setLoop i v).credit r' k' = m.credit r' k' := rfl
@[simp] theorem Module.setLoop_ownCredit (m : Module) (i : Nat) (v : Loop) (r' : Nat) : (m.setLoop i v).ownCredit r' = m.ownCredit r' := rfl
@[simp] theorem Module.setLoop_plan (m : Module) (i : Nat) (v : Loop) (i' : Nat) : (m.setLoop i v).plan i' = m.plan i' := rfl
@[simp] theorem Module.setLoop_txPort (m : Module) (i : Nat) (v : Loop) (p' : Nat) : (m.setLoop i v).txPort p' = m.txPort p' := rfl
@[simp] theorem Module.setLoop_rxPort (m : Module) (i : Nat) (v : Loop) (p' : Nat) : (m.setLoop i v).rxPort p' = m.rxPort p' := rfl
@[simp] theorem Module.setLoop_pool (m : Module) (i : Nat) (v : Loop) (p' : Nat) : (m.setLoop i v).pool p' = m.pool p' := rfl
@[simp] theorem Module.setLoop_checker (m : Module) (i : Nat) (v : Loop) (ch' : Nat) : (m.setLoop i v).checker ch' = m.checker ch' := rfl

/-! ### setRunner -/

@[simp] theorem Module.setRunner_cores (m : Module) (r : Nat) (v : Runner) : (m.setRunner r v).cores = m.cores := rfl
@[simp] theorem Module.setRunner_engines (m : Module) (r : Nat) (v : Runner) : (m.setRunner r v).engines = m.engines := rfl
@[simp] theorem Module.setRunner_mem (m : Module) (r : Nat) (v : Runner) : (m.setRunner r v).mem = m.mem := rfl
@[simp] theorem Module.setRunner_fab (m : Module) (r : Nat) (v : Runner) : (m.setRunner r v).fab = m.fab := rfl
@[simp] theorem Module.setRunner_sched (m : Module) (r : Nat) (v : Runner) : (m.setRunner r v).sched = m.sched := rfl
@[simp] theorem Module.setRunner_kv (m : Module) (r : Nat) (v : Runner) : (m.setRunner r v).kv = m.kv := rfl
@[simp] theorem Module.setRunner_queues (m : Module) (r : Nat) (v : Runner) : (m.setRunner r v).queues = m.queues := rfl
@[simp] theorem Module.setRunner_rx (m : Module) (r : Nat) (v : Runner) : (m.setRunner r v).rx = m.rx := rfl
@[simp] theorem Module.setRunner_streams (m : Module) (r : Nat) (v : Runner) : (m.setRunner r v).streams = m.streams := rfl
@[simp] theorem Module.setRunner_trl (m : Module) (r : Nat) (v : Runner) : (m.setRunner r v).trl = m.trl := rfl
@[simp] theorem Module.setRunner_host (m : Module) (r : Nat) (v : Runner) : (m.setRunner r v).host = m.host := rfl
@[simp] theorem Module.setRunner_time (m : Module) (r : Nat) (v : Runner) : (m.setRunner r v).time = m.time := rfl
@[simp] theorem Module.setRunner_can (m : Module) (r : Nat) (v : Runner) : (m.setRunner r v).can = m.can := rfl
@[simp] theorem Module.setRunner_power (m : Module) (r : Nat) (v : Runner) : (m.setRunner r v).power = m.power := rfl
@[simp] theorem Module.setRunner_health (m : Module) (r : Nat) (v : Runner) : (m.setRunner r v).health = m.health := rfl
@[simp] theorem Module.setRunner_safety (m : Module) (r : Nat) (v : Runner) : (m.setRunner r v).safety = m.safety := rfl
@[simp] theorem Module.setRunner_rcv (m : Module) (r : Nat) (v : Runner) : (m.setRunner r v).rcv = m.rcv := rfl
@[simp] theorem Module.setRunner_boot (m : Module) (r : Nat) (v : Runner) : (m.setRunner r v).boot = m.boot := rfl
@[simp] theorem Module.setRunner_hostMem (m : Module) (r : Nat) (v : Runner) : (m.setRunner r v).hostMem = m.hostMem := rfl
@[simp] theorem Module.setRunner_wire (m : Module) (r : Nat) (v : Runner) : (m.setRunner r v).wire = m.wire := rfl
@[simp] theorem Module.setRunner_freeCount (m : Module) (r : Nat) (v : Runner) : (m.setRunner r v).freeCount = m.freeCount := rfl
@[simp] theorem Module.setRunner_links_pcieSpeed (m : Module) (r : Nat) (v : Runner) : (m.setRunner r v).links.pcieSpeed = m.links.pcieSpeed := rfl
@[simp] theorem Module.setRunner_links_pcieWidth (m : Module) (r : Nat) (v : Runner) : (m.setRunner r v).links.pcieWidth = m.links.pcieWidth := rfl
@[simp] theorem Module.setRunner_links_perst (m : Module) (r : Nat) (v : Runner) : (m.setRunner r v).links.perst = m.links.perst := rfl
@[simp] theorem Module.setRunner_links_grants (m : Module) (r : Nat) (v : Runner) : (m.setRunner r v).links.grants = m.links.grants := rfl
@[simp] theorem Module.setRunner_links_tx (m : Module) (r : Nat) (v : Runner) : (m.setRunner r v).links.tx = m.links.tx := rfl
@[simp] theorem Module.setRunner_links_route (m : Module) (r : Nat) (v : Runner) : (m.setRunner r v).links.route = m.links.route := rfl
@[simp] theorem Module.setRunner_links_ids (m : Module) (r : Nat) (v : Runner) : (m.setRunner r v).links.ids = m.links.ids := rfl
@[simp] theorem Module.setRunner_links_ctr (m : Module) (r : Nat) (v : Runner) : (m.setRunner r v).links.ctr = m.links.ctr := rfl
@[simp] theorem Module.setRunner_core (m : Module) (r : Nat) (v : Runner) (c' : Nat) : (m.setRunner r v).core c' = m.core c' := rfl
@[simp] theorem Module.setRunner_eng (m : Module) (r : Nat) (v : Runner) (c' e' : Nat) : (m.setRunner r v).eng c' e' = m.eng c' e' := rfl
@[simp] theorem Module.setRunner_ctx (m : Module) (r : Nat) (v : Runner) (k' : Nat) : (m.setRunner r v).ctx k' = m.ctx k' := rfl
@[simp] theorem Module.setRunner_client (m : Module) (r : Nat) (v : Runner) (n' : Nat) : (m.setRunner r v).client n' = m.client n' := rfl
@[simp] theorem Module.setRunner_queue (m : Module) (r : Nat) (v : Runner) (q' : Nat) : (m.setRunner r v).queue q' = m.queue q' := rfl
@[simp] theorem Module.setRunner_mbx (m : Module) (r : Nat) (v : Runner) (n' : Nat) : (m.setRunner r v).mbx n' = m.mbx n' := rfl
@[simp] theorem Module.setRunner_window (m : Module) (r : Nat) (v : Runner) (w' : Nat) : (m.setRunner r v).window w' = m.window w' := rfl
@[simp] theorem Module.setRunner_stream (m : Module) (r : Nat) (v : Runner) (i' : Nat) : (m.setRunner r v).stream i' = m.stream i' := rfl
@[simp] theorem Module.setRunner_canCtl (m : Module) (r : Nat) (v : Runner) (k' : Nat) : (m.setRunner r v).canCtl k' = m.canCtl k' := rfl
@[simp] theorem Module.setRunner_port (m : Module) (r : Nat) (v : Runner) (p' : Nat) : (m.setRunner r v).port p' = m.port p' := rfl
@[simp] theorem Module.setRunner_loop (m : Module) (r : Nat) (v : Runner) (i' : Nat) : (m.setRunner r v).loop i' = m.loop i' := rfl
@[simp] theorem Module.setRunner_credit (m : Module) (r : Nat) (v : Runner) (r' k' : Nat) : (m.setRunner r v).credit r' k' = m.credit r' k' := rfl
@[simp] theorem Module.setRunner_ownCredit (m : Module) (r : Nat) (v : Runner) (r' : Nat) : (m.setRunner r v).ownCredit r' = m.ownCredit r' := rfl
@[simp] theorem Module.setRunner_plan (m : Module) (r : Nat) (v : Runner) (i' : Nat) : (m.setRunner r v).plan i' = m.plan i' := rfl
@[simp] theorem Module.setRunner_txPort (m : Module) (r : Nat) (v : Runner) (p' : Nat) : (m.setRunner r v).txPort p' = m.txPort p' := rfl
@[simp] theorem Module.setRunner_rxPort (m : Module) (r : Nat) (v : Runner) (p' : Nat) : (m.setRunner r v).rxPort p' = m.rxPort p' := rfl
@[simp] theorem Module.setRunner_pool (m : Module) (r : Nat) (v : Runner) (p' : Nat) : (m.setRunner r v).pool p' = m.pool p' := rfl
@[simp] theorem Module.setRunner_checker (m : Module) (r : Nat) (v : Runner) (ch' : Nat) : (m.setRunner r v).checker ch' = m.checker ch' := rfl

/-! ### setCredit -/

@[simp] theorem Module.setCredit_cores (m : Module) (r k : Nat) (v : Credit) : (m.setCredit r k v).cores = m.cores := rfl
@[simp] theorem Module.setCredit_engines (m : Module) (r k : Nat) (v : Credit) : (m.setCredit r k v).engines = m.engines := rfl
@[simp] theorem Module.setCredit_mem (m : Module) (r k : Nat) (v : Credit) : (m.setCredit r k v).mem = m.mem := rfl
@[simp] theorem Module.setCredit_sched (m : Module) (r k : Nat) (v : Credit) : (m.setCredit r k v).sched = m.sched := rfl
@[simp] theorem Module.setCredit_kv (m : Module) (r k : Nat) (v : Credit) : (m.setCredit r k v).kv = m.kv := rfl
@[simp] theorem Module.setCredit_queues (m : Module) (r k : Nat) (v : Credit) : (m.setCredit r k v).queues = m.queues := rfl
@[simp] theorem Module.setCredit_rx (m : Module) (r k : Nat) (v : Credit) : (m.setCredit r k v).rx = m.rx := rfl
@[simp] theorem Module.setCredit_streams (m : Module) (r k : Nat) (v : Credit) : (m.setCredit r k v).streams = m.streams := rfl
@[simp] theorem Module.setCredit_trl (m : Module) (r k : Nat) (v : Credit) : (m.setCredit r k v).trl = m.trl := rfl
@[simp] theorem Module.setCredit_host (m : Module) (r k : Nat) (v : Credit) : (m.setCredit r k v).host = m.host := rfl
@[simp] theorem Module.setCredit_time (m : Module) (r k : Nat) (v : Credit) : (m.setCredit r k v).time = m.time := rfl
@[simp] theorem Module.setCredit_can (m : Module) (r k : Nat) (v : Credit) : (m.setCredit r k v).can = m.can := rfl
@[simp] theorem Module.setCredit_links (m : Module) (r k : Nat) (v : Credit) : (m.setCredit r k v).links = m.links := rfl
@[simp] theorem Module.setCredit_power (m : Module) (r k : Nat) (v : Credit) : (m.setCredit r k v).power = m.power := rfl
@[simp] theorem Module.setCredit_health (m : Module) (r k : Nat) (v : Credit) : (m.setCredit r k v).health = m.health := rfl
@[simp] theorem Module.setCredit_safety (m : Module) (r k : Nat) (v : Credit) : (m.setCredit r k v).safety = m.safety := rfl
@[simp] theorem Module.setCredit_rcv (m : Module) (r k : Nat) (v : Credit) : (m.setCredit r k v).rcv = m.rcv := rfl
@[simp] theorem Module.setCredit_boot (m : Module) (r k : Nat) (v : Credit) : (m.setCredit r k v).boot = m.boot := rfl
@[simp] theorem Module.setCredit_hostMem (m : Module) (r k : Nat) (v : Credit) : (m.setCredit r k v).hostMem = m.hostMem := rfl
@[simp] theorem Module.setCredit_wire (m : Module) (r k : Nat) (v : Credit) : (m.setCredit r k v).wire = m.wire := rfl
@[simp] theorem Module.setCredit_freeCount (m : Module) (r k : Nat) (v : Credit) : (m.setCredit r k v).freeCount = m.freeCount := rfl
@[simp] theorem Module.setCredit_fab_ops (m : Module) (r k : Nat) (v : Credit) : (m.setCredit r k v).fab.ops = m.fab.ops := rfl
@[simp] theorem Module.setCredit_fab_nextOp (m : Module) (r k : Nat) (v : Credit) : (m.setCredit r k v).fab.nextOp = m.fab.nextOp := rfl
@[simp] theorem Module.setCredit_fab_sync (m : Module) (r k : Nat) (v : Credit) : (m.setCredit r k v).fab.sync = m.fab.sync := rfl
@[simp] theorem Module.setCredit_fab_windows (m : Module) (r k : Nat) (v : Credit) : (m.setCredit r k v).fab.windows = m.fab.windows := rfl
@[simp] theorem Module.setCredit_fab_own (m : Module) (r k : Nat) (v : Credit) : (m.setCredit r k v).fab.own = m.fab.own := rfl
@[simp] theorem Module.setCredit_fab_bridgeClosed (m : Module) (r k : Nat) (v : Credit) : (m.setCredit r k v).fab.bridgeClosed = m.fab.bridgeClosed := rfl
@[simp] theorem Module.setCredit_core (m : Module) (r k : Nat) (v : Credit) (c' : Nat) : (m.setCredit r k v).core c' = m.core c' := rfl
@[simp] theorem Module.setCredit_eng (m : Module) (r k : Nat) (v : Credit) (c' e' : Nat) : (m.setCredit r k v).eng c' e' = m.eng c' e' := rfl
@[simp] theorem Module.setCredit_ctx (m : Module) (r k : Nat) (v : Credit) (k' : Nat) : (m.setCredit r k v).ctx k' = m.ctx k' := rfl
@[simp] theorem Module.setCredit_client (m : Module) (r k : Nat) (v : Credit) (n' : Nat) : (m.setCredit r k v).client n' = m.client n' := rfl
@[simp] theorem Module.setCredit_queue (m : Module) (r k : Nat) (v : Credit) (q' : Nat) : (m.setCredit r k v).queue q' = m.queue q' := rfl
@[simp] theorem Module.setCredit_mbx (m : Module) (r k : Nat) (v : Credit) (n' : Nat) : (m.setCredit r k v).mbx n' = m.mbx n' := rfl
@[simp] theorem Module.setCredit_window (m : Module) (r k : Nat) (v : Credit) (w' : Nat) : (m.setCredit r k v).window w' = m.window w' := rfl
@[simp] theorem Module.setCredit_stream (m : Module) (r k : Nat) (v : Credit) (i' : Nat) : (m.setCredit r k v).stream i' = m.stream i' := rfl
@[simp] theorem Module.setCredit_canCtl (m : Module) (r k : Nat) (v : Credit) (k' : Nat) : (m.setCredit r k v).canCtl k' = m.canCtl k' := rfl
@[simp] theorem Module.setCredit_port (m : Module) (r k : Nat) (v : Credit) (p' : Nat) : (m.setCredit r k v).port p' = m.port p' := rfl
@[simp] theorem Module.setCredit_loop (m : Module) (r k : Nat) (v : Credit) (i' : Nat) : (m.setCredit r k v).loop i' = m.loop i' := rfl
@[simp] theorem Module.setCredit_runner (m : Module) (r k : Nat) (v : Credit) (r' : Nat) : (m.setCredit r k v).runner r' = m.runner r' := rfl
@[simp] theorem Module.setCredit_ownCredit (m : Module) (r k : Nat) (v : Credit) (r' : Nat) : (m.setCredit r k v).ownCredit r' = m.ownCredit r' := rfl
@[simp] theorem Module.setCredit_plan (m : Module) (r k : Nat) (v : Credit) (i' : Nat) : (m.setCredit r k v).plan i' = m.plan i' := rfl
@[simp] theorem Module.setCredit_txPort (m : Module) (r k : Nat) (v : Credit) (p' : Nat) : (m.setCredit r k v).txPort p' = m.txPort p' := rfl
@[simp] theorem Module.setCredit_rxPort (m : Module) (r k : Nat) (v : Credit) (p' : Nat) : (m.setCredit r k v).rxPort p' = m.rxPort p' := rfl
@[simp] theorem Module.setCredit_pool (m : Module) (r k : Nat) (v : Credit) (p' : Nat) : (m.setCredit r k v).pool p' = m.pool p' := rfl
@[simp] theorem Module.setCredit_checker (m : Module) (r k : Nat) (v : Credit) (ch' : Nat) : (m.setCredit r k v).checker ch' = m.checker ch' := rfl

/-! ### setOwnCredit -/

@[simp] theorem Module.setOwnCredit_cores (m : Module) (r : Nat) (v : OwnCredit) : (m.setOwnCredit r v).cores = m.cores := rfl
@[simp] theorem Module.setOwnCredit_engines (m : Module) (r : Nat) (v : OwnCredit) : (m.setOwnCredit r v).engines = m.engines := rfl
@[simp] theorem Module.setOwnCredit_mem (m : Module) (r : Nat) (v : OwnCredit) : (m.setOwnCredit r v).mem = m.mem := rfl
@[simp] theorem Module.setOwnCredit_sched (m : Module) (r : Nat) (v : OwnCredit) : (m.setOwnCredit r v).sched = m.sched := rfl
@[simp] theorem Module.setOwnCredit_kv (m : Module) (r : Nat) (v : OwnCredit) : (m.setOwnCredit r v).kv = m.kv := rfl
@[simp] theorem Module.setOwnCredit_queues (m : Module) (r : Nat) (v : OwnCredit) : (m.setOwnCredit r v).queues = m.queues := rfl
@[simp] theorem Module.setOwnCredit_rx (m : Module) (r : Nat) (v : OwnCredit) : (m.setOwnCredit r v).rx = m.rx := rfl
@[simp] theorem Module.setOwnCredit_streams (m : Module) (r : Nat) (v : OwnCredit) : (m.setOwnCredit r v).streams = m.streams := rfl
@[simp] theorem Module.setOwnCredit_trl (m : Module) (r : Nat) (v : OwnCredit) : (m.setOwnCredit r v).trl = m.trl := rfl
@[simp] theorem Module.setOwnCredit_host (m : Module) (r : Nat) (v : OwnCredit) : (m.setOwnCredit r v).host = m.host := rfl
@[simp] theorem Module.setOwnCredit_time (m : Module) (r : Nat) (v : OwnCredit) : (m.setOwnCredit r v).time = m.time := rfl
@[simp] theorem Module.setOwnCredit_can (m : Module) (r : Nat) (v : OwnCredit) : (m.setOwnCredit r v).can = m.can := rfl
@[simp] theorem Module.setOwnCredit_links (m : Module) (r : Nat) (v : OwnCredit) : (m.setOwnCredit r v).links = m.links := rfl
@[simp] theorem Module.setOwnCredit_power (m : Module) (r : Nat) (v : OwnCredit) : (m.setOwnCredit r v).power = m.power := rfl
@[simp] theorem Module.setOwnCredit_health (m : Module) (r : Nat) (v : OwnCredit) : (m.setOwnCredit r v).health = m.health := rfl
@[simp] theorem Module.setOwnCredit_safety (m : Module) (r : Nat) (v : OwnCredit) : (m.setOwnCredit r v).safety = m.safety := rfl
@[simp] theorem Module.setOwnCredit_rcv (m : Module) (r : Nat) (v : OwnCredit) : (m.setOwnCredit r v).rcv = m.rcv := rfl
@[simp] theorem Module.setOwnCredit_boot (m : Module) (r : Nat) (v : OwnCredit) : (m.setOwnCredit r v).boot = m.boot := rfl
@[simp] theorem Module.setOwnCredit_hostMem (m : Module) (r : Nat) (v : OwnCredit) : (m.setOwnCredit r v).hostMem = m.hostMem := rfl
@[simp] theorem Module.setOwnCredit_wire (m : Module) (r : Nat) (v : OwnCredit) : (m.setOwnCredit r v).wire = m.wire := rfl
@[simp] theorem Module.setOwnCredit_freeCount (m : Module) (r : Nat) (v : OwnCredit) : (m.setOwnCredit r v).freeCount = m.freeCount := rfl
@[simp] theorem Module.setOwnCredit_fab_ops (m : Module) (r : Nat) (v : OwnCredit) : (m.setOwnCredit r v).fab.ops = m.fab.ops := rfl
@[simp] theorem Module.setOwnCredit_fab_nextOp (m : Module) (r : Nat) (v : OwnCredit) : (m.setOwnCredit r v).fab.nextOp = m.fab.nextOp := rfl
@[simp] theorem Module.setOwnCredit_fab_sync (m : Module) (r : Nat) (v : OwnCredit) : (m.setOwnCredit r v).fab.sync = m.fab.sync := rfl
@[simp] theorem Module.setOwnCredit_fab_windows (m : Module) (r : Nat) (v : OwnCredit) : (m.setOwnCredit r v).fab.windows = m.fab.windows := rfl
@[simp] theorem Module.setOwnCredit_fab_credits (m : Module) (r : Nat) (v : OwnCredit) : (m.setOwnCredit r v).fab.credits = m.fab.credits := rfl
@[simp] theorem Module.setOwnCredit_fab_bridgeClosed (m : Module) (r : Nat) (v : OwnCredit) : (m.setOwnCredit r v).fab.bridgeClosed = m.fab.bridgeClosed := rfl
@[simp] theorem Module.setOwnCredit_core (m : Module) (r : Nat) (v : OwnCredit) (c' : Nat) : (m.setOwnCredit r v).core c' = m.core c' := rfl
@[simp] theorem Module.setOwnCredit_eng (m : Module) (r : Nat) (v : OwnCredit) (c' e' : Nat) : (m.setOwnCredit r v).eng c' e' = m.eng c' e' := rfl
@[simp] theorem Module.setOwnCredit_ctx (m : Module) (r : Nat) (v : OwnCredit) (k' : Nat) : (m.setOwnCredit r v).ctx k' = m.ctx k' := rfl
@[simp] theorem Module.setOwnCredit_client (m : Module) (r : Nat) (v : OwnCredit) (n' : Nat) : (m.setOwnCredit r v).client n' = m.client n' := rfl
@[simp] theorem Module.setOwnCredit_queue (m : Module) (r : Nat) (v : OwnCredit) (q' : Nat) : (m.setOwnCredit r v).queue q' = m.queue q' := rfl
@[simp] theorem Module.setOwnCredit_mbx (m : Module) (r : Nat) (v : OwnCredit) (n' : Nat) : (m.setOwnCredit r v).mbx n' = m.mbx n' := rfl
@[simp] theorem Module.setOwnCredit_window (m : Module) (r : Nat) (v : OwnCredit) (w' : Nat) : (m.setOwnCredit r v).window w' = m.window w' := rfl
@[simp] theorem Module.setOwnCredit_stream (m : Module) (r : Nat) (v : OwnCredit) (i' : Nat) : (m.setOwnCredit r v).stream i' = m.stream i' := rfl
@[simp] theorem Module.setOwnCredit_canCtl (m : Module) (r : Nat) (v : OwnCredit) (k' : Nat) : (m.setOwnCredit r v).canCtl k' = m.canCtl k' := rfl
@[simp] theorem Module.setOwnCredit_port (m : Module) (r : Nat) (v : OwnCredit) (p' : Nat) : (m.setOwnCredit r v).port p' = m.port p' := rfl
@[simp] theorem Module.setOwnCredit_loop (m : Module) (r : Nat) (v : OwnCredit) (i' : Nat) : (m.setOwnCredit r v).loop i' = m.loop i' := rfl
@[simp] theorem Module.setOwnCredit_runner (m : Module) (r : Nat) (v : OwnCredit) (r' : Nat) : (m.setOwnCredit r v).runner r' = m.runner r' := rfl
@[simp] theorem Module.setOwnCredit_credit (m : Module) (r : Nat) (v : OwnCredit) (r' k' : Nat) : (m.setOwnCredit r v).credit r' k' = m.credit r' k' := rfl
@[simp] theorem Module.setOwnCredit_plan (m : Module) (r : Nat) (v : OwnCredit) (i' : Nat) : (m.setOwnCredit r v).plan i' = m.plan i' := rfl
@[simp] theorem Module.setOwnCredit_txPort (m : Module) (r : Nat) (v : OwnCredit) (p' : Nat) : (m.setOwnCredit r v).txPort p' = m.txPort p' := rfl
@[simp] theorem Module.setOwnCredit_rxPort (m : Module) (r : Nat) (v : OwnCredit) (p' : Nat) : (m.setOwnCredit r v).rxPort p' = m.rxPort p' := rfl
@[simp] theorem Module.setOwnCredit_pool (m : Module) (r : Nat) (v : OwnCredit) (p' : Nat) : (m.setOwnCredit r v).pool p' = m.pool p' := rfl
@[simp] theorem Module.setOwnCredit_checker (m : Module) (r : Nat) (v : OwnCredit) (ch' : Nat) : (m.setOwnCredit r v).checker ch' = m.checker ch' := rfl

/-! ### setPlan -/

@[simp] theorem Module.setPlan_cores (m : Module) (i : Nat) (v : Plan17) : (m.setPlan i v).cores = m.cores := rfl
@[simp] theorem Module.setPlan_engines (m : Module) (i : Nat) (v : Plan17) : (m.setPlan i v).engines = m.engines := rfl
@[simp] theorem Module.setPlan_mem (m : Module) (i : Nat) (v : Plan17) : (m.setPlan i v).mem = m.mem := rfl
@[simp] theorem Module.setPlan_fab (m : Module) (i : Nat) (v : Plan17) : (m.setPlan i v).fab = m.fab := rfl
@[simp] theorem Module.setPlan_sched (m : Module) (i : Nat) (v : Plan17) : (m.setPlan i v).sched = m.sched := rfl
@[simp] theorem Module.setPlan_kv (m : Module) (i : Nat) (v : Plan17) : (m.setPlan i v).kv = m.kv := rfl
@[simp] theorem Module.setPlan_queues (m : Module) (i : Nat) (v : Plan17) : (m.setPlan i v).queues = m.queues := rfl
@[simp] theorem Module.setPlan_rx (m : Module) (i : Nat) (v : Plan17) : (m.setPlan i v).rx = m.rx := rfl
@[simp] theorem Module.setPlan_streams (m : Module) (i : Nat) (v : Plan17) : (m.setPlan i v).streams = m.streams := rfl
@[simp] theorem Module.setPlan_trl (m : Module) (i : Nat) (v : Plan17) : (m.setPlan i v).trl = m.trl := rfl
@[simp] theorem Module.setPlan_host (m : Module) (i : Nat) (v : Plan17) : (m.setPlan i v).host = m.host := rfl
@[simp] theorem Module.setPlan_time (m : Module) (i : Nat) (v : Plan17) : (m.setPlan i v).time = m.time := rfl
@[simp] theorem Module.setPlan_can (m : Module) (i : Nat) (v : Plan17) : (m.setPlan i v).can = m.can := rfl
@[simp] theorem Module.setPlan_links (m : Module) (i : Nat) (v : Plan17) : (m.setPlan i v).links = m.links := rfl
@[simp] theorem Module.setPlan_power (m : Module) (i : Nat) (v : Plan17) : (m.setPlan i v).power = m.power := rfl
@[simp] theorem Module.setPlan_safety (m : Module) (i : Nat) (v : Plan17) : (m.setPlan i v).safety = m.safety := rfl
@[simp] theorem Module.setPlan_rcv (m : Module) (i : Nat) (v : Plan17) : (m.setPlan i v).rcv = m.rcv := rfl
@[simp] theorem Module.setPlan_boot (m : Module) (i : Nat) (v : Plan17) : (m.setPlan i v).boot = m.boot := rfl
@[simp] theorem Module.setPlan_hostMem (m : Module) (i : Nat) (v : Plan17) : (m.setPlan i v).hostMem = m.hostMem := rfl
@[simp] theorem Module.setPlan_wire (m : Module) (i : Nat) (v : Plan17) : (m.setPlan i v).wire = m.wire := rfl
@[simp] theorem Module.setPlan_freeCount (m : Module) (i : Nat) (v : Plan17) : (m.setPlan i v).freeCount = m.freeCount := rfl
@[simp] theorem Module.setPlan_health_temps (m : Module) (i : Nat) (v : Plan17) : (m.setPlan i v).health.temps = m.health.temps := rfl
@[simp] theorem Module.setPlan_health_answered (m : Module) (i : Nat) (v : Plan17) : (m.setPlan i v).health.answered = m.health.answered := rfl
@[simp] theorem Module.setPlan_health_volts (m : Module) (i : Nat) (v : Plan17) : (m.setPlan i v).health.volts = m.health.volts := rfl
@[simp] theorem Module.setPlan_health_classes (m : Module) (i : Nat) (v : Plan17) : (m.setPlan i v).health.classes = m.health.classes := rfl
@[simp] theorem Module.setPlan_health_logFixed (m : Module) (i : Nat) (v : Plan17) : (m.setPlan i v).health.logFixed = m.health.logFixed := rfl
@[simp] theorem Module.setPlan_health_logRing (m : Module) (i : Nat) (v : Plan17) : (m.setPlan i v).health.logRing = m.health.logRing := rfl
@[simp] theorem Module.setPlan_health_logSeq (m : Module) (i : Nat) (v : Plan17) : (m.setPlan i v).health.logSeq = m.health.logSeq := rfl
@[simp] theorem Module.setPlan_health_poweredBefore (m : Module) (i : Nat) (v : Plan17) : (m.setPlan i v).health.poweredBefore = m.health.poweredBefore := rfl
@[simp] theorem Module.setPlan_health_logFirst (m : Module) (i : Nat) (v : Plan17) : (m.setPlan i v).health.logFirst = m.health.logFirst := rfl
@[simp] theorem Module.setPlan_health_profiles (m : Module) (i : Nat) (v : Plan17) : (m.setPlan i v).health.profiles = m.health.profiles := rfl
@[simp] theorem Module.setPlan_health_override (m : Module) (i : Nat) (v : Plan17) : (m.setPlan i v).health.override = m.health.override := rfl
@[simp] theorem Module.setPlan_health_profile (m : Module) (i : Nat) (v : Plan17) : (m.setPlan i v).health.profile = m.health.profile := rfl
@[simp] theorem Module.setPlan_health_source (m : Module) (i : Nat) (v : Plan17) : (m.setPlan i v).health.source = m.health.source := rfl
@[simp] theorem Module.setPlan_health_binPending (m : Module) (i : Nat) (v : Plan17) : (m.setPlan i v).health.binPending = m.health.binPending := rfl
@[simp] theorem Module.setPlan_health_binTarget (m : Module) (i : Nat) (v : Plan17) : (m.setPlan i v).health.binTarget = m.health.binTarget := rfl
@[simp] theorem Module.setPlan_health_consentAt (m : Module) (i : Nat) (v : Plan17) : (m.setPlan i v).health.consentAt = m.health.consentAt := rfl
@[simp] theorem Module.setPlan_health_binForce (m : Module) (i : Nat) (v : Plan17) : (m.setPlan i v).health.binForce = m.health.binForce := rfl
@[simp] theorem Module.setPlan_health_binLog (m : Module) (i : Nat) (v : Plan17) : (m.setPlan i v).health.binLog = m.health.binLog := rfl
@[simp] theorem Module.setPlan_health_holdRetry (m : Module) (i : Nat) (v : Plan17) : (m.setPlan i v).health.holdRetry = m.health.holdRetry := rfl
@[simp] theorem Module.setPlan_health_tripRun (m : Module) (i : Nat) (v : Plan17) : (m.setPlan i v).health.tripRun = m.health.tripRun := rfl
@[simp] theorem Module.setPlan_health_tripRec (m : Module) (i : Nat) (v : Plan17) : (m.setPlan i v).health.tripRec = m.health.tripRec := rfl
@[simp] theorem Module.setPlan_health_debugLock (m : Module) (i : Nat) (v : Plan17) : (m.setPlan i v).health.debugLock = m.health.debugLock := rfl
@[simp] theorem Module.setPlan_health_debugOpen (m : Module) (i : Nat) (v : Plan17) : (m.setPlan i v).health.debugOpen = m.health.debugOpen := rfl
@[simp] theorem Module.setPlan_health_writing (m : Module) (i : Nat) (v : Plan17) : (m.setPlan i v).health.writing = m.health.writing := rfl
@[simp] theorem Module.setPlan_health_ctr (m : Module) (i : Nat) (v : Plan17) : (m.setPlan i v).health.ctr = m.health.ctr := rfl
@[simp] theorem Module.setPlan_core (m : Module) (i : Nat) (v : Plan17) (c' : Nat) : (m.setPlan i v).core c' = m.core c' := rfl
@[simp] theorem Module.setPlan_eng (m : Module) (i : Nat) (v : Plan17) (c' e' : Nat) : (m.setPlan i v).eng c' e' = m.eng c' e' := rfl
@[simp] theorem Module.setPlan_ctx (m : Module) (i : Nat) (v : Plan17) (k' : Nat) : (m.setPlan i v).ctx k' = m.ctx k' := rfl
@[simp] theorem Module.setPlan_client (m : Module) (i : Nat) (v : Plan17) (n' : Nat) : (m.setPlan i v).client n' = m.client n' := rfl
@[simp] theorem Module.setPlan_queue (m : Module) (i : Nat) (v : Plan17) (q' : Nat) : (m.setPlan i v).queue q' = m.queue q' := rfl
@[simp] theorem Module.setPlan_mbx (m : Module) (i : Nat) (v : Plan17) (n' : Nat) : (m.setPlan i v).mbx n' = m.mbx n' := rfl
@[simp] theorem Module.setPlan_window (m : Module) (i : Nat) (v : Plan17) (w' : Nat) : (m.setPlan i v).window w' = m.window w' := rfl
@[simp] theorem Module.setPlan_stream (m : Module) (i : Nat) (v : Plan17) (i' : Nat) : (m.setPlan i v).stream i' = m.stream i' := rfl
@[simp] theorem Module.setPlan_canCtl (m : Module) (i : Nat) (v : Plan17) (k' : Nat) : (m.setPlan i v).canCtl k' = m.canCtl k' := rfl
@[simp] theorem Module.setPlan_port (m : Module) (i : Nat) (v : Plan17) (p' : Nat) : (m.setPlan i v).port p' = m.port p' := rfl
@[simp] theorem Module.setPlan_loop (m : Module) (i : Nat) (v : Plan17) (i' : Nat) : (m.setPlan i v).loop i' = m.loop i' := rfl
@[simp] theorem Module.setPlan_runner (m : Module) (i : Nat) (v : Plan17) (r' : Nat) : (m.setPlan i v).runner r' = m.runner r' := rfl
@[simp] theorem Module.setPlan_credit (m : Module) (i : Nat) (v : Plan17) (r' k' : Nat) : (m.setPlan i v).credit r' k' = m.credit r' k' := rfl
@[simp] theorem Module.setPlan_ownCredit (m : Module) (i : Nat) (v : Plan17) (r' : Nat) : (m.setPlan i v).ownCredit r' = m.ownCredit r' := rfl
@[simp] theorem Module.setPlan_txPort (m : Module) (i : Nat) (v : Plan17) (p' : Nat) : (m.setPlan i v).txPort p' = m.txPort p' := rfl
@[simp] theorem Module.setPlan_rxPort (m : Module) (i : Nat) (v : Plan17) (p' : Nat) : (m.setPlan i v).rxPort p' = m.rxPort p' := rfl
@[simp] theorem Module.setPlan_pool (m : Module) (i : Nat) (v : Plan17) (p' : Nat) : (m.setPlan i v).pool p' = m.pool p' := rfl
@[simp] theorem Module.setPlan_checker (m : Module) (i : Nat) (v : Plan17) (ch' : Nat) : (m.setPlan i v).checker ch' = m.checker ch' := rfl

/-! ### setTx -/

@[simp] theorem Module.setTx_cores (m : Module) (p : Nat) (v : TxPort) : (m.setTx p v).cores = m.cores := rfl
@[simp] theorem Module.setTx_engines (m : Module) (p : Nat) (v : TxPort) : (m.setTx p v).engines = m.engines := rfl
@[simp] theorem Module.setTx_mem (m : Module) (p : Nat) (v : TxPort) : (m.setTx p v).mem = m.mem := rfl
@[simp] theorem Module.setTx_fab (m : Module) (p : Nat) (v : TxPort) : (m.setTx p v).fab = m.fab := rfl
@[simp] theorem Module.setTx_sched (m : Module) (p : Nat) (v : TxPort) : (m.setTx p v).sched = m.sched := rfl
@[simp] theorem Module.setTx_kv (m : Module) (p : Nat) (v : TxPort) : (m.setTx p v).kv = m.kv := rfl
@[simp] theorem Module.setTx_queues (m : Module) (p : Nat) (v : TxPort) : (m.setTx p v).queues = m.queues := rfl
@[simp] theorem Module.setTx_rx (m : Module) (p : Nat) (v : TxPort) : (m.setTx p v).rx = m.rx := rfl
@[simp] theorem Module.setTx_streams (m : Module) (p : Nat) (v : TxPort) : (m.setTx p v).streams = m.streams := rfl
@[simp] theorem Module.setTx_trl (m : Module) (p : Nat) (v : TxPort) : (m.setTx p v).trl = m.trl := rfl
@[simp] theorem Module.setTx_host (m : Module) (p : Nat) (v : TxPort) : (m.setTx p v).host = m.host := rfl
@[simp] theorem Module.setTx_time (m : Module) (p : Nat) (v : TxPort) : (m.setTx p v).time = m.time := rfl
@[simp] theorem Module.setTx_can (m : Module) (p : Nat) (v : TxPort) : (m.setTx p v).can = m.can := rfl
@[simp] theorem Module.setTx_power (m : Module) (p : Nat) (v : TxPort) : (m.setTx p v).power = m.power := rfl
@[simp] theorem Module.setTx_health (m : Module) (p : Nat) (v : TxPort) : (m.setTx p v).health = m.health := rfl
@[simp] theorem Module.setTx_safety (m : Module) (p : Nat) (v : TxPort) : (m.setTx p v).safety = m.safety := rfl
@[simp] theorem Module.setTx_rcv (m : Module) (p : Nat) (v : TxPort) : (m.setTx p v).rcv = m.rcv := rfl
@[simp] theorem Module.setTx_boot (m : Module) (p : Nat) (v : TxPort) : (m.setTx p v).boot = m.boot := rfl
@[simp] theorem Module.setTx_hostMem (m : Module) (p : Nat) (v : TxPort) : (m.setTx p v).hostMem = m.hostMem := rfl
@[simp] theorem Module.setTx_wire (m : Module) (p : Nat) (v : TxPort) : (m.setTx p v).wire = m.wire := rfl
@[simp] theorem Module.setTx_freeCount (m : Module) (p : Nat) (v : TxPort) : (m.setTx p v).freeCount = m.freeCount := rfl
@[simp] theorem Module.setTx_links_pcieSpeed (m : Module) (p : Nat) (v : TxPort) : (m.setTx p v).links.pcieSpeed = m.links.pcieSpeed := rfl
@[simp] theorem Module.setTx_links_pcieWidth (m : Module) (p : Nat) (v : TxPort) : (m.setTx p v).links.pcieWidth = m.links.pcieWidth := rfl
@[simp] theorem Module.setTx_links_perst (m : Module) (p : Nat) (v : TxPort) : (m.setTx p v).links.perst = m.links.perst := rfl
@[simp] theorem Module.setTx_links_grants (m : Module) (p : Nat) (v : TxPort) : (m.setTx p v).links.grants = m.links.grants := rfl
@[simp] theorem Module.setTx_links_runners (m : Module) (p : Nat) (v : TxPort) : (m.setTx p v).links.runners = m.links.runners := rfl
@[simp] theorem Module.setTx_links_route (m : Module) (p : Nat) (v : TxPort) : (m.setTx p v).links.route = m.links.route := rfl
@[simp] theorem Module.setTx_links_ids (m : Module) (p : Nat) (v : TxPort) : (m.setTx p v).links.ids = m.links.ids := rfl
@[simp] theorem Module.setTx_links_ctr (m : Module) (p : Nat) (v : TxPort) : (m.setTx p v).links.ctr = m.links.ctr := rfl
@[simp] theorem Module.setTx_core (m : Module) (p : Nat) (v : TxPort) (c' : Nat) : (m.setTx p v).core c' = m.core c' := rfl
@[simp] theorem Module.setTx_eng (m : Module) (p : Nat) (v : TxPort) (c' e' : Nat) : (m.setTx p v).eng c' e' = m.eng c' e' := rfl
@[simp] theorem Module.setTx_ctx (m : Module) (p : Nat) (v : TxPort) (k' : Nat) : (m.setTx p v).ctx k' = m.ctx k' := rfl
@[simp] theorem Module.setTx_client (m : Module) (p : Nat) (v : TxPort) (n' : Nat) : (m.setTx p v).client n' = m.client n' := rfl
@[simp] theorem Module.setTx_queue (m : Module) (p : Nat) (v : TxPort) (q' : Nat) : (m.setTx p v).queue q' = m.queue q' := rfl
@[simp] theorem Module.setTx_mbx (m : Module) (p : Nat) (v : TxPort) (n' : Nat) : (m.setTx p v).mbx n' = m.mbx n' := rfl
@[simp] theorem Module.setTx_window (m : Module) (p : Nat) (v : TxPort) (w' : Nat) : (m.setTx p v).window w' = m.window w' := rfl
@[simp] theorem Module.setTx_stream (m : Module) (p : Nat) (v : TxPort) (i' : Nat) : (m.setTx p v).stream i' = m.stream i' := rfl
@[simp] theorem Module.setTx_canCtl (m : Module) (p : Nat) (v : TxPort) (k' : Nat) : (m.setTx p v).canCtl k' = m.canCtl k' := rfl
@[simp] theorem Module.setTx_port (m : Module) (p : Nat) (v : TxPort) (p' : Nat) : (m.setTx p v).port p' = m.port p' := rfl
@[simp] theorem Module.setTx_loop (m : Module) (p : Nat) (v : TxPort) (i' : Nat) : (m.setTx p v).loop i' = m.loop i' := rfl
@[simp] theorem Module.setTx_runner (m : Module) (p : Nat) (v : TxPort) (r' : Nat) : (m.setTx p v).runner r' = m.runner r' := rfl
@[simp] theorem Module.setTx_credit (m : Module) (p : Nat) (v : TxPort) (r' k' : Nat) : (m.setTx p v).credit r' k' = m.credit r' k' := rfl
@[simp] theorem Module.setTx_ownCredit (m : Module) (p : Nat) (v : TxPort) (r' : Nat) : (m.setTx p v).ownCredit r' = m.ownCredit r' := rfl
@[simp] theorem Module.setTx_plan (m : Module) (p : Nat) (v : TxPort) (i' : Nat) : (m.setTx p v).plan i' = m.plan i' := rfl
@[simp] theorem Module.setTx_rxPort (m : Module) (p : Nat) (v : TxPort) (p' : Nat) : (m.setTx p v).rxPort p' = m.rxPort p' := rfl
@[simp] theorem Module.setTx_pool (m : Module) (p : Nat) (v : TxPort) (p' : Nat) : (m.setTx p v).pool p' = m.pool p' := rfl
@[simp] theorem Module.setTx_checker (m : Module) (p : Nat) (v : TxPort) (ch' : Nat) : (m.setTx p v).checker ch' = m.checker ch' := rfl

/-! ### setRxPort -/

@[simp] theorem Module.setRxPort_cores (m : Module) (p : Nat) (v : RxPort) : (m.setRxPort p v).cores = m.cores := rfl
@[simp] theorem Module.setRxPort_engines (m : Module) (p : Nat) (v : RxPort) : (m.setRxPort p v).engines = m.engines := rfl
@[simp] theorem Module.setRxPort_mem (m : Module) (p : Nat) (v : RxPort) : (m.setRxPort p v).mem = m.mem := rfl
@[simp] theorem Module.setRxPort_fab (m : Module) (p : Nat) (v : RxPort) : (m.setRxPort p v).fab = m.fab := rfl
@[simp] theorem Module.setRxPort_sched (m : Module) (p : Nat) (v : RxPort) : (m.setRxPort p v).sched = m.sched := rfl
@[simp] theorem Module.setRxPort_kv (m : Module) (p : Nat) (v : RxPort) : (m.setRxPort p v).kv = m.kv := rfl
@[simp] theorem Module.setRxPort_queues (m : Module) (p : Nat) (v : RxPort) : (m.setRxPort p v).queues = m.queues := rfl
@[simp] theorem Module.setRxPort_streams (m : Module) (p : Nat) (v : RxPort) : (m.setRxPort p v).streams = m.streams := rfl
@[simp] theorem Module.setRxPort_trl (m : Module) (p : Nat) (v : RxPort) : (m.setRxPort p v).trl = m.trl := rfl
@[simp] theorem Module.setRxPort_host (m : Module) (p : Nat) (v : RxPort) : (m.setRxPort p v).host = m.host := rfl
@[simp] theorem Module.setRxPort_time (m : Module) (p : Nat) (v : RxPort) : (m.setRxPort p v).time = m.time := rfl
@[simp] theorem Module.setRxPort_can (m : Module) (p : Nat) (v : RxPort) : (m.setRxPort p v).can = m.can := rfl
@[simp] theorem Module.setRxPort_links (m : Module) (p : Nat) (v : RxPort) : (m.setRxPort p v).links = m.links := rfl
@[simp] theorem Module.setRxPort_power (m : Module) (p : Nat) (v : RxPort) : (m.setRxPort p v).power = m.power := rfl
@[simp] theorem Module.setRxPort_health (m : Module) (p : Nat) (v : RxPort) : (m.setRxPort p v).health = m.health := rfl
@[simp] theorem Module.setRxPort_safety (m : Module) (p : Nat) (v : RxPort) : (m.setRxPort p v).safety = m.safety := rfl
@[simp] theorem Module.setRxPort_rcv (m : Module) (p : Nat) (v : RxPort) : (m.setRxPort p v).rcv = m.rcv := rfl
@[simp] theorem Module.setRxPort_boot (m : Module) (p : Nat) (v : RxPort) : (m.setRxPort p v).boot = m.boot := rfl
@[simp] theorem Module.setRxPort_hostMem (m : Module) (p : Nat) (v : RxPort) : (m.setRxPort p v).hostMem = m.hostMem := rfl
@[simp] theorem Module.setRxPort_wire (m : Module) (p : Nat) (v : RxPort) : (m.setRxPort p v).wire = m.wire := rfl
@[simp] theorem Module.setRxPort_freeCount (m : Module) (p : Nat) (v : RxPort) : (m.setRxPort p v).freeCount = m.freeCount := rfl
@[simp] theorem Module.setRxPort_core (m : Module) (p : Nat) (v : RxPort) (c' : Nat) : (m.setRxPort p v).core c' = m.core c' := rfl
@[simp] theorem Module.setRxPort_eng (m : Module) (p : Nat) (v : RxPort) (c' e' : Nat) : (m.setRxPort p v).eng c' e' = m.eng c' e' := rfl
@[simp] theorem Module.setRxPort_ctx (m : Module) (p : Nat) (v : RxPort) (k' : Nat) : (m.setRxPort p v).ctx k' = m.ctx k' := rfl
@[simp] theorem Module.setRxPort_client (m : Module) (p : Nat) (v : RxPort) (n' : Nat) : (m.setRxPort p v).client n' = m.client n' := rfl
@[simp] theorem Module.setRxPort_queue (m : Module) (p : Nat) (v : RxPort) (q' : Nat) : (m.setRxPort p v).queue q' = m.queue q' := rfl
@[simp] theorem Module.setRxPort_mbx (m : Module) (p : Nat) (v : RxPort) (n' : Nat) : (m.setRxPort p v).mbx n' = m.mbx n' := rfl
@[simp] theorem Module.setRxPort_window (m : Module) (p : Nat) (v : RxPort) (w' : Nat) : (m.setRxPort p v).window w' = m.window w' := rfl
@[simp] theorem Module.setRxPort_stream (m : Module) (p : Nat) (v : RxPort) (i' : Nat) : (m.setRxPort p v).stream i' = m.stream i' := rfl
@[simp] theorem Module.setRxPort_canCtl (m : Module) (p : Nat) (v : RxPort) (k' : Nat) : (m.setRxPort p v).canCtl k' = m.canCtl k' := rfl
@[simp] theorem Module.setRxPort_port (m : Module) (p : Nat) (v : RxPort) (p' : Nat) : (m.setRxPort p v).port p' = m.port p' := rfl
@[simp] theorem Module.setRxPort_loop (m : Module) (p : Nat) (v : RxPort) (i' : Nat) : (m.setRxPort p v).loop i' = m.loop i' := rfl
@[simp] theorem Module.setRxPort_runner (m : Module) (p : Nat) (v : RxPort) (r' : Nat) : (m.setRxPort p v).runner r' = m.runner r' := rfl
@[simp] theorem Module.setRxPort_credit (m : Module) (p : Nat) (v : RxPort) (r' k' : Nat) : (m.setRxPort p v).credit r' k' = m.credit r' k' := rfl
@[simp] theorem Module.setRxPort_ownCredit (m : Module) (p : Nat) (v : RxPort) (r' : Nat) : (m.setRxPort p v).ownCredit r' = m.ownCredit r' := rfl
@[simp] theorem Module.setRxPort_plan (m : Module) (p : Nat) (v : RxPort) (i' : Nat) : (m.setRxPort p v).plan i' = m.plan i' := rfl
@[simp] theorem Module.setRxPort_txPort (m : Module) (p : Nat) (v : RxPort) (p' : Nat) : (m.setRxPort p v).txPort p' = m.txPort p' := rfl
@[simp] theorem Module.setRxPort_pool (m : Module) (p : Nat) (v : RxPort) (p' : Nat) : (m.setRxPort p v).pool p' = m.pool p' := rfl
@[simp] theorem Module.setRxPort_checker (m : Module) (p : Nat) (v : RxPort) (ch' : Nat) : (m.setRxPort p v).checker ch' = m.checker ch' := rfl

/-! ### setPool -/

@[simp] theorem Module.setPool_cores (m : Module) (p : Nat) (v : Pool) : (m.setPool p v).cores = m.cores := rfl
@[simp] theorem Module.setPool_engines (m : Module) (p : Nat) (v : Pool) : (m.setPool p v).engines = m.engines := rfl
@[simp] theorem Module.setPool_mem (m : Module) (p : Nat) (v : Pool) : (m.setPool p v).mem = m.mem := rfl
@[simp] theorem Module.setPool_fab (m : Module) (p : Nat) (v : Pool) : (m.setPool p v).fab = m.fab := rfl
@[simp] theorem Module.setPool_sched (m : Module) (p : Nat) (v : Pool) : (m.setPool p v).sched = m.sched := rfl
@[simp] theorem Module.setPool_queues (m : Module) (p : Nat) (v : Pool) : (m.setPool p v).queues = m.queues := rfl
@[simp] theorem Module.setPool_rx (m : Module) (p : Nat) (v : Pool) : (m.setPool p v).rx = m.rx := rfl
@[simp] theorem Module.setPool_streams (m : Module) (p : Nat) (v : Pool) : (m.setPool p v).streams = m.streams := rfl
@[simp] theorem Module.setPool_trl (m : Module) (p : Nat) (v : Pool) : (m.setPool p v).trl = m.trl := rfl
@[simp] theorem Module.setPool_host (m : Module) (p : Nat) (v : Pool) : (m.setPool p v).host = m.host := rfl
@[simp] theorem Module.setPool_time (m : Module) (p : Nat) (v : Pool) : (m.setPool p v).time = m.time := rfl
@[simp] theorem Module.setPool_can (m : Module) (p : Nat) (v : Pool) : (m.setPool p v).can = m.can := rfl
@[simp] theorem Module.setPool_links (m : Module) (p : Nat) (v : Pool) : (m.setPool p v).links = m.links := rfl
@[simp] theorem Module.setPool_power (m : Module) (p : Nat) (v : Pool) : (m.setPool p v).power = m.power := rfl
@[simp] theorem Module.setPool_health (m : Module) (p : Nat) (v : Pool) : (m.setPool p v).health = m.health := rfl
@[simp] theorem Module.setPool_safety (m : Module) (p : Nat) (v : Pool) : (m.setPool p v).safety = m.safety := rfl
@[simp] theorem Module.setPool_rcv (m : Module) (p : Nat) (v : Pool) : (m.setPool p v).rcv = m.rcv := rfl
@[simp] theorem Module.setPool_boot (m : Module) (p : Nat) (v : Pool) : (m.setPool p v).boot = m.boot := rfl
@[simp] theorem Module.setPool_hostMem (m : Module) (p : Nat) (v : Pool) : (m.setPool p v).hostMem = m.hostMem := rfl
@[simp] theorem Module.setPool_wire (m : Module) (p : Nat) (v : Pool) : (m.setPool p v).wire = m.wire := rfl
@[simp] theorem Module.setPool_freeCount (m : Module) (p : Nat) (v : Pool) : (m.setPool p v).freeCount = m.freeCount := rfl
@[simp] theorem Module.setPool_kv_seqs (m : Module) (p : Nat) (v : Pool) : (m.setPool p v).kv.seqs = m.kv.seqs := rfl
@[simp] theorem Module.setPool_kv_waiting (m : Module) (p : Nat) (v : Pool) : (m.setPool p v).kv.waiting = m.kv.waiting := rfl
@[simp] theorem Module.setPool_kv_plan (m : Module) (p : Nat) (v : Pool) : (m.setPool p v).kv.plan = m.kv.plan := rfl
@[simp] theorem Module.setPool_kv_owed (m : Module) (p : Nat) (v : Pool) : (m.setPool p v).kv.owed = m.kv.owed := rfl
@[simp] theorem Module.setPool_core (m : Module) (p : Nat) (v : Pool) (c' : Nat) : (m.setPool p v).core c' = m.core c' := rfl
@[simp] theorem Module.setPool_eng (m : Module) (p : Nat) (v : Pool) (c' e' : Nat) : (m.setPool p v).eng c' e' = m.eng c' e' := rfl
@[simp] theorem Module.setPool_ctx (m : Module) (p : Nat) (v : Pool) (k' : Nat) : (m.setPool p v).ctx k' = m.ctx k' := rfl
@[simp] theorem Module.setPool_client (m : Module) (p : Nat) (v : Pool) (n' : Nat) : (m.setPool p v).client n' = m.client n' := rfl
@[simp] theorem Module.setPool_queue (m : Module) (p : Nat) (v : Pool) (q' : Nat) : (m.setPool p v).queue q' = m.queue q' := rfl
@[simp] theorem Module.setPool_mbx (m : Module) (p : Nat) (v : Pool) (n' : Nat) : (m.setPool p v).mbx n' = m.mbx n' := rfl
@[simp] theorem Module.setPool_window (m : Module) (p : Nat) (v : Pool) (w' : Nat) : (m.setPool p v).window w' = m.window w' := rfl
@[simp] theorem Module.setPool_stream (m : Module) (p : Nat) (v : Pool) (i' : Nat) : (m.setPool p v).stream i' = m.stream i' := rfl
@[simp] theorem Module.setPool_canCtl (m : Module) (p : Nat) (v : Pool) (k' : Nat) : (m.setPool p v).canCtl k' = m.canCtl k' := rfl
@[simp] theorem Module.setPool_port (m : Module) (p : Nat) (v : Pool) (p' : Nat) : (m.setPool p v).port p' = m.port p' := rfl
@[simp] theorem Module.setPool_loop (m : Module) (p : Nat) (v : Pool) (i' : Nat) : (m.setPool p v).loop i' = m.loop i' := rfl
@[simp] theorem Module.setPool_runner (m : Module) (p : Nat) (v : Pool) (r' : Nat) : (m.setPool p v).runner r' = m.runner r' := rfl
@[simp] theorem Module.setPool_credit (m : Module) (p : Nat) (v : Pool) (r' k' : Nat) : (m.setPool p v).credit r' k' = m.credit r' k' := rfl
@[simp] theorem Module.setPool_ownCredit (m : Module) (p : Nat) (v : Pool) (r' : Nat) : (m.setPool p v).ownCredit r' = m.ownCredit r' := rfl
@[simp] theorem Module.setPool_plan (m : Module) (p : Nat) (v : Pool) (i' : Nat) : (m.setPool p v).plan i' = m.plan i' := rfl
@[simp] theorem Module.setPool_txPort (m : Module) (p : Nat) (v : Pool) (p' : Nat) : (m.setPool p v).txPort p' = m.txPort p' := rfl
@[simp] theorem Module.setPool_rxPort (m : Module) (p : Nat) (v : Pool) (p' : Nat) : (m.setPool p v).rxPort p' = m.rxPort p' := rfl
@[simp] theorem Module.setPool_checker (m : Module) (p : Nat) (v : Pool) (ch' : Nat) : (m.setPool p v).checker ch' = m.checker ch' := rfl

/-! ### setChecker -/

@[simp] theorem Module.setChecker_cores (m : Module) (ch : Nat) (v : Checker) : (m.setChecker ch v).cores = m.cores := rfl
@[simp] theorem Module.setChecker_engines (m : Module) (ch : Nat) (v : Checker) : (m.setChecker ch v).engines = m.engines := rfl
@[simp] theorem Module.setChecker_mem (m : Module) (ch : Nat) (v : Checker) : (m.setChecker ch v).mem = m.mem := rfl
@[simp] theorem Module.setChecker_fab (m : Module) (ch : Nat) (v : Checker) : (m.setChecker ch v).fab = m.fab := rfl
@[simp] theorem Module.setChecker_sched (m : Module) (ch : Nat) (v : Checker) : (m.setChecker ch v).sched = m.sched := rfl
@[simp] theorem Module.setChecker_kv (m : Module) (ch : Nat) (v : Checker) : (m.setChecker ch v).kv = m.kv := rfl
@[simp] theorem Module.setChecker_queues (m : Module) (ch : Nat) (v : Checker) : (m.setChecker ch v).queues = m.queues := rfl
@[simp] theorem Module.setChecker_rx (m : Module) (ch : Nat) (v : Checker) : (m.setChecker ch v).rx = m.rx := rfl
@[simp] theorem Module.setChecker_streams (m : Module) (ch : Nat) (v : Checker) : (m.setChecker ch v).streams = m.streams := rfl
@[simp] theorem Module.setChecker_trl (m : Module) (ch : Nat) (v : Checker) : (m.setChecker ch v).trl = m.trl := rfl
@[simp] theorem Module.setChecker_host (m : Module) (ch : Nat) (v : Checker) : (m.setChecker ch v).host = m.host := rfl
@[simp] theorem Module.setChecker_time (m : Module) (ch : Nat) (v : Checker) : (m.setChecker ch v).time = m.time := rfl
@[simp] theorem Module.setChecker_can (m : Module) (ch : Nat) (v : Checker) : (m.setChecker ch v).can = m.can := rfl
@[simp] theorem Module.setChecker_links (m : Module) (ch : Nat) (v : Checker) : (m.setChecker ch v).links = m.links := rfl
@[simp] theorem Module.setChecker_power (m : Module) (ch : Nat) (v : Checker) : (m.setChecker ch v).power = m.power := rfl
@[simp] theorem Module.setChecker_health (m : Module) (ch : Nat) (v : Checker) : (m.setChecker ch v).health = m.health := rfl
@[simp] theorem Module.setChecker_rcv (m : Module) (ch : Nat) (v : Checker) : (m.setChecker ch v).rcv = m.rcv := rfl
@[simp] theorem Module.setChecker_boot (m : Module) (ch : Nat) (v : Checker) : (m.setChecker ch v).boot = m.boot := rfl
@[simp] theorem Module.setChecker_hostMem (m : Module) (ch : Nat) (v : Checker) : (m.setChecker ch v).hostMem = m.hostMem := rfl
@[simp] theorem Module.setChecker_wire (m : Module) (ch : Nat) (v : Checker) : (m.setChecker ch v).wire = m.wire := rfl
@[simp] theorem Module.setChecker_freeCount (m : Module) (ch : Nat) (v : Checker) : (m.setChecker ch v).freeCount = m.freeCount := rfl
@[simp] theorem Module.setChecker_safety_regions (m : Module) (ch : Nat) (v : Checker) : (m.setChecker ch v).safety.regions = m.safety.regions := rfl
@[simp] theorem Module.setChecker_safety_regionsB (m : Module) (ch : Nat) (v : Checker) : (m.setChecker ch v).safety.regionsB = m.safety.regionsB := rfl
@[simp] theorem Module.setChecker_safety_wdogs (m : Module) (ch : Nat) (v : Checker) : (m.setChecker ch v).safety.wdogs = m.safety.wdogs := rfl
@[simp] theorem Module.setChecker_safety_latched (m : Module) (ch : Nat) (v : Checker) : (m.setChecker ch v).safety.latched = m.safety.latched := rfl
@[simp] theorem Module.setChecker_safety_sticky (m : Module) (ch : Nat) (v : Checker) : (m.setChecker ch v).safety.sticky = m.safety.sticky := rfl
@[simp] theorem Module.setChecker_safety_lowVolt (m : Module) (ch : Nat) (v : Checker) : (m.setChecker ch v).safety.lowVolt = m.safety.lowVolt := rfl
@[simp] theorem Module.setChecker_safety_cmpDead (m : Module) (ch : Nat) (v : Checker) : (m.setChecker ch v).safety.cmpDead = m.safety.cmpDead := rfl
@[simp] theorem Module.setChecker_safety_asserted (m : Module) (ch : Nat) (v : Checker) : (m.setChecker ch v).safety.asserted = m.safety.asserted := rfl
@[simp] theorem Module.setChecker_safety_selfTest (m : Module) (ch : Nat) (v : Checker) : (m.setChecker ch v).safety.selfTest = m.safety.selfTest := rfl
@[simp] theorem Module.setChecker_safety_gtOn (m : Module) (ch : Nat) (v : Checker) : (m.setChecker ch v).safety.gtOn = m.safety.gtOn := rfl
@[simp] theorem Module.setChecker_safety_gtCores (m : Module) (ch : Nat) (v : Checker) : (m.setChecker ch v).safety.gtCores = m.safety.gtCores := rfl
@[simp] theorem Module.setChecker_safety_gtAction (m : Module) (ch : Nat) (v : Checker) : (m.setChecker ch v).safety.gtAction = m.safety.gtAction := rfl
@[simp] theorem Module.setChecker_safety_gtRun (m : Module) (ch : Nat) (v : Checker) : (m.setChecker ch v).safety.gtRun = m.safety.gtRun := rfl
@[simp] theorem Module.setChecker_safety_gtPeriod (m : Module) (ch : Nat) (v : Checker) : (m.setChecker ch v).safety.gtPeriod = m.safety.gtPeriod := rfl
@[simp] theorem Module.setChecker_safety_gtPhase (m : Module) (ch : Nat) (v : Checker) : (m.setChecker ch v).safety.gtPhase = m.safety.gtPhase := rfl
@[simp] theorem Module.setChecker_safety_gtNext (m : Module) (ch : Nat) (v : Checker) : (m.setChecker ch v).safety.gtNext = m.safety.gtNext := rfl
@[simp] theorem Module.setChecker_safety_gtLast (m : Module) (ch : Nat) (v : Checker) : (m.setChecker ch v).safety.gtLast = m.safety.gtLast := rfl
@[simp] theorem Module.setChecker_safety_gtPending (m : Module) (ch : Nat) (v : Checker) : (m.setChecker ch v).safety.gtPending = m.safety.gtPending := rfl
@[simp] theorem Module.setChecker_safety_gtLost (m : Module) (ch : Nat) (v : Checker) : (m.setChecker ch v).safety.gtLost = m.safety.gtLost := rfl
@[simp] theorem Module.setChecker_safety_gtJobs (m : Module) (ch : Nat) (v : Checker) : (m.setChecker ch v).safety.gtJobs = m.safety.gtJobs := rfl
@[simp] theorem Module.setChecker_safety_gtAt (m : Module) (ch : Nat) (v : Checker) : (m.setChecker ch v).safety.gtAt = m.safety.gtAt := rfl
@[simp] theorem Module.setChecker_safety_gtLate (m : Module) (ch : Nat) (v : Checker) : (m.setChecker ch v).safety.gtLate = m.safety.gtLate := rfl
@[simp] theorem Module.setChecker_safety_gtCount (m : Module) (ch : Nat) (v : Checker) : (m.setChecker ch v).safety.gtCount = m.safety.gtCount := rfl
@[simp] theorem Module.setChecker_safety_gtTrans (m : Module) (ch : Nat) (v : Checker) : (m.setChecker ch v).safety.gtTrans = m.safety.gtTrans := rfl
@[simp] theorem Module.setChecker_safety_ctr (m : Module) (ch : Nat) (v : Checker) : (m.setChecker ch v).safety.ctr = m.safety.ctr := rfl
@[simp] theorem Module.setChecker_core (m : Module) (ch : Nat) (v : Checker) (c' : Nat) : (m.setChecker ch v).core c' = m.core c' := rfl
@[simp] theorem Module.setChecker_eng (m : Module) (ch : Nat) (v : Checker) (c' e' : Nat) : (m.setChecker ch v).eng c' e' = m.eng c' e' := rfl
@[simp] theorem Module.setChecker_ctx (m : Module) (ch : Nat) (v : Checker) (k' : Nat) : (m.setChecker ch v).ctx k' = m.ctx k' := rfl
@[simp] theorem Module.setChecker_client (m : Module) (ch : Nat) (v : Checker) (n' : Nat) : (m.setChecker ch v).client n' = m.client n' := rfl
@[simp] theorem Module.setChecker_queue (m : Module) (ch : Nat) (v : Checker) (q' : Nat) : (m.setChecker ch v).queue q' = m.queue q' := rfl
@[simp] theorem Module.setChecker_mbx (m : Module) (ch : Nat) (v : Checker) (n' : Nat) : (m.setChecker ch v).mbx n' = m.mbx n' := rfl
@[simp] theorem Module.setChecker_window (m : Module) (ch : Nat) (v : Checker) (w' : Nat) : (m.setChecker ch v).window w' = m.window w' := rfl
@[simp] theorem Module.setChecker_stream (m : Module) (ch : Nat) (v : Checker) (i' : Nat) : (m.setChecker ch v).stream i' = m.stream i' := rfl
@[simp] theorem Module.setChecker_canCtl (m : Module) (ch : Nat) (v : Checker) (k' : Nat) : (m.setChecker ch v).canCtl k' = m.canCtl k' := rfl
@[simp] theorem Module.setChecker_port (m : Module) (ch : Nat) (v : Checker) (p' : Nat) : (m.setChecker ch v).port p' = m.port p' := rfl
@[simp] theorem Module.setChecker_loop (m : Module) (ch : Nat) (v : Checker) (i' : Nat) : (m.setChecker ch v).loop i' = m.loop i' := rfl
@[simp] theorem Module.setChecker_runner (m : Module) (ch : Nat) (v : Checker) (r' : Nat) : (m.setChecker ch v).runner r' = m.runner r' := rfl
@[simp] theorem Module.setChecker_credit (m : Module) (ch : Nat) (v : Checker) (r' k' : Nat) : (m.setChecker ch v).credit r' k' = m.credit r' k' := rfl
@[simp] theorem Module.setChecker_ownCredit (m : Module) (ch : Nat) (v : Checker) (r' : Nat) : (m.setChecker ch v).ownCredit r' = m.ownCredit r' := rfl
@[simp] theorem Module.setChecker_plan (m : Module) (ch : Nat) (v : Checker) (i' : Nat) : (m.setChecker ch v).plan i' = m.plan i' := rfl
@[simp] theorem Module.setChecker_txPort (m : Module) (ch : Nat) (v : Checker) (p' : Nat) : (m.setChecker ch v).txPort p' = m.txPort p' := rfl
@[simp] theorem Module.setChecker_rxPort (m : Module) (ch : Nat) (v : Checker) (p' : Nat) : (m.setChecker ch v).rxPort p' = m.rxPort p' := rfl
@[simp] theorem Module.setChecker_pool (m : Module) (ch : Nat) (v : Checker) (p' : Nat) : (m.setChecker ch v).pool p' = m.pool p' := rfl

end Sys2Proof.Machine
end

