-- ==== Sys2Proof/Laws/Tab.lean ====
section
/-!
SUPPORT. The laws of sparse tables: a read after a write, and that every table operation keeps the canonical form.
-/

namespace Sys2Proof

variable {α : Type}

theorem Tab.get_drop_self (d : α) (t : Tab α) (k : Nat) : Tab.get d (Tab.drop t k) k = d := by
  induction t with
  | nil => rfl
  | cons p t ih =>
    unfold Tab.drop at *
    by_cases h : p.1 = k <;> simp [h, Tab.get, ih]

theorem Tab.get_drop_ne (d : α) (t : Tab α) {k j : Nat} (h : j ≠ k) : Tab.get d (Tab.drop t k) j = Tab.get d t j := by
  induction t with
  | nil => rfl
  | cons p t ih =>
    unfold Tab.drop at *
    by_cases hp : p.1 = k
    · have : p.1 ≠ j := fun e => h (e.symm.trans hp)
      simp [hp, Tab.get, ih, Ne.symm h]
    · by_cases hj : p.1 = j <;> simp [hp, Tab.get, ih, hj, h]

/-- Inserting at a number that is not listed: that number reads as what was put. -/
theorem Tab.get_ins_self (d : α) (t : Tab α) (k : Nat) (v : α) (h : ∀ p ∈ t, p.1 ≠ k) :
    Tab.get d (Tab.ins t k v) k = v := by
  induction t with
  | nil => simp [Tab.ins, Tab.get]
  | cons p t ih =>
    have hp : p.1 ≠ k := h p (by simp)
    unfold Tab.ins
    split
    · simp [Tab.get]
    · simpa [Tab.get, hp] using ih (fun q hq => h q (by simp [hq]))

theorem Tab.get_ins_ne (d : α) (t : Tab α) {k j : Nat} (v : α) (h : j ≠ k) :
    Tab.get d (Tab.ins t k v) j = Tab.get d t j := by
  induction t with
  | nil => simp [Tab.ins, Tab.get, Ne.symm h]
  | cons p t ih =>
    unfold Tab.ins
    split
    · simp [Tab.get, Ne.symm h]
    · simp [Tab.get, ih]

theorem Tab.drop_ne (t : Tab α) (k : Nat) : ∀ p ∈ Tab.drop t k, p.1 ≠ k := by
  intro p hp; simpa [Tab.drop] using (List.mem_filter.mp hp).2

variable [DecidableEq α]

/-- A read of the number written gives the value written. -/
@[simp] theorem Tab.get_put_self (d : α) (t : Tab α) (k : Nat) (v : α) : Tab.get d (Tab.put d t k v) k = v := by
  unfold Tab.put
  split
  · next h => rw [h]; exact Tab.get_drop_self d t k
  · exact Tab.get_ins_self d _ k v (Tab.drop_ne t k)

/-- A write leaves every other number alone. -/
theorem Tab.get_put_ne (d : α) (t : Tab α) {k j : Nat} (v : α) (h : j ≠ k) : Tab.get d (Tab.put d t k v) j = Tab.get d t j := by
  unfold Tab.put
  split
  · exact Tab.get_drop_ne d t h
  · rw [Tab.get_ins_ne d _ v h, Tab.get_drop_ne d t h]

/-- A read after a write, whichever number is read. -/
theorem Tab.get_put (d : α) (t : Tab α) (k j : Nat) (v : α) : Tab.get d (Tab.put d t k v) j = if j = k then v else Tab.get d t j := by
  split
  · next h => rw [h, Tab.get_put_self]
  · next h => exact Tab.get_put_ne d t v h

/-- Of two writes to one number the later stands. -/
@[simp] theorem Tab.put_put (d : α) (t : Tab α) (k : Nat) (v w : α) : Tab.put d (Tab.put d t k v) k w = Tab.put d t k w := by
  have h : Tab.drop (Tab.put d t k v) k = Tab.drop t k := by
    have hd : Tab.drop (Tab.drop t k) k = Tab.drop t k := by simp [Tab.drop, List.filter_filter]
    have hi : ∀ u : Tab α, (∀ p ∈ u, p.1 ≠ k) → Tab.drop (Tab.ins u k v) k = u := by
      intro u
      induction u with
      | nil => intro; simp [Tab.ins, Tab.drop]
      | cons p u ih =>
        obtain ⟨j, x⟩ := p
        intro hu
        have hj : j ≠ k := hu _ (List.mem_cons_self ..)
        have hr : ∀ p ∈ u, p.1 ≠ k := fun p hp => hu p (List.mem_cons_of_mem _ hp)
        have hf : List.filter (fun p => p.1 != k) u = u := List.filter_eq_self.2 (fun p hp => by simpa using hr p hp)
        unfold Tab.ins
        split
        · simp [Tab.drop, hj, hf]
        · simpa [Tab.drop, hj] using ih hr
    unfold Tab.put
    split
    · exact hd
    · exact hi _ (Tab.drop_ne t k)
  unfold Tab.put at h ⊢
  simp only [h]

/-- A read after a row was written. -/
theorem Tab.get_putRow (d : α) (t : Tab α) (k j : Nat) (vs : List α) :
    Tab.get d (Tab.putRow d t k vs) j = if k ≤ j ∧ j < k + vs.length then vs.getD (j - k) d else Tab.get d t j := by
  induction vs generalizing t k with
  | nil => simp [Tab.putRow]
  | cons v vs ih =>
    rw [Tab.putRow, ih, Tab.get_put]
    by_cases h1 : k + 1 ≤ j ∧ j < k + 1 + vs.length
    · have h2 : k ≤ j ∧ j < k + (v :: vs).length := by simp; omega
      have h3 : j - k = (j - (k + 1)) + 1 := by omega
      rw [if_pos h1, if_pos h2, h3]; simp
    · rw [if_neg h1]
      by_cases h4 : j = k
      · subst h4; simp
      · have h2 : ¬ (k ≤ j ∧ j < k + (v :: vs).length) := by simp; omega
        rw [if_neg h4, if_neg h2]

omit [DecidableEq α] in
@[simp] theorem Tab.row_length (d : α) (t : Tab α) (k n : Nat) : (Tab.row d t k n).length = n := by simp [Tab.row]

/-! ### The canonical form -/

/-- The canonical form said of all entries. -/
theorem Tab.wf_iff (d : α) (t : Tab α) :
    Tab.wf d t = true ↔ (t.map Prod.fst).Pairwise (· < ·) ∧ ∀ p ∈ t, p.2 ≠ d := by
  induction t with
  | nil => simp [Tab.wf]
  | cons p t ih =>
    cases t with
    | nil => simp [Tab.wf]
    | cons q t =>
      simp only [Tab.wf, Bool.and_eq_true, decide_eq_true_eq, bne_iff_ne, ih, List.map_cons, List.pairwise_cons]
      constructor
      · rintro ⟨⟨h1, h2⟩, ⟨h3, h4⟩, h5⟩
        refine ⟨⟨?_, h3, h4⟩, ?_⟩
        · intro a ha
          rcases List.mem_cons.mp ha with rfl | ha
          · exact h2
          · exact lt_trans h2 (h3 a ha)
        · intro r hr
          rcases List.mem_cons.mp hr with rfl | hr
          · exact h1
          · exact h5 r hr
      · rintro ⟨⟨h1, h3, h4⟩, h5⟩
        exact ⟨⟨h5 p (by simp), h1 q.1 (by simp)⟩, ⟨h3, h4⟩, fun r hr => h5 r (by simp [List.mem_cons.mp hr])⟩

/-- What passes a filter keeps the canonical form. -/
theorem Tab.wf_filter (d : α) (t : Tab α) (f : Nat × α → Bool) (h : Tab.wf d t = true) : Tab.wf d (t.filter f) = true := by
  rw [Tab.wf_iff] at *
  exact ⟨(h.1.sublist (List.filter_sublist.map _)), fun p hp => h.2 p (List.mem_filter.mp hp).1⟩

omit [DecidableEq α] in
theorem Tab.mem_ins {t : Tab α} {k : Nat} {v : α} {p : Nat × α} (h : p ∈ Tab.ins t k v) : p = (k, v) ∨ p ∈ t := by
  induction t with
  | nil => simpa [Tab.ins] using h
  | cons q t ih =>
    unfold Tab.ins at h
    split at h
    · simpa using h
    · rcases List.mem_cons.mp h with rfl | h
      · simp
      · rcases ih h with h | h <;> simp [h]

theorem Tab.wf_ins (d : α) (t : Tab α) (k : Nat) (v : α) (hv : v ≠ d) (hk : ∀ p ∈ t, p.1 ≠ k) (h : Tab.wf d t = true) :
    Tab.wf d (Tab.ins t k v) = true := by
  rw [Tab.wf_iff] at *
  refine ⟨?_, fun p hp => (Tab.mem_ins hp).elim (fun e => e ▸ hv) (h.2 p)⟩
  obtain ⟨h1, -⟩ := h
  induction t with
  | nil => simp [Tab.ins]
  | cons q t ih =>
    have hq : q.1 ≠ k := hk q (by simp)
    simp only [List.map_cons, List.pairwise_cons] at h1
    unfold Tab.ins
    split
    · next hlt =>
      simp only [List.map_cons, List.pairwise_cons, List.mem_cons]
      exact ⟨fun a ha => ha.elim (fun e => e ▸ hlt) (fun ha => lt_trans hlt (h1.1 a ha)), h1.1, h1.2⟩
    · next hlt =>
      simp only [List.map_cons, List.pairwise_cons]
      refine ⟨?_, ih (fun p hp => hk p (by simp [hp])) h1.2⟩
      intro a ha
      obtain ⟨p, hp, rfl⟩ := List.mem_map.mp ha
      rcases Tab.mem_ins hp with rfl | hp
      · simp only at *; omega
      · exact h1.1 p.1 (List.mem_map_of_mem hp)

/-- A write keeps the canonical form. -/
theorem Tab.wf_put (d : α) (t : Tab α) (k : Nat) (v : α) (h : Tab.wf d t = true) : Tab.wf d (Tab.put d t k v) = true := by
  unfold Tab.put
  split
  · exact Tab.wf_filter d t _ h
  · next hv => exact Tab.wf_ins d _ k v hv (Tab.drop_ne t k) (Tab.wf_filter d t _ h)

/-- A row of writes keeps the canonical form. -/
theorem Tab.wf_putRow (d : α) (t : Tab α) (k : Nat) (vs : List α) (h : Tab.wf d t = true) :
    Tab.wf d (Tab.putRow d t k vs) = true := by
  induction vs generalizing t k with
  | nil => exact h
  | cons v vs ih => exact ih _ _ (Tab.wf_put d t k v h)

end Sys2Proof
end

