-- ==== Sys2Proof/Laws/Ops.lean ====
section
/-!
SUPPORT. What the shared operations can do, said once: the queue is kept by every meaning, interrupts and events change only the
host's side, a command's checks come before its effect, a deferred command is accepted and completes.
-/

namespace Sys2Proof.Machine

/-! ### The queue -/

/-- A meaning answers a next state with the queue it was given. -/
theorem State.act_next {s t : State} {f : Module → Module} (h : s.act f = .next t) : t.pending = s.pending ∧ t.mod = f s.mod := by
  unfold State.act at h; cases h; exact ⟨rfl, rfl⟩

/-- Outside READY, Gragor does nothing of itself. -/
theorem State.gragor_idle {s : State} {f : Module → Module} (h : s.mod.host.gState ≠ 3) : s.gragor f = .next s := by
  simp [State.gragor, State.act, h]

theorem State.gragor_ready {s : State} {f : Module → Module} (h : s.mod.host.gState = 3) :
    s.gragor f = .next { s with mod := f s.mod } := by
  simp [State.gragor, State.act, h]

/-! ### Interrupts and events -/

/-- A signalled source changes the pending interrupts and what leaves the module, and nothing else. -/
theorem signalSource_eq (n : Nat) (m : Module) : signalSource n m = { m with
    host := { m.host with
              msixPba := (signalSource n m).host.msixPba, ibiPend := (signalSource n m).host.ibiPend
              ibiRaised := (signalSource n m).host.ibiRaised }
    wire := (signalSource n m).wire } := by
  unfold signalSource ibiSignal msixSignal raiseIbi emit
  split <;> split <;> (try split) <;> (try split) <;> (try split) <;> rfl

/-- What has left the module stays on the wire. -/
theorem signalSource_wire_suffix (n : Nat) (m : Module) : ∃ pre, (signalSource n m).wire = pre ++ m.wire := by
  unfold signalSource ibiSignal msixSignal raiseIbi emit
  split <;> split <;> (try split) <;> (try split) <;> (try split) <;>
    first | exact ⟨[], rfl⟩ | exact ⟨[_], rfl⟩ | exact ⟨[_, _], rfl⟩

/-- An offered record changes the ring, the backlog and its counts, the pending interrupts, and what completions are owed. -/
theorem offer_eq (r : EventRec) (m : Module) : offer r m = { m with
    host := { m.host with
              msixPba := (offer r m).host.msixPba, ibiPend := (offer r m).host.ibiPend, ibiRaised := (offer r m).host.ibiRaised
              ring := (offer r m).host.ring, evtHead := (offer r m).host.evtHead, evtLost := (offer r m).host.evtLost
              lostSince := (offer r m).host.lostSince, backlog := (offer r m).host.backlog, held := (offer r m).host.held }
    kv := { m.kv with owed := (offer r m).kv.owed }
    wire := (offer r m).wire } := by
  unfold offer
  split
  · rfl
  · split
    · unfold ringPost; rw [signalSource_eq]
    · split
      · rfl
      · split <;> rfl

theorem event_eq (code result : Nat) (fs : List (Nat × Nat × Nat)) (m : Module) : event code result fs m = { m with
    host := { m.host with
              msixPba := (event code result fs m).host.msixPba, ibiPend := (event code result fs m).host.ibiPend
              ibiRaised := (event code result fs m).host.ibiRaised, ring := (event code result fs m).host.ring
              evtHead := (event code result fs m).host.evtHead, evtLost := (event code result fs m).host.evtLost
              lostSince := (event code result fs m).host.lostSince, backlog := (event code result fs m).host.backlog
              held := (event code result fs m).host.held }
    kv := { m.kv with owed := (event code result fs m).kv.owed }
    wire := (event code result fs m).wire } := offer_eq _ m

/-- A response changes its mailbox, the pending interrupts and what leaves the module. -/
theorem respond_eq (n rc : Nat) (data : List Byte) (m : Module) : respond n rc data m = { m with
    host := { m.host with
              mbx := (respond n rc data m).host.mbx, msixPba := (respond n rc data m).host.msixPba
              ibiPend := (respond n rc data m).host.ibiPend, ibiRaised := (respond n rc data m).host.ibiRaised }
    wire := (respond n rc data m).wire } := by
  unfold respond
  dsimp only
  rw [signalSource_eq]
  rfl

/-! ### Frames -/

@[simp] theorem signalSource_cores (n : Nat) (m : Module) : (signalSource n m).cores = m.cores := by
  rw [signalSource_eq]
@[simp] theorem signalSource_engines (n : Nat) (m : Module) : (signalSource n m).engines = m.engines := by
  rw [signalSource_eq]
@[simp] theorem signalSource_mem (n : Nat) (m : Module) : (signalSource n m).mem = m.mem := by
  rw [signalSource_eq]
@[simp] theorem signalSource_fab (n : Nat) (m : Module) : (signalSource n m).fab = m.fab := by
  rw [signalSource_eq]
@[simp] theorem signalSource_sched (n : Nat) (m : Module) : (signalSource n m).sched = m.sched := by
  rw [signalSource_eq]
@[simp] theorem signalSource_kv (n : Nat) (m : Module) : (signalSource n m).kv = m.kv := by
  rw [signalSource_eq]
@[simp] theorem signalSource_queues (n : Nat) (m : Module) : (signalSource n m).queues = m.queues := by
  rw [signalSource_eq]
@[simp] theorem signalSource_rx (n : Nat) (m : Module) : (signalSource n m).rx = m.rx := by
  rw [signalSource_eq]
@[simp] theorem signalSource_streams (n : Nat) (m : Module) : (signalSource n m).streams = m.streams := by
  rw [signalSource_eq]
@[simp] theorem signalSource_trl (n : Nat) (m : Module) : (signalSource n m).trl = m.trl := by
  rw [signalSource_eq]
@[simp] theorem signalSource_time (n : Nat) (m : Module) : (signalSource n m).time = m.time := by
  rw [signalSource_eq]
@[simp] theorem signalSource_can (n : Nat) (m : Module) : (signalSource n m).can = m.can := by
  rw [signalSource_eq]
@[simp] theorem signalSource_links (n : Nat) (m : Module) : (signalSource n m).links = m.links := by
  rw [signalSource_eq]
@[simp] theorem signalSource_power (n : Nat) (m : Module) : (signalSource n m).power = m.power := by
  rw [signalSource_eq]
@[simp] theorem signalSource_health (n : Nat) (m : Module) : (signalSource n m).health = m.health := by
  rw [signalSource_eq]
@[simp] theorem signalSource_safety (n : Nat) (m : Module) : (signalSource n m).safety = m.safety := by
  rw [signalSource_eq]
@[simp] theorem signalSource_rcv (n : Nat) (m : Module) : (signalSource n m).rcv = m.rcv := by
  rw [signalSource_eq]
@[simp] theorem signalSource_boot (n : Nat) (m : Module) : (signalSource n m).boot = m.boot := by
  rw [signalSource_eq]
@[simp] theorem signalSource_hostMem (n : Nat) (m : Module) : (signalSource n m).hostMem = m.hostMem := by
  rw [signalSource_eq]
@[simp] theorem signalSource_freeCount (n : Nat) (m : Module) : (signalSource n m).freeCount = m.freeCount := by
  rw [signalSource_eq]
@[simp] theorem signalSource_host_mbx (n : Nat) (m : Module) : (signalSource n m).host.mbx = m.host.mbx := by
  rw [signalSource_eq]
@[simp] theorem signalSource_host_lastServed (n : Nat) (m : Module) : (signalSource n m).host.lastServed = m.host.lastServed := by
  rw [signalSource_eq]
@[simp] theorem signalSource_host_deferred (n : Nat) (m : Module) : (signalSource n m).host.deferred = m.host.deferred := by
  rw [signalSource_eq]
@[simp] theorem signalSource_host_evtHead (n : Nat) (m : Module) : (signalSource n m).host.evtHead = m.host.evtHead := by
  rw [signalSource_eq]
@[simp] theorem signalSource_host_evtTail (n : Nat) (m : Module) : (signalSource n m).host.evtTail = m.host.evtTail := by
  rw [signalSource_eq]
@[simp] theorem signalSource_host_evtLost (n : Nat) (m : Module) : (signalSource n m).host.evtLost = m.host.evtLost := by
  rw [signalSource_eq]
@[simp] theorem signalSource_host_lostSince (n : Nat) (m : Module) : (signalSource n m).host.lostSince = m.host.lostSince := by
  rw [signalSource_eq]
@[simp] theorem signalSource_host_backlog (n : Nat) (m : Module) : (signalSource n m).host.backlog = m.host.backlog := by
  rw [signalSource_eq]
@[simp] theorem signalSource_host_held (n : Nat) (m : Module) : (signalSource n m).host.held = m.host.held := by
  rw [signalSource_eq]
@[simp] theorem signalSource_host_ring (n : Nat) (m : Module) : (signalSource n m).host.ring = m.host.ring := by
  rw [signalSource_eq]
@[simp] theorem signalSource_host_part (n : Nat) (m : Module) : (signalSource n m).host.part = m.host.part := by
  rw [signalSource_eq]
@[simp] theorem signalSource_host_grade (n : Nat) (m : Module) : (signalSource n m).host.grade = m.host.grade := by
  rw [signalSource_eq]
@[simp] theorem signalSource_host_stepping (n : Nat) (m : Module) : (signalSource n m).host.stepping = m.host.stepping := by
  rw [signalSource_eq]
@[simp] theorem signalSource_host_coreEnable (n : Nat) (m : Module) : (signalSource n m).host.coreEnable = m.host.coreEnable := by
  rw [signalSource_eq]
@[simp] theorem signalSource_host_serialNo (n : Nat) (m : Module) : (signalSource n m).host.serialNo = m.host.serialNo := by
  rw [signalSource_eq]
@[simp] theorem signalSource_host_fwVersion (n : Nat) (m : Module) : (signalSource n m).host.fwVersion = m.host.fwVersion := by
  rw [signalSource_eq]
@[simp] theorem signalSource_host_ifVersion (n : Nat) (m : Module) : (signalSource n m).host.ifVersion = m.host.ifVersion := by
  rw [signalSource_eq]
@[simp] theorem signalSource_host_gState (n : Nat) (m : Module) : (signalSource n m).host.gState = m.host.gState := by
  rw [signalSource_eq]
@[simp] theorem signalSource_host_restarts (n : Nat) (m : Module) : (signalSource n m).host.restarts = m.host.restarts := by
  rw [signalSource_eq]
@[simp] theorem signalSource_host_heartbeat (n : Nat) (m : Module) : (signalSource n m).host.heartbeat = m.host.heartbeat := by
  rw [signalSource_eq]
@[simp] theorem signalSource_host_lastMs (n : Nat) (m : Module) : (signalSource n m).host.lastMs = m.host.lastMs := by
  rw [signalSource_eq]
@[simp] theorem signalSource_host_moduleId (n : Nat) (m : Module) : (signalSource n m).host.moduleId = m.host.moduleId := by
  rw [signalSource_eq]
@[simp] theorem signalSource_host_bootSrc (n : Nat) (m : Module) : (signalSource n m).host.bootSrc = m.host.bootSrc := by
  rw [signalSource_eq]
@[simp] theorem signalSource_host_profileStrap (n : Nat) (m : Module) : (signalSource n m).host.profileStrap = m.host.profileStrap := by
  rw [signalSource_eq]
@[simp] theorem signalSource_host_mbxPath (n : Nat) (m : Module) : (signalSource n m).host.mbxPath = m.host.mbxPath := by
  rw [signalSource_eq]
@[simp] theorem signalSource_host_mbxLock (n : Nat) (m : Module) : (signalSource n m).host.mbxLock = m.host.mbxLock := by
  rw [signalSource_eq]
@[simp] theorem signalSource_host_msixOn (n : Nat) (m : Module) : (signalSource n m).host.msixOn = m.host.msixOn := by
  rw [signalSource_eq]
@[simp] theorem signalSource_host_msixMask (n : Nat) (m : Module) : (signalSource n m).host.msixMask = m.host.msixMask := by
  rw [signalSource_eq]
@[simp] theorem signalSource_host_msixTab (n : Nat) (m : Module) : (signalSource n m).host.msixTab = m.host.msixTab := by
  rw [signalSource_eq]
@[simp] theorem signalSource_host_ibiOn (n : Nat) (m : Module) : (signalSource n m).host.ibiOn = m.host.ibiOn := by
  rw [signalSource_eq]
@[simp] theorem signalSource_host_i3cOff (n : Nat) (m : Module) : (signalSource n m).host.i3cOff = m.host.i3cOff := by
  rw [signalSource_eq]
@[simp] theorem signalSource_host_i3cAddr (n : Nat) (m : Module) : (signalSource n m).host.i3cAddr = m.host.i3cAddr := by
  rw [signalSource_eq]
@[simp] theorem signalSource_host_readyReason (n : Nat) (m : Module) : (signalSource n m).host.readyReason = m.host.readyReason := by
  rw [signalSource_eq]
@[simp] theorem signalSource_host_ended (n : Nat) (m : Module) : (signalSource n m).host.ended = m.host.ended := by
  rw [signalSource_eq]
@[simp] theorem signalSource_core (n : Nat) (m : Module) (c' : Nat) : (signalSource n m).core c' = m.core c' := by
  rw [signalSource_eq]; rfl
@[simp] theorem signalSource_eng (n : Nat) (m : Module) (c' e' : Nat) : (signalSource n m).eng c' e' = m.eng c' e' := by
  rw [signalSource_eq]; rfl
@[simp] theorem signalSource_ctx (n : Nat) (m : Module) (k' : Nat) : (signalSource n m).ctx k' = m.ctx k' := by
  rw [signalSource_eq]; rfl
@[simp] theorem signalSource_client (n : Nat) (m : Module) (n' : Nat) : (signalSource n m).client n' = m.client n' := by
  rw [signalSource_eq]; rfl
@[simp] theorem signalSource_queue (n : Nat) (m : Module) (q' : Nat) : (signalSource n m).queue q' = m.queue q' := by
  rw [signalSource_eq]; rfl
@[simp] theorem signalSource_window (n : Nat) (m : Module) (w' : Nat) : (signalSource n m).window w' = m.window w' := by
  rw [signalSource_eq]; rfl
@[simp] theorem signalSource_stream (n : Nat) (m : Module) (i' : Nat) : (signalSource n m).stream i' = m.stream i' := by
  rw [signalSource_eq]; rfl
@[simp] theorem signalSource_canCtl (n : Nat) (m : Module) (k' : Nat) : (signalSource n m).canCtl k' = m.canCtl k' := by
  rw [signalSource_eq]; rfl
@[simp] theorem signalSource_port (n : Nat) (m : Module) (p' : Nat) : (signalSource n m).port p' = m.port p' := by
  rw [signalSource_eq]; rfl
@[simp] theorem signalSource_loop (n : Nat) (m : Module) (i' : Nat) : (signalSource n m).loop i' = m.loop i' := by
  rw [signalSource_eq]; rfl
@[simp] theorem signalSource_runner (n : Nat) (m : Module) (r' : Nat) : (signalSource n m).runner r' = m.runner r' := by
  rw [signalSource_eq]; rfl
@[simp] theorem offer_cores (r : EventRec) (m : Module) : (offer r m).cores = m.cores := by
  rw [offer_eq]
@[simp] theorem offer_engines (r : EventRec) (m : Module) : (offer r m).engines = m.engines := by
  rw [offer_eq]
@[simp] theorem offer_mem (r : EventRec) (m : Module) : (offer r m).mem = m.mem := by
  rw [offer_eq]
@[simp] theorem offer_fab (r : EventRec) (m : Module) : (offer r m).fab = m.fab := by
  rw [offer_eq]
@[simp] theorem offer_sched (r : EventRec) (m : Module) : (offer r m).sched = m.sched := by
  rw [offer_eq]
@[simp] theorem offer_kv_pools (r : EventRec) (m : Module) : (offer r m).kv.pools = m.kv.pools := by
  rw [offer_eq]
@[simp] theorem offer_kv_seqs (r : EventRec) (m : Module) : (offer r m).kv.seqs = m.kv.seqs := by
  rw [offer_eq]
@[simp] theorem offer_kv_waiting (r : EventRec) (m : Module) : (offer r m).kv.waiting = m.kv.waiting := by
  rw [offer_eq]
@[simp] theorem offer_kv_plan (r : EventRec) (m : Module) : (offer r m).kv.plan = m.kv.plan := by
  rw [offer_eq]
@[simp] theorem offer_queues (r : EventRec) (m : Module) : (offer r m).queues = m.queues := by
  rw [offer_eq]
@[simp] theorem offer_rx (r : EventRec) (m : Module) : (offer r m).rx = m.rx := by
  rw [offer_eq]
@[simp] theorem offer_streams (r : EventRec) (m : Module) : (offer r m).streams = m.streams := by
  rw [offer_eq]
@[simp] theorem offer_trl (r : EventRec) (m : Module) : (offer r m).trl = m.trl := by
  rw [offer_eq]
@[simp] theorem offer_time (r : EventRec) (m : Module) : (offer r m).time = m.time := by
  rw [offer_eq]
@[simp] theorem offer_can (r : EventRec) (m : Module) : (offer r m).can = m.can := by
  rw [offer_eq]
@[simp] theorem offer_links (r : EventRec) (m : Module) : (offer r m).links = m.links := by
  rw [offer_eq]
@[simp] theorem offer_power (r : EventRec) (m : Module) : (offer r m).power = m.power := by
  rw [offer_eq]
@[simp] theorem offer_health (r : EventRec) (m : Module) : (offer r m).health = m.health := by
  rw [offer_eq]
@[simp] theorem offer_safety (r : EventRec) (m : Module) : (offer r m).safety = m.safety := by
  rw [offer_eq]
@[simp] theorem offer_rcv (r : EventRec) (m : Module) : (offer r m).rcv = m.rcv := by
  rw [offer_eq]
@[simp] theorem offer_boot (r : EventRec) (m : Module) : (offer r m).boot = m.boot := by
  rw [offer_eq]
@[simp] theorem offer_hostMem (r : EventRec) (m : Module) : (offer r m).hostMem = m.hostMem := by
  rw [offer_eq]
@[simp] theorem offer_freeCount (r : EventRec) (m : Module) : (offer r m).freeCount = m.freeCount := by
  rw [offer_eq]
@[simp] theorem offer_host_mbx (r : EventRec) (m : Module) : (offer r m).host.mbx = m.host.mbx := by
  rw [offer_eq]
@[simp] theorem offer_host_lastServed (r : EventRec) (m : Module) : (offer r m).host.lastServed = m.host.lastServed := by
  rw [offer_eq]
@[simp] theorem offer_host_deferred (r : EventRec) (m : Module) : (offer r m).host.deferred = m.host.deferred := by
  rw [offer_eq]
@[simp] theorem offer_host_evtTail (r : EventRec) (m : Module) : (offer r m).host.evtTail = m.host.evtTail := by
  rw [offer_eq]
@[simp] theorem offer_host_part (r : EventRec) (m : Module) : (offer r m).host.part = m.host.part := by
  rw [offer_eq]
@[simp] theorem offer_host_grade (r : EventRec) (m : Module) : (offer r m).host.grade = m.host.grade := by
  rw [offer_eq]
@[simp] theorem offer_host_stepping (r : EventRec) (m : Module) : (offer r m).host.stepping = m.host.stepping := by
  rw [offer_eq]
@[simp] theorem offer_host_coreEnable (r : EventRec) (m : Module) : (offer r m).host.coreEnable = m.host.coreEnable := by
  rw [offer_eq]
@[simp] theorem offer_host_serialNo (r : EventRec) (m : Module) : (offer r m).host.serialNo = m.host.serialNo := by
  rw [offer_eq]
@[simp] theorem offer_host_fwVersion (r : EventRec) (m : Module) : (offer r m).host.fwVersion = m.host.fwVersion := by
  rw [offer_eq]
@[simp] theorem offer_host_ifVersion (r : EventRec) (m : Module) : (offer r m).host.ifVersion = m.host.ifVersion := by
  rw [offer_eq]
@[simp] theorem offer_host_gState (r : EventRec) (m : Module) : (offer r m).host.gState = m.host.gState := by
  rw [offer_eq]
@[simp] theorem offer_host_restarts (r : EventRec) (m : Module) : (offer r m).host.restarts = m.host.restarts := by
  rw [offer_eq]
@[simp] theorem offer_host_heartbeat (r : EventRec) (m : Module) : (offer r m).host.heartbeat = m.host.heartbeat := by
  rw [offer_eq]
@[simp] theorem offer_host_lastMs (r : EventRec) (m : Module) : (offer r m).host.lastMs = m.host.lastMs := by
  rw [offer_eq]
@[simp] theorem offer_host_moduleId (r : EventRec) (m : Module) : (offer r m).host.moduleId = m.host.moduleId := by
  rw [offer_eq]
@[simp] theorem offer_host_bootSrc (r : EventRec) (m : Module) : (offer r m).host.bootSrc = m.host.bootSrc := by
  rw [offer_eq]
@[simp] theorem offer_host_profileStrap (r : EventRec) (m : Module) : (offer r m).host.profileStrap = m.host.profileStrap := by
  rw [offer_eq]
@[simp] theorem offer_host_mbxPath (r : EventRec) (m : Module) : (offer r m).host.mbxPath = m.host.mbxPath := by
  rw [offer_eq]
@[simp] theorem offer_host_mbxLock (r : EventRec) (m : Module) : (offer r m).host.mbxLock = m.host.mbxLock := by
  rw [offer_eq]
@[simp] theorem offer_host_msixOn (r : EventRec) (m : Module) : (offer r m).host.msixOn = m.host.msixOn := by
  rw [offer_eq]
@[simp] theorem offer_host_msixMask (r : EventRec) (m : Module) : (offer r m).host.msixMask = m.host.msixMask := by
  rw [offer_eq]
@[simp] theorem offer_host_msixTab (r : EventRec) (m : Module) : (offer r m).host.msixTab = m.host.msixTab := by
  rw [offer_eq]
@[simp] theorem offer_host_ibiOn (r : EventRec) (m : Module) : (offer r m).host.ibiOn = m.host.ibiOn := by
  rw [offer_eq]
@[simp] theorem offer_host_i3cOff (r : EventRec) (m : Module) : (offer r m).host.i3cOff = m.host.i3cOff := by
  rw [offer_eq]
@[simp] theorem offer_host_i3cAddr (r : EventRec) (m : Module) : (offer r m).host.i3cAddr = m.host.i3cAddr := by
  rw [offer_eq]
@[simp] theorem offer_host_readyReason (r : EventRec) (m : Module) : (offer r m).host.readyReason = m.host.readyReason := by
  rw [offer_eq]
@[simp] theorem offer_host_ended (r : EventRec) (m : Module) : (offer r m).host.ended = m.host.ended := by
  rw [offer_eq]
@[simp] theorem offer_core (r : EventRec) (m : Module) (c' : Nat) : (offer r m).core c' = m.core c' := by
  rw [offer_eq]; rfl
@[simp] theorem offer_eng (r : EventRec) (m : Module) (c' e' : Nat) : (offer r m).eng c' e' = m.eng c' e' := by
  rw [offer_eq]; rfl
@[simp] theorem offer_ctx (r : EventRec) (m : Module) (k' : Nat) : (offer r m).ctx k' = m.ctx k' := by
  rw [offer_eq]; rfl
@[simp] theorem offer_client (r : EventRec) (m : Module) (n' : Nat) : (offer r m).client n' = m.client n' := by
  rw [offer_eq]; rfl
@[simp] theorem offer_queue (r : EventRec) (m : Module) (q' : Nat) : (offer r m).queue q' = m.queue q' := by
  rw [offer_eq]; rfl
@[simp] theorem offer_window (r : EventRec) (m : Module) (w' : Nat) : (offer r m).window w' = m.window w' := by
  rw [offer_eq]; rfl
@[simp] theorem offer_stream (r : EventRec) (m : Module) (i' : Nat) : (offer r m).stream i' = m.stream i' := by
  rw [offer_eq]; rfl
@[simp] theorem offer_canCtl (r : EventRec) (m : Module) (k' : Nat) : (offer r m).canCtl k' = m.canCtl k' := by
  rw [offer_eq]; rfl
@[simp] theorem offer_port (r : EventRec) (m : Module) (p' : Nat) : (offer r m).port p' = m.port p' := by
  rw [offer_eq]; rfl
@[simp] theorem offer_loop (r : EventRec) (m : Module) (i' : Nat) : (offer r m).loop i' = m.loop i' := by
  rw [offer_eq]; rfl
@[simp] theorem offer_runner (r : EventRec) (m : Module) (r' : Nat) : (offer r m).runner r' = m.runner r' := by
  rw [offer_eq]; rfl
@[simp] theorem event_cores (code result : Nat) (fs : List (Nat × Nat × Nat)) (m : Module) : (event code result fs m).cores = m.cores := by
  rw [event_eq]
@[simp] theorem event_engines (code result : Nat) (fs : List (Nat × Nat × Nat)) (m : Module) : (event code result fs m).engines = m.engines := by
  rw [event_eq]
@[simp] theorem event_mem (code result : Nat) (fs : List (Nat × Nat × Nat)) (m : Module) : (event code result fs m).mem = m.mem := by
  rw [event_eq]
@[simp] theorem event_fab (code result : Nat) (fs : List (Nat × Nat × Nat)) (m : Module) : (event code result fs m).fab = m.fab := by
  rw [event_eq]
@[simp] theorem event_sched (code result : Nat) (fs : List (Nat × Nat × Nat)) (m : Module) : (event code result fs m).sched = m.sched := by
  rw [event_eq]
@[simp] theorem event_kv_pools (code result : Nat) (fs : List (Nat × Nat × Nat)) (m : Module) : (event code result fs m).kv.pools = m.kv.pools := by
  rw [event_eq]
@[simp] theorem event_kv_seqs (code result : Nat) (fs : List (Nat × Nat × Nat)) (m : Module) : (event code result fs m).kv.seqs = m.kv.seqs := by
  rw [event_eq]
@[simp] theorem event_kv_waiting (code result : Nat) (fs : List (Nat × Nat × Nat)) (m : Module) : (event code result fs m).kv.waiting = m.kv.waiting := by
  rw [event_eq]
@[simp] theorem event_kv_plan (code result : Nat) (fs : List (Nat × Nat × Nat)) (m : Module) : (event code result fs m).kv.plan = m.kv.plan := by
  rw [event_eq]
@[simp] theorem event_queues (code result : Nat) (fs : List (Nat × Nat × Nat)) (m : Module) : (event code result fs m).queues = m.queues := by
  rw [event_eq]
@[simp] theorem event_rx (code result : Nat) (fs : List (Nat × Nat × Nat)) (m : Module) : (event code result fs m).rx = m.rx := by
  rw [event_eq]
@[simp] theorem event_streams (code result : Nat) (fs : List (Nat × Nat × Nat)) (m : Module) : (event code result fs m).streams = m.streams := by
  rw [event_eq]
@[simp] theorem event_trl (code result : Nat) (fs : List (Nat × Nat × Nat)) (m : Module) : (event code result fs m).trl = m.trl := by
  rw [event_eq]
@[simp] theorem event_time (code result : Nat) (fs : List (Nat × Nat × Nat)) (m : Module) : (event code result fs m).time = m.time := by
  rw [event_eq]
@[simp] theorem event_can (code result : Nat) (fs : List (Nat × Nat × Nat)) (m : Module) : (event code result fs m).can = m.can := by
  rw [event_eq]
@[simp] theorem event_links (code result : Nat) (fs : List (Nat × Nat × Nat)) (m : Module) : (event code result fs m).links = m.links := by
  rw [event_eq]
@[simp] theorem event_power (code result : Nat) (fs : List (Nat × Nat × Nat)) (m : Module) : (event code result fs m).power = m.power := by
  rw [event_eq]
@[simp] theorem event_health (code result : Nat) (fs : List (Nat × Nat × Nat)) (m : Module) : (event code result fs m).health = m.health := by
  rw [event_eq]
@[simp] theorem event_safety (code result : Nat) (fs : List (Nat × Nat × Nat)) (m : Module) : (event code result fs m).safety = m.safety := by
  rw [event_eq]
@[simp] theorem event_rcv (code result : Nat) (fs : List (Nat × Nat × Nat)) (m : Module) : (event code result fs m).rcv = m.rcv := by
  rw [event_eq]
@[simp] theorem event_boot (code result : Nat) (fs : List (Nat × Nat × Nat)) (m : Module) : (event code result fs m).boot = m.boot := by
  rw [event_eq]
@[simp] theorem event_hostMem (code result : Nat) (fs : List (Nat × Nat × Nat)) (m : Module) : (event code result fs m).hostMem = m.hostMem := by
  rw [event_eq]
@[simp] theorem event_freeCount (code result : Nat) (fs : List (Nat × Nat × Nat)) (m : Module) : (event code result fs m).freeCount = m.freeCount := by
  rw [event_eq]
@[simp] theorem event_host_mbx (code result : Nat) (fs : List (Nat × Nat × Nat)) (m : Module) : (event code result fs m).host.mbx = m.host.mbx := by
  rw [event_eq]
@[simp] theorem event_host_lastServed (code result : Nat) (fs : List (Nat × Nat × Nat)) (m : Module) : (event code result fs m).host.lastServed = m.host.lastServed := by
  rw [event_eq]
@[simp] theorem event_host_deferred (code result : Nat) (fs : List (Nat × Nat × Nat)) (m : Module) : (event code result fs m).host.deferred = m.host.deferred := by
  rw [event_eq]
@[simp] theorem event_host_evtTail (code result : Nat) (fs : List (Nat × Nat × Nat)) (m : Module) : (event code result fs m).host.evtTail = m.host.evtTail := by
  rw [event_eq]
@[simp] theorem event_host_part (code result : Nat) (fs : List (Nat × Nat × Nat)) (m : Module) : (event code result fs m).host.part = m.host.part := by
  rw [event_eq]
@[simp] theorem event_host_grade (code result : Nat) (fs : List (Nat × Nat × Nat)) (m : Module) : (event code result fs m).host.grade = m.host.grade := by
  rw [event_eq]
@[simp] theorem event_host_stepping (code result : Nat) (fs : List (Nat × Nat × Nat)) (m : Module) : (event code result fs m).host.stepping = m.host.stepping := by
  rw [event_eq]
@[simp] theorem event_host_coreEnable (code result : Nat) (fs : List (Nat × Nat × Nat)) (m : Module) : (event code result fs m).host.coreEnable = m.host.coreEnable := by
  rw [event_eq]
@[simp] theorem event_host_serialNo (code result : Nat) (fs : List (Nat × Nat × Nat)) (m : Module) : (event code result fs m).host.serialNo = m.host.serialNo := by
  rw [event_eq]
@[simp] theorem event_host_fwVersion (code result : Nat) (fs : List (Nat × Nat × Nat)) (m : Module) : (event code result fs m).host.fwVersion = m.host.fwVersion := by
  rw [event_eq]
@[simp] theorem event_host_ifVersion (code result : Nat) (fs : List (Nat × Nat × Nat)) (m : Module) : (event code result fs m).host.ifVersion = m.host.ifVersion := by
  rw [event_eq]
@[simp] theorem event_host_gState (code result : Nat) (fs : List (Nat × Nat × Nat)) (m : Module) : (event code result fs m).host.gState = m.host.gState := by
  rw [event_eq]
@[simp] theorem event_host_restarts (code result : Nat) (fs : List (Nat × Nat × Nat)) (m : Module) : (event code result fs m).host.restarts = m.host.restarts := by
  rw [event_eq]
@[simp] theorem event_host_heartbeat (code result : Nat) (fs : List (Nat × Nat × Nat)) (m : Module) : (event code result fs m).host.heartbeat = m.host.heartbeat := by
  rw [event_eq]
@[simp] theorem event_host_lastMs (code result : Nat) (fs : List (Nat × Nat × Nat)) (m : Module) : (event code result fs m).host.lastMs = m.host.lastMs := by
  rw [event_eq]
@[simp] theorem event_host_moduleId (code result : Nat) (fs : List (Nat × Nat × Nat)) (m : Module) : (event code result fs m).host.moduleId = m.host.moduleId := by
  rw [event_eq]
@[simp] theorem event_host_bootSrc (code result : Nat) (fs : List (Nat × Nat × Nat)) (m : Module) : (event code result fs m).host.bootSrc = m.host.bootSrc := by
  rw [event_eq]
@[simp] theorem event_host_profileStrap (code result : Nat) (fs : List (Nat × Nat × Nat)) (m : Module) : (event code result fs m).host.profileStrap = m.host.profileStrap := by
  rw [event_eq]
@[simp] theorem event_host_mbxPath (code result : Nat) (fs : List (Nat × Nat × Nat)) (m : Module) : (event code result fs m).host.mbxPath = m.host.mbxPath := by
  rw [event_eq]
@[simp] theorem event_host_mbxLock (code result : Nat) (fs : List (Nat × Nat × Nat)) (m : Module) : (event code result fs m).host.mbxLock = m.host.mbxLock := by
  rw [event_eq]
@[simp] theorem event_host_msixOn (code result : Nat) (fs : List (Nat × Nat × Nat)) (m : Module) : (event code result fs m).host.msixOn = m.host.msixOn := by
  rw [event_eq]
@[simp] theorem event_host_msixMask (code result : Nat) (fs : List (Nat × Nat × Nat)) (m : Module) : (event code result fs m).host.msixMask = m.host.msixMask := by
  rw [event_eq]
@[simp] theorem event_host_msixTab (code result : Nat) (fs : List (Nat × Nat × Nat)) (m : Module) : (event code result fs m).host.msixTab = m.host.msixTab := by
  rw [event_eq]
@[simp] theorem event_host_ibiOn (code result : Nat) (fs : List (Nat × Nat × Nat)) (m : Module) : (event code result fs m).host.ibiOn = m.host.ibiOn := by
  rw [event_eq]
@[simp] theorem event_host_i3cOff (code result : Nat) (fs : List (Nat × Nat × Nat)) (m : Module) : (event code result fs m).host.i3cOff = m.host.i3cOff := by
  rw [event_eq]
@[simp] theorem event_host_i3cAddr (code result : Nat) (fs : List (Nat × Nat × Nat)) (m : Module) : (event code result fs m).host.i3cAddr = m.host.i3cAddr := by
  rw [event_eq]
@[simp] theorem event_host_readyReason (code result : Nat) (fs : List (Nat × Nat × Nat)) (m : Module) : (event code result fs m).host.readyReason = m.host.readyReason := by
  rw [event_eq]
@[simp] theorem event_host_ended (code result : Nat) (fs : List (Nat × Nat × Nat)) (m : Module) : (event code result fs m).host.ended = m.host.ended := by
  rw [event_eq]
@[simp] theorem event_core (code result : Nat) (fs : List (Nat × Nat × Nat)) (m : Module) (c' : Nat) : (event code result fs m).core c' = m.core c' := by
  rw [event_eq]; rfl
@[simp] theorem event_eng (code result : Nat) (fs : List (Nat × Nat × Nat)) (m : Module) (c' e' : Nat) : (event code result fs m).eng c' e' = m.eng c' e' := by
  rw [event_eq]; rfl
@[simp] theorem event_ctx (code result : Nat) (fs : List (Nat × Nat × Nat)) (m : Module) (k' : Nat) : (event code result fs m).ctx k' = m.ctx k' := by
  rw [event_eq]; rfl
@[simp] theorem event_client (code result : Nat) (fs : List (Nat × Nat × Nat)) (m : Module) (n' : Nat) : (event code result fs m).client n' = m.client n' := by
  rw [event_eq]; rfl
@[simp] theorem event_queue (code result : Nat) (fs : List (Nat × Nat × Nat)) (m : Module) (q' : Nat) : (event code result fs m).queue q' = m.queue q' := by
  rw [event_eq]; rfl
@[simp] theorem event_window (code result : Nat) (fs : List (Nat × Nat × Nat)) (m : Module) (w' : Nat) : (event code result fs m).window w' = m.window w' := by
  rw [event_eq]; rfl
@[simp] theorem event_stream (code result : Nat) (fs : List (Nat × Nat × Nat)) (m : Module) (i' : Nat) : (event code result fs m).stream i' = m.stream i' := by
  rw [event_eq]; rfl
@[simp] theorem event_canCtl (code result : Nat) (fs : List (Nat × Nat × Nat)) (m : Module) (k' : Nat) : (event code result fs m).canCtl k' = m.canCtl k' := by
  rw [event_eq]; rfl
@[simp] theorem event_port (code result : Nat) (fs : List (Nat × Nat × Nat)) (m : Module) (p' : Nat) : (event code result fs m).port p' = m.port p' := by
  rw [event_eq]; rfl
@[simp] theorem event_loop (code result : Nat) (fs : List (Nat × Nat × Nat)) (m : Module) (i' : Nat) : (event code result fs m).loop i' = m.loop i' := by
  rw [event_eq]; rfl
@[simp] theorem event_runner (code result : Nat) (fs : List (Nat × Nat × Nat)) (m : Module) (r' : Nat) : (event code result fs m).runner r' = m.runner r' := by
  rw [event_eq]; rfl
@[simp] theorem respond_cores (n rc : Nat) (data : List Byte) (m : Module) : (respond n rc data m).cores = m.cores := by
  rw [respond_eq]
@[simp] theorem respond_engines (n rc : Nat) (data : List Byte) (m : Module) : (respond n rc data m).engines = m.engines := by
  rw [respond_eq]
@[simp] theorem respond_mem (n rc : Nat) (data : List Byte) (m : Module) : (respond n rc data m).mem = m.mem := by
  rw [respond_eq]
@[simp] theorem respond_fab (n rc : Nat) (data : List Byte) (m : Module) : (respond n rc data m).fab = m.fab := by
  rw [respond_eq]
@[simp] theorem respond_sched (n rc : Nat) (data : List Byte) (m : Module) : (respond n rc data m).sched = m.sched := by
  rw [respond_eq]
@[simp] theorem respond_kv (n rc : Nat) (data : List Byte) (m : Module) : (respond n rc data m).kv = m.kv := by
  rw [respond_eq]
@[simp] theorem respond_queues (n rc : Nat) (data : List Byte) (m : Module) : (respond n rc data m).queues = m.queues := by
  rw [respond_eq]
@[simp] theorem respond_rx (n rc : Nat) (data : List Byte) (m : Module) : (respond n rc data m).rx = m.rx := by
  rw [respond_eq]
@[simp] theorem respond_streams (n rc : Nat) (data : List Byte) (m : Module) : (respond n rc data m).streams = m.streams := by
  rw [respond_eq]
@[simp] theorem respond_trl (n rc : Nat) (data : List Byte) (m : Module) : (respond n rc data m).trl = m.trl := by
  rw [respond_eq]
@[simp] theorem respond_time (n rc : Nat) (data : List Byte) (m : Module) : (respond n rc data m).time = m.time := by
  rw [respond_eq]
@[simp] theorem respond_can (n rc : Nat) (data : List Byte) (m : Module) : (respond n rc data m).can = m.can := by
  rw [respond_eq]
@[simp] theorem respond_links (n rc : Nat) (data : List Byte) (m : Module) : (respond n rc data m).links = m.links := by
  rw [respond_eq]
@[simp] theorem respond_power (n rc : Nat) (data : List Byte) (m : Module) : (respond n rc data m).power = m.power := by
  rw [respond_eq]
@[simp] theorem respond_health (n rc : Nat) (data : List Byte) (m : Module) : (respond n rc data m).health = m.health := by
  rw [respond_eq]
@[simp] theorem respond_safety (n rc : Nat) (data : List Byte) (m : Module) : (respond n rc data m).safety = m.safety := by
  rw [respond_eq]
@[simp] theorem respond_rcv (n rc : Nat) (data : List Byte) (m : Module) : (respond n rc data m).rcv = m.rcv := by
  rw [respond_eq]
@[simp] theorem respond_boot (n rc : Nat) (data : List Byte) (m : Module) : (respond n rc data m).boot = m.boot := by
  rw [respond_eq]
@[simp] theorem respond_hostMem (n rc : Nat) (data : List Byte) (m : Module) : (respond n rc data m).hostMem = m.hostMem := by
  rw [respond_eq]
@[simp] theorem respond_freeCount (n rc : Nat) (data : List Byte) (m : Module) : (respond n rc data m).freeCount = m.freeCount := by
  rw [respond_eq]
@[simp] theorem respond_host_lastServed (n rc : Nat) (data : List Byte) (m : Module) : (respond n rc data m).host.lastServed = m.host.lastServed := by
  rw [respond_eq]
@[simp] theorem respond_host_deferred (n rc : Nat) (data : List Byte) (m : Module) : (respond n rc data m).host.deferred = m.host.deferred := by
  rw [respond_eq]
@[simp] theorem respond_host_evtHead (n rc : Nat) (data : List Byte) (m : Module) : (respond n rc data m).host.evtHead = m.host.evtHead := by
  rw [respond_eq]
@[simp] theorem respond_host_evtTail (n rc : Nat) (data : List Byte) (m : Module) : (respond n rc data m).host.evtTail = m.host.evtTail := by
  rw [respond_eq]
@[simp] theorem respond_host_evtLost (n rc : Nat) (data : List Byte) (m : Module) : (respond n rc data m).host.evtLost = m.host.evtLost := by
  rw [respond_eq]
@[simp] theorem respond_host_lostSince (n rc : Nat) (data : List Byte) (m : Module) : (respond n rc data m).host.lostSince = m.host.lostSince := by
  rw [respond_eq]
@[simp] theorem respond_host_backlog (n rc : Nat) (data : List Byte) (m : Module) : (respond n rc data m).host.backlog = m.host.backlog := by
  rw [respond_eq]
@[simp] theorem respond_host_held (n rc : Nat) (data : List Byte) (m : Module) : (respond n rc data m).host.held = m.host.held := by
  rw [respond_eq]
@[simp] theorem respond_host_ring (n rc : Nat) (data : List Byte) (m : Module) : (respond n rc data m).host.ring = m.host.ring := by
  rw [respond_eq]
@[simp] theorem respond_host_part (n rc : Nat) (data : List Byte) (m : Module) : (respond n rc data m).host.part = m.host.part := by
  rw [respond_eq]
@[simp] theorem respond_host_grade (n rc : Nat) (data : List Byte) (m : Module) : (respond n rc data m).host.grade = m.host.grade := by
  rw [respond_eq]
@[simp] theorem respond_host_stepping (n rc : Nat) (data : List Byte) (m : Module) : (respond n rc data m).host.stepping = m.host.stepping := by
  rw [respond_eq]
@[simp] theorem respond_host_coreEnable (n rc : Nat) (data : List Byte) (m : Module) : (respond n rc data m).host.coreEnable = m.host.coreEnable := by
  rw [respond_eq]
@[simp] theorem respond_host_serialNo (n rc : Nat) (data : List Byte) (m : Module) : (respond n rc data m).host.serialNo = m.host.serialNo := by
  rw [respond_eq]
@[simp] theorem respond_host_fwVersion (n rc : Nat) (data : List Byte) (m : Module) : (respond n rc data m).host.fwVersion = m.host.fwVersion := by
  rw [respond_eq]
@[simp] theorem respond_host_ifVersion (n rc : Nat) (data : List Byte) (m : Module) : (respond n rc data m).host.ifVersion = m.host.ifVersion := by
  rw [respond_eq]
@[simp] theorem respond_host_gState (n rc : Nat) (data : List Byte) (m : Module) : (respond n rc data m).host.gState = m.host.gState := by
  rw [respond_eq]
@[simp] theorem respond_host_restarts (n rc : Nat) (data : List Byte) (m : Module) : (respond n rc data m).host.restarts = m.host.restarts := by
  rw [respond_eq]
@[simp] theorem respond_host_heartbeat (n rc : Nat) (data : List Byte) (m : Module) : (respond n rc data m).host.heartbeat = m.host.heartbeat := by
  rw [respond_eq]
@[simp] theorem respond_host_lastMs (n rc : Nat) (data : List Byte) (m : Module) : (respond n rc data m).host.lastMs = m.host.lastMs := by
  rw [respond_eq]
@[simp] theorem respond_host_moduleId (n rc : Nat) (data : List Byte) (m : Module) : (respond n rc data m).host.moduleId = m.host.moduleId := by
  rw [respond_eq]
@[simp] theorem respond_host_bootSrc (n rc : Nat) (data : List Byte) (m : Module) : (respond n rc data m).host.bootSrc = m.host.bootSrc := by
  rw [respond_eq]
@[simp] theorem respond_host_profileStrap (n rc : Nat) (data : List Byte) (m : Module) : (respond n rc data m).host.profileStrap = m.host.profileStrap := by
  rw [respond_eq]
@[simp] theorem respond_host_mbxPath (n rc : Nat) (data : List Byte) (m : Module) : (respond n rc data m).host.mbxPath = m.host.mbxPath := by
  rw [respond_eq]
@[simp] theorem respond_host_mbxLock (n rc : Nat) (data : List Byte) (m : Module) : (respond n rc data m).host.mbxLock = m.host.mbxLock := by
  rw [respond_eq]
@[simp] theorem respond_host_msixOn (n rc : Nat) (data : List Byte) (m : Module) : (respond n rc data m).host.msixOn = m.host.msixOn := by
  rw [respond_eq]
@[simp] theorem respond_host_msixMask (n rc : Nat) (data : List Byte) (m : Module) : (respond n rc data m).host.msixMask = m.host.msixMask := by
  rw [respond_eq]
@[simp] theorem respond_host_msixTab (n rc : Nat) (data : List Byte) (m : Module) : (respond n rc data m).host.msixTab = m.host.msixTab := by
  rw [respond_eq]
@[simp] theorem respond_host_ibiOn (n rc : Nat) (data : List Byte) (m : Module) : (respond n rc data m).host.ibiOn = m.host.ibiOn := by
  rw [respond_eq]
@[simp] theorem respond_host_i3cOff (n rc : Nat) (data : List Byte) (m : Module) : (respond n rc data m).host.i3cOff = m.host.i3cOff := by
  rw [respond_eq]
@[simp] theorem respond_host_i3cAddr (n rc : Nat) (data : List Byte) (m : Module) : (respond n rc data m).host.i3cAddr = m.host.i3cAddr := by
  rw [respond_eq]
@[simp] theorem respond_host_readyReason (n rc : Nat) (data : List Byte) (m : Module) : (respond n rc data m).host.readyReason = m.host.readyReason := by
  rw [respond_eq]
@[simp] theorem respond_host_ended (n rc : Nat) (data : List Byte) (m : Module) : (respond n rc data m).host.ended = m.host.ended := by
  rw [respond_eq]
@[simp] theorem respond_core (n rc : Nat) (data : List Byte) (m : Module) (c' : Nat) : (respond n rc data m).core c' = m.core c' := by
  rw [respond_eq]; rfl
@[simp] theorem respond_eng (n rc : Nat) (data : List Byte) (m : Module) (c' e' : Nat) : (respond n rc data m).eng c' e' = m.eng c' e' := by
  rw [respond_eq]; rfl
@[simp] theorem respond_ctx (n rc : Nat) (data : List Byte) (m : Module) (k' : Nat) : (respond n rc data m).ctx k' = m.ctx k' := by
  rw [respond_eq]; rfl
@[simp] theorem respond_client (n rc : Nat) (data : List Byte) (m : Module) (n' : Nat) : (respond n rc data m).client n' = m.client n' := by
  rw [respond_eq]; rfl
@[simp] theorem respond_queue (n rc : Nat) (data : List Byte) (m : Module) (q' : Nat) : (respond n rc data m).queue q' = m.queue q' := by
  rw [respond_eq]; rfl
@[simp] theorem respond_window (n rc : Nat) (data : List Byte) (m : Module) (w' : Nat) : (respond n rc data m).window w' = m.window w' := by
  rw [respond_eq]; rfl
@[simp] theorem respond_stream (n rc : Nat) (data : List Byte) (m : Module) (i' : Nat) : (respond n rc data m).stream i' = m.stream i' := by
  rw [respond_eq]; rfl
@[simp] theorem respond_canCtl (n rc : Nat) (data : List Byte) (m : Module) (k' : Nat) : (respond n rc data m).canCtl k' = m.canCtl k' := by
  rw [respond_eq]; rfl
@[simp] theorem respond_port (n rc : Nat) (data : List Byte) (m : Module) (p' : Nat) : (respond n rc data m).port p' = m.port p' := by
  rw [respond_eq]; rfl
@[simp] theorem respond_loop (n rc : Nat) (data : List Byte) (m : Module) (i' : Nat) : (respond n rc data m).loop i' = m.loop i' := by
  rw [respond_eq]; rfl
@[simp] theorem respond_runner (n rc : Nat) (data : List Byte) (m : Module) (r' : Nat) : (respond n rc data m).runner r' = m.runner r' := by
  rw [respond_eq]; rfl

/-! ### Mailbox commands -/

/-- The first check that holds decides. -/
theorem firstFail_none {l : List (Bool × Nat)} : firstFail l = none ↔ ∀ x ∈ l, x.1 = false := by
  induction l with
  | nil => simp [firstFail]
  | cons a l ih => cases h : a.1 <;> simp [firstFail, h, ih]

/-- In execution, with its domains on and its checks passed, a command has its effect. -/
theorem command_passes {code n : Nat} {checks : List Byte → Module → List (Bool × Nat)} {body : List Byte → Module → Module}
    {m : Module} {ps : List Byte} (h : running m n code = true ∧ params m n = ps ∧ powered m code = true)
    (hc : firstFail (checks ps m) = none) : command code n checks body m = body ps m := by
  obtain ⟨h1, rfl, h5⟩ := h
  simp [command, checked, h1, h5, hc]

/-- The first check that fails is the response, without the mark of `notHeld`, and nothing else happens. -/
theorem command_refuses {code n rc : Nat} {checks : List Byte → Module → List (Bool × Nat)}
    {body : List Byte → Module → Module} {m : Module} {ps : List Byte}
    (h : running m n code = true ∧ params m n = ps ∧ powered m code = true)
    (hc : firstFail (checks ps m) = some rc) : command code n checks body m = respond n (rc % 0x10000) [] m := by
  obtain ⟨h1, rfl, h5⟩ := h
  simp [command, checked, h1, h5, hc]

/-- A deferred command with room is outstanding and is answered with ACCEPTED. -/
theorem accept_room {n key : Nat} {body : Module → Module} {m : Module}
    (h : (m.host.deferred.filter (fun d => d.client == n)).length < 256) :
    accept n key body m = body (respond n 1 [] { m with host := { m.host with
      deferred := m.host.deferred ++ [⟨n, reqTag m n, reqCode m n, key⟩] } }) := by
  simp [accept, Nat.not_le.mpr h]

/-- The completion of an outstanding command. -/
theorem finish_found {code key rc : Nat} {payload : List Byte} {m : Module} {d : Deferred}
    (h : findDeferred m code key = some d) : finish code key rc payload m =
      completion d.client d.tag code rc payload { m with host := { m.host with deferred := m.host.deferred.erase d } } := by
  simp [finish, h]

/-! ### Reads after writes -/

@[simp] theorem Module.core_setCore (m : Module) (c : Nat) (v : Core) : (m.setCore c v).core c = v := Tab.get_put_self _ _ _ _
@[simp] theorem Module.eng_setEng (m : Module) (c e : Nat) (v : Engine) : (m.setEng c e v).eng c e = v := Tab.get_put_self _ _ _ _
@[simp] theorem Module.ctx_setCtx (m : Module) (k : Nat) (v : Ctx) : (m.setCtx k v).ctx k = v := Tab.get_put_self _ _ _ _
@[simp] theorem Module.client_setClient (m : Module) (n : Nat) (v : Client) : (m.setClient n v).client n = v :=
  Tab.get_put_self _ _ _ _
@[simp] theorem Module.queue_setQueue (m : Module) (q : Nat) (v : Queue) : (m.setQueue q v).queue q = v := Tab.get_put_self _ _ _ _
@[simp] theorem Module.mbx_setMbx (m : Module) (n : Nat) (v : Mbx) : (m.setMbx n v).mbx n = v := Tab.get_put_self _ _ _ _
@[simp] theorem Module.window_setWindow (m : Module) (w : Nat) (v : Window) : (m.setWindow w v).window w = v :=
  Tab.get_put_self _ _ _ _
@[simp] theorem Module.stream_setStream (m : Module) (i : Nat) (v : Stream) : (m.setStream i v).stream i = v :=
  Tab.get_put_self _ _ _ _
@[simp] theorem Module.canCtl_setCan (m : Module) (k : Nat) (v : CanCtl) : (m.setCan k v).canCtl k = v := Tab.get_put_self _ _ _ _
@[simp] theorem Module.port_setPort (m : Module) (p : Nat) (v : EthPort) : (m.setPort p v).port p = v := Tab.get_put_self _ _ _ _
@[simp] theorem Module.loop_setLoop (m : Module) (i : Nat) (v : Loop) : (m.setLoop i v).loop i = v := Tab.get_put_self _ _ _ _
@[simp] theorem Module.runner_setRunner (m : Module) (r : Nat) (v : Runner) : (m.setRunner r v).runner r = v :=
  Tab.get_put_self _ _ _ _
@[simp] theorem Module.pool_setPool (m : Module) (p : Nat) (v : Pool) : (m.setPool p v).pool p = v := Tab.get_put_self _ _ _ _
@[simp] theorem Module.rxPort_setRxPort (m : Module) (p : Nat) (v : RxPort) : (m.setRxPort p v).rxPort p = v :=
  Tab.get_put_self _ _ _ _
@[simp] theorem Module.plan_setPlan (m : Module) (i : Nat) (v : Plan17) : (m.setPlan i v).plan i = v := Tab.get_put_self _ _ _ _
@[simp] theorem Module.checker_setChecker (m : Module) (ch : Nat) (v : Checker) : (m.setChecker ch v).checker ch = v :=
  Tab.get_put_self _ _ _ _

/-- Engine e of core c and engine e' of core c' are one engine only when they have one number. -/
theorem Module.eng_setEng_ne (m : Module) {c e c' e' : Nat} (v : Engine) (h : 64 * c' + e' ≠ 64 * c + e) :
    (m.setEng c e v).eng c' e' = m.eng c' e' := Tab.get_put_ne _ _ _ h
theorem Module.core_setCore_ne (m : Module) {c c' : Nat} (v : Core) (h : c' ≠ c) : (m.setCore c v).core c' = m.core c' :=
  Tab.get_put_ne _ _ _ h
theorem Module.ctx_setCtx_ne (m : Module) {k k' : Nat} (v : Ctx) (h : k' ≠ k) : (m.setCtx k v).ctx k' = m.ctx k' :=
  Tab.get_put_ne _ _ _ h
theorem Module.queue_setQueue_ne (m : Module) {q q' : Nat} (v : Queue) (h : q' ≠ q) : (m.setQueue q v).queue q' = m.queue q' :=
  Tab.get_put_ne _ _ _ h
theorem Module.mbx_setMbx_ne (m : Module) {n n' : Nat} (v : Mbx) (h : n' ≠ n) : (m.setMbx n v).mbx n' = m.mbx n' :=
  Tab.get_put_ne _ _ _ h
theorem Module.stream_setStream_ne (m : Module) {i i' : Nat} (v : Stream) (h : i' ≠ i) : (m.setStream i v).stream i' = m.stream i' :=
  Tab.get_put_ne _ _ _ h
theorem Module.loop_setLoop_ne (m : Module) {i i' : Nat} (v : Loop) (h : i' ≠ i) : (m.setLoop i v).loop i' = m.loop i' :=
  Tab.get_put_ne _ _ _ h

end Sys2Proof.Machine
end

