-- ==== Sys2Proof/Laws/Memory.lean ====
section
/-!
SUPPORT. Memory: a read after a write, and that the named memory operations keep the canonical form.
-/

namespace Sys2Proof.Machine

/-- The canonical form of memory alone. -/
def Mem.ok (m : Mem) : Prop := Memory.wf m.bytes = true ∧ Tab.wf (0 : BitVec 3) m.poison = true

theorem Module.memOk_iff (m : Module) : m.memOk ↔ m.mem.ok ∧ Memory.wf m.hostMem = true := by
  unfold Module.memOk Mem.ok; exact and_assoc.symm

/-- A step that changes neither memory's bytes, its poison nor host memory keeps the form. -/
theorem Module.memOk_of_eq {m n : Module} (h : m.memOk) (h1 : n.mem.bytes = m.mem.bytes) (h2 : n.mem.poison = m.mem.poison)
    (h3 : n.hostMem = m.hostMem) : n.memOk := by
  unfold Module.memOk at *; rw [h1, h2, h3]; exact h

/-! ### Reads after writes -/

/-- A byte reads as what was last put there. -/
theorem memByte_memPut (m : Mem) (a b : Nat) (bs : List Byte) :
    memByte (memPut m a bs) b = if a ≤ b ∧ b < a + bs.length then bs.getD (b - a) 0 else memByte m b := by
  simp only [memByte, memPut]; exact Tab.get_putRow 0 m.bytes a b bs

theorem Tab.get_filter_key {α : Type} (d : α) (t : Tab α) (f : Nat → Bool) (k : Nat) :
    Tab.get d (t.filter (fun p => f p.1)) k = if f k then Tab.get d t k else d := by
  induction t with
  | nil => simp [Tab.get]
  | cons p t ih =>
    by_cases hp : f p.1 <;> by_cases hk : p.1 = k
    · subst hk; simp [hp, Tab.get]
    · simp [hp, Tab.get, hk, ih]
    · subst hk; simp [hp, ih]
    · simp [hp, Tab.get, hk, ih]

/-- A cleared range reads as zero, and every other byte as before. -/
theorem memByte_memClear (m : Mem) (a n b : Nat) :
    memByte (memClear m a n) b = if a ≤ b ∧ b < a + n then 0 else memByte m b := by
  simp only [memByte, memClear]
  rw [Tab.get_filter_key 0 m.bytes (fun k => !(decide (a ≤ k) && decide (k < a + n))) b]
  by_cases h : a ≤ b ∧ b < a + n
  · simp [h]
  · have : (!(decide (a ≤ b) && decide (b < a + n))) = true := by simp; omega
    rw [if_pos this, if_neg h]

/-! ### The canonical form -/

theorem memPut_ok {m : Mem} (a : Nat) (bs : List Byte) (h : m.ok) : (memPut m a bs).ok :=
  ⟨Tab.wf_putRow 0 m.bytes a bs h.1, h.2⟩

theorem memClear_ok {m : Mem} (a n : Nat) (h : m.ok) : (memClear m a n).ok :=
  ⟨Tab.wf_filter 0 m.bytes _ h.1, Tab.wf_filter 0 m.poison _ h.2⟩

theorem setPoison_ok {m : Mem} (w : Nat) (p : Bool) (h : m.ok) : (setPoison m w p).ok :=
  ⟨h.1, Tab.wf_put 0 m.poison w _ h.2⟩

theorem err_ok {m : Mem} (e : Tab Nat) (h : m.ok) : ({ m with err := e } : Mem).ok := h

theorem putWord_ok {m : Mem} (w : Nat) (d : W64) (p : Bool) (h : m.ok) : (putWord m w d p).ok := by
  unfold putWord
  have := setPoison_ok w p (memPut_ok (8 * w) (leBytes 8 d.toNat) h)
  dsimp only
  split
  · exact this
  · exact this

theorem putWords_ok {m : Mem} (w : Nat) (ds : List (W64 × Bool)) (h : m.ok) : (putWords m w ds).ok := by
  induction ds generalizing m w with
  | nil => exact h
  | cons d ds ih => exact ih (w + 1) (putWord_ok w d.1 d.2 h)

theorem clearErrs_ok {m : Mem} (w n : Nat) (h : m.ok) : (clearErrs m w n).ok := by
  induction n generalizing m w with
  | zero => exact h
  | succ n ih => exact ih (w + 1) (err_ok _ h)

theorem memOk_setMem {m : Module} {mem : Mem} (h : m.memOk) (hm : mem.ok) : ({ m with mem := mem } : Module).memOk :=
  (Module.memOk_iff _).mpr ⟨hm, ((Module.memOk_iff m).mp h).2⟩

theorem healthEvent_memOk {m : Module} (u c o p : Nat) (h : m.memOk) : (healthEvent u c o p m).memOk := by
  unfold healthEvent
  exact Module.memOk_of_eq h (by simp) (by simp) (by simp)

theorem countErr_memOk {m : Module} (u : Bool) (w : Nat) (h : m.memOk) : (countErr u w m).memOk := by
  unfold countErr
  dsimp only
  generalize (if u then errOf m.mem w else 0) = e
  split
  · generalize (decide (e = 1) || copiesOf m.mem w != 0 && copiesOf m.mem w != 7) = c
    cases c
    · split
      · exact healthEvent_memOk _ _ _ _ (by exact h)
      · exact h
    · split
      · exact healthEvent_memOk _ _ _ _ (by exact h)
      · exact h
  · by_cases h1 : e = 1
    · rw [if_pos h1]; exact h
    · rw [if_neg h1]
      split
      · exact healthEvent_memOk _ _ _ _ (by exact h)
      · exact h
  · by_cases h1 : e = 1
    · rw [if_pos h1]; exact h
    · rw [if_neg h1]
      split
      · exact healthEvent_memOk _ _ _ _ h
      · exact h
  · exact h

theorem countReads_memOk {m : Module} (n w : Nat) (c : Bool) (h : m.memOk) : (countReads n w c m).memOk := by
  induction n generalizing m w c with
  | zero => exact h
  | succ n ih =>
    unfold countReads
    split
    · exact ih _ _ h
    · exact ih _ _ (countErr_memOk _ _ h)

theorem mergeUnit_memOk {m : Module} (w : Nat) (h : m.memOk) : (mergeUnit w m).memOk := by
  have h1 := countErr_memOk true w h
  have h2 := ((Module.memOk_iff _).mp h1).1
  unfold mergeUnit
  dsimp only
  split
  · exact memOk_setMem h1 (err_ok _ (setPoison_ok w true h2))
  · exact memOk_setMem h1 (err_ok _ h2)

/-- A write of words keeps the form. -/
theorem writeWords_memOk {m : Module} (w : Nat) (ds : List (W64 × Bool)) (h : m.memOk) : (writeWords w ds m).memOk := by
  have key : ∀ n : Module, n.memOk → ({ n with mem := putWords (clearErrs n.mem w ds.length) w ds } : Module).memOk :=
    fun n hn => memOk_setMem hn (putWords_ok w ds (clearErrs_ok w ds.length ((Module.memOk_iff n).mp hn).1))
  unfold writeWords
  dsimp only
  split
  · exact h
  · split <;> split <;> first
      | exact key _ (mergeUnit_memOk _ (mergeUnit_memOk _ h))
      | exact key _ (mergeUnit_memOk _ h)
      | exact key _ h

theorem gragorWrite_memOk {m : Module} (a : Nat) (bs : List Byte) (h : m.memOk) : (gragorWrite a bs m).memOk :=
  memOk_setMem h (memPut_ok a bs ((Module.memOk_iff m).mp h).1)

/-- Bytes written to host memory through grants keep its form. -/
theorem coldWrite_memOk {m : Module} (a : Nat) (bs : List Byte) (h : m.memOk) : (coldWrite a bs m).memOk := by
  refine ⟨h.1, h.2.1, ?_⟩
  unfold coldWrite
  have key : ∀ (l : List (Byte × Nat)) (t : List Host.Cell), Memory.wf t = true →
      Memory.wf (l.foldl (fun h b => match grantBus m (a + b.2) 1 with
        | some bus => Tab.put (0 : Byte) h bus b.1
        | none => h) t) = true := by
    intro l
    induction l with
    | nil => intro t ht; exact ht
    | cons b l ih =>
      intro t ht
      refine ih _ ?_
      dsimp only
      split
      · exact Tab.wf_put 0 t _ _ ht
      · exact ht
  exact key bs.zipIdx m.hostMem h.2.2

theorem respond_memOk {m : Module} (n rc : Nat) (data : List Byte) (h : m.memOk) : (respond n rc data m).memOk :=
  Module.memOk_of_eq h (by simp) (by simp) (by simp)

theorem event_memOk {m : Module} (code rc : Nat) (fs : List (Nat × Nat × Nat)) (h : m.memOk) : (event code rc fs m).memOk :=
  Module.memOk_of_eq h (by simp) (by simp) (by simp)

theorem offer_memOk {m : Module} (r : EventRec) (h : m.memOk) : (offer r m).memOk :=
  Module.memOk_of_eq h (by simp) (by simp) (by simp)

end Sys2Proof.Machine
end

