-- ==== Sys2Proof/Tests/Build.lean ====
section
/-!
SUPPORT. Small states for the tests: a module that is READY with every domain on, a mailbox command in execution, an engine whose bundle
presents.
-/

namespace Sys2Proof.Tests

set_option Elab.async false

open Sys2Proof Sys2Proof.Machine

/-- Four conditions decided together, before the rest. -/
theorem first4 {a b c d e : Prop} (h : a ∧ b ∧ c ∧ d) (k : e) : a ∧ b ∧ c ∧ d ∧ e := ⟨h.1, h.2.1, h.2.2.1, h.2.2.2, k⟩

/-- READY, every domain on, the PCIe link up. -/
def up : Module :=
  { power := { on := 0x3FFFFFFFFFFFF, locked := true }
    host := { serialNo := 0x1122334455667788, gState := 3, ifVersion := 0x0103, fwVersion := 0x01020304 }
    links := { perst := false, pcieSpeed := 4, pcieWidth := 8 } }

/-- The module up, changed. -/
def st (f : Module → Module) : State := { mod := f up }

/-- Little-endian fields: (size, value). -/
def pk (l : List (Nat × Nat)) : List Byte := l.flatMap (fun p => leBytes p.1 p.2)

/-- n zero bytes. -/
def zs (n : Nat) : List Byte := List.replicate n 0

/-- A mailbox whose command is in execution. -/
def mb (code : Nat) (ps : List Byte) : Mbx :=
  { owner := true, state := 2, seq := 7, last := some 7, minor := some 0
    req := Tab.putRow 0 [] 0 (leBytes 2 code ++ leBytes 2 ps.length ++ leBytes 2 0x55 ++ [0, 0] ++ ps) }

/-- Gragor executes a command for mailbox n. -/
def cmd (n code : Nat) (ps : List Byte) (f : Module → Module := id) : State := { mod := (f up).setMbx n (mb code ps) }

/-- A bundle: its Vector, MAC, Move and Control words. -/
def bundle (v a m c : W32) : List Byte := [v, a, m, c].flatMap (fun w => leBytes 4 w.toNat)

/-- Engine 3 of core 1, of context 5 and job 9, with a bundle at index 2 of 8. -/
def eng (e : Engine) (v a m c : W32) (f : Module → Module) : State :=
  { mod := f (({ up with mem := memPut {} (progBase 1 + 32) (bundle v a m c) }.setCore 1
      { job := some 9, ctx := some 5, bundles := 8, mask := 0xFF }).setEng 1 3 e) }

/-- A control word presents. -/
def ctl (w : W32) (r : Regs := {}) (f : Module → Module := id) : State :=
  eng { run := .issuing, pc := 2, bpc := 1, nxt := r } 0 0 0 w f

/-- A Move word presents. -/
def mov (w : W32) (r : Regs := {}) (f : Module → Module := id) : State :=
  eng { run := .issuing, pc := 3, bpc := 2, mvLeft := true, src := r, nxt := r } 0 0 w 0 f

/-- A MAC word presents. -/
def mac (w : W32) (r : Regs := {}) (f : Module → Module := id) : State :=
  eng { run := .issuing, pc := 3, bpc := 2, mcLeft := true, src := r, nxt := r } 0 w 0 0 f

/-- A Vector word presents. -/
def vec (w : W32) (r : Regs := {}) (f : Module → Module := id) : State :=
  eng { run := .issuing, pc := 3, bpc := 2, vcLeft := true, src := r, nxt := r } w 0 0 0 f

/-- Scalars of an engine, from S0. -/
def sc (l : List W32) : Regs := { s := Tab.putRow 0 [] 0 l }

/-- Bytes put at a scratchpad offset of core 1. -/
def spad (off : Nat) (bs : List Byte) (m : Module) : Module := { m with mem := memPut m.mem (spadBase 1 + off) bs }

/-- The word at a scratchpad offset of core 1 is poisoned. -/
def bad (off : Nat) (m : Module) : Module := { m with mem := setPoison m.mem ((spadBase 1 + off) / 8) true }

/-- Context k is ACTIVE, of a client and a cloche. -/
def ctxUp (k client : Nat) (m : Module) : Module := m.setCtx k { state := 1, client := client, cloche := 2, maxPrio := 7 }

/-- Whether a command answers a next state of which a test holds. -/
def after (i : Instr) (s : State) (p : Module → Bool) : Bool :=
  match exec i s with
  | .next t => p t.mod && decide (t.pending = s.pending)
  | _ => false

end Sys2Proof.Tests
end

