-- ==== Sys2Proof/Tests/Slice0.lean ====
section
/-!
SUPPORT. Tests: well-formedness with an ill-formed word for each check, and the worked examples of the spec, each value as the
spec prints it.
-/

namespace Sys2Proof.Tests

set_option Elab.async false

open Sys2Proof Sys2Proof.Machine

/-! ### Well-formedness (R79, R80, R83, R89, R93, R97) -/

/-- The three slot words that chapter 4's worked example writes out are well formed. -/
theorem test_wf_example : slotOk .move 0x04091C00 && slotOk .mac 0x04012000 && slotOk .control 0x4C000000
    && slotOk .move 0x0D140000 := by decide +kernel

/-- An undefined opcode, in each slot (R79). -/
theorem test_wf_opcode : !slotOk .control 0xFC000000 && !slotOk .move 0x38000000 && !slotOk .mac 0x1C000000
    && !slotOk .vector 0x38000000 := by decide +kernel

/-- A reserved bit (R79): bit 13 of STT's address field. -/
theorem test_wf_reserved : !slotOk .move 0x0D140800 := by decide +kernel

/-- A V field above 7 (R79): LDV V8. -/
theorem test_wf_v : slotOk .move 0x11C00000 && !slotOk .move 0x12000000 := by decide +kernel

/-- An odd SYNCWAIT pair (R80): Sb must be even. -/
theorem test_wf_pair : slotOk .control (0x40000000 + 0x00008000) && !slotOk .control (0x40000000 + 0x00004000) := by decide +kernel

/-- A reduction group code of 7 (R92). -/
theorem test_wf_group : slotOk .mac (0x14000000 + 6) && !slotOk .mac (0x14000000 + 7) := by decide +kernel

/-- A BR condition of 7 (Table 4-1). -/
theorem test_wf_cond : slotOk .control (0x04000000 + 0x01800000) && !slotOk .control (0x04000000 + 0x01C00000) := by decide +kernel

/-- A pack of 3, a k with M clear and a reserved grid ID (R95, R22). -/
theorem test_wf_qnt : slotOk .vector 0x60000000 && !slotOk .vector (0x60000000 + 0xC00) && !slotOk .vector (0x60000000 + 0x40)
    && slotOk .vector (0x60000000 + 0x1000 + 0x40) && !slotOk .vector (0x60000000 + 6 * 0x2000) := by decide +kernel

/-- A zero SIG amount (R97). -/
theorem test_wf_sig : slotOk .move 0x34000001 && !slotOk .move 0x34000000 := by decide +kernel

/-- A word whose opcode is another row's is refused for the row (Table 4-2): STT's word as an LDT2. -/
theorem test_wf_row : (Instr.stt 1 3 0x0D140000).wf && !(Instr.ldt2 1 3 0x0D140000).wf := by decide +kernel

/-- An ill-formed slot word faults, and nothing else of the command happens. -/
theorem test_wf_fault : exec (.stt 1 3 0x0D140800) (mov 0x0D140800) = .fault .illFormed := rfl

/-! ### Numbers (chapter 2) -/

/-- The grid of an ID. -/
def gridAt (i : Nat) : Grid := (presetGrid i).getD ⟨4, none, 1, []⟩

/-- An entry of the N4 × N4 table. -/
def n4Entry (a w : Nat) : Int :=
  let g := gridAt 0
  tableEntry g.den (g.vals.getD a (qRat 0)) g.den (g.vals.getD w (qRat 0))

/-- The five entries of the worked example under R32. -/
theorem test_table_entries : [n4Entry 3 5, n4Entry 9 6, n4Entry 2 4, n4Entry 7 7, n4Entry 1 1] = [3019, -1259, 1496, 16384, 172] := by
  decide +kernel

/-- The two P4 × N4 entries of the worked example under R48. -/
theorem test_plane_entries :
    [12, 8].map (fun c => tableEntry (16 * (gridAt 5).den) ((gridAt 5).vals.getD c (qRat 0)) (gridAt 0).den ((gridAt 0).vals.getD 5 (qRat 0)))
      = [7106, 4737] := by decide +kernel

/-- The plane combine: 16 × 7,106 + 4,737 = 118,433 (R48). -/
theorem test_combine : combine 16 { val := 7106 } { val := 4737 } = { val := 118433 } := by decide +kernel

/-- Conversions of the worked examples under R42 and R48, and a poisoned element (R43). -/
theorem test_convert : convert { val := 19640 } 0 0x3D00 = 0x3F662800 ∧ convert { val := 118433 } 4 0x3E00 = 0x42E75080 ∧
    convert { val := 19640, poi := true } 0 0x3D00 = 0x7FC00000 := by decide +kernel

/-- Rounding to N4 (R28), and stochastic rounding to T2 with the two draws of the worked example (R29). -/
theorem test_quantise : quantise (gridAt 0) 0x3F662800 none = (7, false) ∧
    quantise (gridAt 3) 0x3EC00000 (some 0x5A3C1E07) = (1, false) ∧
    quantise (gridAt 3) 0x3EC00000 (some 0xB1000000) = (0, false) := by decide +kernel

/-- The first KZ-CB round of the worked example under R140. -/
theorem test_kz_round : kzRound 0x12345678 0x9ABCDEF0 (0x103, 7, 0, 0) 0 = (0x1234577B, 0x1A2BBE09, 0x081FE871, 0xFD0E2103) := by
  decide +kernel

/-! ### The worked 4-bit matrix tile (chapter 4) -/

/-- The four table entries it looks up. -/
def fourEntries : PTab := { ent := [(0x24, 1496), (0x35, 3019), (0x77, 16384), (0x96, 0xFB15)] }

/-- Its operands and scales. -/
def tileRegs : Regs :=
  { t := [(0, ⟨0x7293, false⟩), (1, ⟨0x0007000400060005, false⟩)], q := [(0, 0x3D00), (1, 0x3E00), (2, 0x3E00), (3, 0x3E00)], p0 := fourEntries }

/-- Bundle 0: LDT2 p=0, S1, S2, inc S3, PI. -/
theorem test_tile_ldt2 :
    after (.ldt2 1 3 0x04091C00) (mov 0x04091C00 { s := [(2, 0x200), (3, 8)] }
      (fun m => spad 0x200 [5, 0, 6, 0, 4, 0, 7, 0] (spad 0 [0x93, 0x72] m)))
      (fun m => let r := (m.eng 1 3).nxt
        r.t.get {} 0 == ⟨0x7293, false⟩ && r.t.get {} 1 == ⟨0x0007000400060005, false⟩ && r.s.get 0 1 == 8 && r.s.get 0 2 == 0x208) := by
  decide +kernel

/-- Bundle 3: MAC A0, T0, T1, P0, Z gives 19,640 in element (0, 0) and 0 beside it. -/
theorem test_tile_mac :
    after (.mac 1 3 0x04012000) (mac 0x04012000 tileRegs)
      (fun m => let r := (m.eng 1 3).nxt; r.a.get {} 0 == { val := 19640 } && r.a.get {} 1 == {}) := by decide +kernel

/-- With 0x8 in place of the first left code: 16,621, poisoned (R34, R37). -/
theorem test_tile_hole :
    after (.mac 1 3 0x04012000) (mac 0x04012000 { tileRegs with
        t := [(0, ⟨0x7298, false⟩), (1, ⟨0x0007000400060005, false⟩)], p0 := { fourEntries with flags := 1 } })
      (fun m => (m.eng 1 3).nxt.a.get {} 0 == { val := 16621, poi := true }) := by decide +kernel

/-- Bundle 5: CVT V0, A0, P0, qbase 0 gives 0x3F66_2800 in lane 0 and +0 in lane 1. -/
theorem test_tile_cvt :
    after (.cvt 1 3 0x10000000) (mac 0x10000000 { tileRegs with a := [(0, { val := 19640 })] })
      (fun m => let r := (m.eng 1 3).nxt; r.v.get 0 0 == 0x3F662800 && r.v.get 0 1 == 0) := by decide +kernel

/-- Bundle 6: QNT T4, V0, grid 0, nearest, pack 00 gives 0x7. -/
theorem test_tile_qnt :
    after (.qnt 1 3 0x61000000) (vec 0x61000000 { v := [(0, 0x3F662800)] })
      (fun m => (m.eng 1 3).nxt.t.get {} 4 == ⟨7, false⟩) := by decide +kernel

/-- Bundle 7: STT T4, S5 stores the word at 0x0600. -/
theorem test_tile_stt :
    after (.stt 1 3 0x0D140000) (mov 0x0D140000 { t := [(4, ⟨7, false⟩)], s := [(5, 0x600)] })
      (fun m => memBytes m.mem (spadBase 1 + 0x600) 8 == [7, 0, 0, 0, 0, 0, 0, 0]) := by decide +kernel

/-! ### Cores, cold frames, queues (chapters 3, 8, 15) -/

/-- R54: 68 and 69 do not exist; engine 5 fails with spare 64 failed too, so 65 carries 5 and 66 carries 9. -/
theorem test_graft : ((graftOf [5, 9, 64]).getD 5 0, (graftOf [5, 9, 64]).getD 9 0, (graftOf [5, 9, 64]).getD 6 0) = (65, 66, 6) := by
  decide +kernel

/-- Grant 3 of the worked example under R319. -/
theorem test_grant :
    grantBus { up with links := { up.links with grants := [(3, some ⟨0x010040000000, 30, 0x8C0000000, false⟩)] } } 0x010040123000 64
      = some 0x8C0123000 := by decide +kernel

/-- The positions of the worked example under R179 with explicit release, step by step: WRITE, READ, MARK, RELEASE. -/
theorem test_positions :
    let p1 := Positions.accept {} 24
    let p2 := p1.pop false 8
    let p3 := p2.release
    let p4 := p3.pop false 8
    let p5 := p4.rewind
    let p7 := (p5.pop false 8).release
    let p8 := p7.pop false 8
    [p1, p2, p3, p4, p5, p7, p8].map (fun p => (p.wp, p.rp, p.mp, p.lp)) =
      [(24, 0, 0, 0), (24, 8, 0, 0), (24, 8, 8, 8), (24, 16, 8, 8), (24, 8, 8, 8), (24, 16, 16, 16), (24, 24, 16, 16)] := by decide +kernel

/-! ### Joining at exhaustion (chapter 7) -/

/-- A resident sequence of pool 3. -/
def kvSeq (attr slot len : Nat) (pages : List Nat) : Seq := { state := 1, pool := 3, attr := attr, slot := slot, len := len, pages := pages }

/-- The pool, its sequences and its staged list. -/
def kvFull : Machine.Module :=
  { up with kv :=
    { pools := [(3, { live := true, log2Page := 16, log2Token := 8, seqSlots := 8, numPages := 16, maxPages := 64, coldSlots := 32
                      staged := [⟨3, 2, 0, 24⟩, ⟨8, 2, 0, 1⟩, ⟨12, 0, 0, 0⟩, ⟨20, 1, 7, 1700⟩] })]
      seqs := [(3, kvSeq 5 0 1000 [0, 1, 2, 3]), (8, kvSeq 2 1 1536 [4, 5, 6, 7, 8, 9]), (12, kvSeq 6 2 700 [10, 11, 12])
               , (31, kvSeq 1 3 400 [13, 14])] } }

/-- Its length table: A and D, in slots 0 and 1. -/
theorem test_kv_table : (kvDecide kvFull 3).table = [(3, 0, 1000, 24), (20, 1, 0, 1700)] := by decide +kernel

/-- Its outcomes in staged order, E last: PLACED, PREEMPTED_SWAPPED, RELEASED, PLACED, PREEMPTED_SWAPPED (Table 7-5), with E's pages out to
cold slots 0 and 1 and B's to 2 to 7. -/
theorem test_kv_outcomes : (kvDecide kvFull 3).outcomes.map (fun o => (o.seq, o.code)) = [(3, 0), (8, 8), (12, 1), (20, 0), (31, 8)] ∧
    (kvDecide kvFull 3).outs = [(13, 0), (14, 1), (4, 2), (5, 3), (6, 4), (7, 5), (8, 6), (9, 7)] ∧
    ((kvDecide kvFull 3).seqs.get {} 20).pages.length = 7 := by decide +kernel

/-! ### Loop 2 (chapter 10) -/

/-- Loop 2 at its second sample. -/
def loop2 : Loop :=
  { state := .ramp, first := false
    cfg := { stages := 1, periodUs := 100, outFormat := 1, outScale := 0x447A0000
             stage := [{ meas := 4, ffIndex := 1, kp := 0x40000000, kit := 0x3F000000, kdt := 0x3E800000, kff := 0x3F800000, imin := 0xBF800000
                         imax := 0x3F800000, umin := 0xC0800000, umax := 0x40800000 }] }
    stage := [{ i := 0, sat := 0, yprev := 0x3F800000 }] }

/-- What its snapshot holds. -/
def snap2 : Snapshot := { us := 100, signals := [(4, { val := 0x3F880000 })], policy := [(0, 0x40000000), (1, 0x3F000000)] }

/-- e = 0.1875, i = 0.09375, p = 0.375, d = −0.015625, v = 0.953125. -/
theorem test_loop_law : let o := stageLaw loop2 snap2 0 0x3FA00000
    [o.e, o.i, o.p, o.d, o.v, o.u] = [0x3E400000, 0x3DC00000, 0x3EC00000, 0xBC800000, 0x3F740000, 0x3F740000] := by decide +kernel

/-- The command bytes are B9 03. -/
theorem test_loop_command : cmdBytes loop2.cfg 0x3F740000 = [0xB9, 0x03] := by decide +kernel

/-! ### Closing window 7 (chapter 11) -/

/-- Mailbox 3, last accepted 0x14, with the request of the worked example. -/
def closing : Machine.Module :=
  let m := up.setMbx 3 { state := 3, seq := 0x14, last := some 0x14, minor := some 0
                         req := Tab.putRow 0 [] 0 ([5, 3, 8, 0, 0x42, 0, 0, 0, 7, 0, 0, 0, 0, 0, 0, 0]) }
  (ctxUp 5 3 m).setWindow 7 { state := 1, ctx := 5 }

/-- CTRL reads 0x3014_0000, and after the GO write 0x9015_0000. -/
theorem test_mailbox_go : ctrlWord (closing.mbx 3) = 0x30140000 ∧
    after (.go .pcie 3 0x15) { mod := closing } (fun m => ctrlWord (m.mbx 3) = 0x90150000) := by decide +kernel

/-- Gragor takes it: 0xA015_0000. -/
theorem test_mailbox_take :
    after .mailboxTake { mod := goWrite .pcie 3 0x15 closing } (fun m => ctrlWord (m.mbx 3) = 0xA0150000) := by decide +kernel

/-- RESPONSE is 05 03 01 00 00 00 15 00, CTRL 0x3015_0000. -/
theorem test_mailbox_response :
    after (.windowClose 3) { mod := beginCommand 3 (goWrite .pcie 3 0x15 closing) }
      (fun m => (m.mbx 3).resp.take 8 == [5, 3, 1, 0, 0, 0, 0x15, 0] && ctrlWord (m.mbx 3) = 0x30150000) := by decide +kernel

/-- The completion's record: 05 03 00 00 03 00 42 00, then 07 and zeros. -/
theorem test_mailbox_completion :
    after (.windowClosed 7) { mod := { (closing.setWindow 7 { state := 2, ctx := 5 }) with
        host := { closing.host with deferred := [⟨3, 0x42, 0x0305, 7⟩] } } }
      (fun m => eventBytes (m.host.ring.get {} 0) == [5, 3, 0, 0, 3, 0, 0x42, 0, 7] ++ zs 23) := by decide +kernel

/-! ### Health, the checker, attestation, pins (chapters 17, 18, 20, 21) -/

/-- D = 9,472 ppm, and v_req = 865 mV at −12 °C, 845 mV above 0 °C (R356, R357). -/
theorem test_plan :
    let m := fun (t : Int) => { up with health :=
      { up.health with plans := [(5, { cls := 2, base := some [1024000], d := 9472 })], temps := [(sensorOf up 5, some t)] } }
    ageD [1024000] [1033700] = 9472 ∧ vReq (m (-12)) 5 = 865 ∧ vReq (m 1) 5 = 845 := by decide +kernel

/-- Lanes 0 and 1 of pair 17 (R379). -/
theorem test_checker : let c : Checker := { absTol := 0x3A83126F, relTol := 0x3C000000 }
    lanesAgree c 0x3FA00000 0x3FA10000 = true ∧ lanesAgree c 0x3F000000 0x3F080000 = false := by decide +kernel

/-- LMS_NEXT 1,023: signing with leaf 1,023 leaves 1,024 (R410). -/
theorem test_leaf :
    after (.attestComplete true) (st (fun m => { m with boot := { m.boot with attests := [zs 32], lmsNext := 1023 } }))
      (fun m => m.boot.lmsNext = 1024) := by decide +kernel

/-- The TAP's IDCODE of a CY-2048M at stepping B0 (R430). -/
theorem test_idcode : idcode { up with host := { up.host with stepping := 0xB0 } } = 0x22048B47 := by decide +kernel

/-! ### The queue of commands -/

/-- The command at the front runs, and the rest waits. -/
theorem test_step : step { st id with pending := [.perstRelease, .perstAssert] } = .next { st id with pending := [.perstAssert] } := rfl

/-- At network rate 0 a TSC cycle takes 5 ns (R283). -/
theorem test_tick : ∃ t, step (st id) = .next t ∧ t.mod.time.now = 5 * 2 ^ 63 := ⟨_, rfl, by decide +kernel⟩

end Sys2Proof.Tests
end

