-- ==== Sys2Proof/Tests/WitnessBoot.lean ====
section
/-!
SUPPORT. Witnesses: for every statement that has hypotheses, concrete states and operands that meet them together, clause by clause.
-/

namespace Sys2Proof.Tests

set_option Elab.async false

open Sys2Proof Sys2Proof.Machine

/-- The recovery block as given; 2 s have passed. -/
def bRcv (f : Recovery → Recovery) (m : Machine.Module) : Machine.Module :=
  { m with rcv := f m.rcv, time := { m.time with elapsed := 2000 * msUnit } }

/-- The boot record as given. -/
def bBoot (f : Boot → Boot) (m : Machine.Module) : Machine.Module := { m with boot := f m.boot }

/-- GRAGOR_STATE as given. -/
def bState (k : Nat) (m : Machine.Module) : Machine.Module := { m with host := { m.host with gState := k } }

/-- A deferred command of client 2, and a grant of 4 MiB. -/
def bWait (code key : Nat) (m : Machine.Module) : Machine.Module :=
  { m with
    host := { m.host with deferred := [⟨2, 0x55, code, key⟩] }
    links := { m.links with grants := [(0, some ⟨0x10000000000, 22, 0x80000000, false⟩)] } }

/-- A queued job of context 5. -/
def bJob : Job :=
  { id := 9, ctx := 5, client := 2, tag := 0x77, prio := 3, mask := 2, runLimit := 0, args := [], slots := [], state := .queued
    admitted := 1, seed := 0, step := 4, mode := 0, acceptedAt := 0, firstDispatch := none, dispatchedAt := 0, dispatched := 0
    preemptions := 0, retries := 0, inherited := 0, sliceFor := none, sliceStart := 0, parkAt := none, granted := false
    inPlace := [], saves := [], loaded := false }

/-- Contexts 5 and 6 exist, of groups 3 and 4; jobs 9 and 10 are queued on them; runners 0 and 1 are up; a route leads to module 2. -/
def bJobs (m : Machine.Module) : Machine.Module :=
  let m := ((ctxUp 5 2 m).updCtx 5 (fun v => { v with group := 3 }))
  let m := ((ctxUp 6 2 m).updCtx 6 (fun v => { v with group := 4 }))
  let m := (m.setRunner 0 { state := 2 }).setRunner 1 { state := 2 }
  { m with
    sched := { m.sched with jobs := [bJob, { bJob with id := 10, ctx := 6 }] }
    links := { m.links with route := [0xFF, 0xFF, 1] }
    time := { m.time with elapsed := 2000 * msUnit } }

/-- The header of an image whose fields are in order. -/
def bHeader (ps : List Byte) : List Byte :=
  pk [(4, 0x4B5A4657), (2, 1), (2, 0), (4, 4096), (4, 3), (4, 9), (4, 0)] ++ ps

/-- What the straps and the boot ROM's self-tests say. -/
def bIn (src fail : Nat) : BootInput := { profile := 6, bootSrc := src, moduleId := 21, fail := fail }

/-- What a step answers. -/
def bNext (s : State) : State := match step s with | .next t => t | _ => {}

/-- SAFE_CLEAR waits, and would succeed. -/
def bClear (p : List Instr) : State :=
  { cmd 14 0x0B06 (zs 8) (fun m => { m with safety := { m.safety with selfTest := 1 } }) with pending := p }

/-- SVN_COMMIT waits, and would raise FW_SVN. -/
def bCommit (p : List Instr) : State :=
  { cmd 0 0x0D05 (zs 8) (bBoot (fun v => { v with svn := 9, rpmbSvn := 7 })) with pending := p }

/-- An attestation completes. -/
def bAttest (p : List Instr) : State :=
  { st (fun m => bWait 0x0D07 0 (bBoot (fun v => { v with attests := [zs 32], lmsNext := 5 }) m)) with
    pending := p }

/-- It answers a next state with one report, of leaf 5. -/
theorem bAttest_next : step (bAttest [.attestComplete true]) = .next (bNext (bAttest [.attestComplete true])) := rfl

theorem bAttest_reports : (bNext (bAttest [.attestComplete true])).mod.boot.reports =
    [⟨1, report (bBoot (fun v => { v with attests := [] }) (bAttest [.attestComplete true]).mod) 5 (zs 32)⟩] := rfl

/-- Obligations.RecoveryCommands: its clauses in order. -/
theorem witness_RecoveryCommands :
    (∃ (m : Machine.Module) (g : Nat) (j : Job), j ∈ m.sched.jobs ∧ (∀ i ∈ m.sched.jobs, i.id = j.id → i = j) ∧
    ((m.ctx j.ctx).group ≠ g ∨ (m.ctx j.ctx).state = 0)) ∧
    (∃ (s : State) (r : Nat) (origin : Nat) (g : Nat) (seq : Nat), s.mod.host.gState = 3 ∧ r < 4 ∧
    (s.mod.runner r).state = 2 ∧ origin < 16 ∧ 0 < g ∧ g < 65536 ∧ (origin, seq) ∈ s.mod.rcv.seen) ∧
    (∃ (s : State) (r : Nat) (origin : Nat) (g : Nat) (seq : Nat), s.mod.host.gState = 3 ∧ r < 4 ∧
    (s.mod.runner r).state = 2 ∧ origin < 16 ∧ 0 < g ∧ g < 65536 ∧ (origin, seq) ∉ s.mod.rcv.seen) ∧
    (∃ (s : State) (replied : BitVec 16) (g : Nat) (t0 : Nat) (rest : List (Nat × Nat)) (d : Deferred), s.mod.host.gState = 3
    ∧ s.mod.rcv.aborts = (g, t0) :: rest ∧ Outstanding s.mod 0x0C06 g d ∧ (∀ i ∈ bitsOf replied, i ∈ routed s.mod) ∧
    ((∀ i ∈ routed s.mod, replied.getLsbD i = true) ∨ t0 + 10 * msUnit ≤ s.mod.time.elapsed)) ∧
    (∃ (s : State) (n : _) (ps : List Byte), Asked s.mod n 0x0C00 ps ∧ ps.length = 8 ∧ leAt ps 0 1 ≤ 1 ∧
    zeros ((ps.drop 1).take 7) = true) ∧
    (∃ (s : State) (n : _) (ps : List Byte), Asked s.mod n 0x0C01 ps ∧ ps.length = 8 ∧ leAt ps 0 1 ≤ 1 ∧ leAt ps 1 1 ≤ 1 ∧
    1 ≤ leAt ps 2 2 ∧ leAt ps 2 2 ≤ 1000 ∧ zeros ((ps.drop 4).take 4) = true ∧ (n = 0 ∨ n = 14)) ∧
    (∃ (s : State) (n : _) (ps : List Byte), Asked s.mod n 0x0C02 ps ∧ ps.length = 8 ∧ leAt ps 0 1 < 64 ∧
    zeros ((ps.drop 1).take 7) = true ∧ (s.mod.ctx (leAt ps 0 1)).state ≠ 0 ∧
    (n = 14 ∨ (s.mod.ctx (leAt ps 0 1)).client = n) ∧ recovering s.mod false (leAt ps 0 1) = true) ∧
    (∃ (s : State) (n : _) (ps : List Byte), Asked s.mod n 0x0C03 ps ∧ ps.length = 8 ∧ leAt ps 0 1 < 4 ∧
    zeros ((ps.drop 1).take 7) = true ∧ (n = 0 ∨ n = 14) ∧ recovering s.mod true (leAt ps 0 1) = true) ∧
    (∃ (s : State) (n : _) (ps : List Byte), Asked s.mod n 0x0C02 ps ∧ Room s.mod n ∧ ps.length = 8 ∧ (leAt ps 0 1) < 64 ∧
     zeros ((ps.drop 1).take 7) = true ∧ (s.mod.ctx (leAt ps 0 1)).state ≠ 0 ∧
    (n = 14 ∨ (s.mod.ctx (leAt ps 0 1)).client = n) ∧ recovering s.mod false (leAt ps 0 1) = false ∧
     s.mod.rcv.ctxWaiting.getLsbD (leAt ps 0 1) = false) ∧
    (∃ (s : State) (n : _) (ps : List Byte), Asked s.mod n 0x0C02 ps ∧ Room s.mod n ∧ ps.length = 8 ∧ (leAt ps 0 1) < 64 ∧
     zeros ((ps.drop 1).take 7) = true ∧ (s.mod.ctx (leAt ps 0 1)).state ≠ 0 ∧
    (n = 14 ∨ (s.mod.ctx (leAt ps 0 1)).client = n) ∧ recovering s.mod false (leAt ps 0 1) = false ∧
     s.mod.rcv.ctxWaiting.getLsbD (leAt ps 0 1) = true) ∧
    (∃ (s : State) (n : _) (ps : List Byte), Asked s.mod n 0x0C03 ps ∧ Room s.mod n ∧ ps.length = 8 ∧ (leAt ps 0 1) < 4 ∧
     zeros ((ps.drop 1).take 7) = true ∧ (n = 0 ∨ n = 14) ∧ recovering s.mod true (leAt ps 0 1) = false ∧
     s.mod.rcv.partWaiting.getLsbD (leAt ps 0 1) = false) ∧
    (∃ (s : State) (n : _) (ps : List Byte), Asked s.mod n 0x0C03 ps ∧ Room s.mod n ∧ ps.length = 8 ∧ (leAt ps 0 1) < 4 ∧
     zeros ((ps.drop 1).take 7) = true ∧ (n = 0 ∨ n = 14) ∧ recovering s.mod true (leAt ps 0 1) = false ∧
     s.mod.rcv.partWaiting.getLsbD (leAt ps 0 1) = true) ∧
    (∃ (s : State) (n : _) (ps : List Byte) (c : Capture), Asked s.mod n 0x0C04 ps ∧ ps.length = 8 ∧
    s.mod.rcv.captures.find? (fun c => c.id == leAt ps 0 4) = some c ∧ leAt ps 4 4 < c.bytes.length) ∧
    (∃ (s : State) (n : _) (ps : List Byte), Asked s.mod n 0x0C05 ps ∧ ps.length = 8 ∧ (leAt ps 0 1) < 64 ∧ leAt ps 1 1 ≤ 1 ∧
     zeros ((ps.drop 4).take 4) = true ∧ (n = 14 ∨ (s.mod.ctx (leAt ps 0 1)).client = n) ∧
    (s.mod.ctx (leAt ps 0 1)).state = 1) ∧
    (∃ (s : State) (n : _) (ps : List Byte), Asked s.mod n 0x0C06 ps ∧ Room s.mod n ∧ ps.length = 8 ∧ leAt ps 0 2 ≠ 0 ∧
    zeros ((ps.drop 2).take 6) = true ∧ (n = 0 ∨ n = 14)) :=
  ⟨⟨bJobs up, 3, (bJobs up).sched.jobs.getLastD bJob, by decide +kernel⟩,
   ⟨st (fun m => bRcv (fun v => { v with seen := [(2, 7)] }) (bJobs m)), 0, 2, 3, 7, by decide +kernel⟩,
   ⟨st bJobs, 0, 2, 3, 7, by decide +kernel⟩,
   ⟨st (fun m => bRcv (fun v => { v with aborts := [(3, 1999 * msUnit), (4, 0)] }) (bWait 0x0C06 3 (bJobs m))), 4, 3, 1999 *
    msUnit, [(4, 0)], ⟨2, 0x55, 0x0C06, 3⟩, by decide +kernel⟩,
   ⟨cmd 2 0x0C00 (1 :: zs 7) (bRcv (fun v => { v with partRst := some ⟨2, 3, none, 0, [], 0⟩, partWaiting := 9, ctr := [(0, 5)] })),
    2, 1 :: zs 7, by decide +kernel⟩,
   ⟨cmd 14 0x0C01 (pk [(1, 1), (1, 0), (2, 1000), (4, 0)]) id, 14, pk [(1, 1), (1, 0), (2, 1000), (4, 0)], by decide +kernel⟩,
   ⟨cmd 2 0x0C02 (5 :: zs 7) (fun m => bRcv (fun v => { v with ctxRst := some ⟨5, 3, 0, false, none⟩ }) (ctxUp 5 2 m)), 2, 5
    :: zs 7, by decide +kernel⟩,
   ⟨cmd 0 0x0C03 (3 :: zs 7) (bRcv (fun v => { v with partRst := some ⟨3, 3, none, 0, [], 0⟩ })), 0, 3 :: zs 7,
    by decide +kernel⟩,
   ⟨cmd 2 0x0C02 (5 :: zs 7) (ctxUp 5 2), 2, 5 :: zs 7, by decide +kernel⟩,
   ⟨cmd 2 0x0C02 (5 :: zs 7) (fun m => bRcv (fun v => { v with ctxWaiting := 0x20, ctxCause := [(5, 4)] }) (ctxUp 5 2 m)), 2,
    5 :: zs 7, by decide +kernel⟩,
   ⟨cmd 0 0x0C03 (3 :: zs 7) id, 0, 3 :: zs 7, by decide +kernel⟩,
   ⟨cmd 14 0x0C03 (3 :: zs 7) (bRcv (fun v => { v with partWaiting := 8, partCause := [(3, 4)] })), 14, 3 :: zs 7,
    by decide +kernel⟩,
   ⟨cmd 2 0x0C04 (pk [(4, 7), (4, 3)]) (bRcv (fun v => { v with captures := [⟨8, []⟩, ⟨7, [1, 2, 3, 4, 5]⟩] })), 2, pk [(4,
    7), (4, 3)], ⟨7, [1, 2, 3, 4, 5]⟩, by decide +kernel⟩,
   ⟨cmd 2 0x0C05 (pk [(1, 5), (1, 1), (2, 0xFFFF), (4, 0)]) (ctxUp 5 2), 2, pk [(1, 5), (1, 1), (2, 0xFFFF), (4, 0)],
    by decide +kernel⟩,
   ⟨cmd 0 0x0C06 (pk [(2, 3), (6, 0)]) bJobs, 0, pk [(2, 3), (6, 0)], by decide +kernel⟩⟩

/-- Obligations.GragorRestarts: its clauses in order. -/
theorem witness_GragorRestarts :
    (∃ (s : State) (n : _) (ps : List Byte), Asked s.mod n 0x0C07 ps ∧ ps.length = 8 ∧ zeros ps = true ∧ (n = 0 ∨ n = 14)) ∧
    (∃ (s : State), s.mod.host.gState = 3) ∧
    (∃ (s : State), domOn s.mod 37 = true ∧ 2 ≤ s.mod.host.gState ∧ s.mod.host.gState ≤ 4) ∧
    (∃ (s : State), domOn s.mod 37 = true ∧ (s.mod.host.gState < 2 ∨ 4 < s.mod.host.gState)) ∧
    (∃ (s : State), domOn s.mod 37 = false) ∧
    (∃ (m : Machine.Module), m.safety.gtPending ≠ []) ∧
    (∃ (n : _), n < 15) ∧
    (∃ (m : Machine.Module) (c : Nat) (e : Nat), c < nCores m ∧ e < 64) ∧
    (∃ (c : Nat), c < 32) ∧
    (∃ (a : Nat), storeBase ≤ a ∧ a < storeBase + 4 * quadBytes) :=
  ⟨⟨cmd 0 0x0C07 (zs 8) id, 0, zs 8, by decide +kernel⟩,
   ⟨st id, by decide +kernel⟩,
   ⟨st (bState 4), by decide +kernel⟩,
   ⟨st (bState 5), by decide +kernel⟩,
   ⟨st (fun m => { m with power := { m.power with on := 0 } }), by decide +kernel⟩,
   ⟨{ up with safety := { up.safety with gtPending := [1] } }, by decide +kernel⟩,
   ⟨2, by decide +kernel⟩,
   ⟨up, 2, 3, by decide +kernel⟩,
   ⟨2, by decide +kernel⟩,
   ⟨storeBase, by decide +kernel⟩⟩

/-- Obligations.BootCommands: its clauses in order. -/
theorem witness_BootCommands :
    (∃ (bs : List Byte), formatOk (part bs 0 256) = false) ∧
    (∃ (bs : List Byte), formatOk (part bs 0 256) = true) ∧
    (∃ (r : Nat) (s : Nat), r < 2 ^ 384 ∧ s < 2 ^ 384) ∧
    (∃ (key : List Byte) (sig : List Byte), (beField key 0 4 ≠ 2 ∨ beField key 4 4 ≠ 6 ∨ beField key 8 4 ≠ 3 ∨ beField sig 0 4
    ≠ 1 ∨ 1024 ≤ beField sig 4 4 ∨ beField sig 8 4 ≠ 3 ∨ beField sig 2188 4 ≠ 6 ∨ beField sig 2512 4 ≠ 6 ∨ beField sig 2516 4
    ≠ 3 ∨ 1024 ≤ beField sig 2568 4 ∨ beField sig 2572 4 ≠ 3 ∨ beField sig 4752 4 ≠ 6)) ∧
    (∃ (n : Nat), n < 2 ^ 20) ∧
    (∃ (n : Nat), n < 2 ^ 20) ∧
    (∃ (n : Nat), n < 2 ^ 20) ∧
    (∃ (n : Nat) (k : Nat), n < 2 ^ 20 ∧ k / 1024 = n / 1024) ∧
    (∃ (i : _) (k : Nat), i ≤ 1 ∧ k < 156) ∧
    (∃ (i : _), i ≤ 1) ∧
    (∃ (s : State) (n : _) (ps : List Byte), Asked s.mod n 0x0D00 ps ∧ ps.length = 8 ∧ zeros ps = true) :=
  ⟨⟨zs 256, by decide +kernel⟩,
   ⟨bHeader [], by decide +kernel⟩,
   ⟨3, 4, by decide +kernel⟩,
   ⟨[], [], by decide +kernel⟩,
   ⟨1048575, by decide +kernel⟩,
   ⟨1048575, by decide +kernel⟩,
   ⟨1048575, by decide +kernel⟩,
   ⟨1048575, 1048574, by decide +kernel⟩,
   ⟨0, 155, by decide +kernel⟩,
   ⟨1, by decide +kernel⟩,
   ⟨cmd 2 0x0D00 (zs 8) (bBoot (fun v => { v with reason := 3, svn := 7, bootCount := 9 })), 2, zs 8, by decide +kernel⟩⟩

/-- Obligations.BootCommands: its clauses in order, from number 12. -/
theorem witness_BootCommands2 :
    (∃ (s : State) (n : _) (ps : List Byte), Asked s.mod n 0x0D01 ps ∧ 1 ≤ (leAt ps 4 2) ∧ (leAt ps 4 2) ≤ 496 ∧
    ps.length = 8 + (leAt ps 4 2) ∧ (leAt ps 0 4) + (leAt ps 4 2) ≤ 1578292 ∧ zeros ((ps.drop 6).take 2) = true ∧
     (s.mod.host.gState = 3 → n = 0 ∨ n = 14)) ∧
    (∃ (s : State) (n : _) (ps : List Byte), Asked s.mod n 0x0D02 ps ∧ ps.length = 16 ∧ (leAt ps 8 4) ≤ 1578292 ∧
    zeros ((ps.drop 12).take 4) = true ∧ s.mod.links.pcieSpeed ≠ 0 ∧ s.mod.host.gState = 3 ∧ (n = 0 ∨ n = 14) ∧
    coldCovered s.mod (leAt ps 0 8) (leAt ps 8 4) = true ∧ Room s.mod n) ∧
    (∃ (s : State) (n : _) (ok : Bool) (ps : List Byte), Asked s.mod n 0x0D02 ps ∧ ps.length = 16 ∧ (leAt ps 8 4) ≤ 1578292 ∧
     zeros ((ps.drop 12).take 4) = true ∧ s.mod.links.pcieSpeed ≠ 0 ∧ s.mod.host.gState ≠ 3 ∧ ok = true) ∧
    (∃ (s : State) (n : _) (ok : Bool) (ps : List Byte), Asked s.mod n 0x0D02 ps ∧ ps.length = 16 ∧ (leAt ps 8 4) ≤ 1578292 ∧
     zeros ((ps.drop 12).take 4) = true ∧ s.mod.links.pcieSpeed ≠ 0 ∧ s.mod.host.gState ≠ 3 ∧ ok = false) ∧
    (∃ (a : Nat) (n : Nat) (c : Nat × Nat), c ∈ pieces a n ∧ 1 ≤ n) ∧
    (∃ (s : State) (ok : Bool) (src : Nat) (k : Nat) (t0 : Nat) (rest : List (Nat × Nat × Nat)) (d : Deferred),
    s.mod.host.gState = 3 ∧ s.mod.boot.fetching = (src, k, t0) :: rest ∧ Outstanding s.mod 0x0D02 0 d ∧ (ok = true ∧
     s.mod.links.pcieSpeed ≠ 0 ∧ coldCovered s.mod src k = true)) ∧
    (∃ (s : State) (ok : Bool) (src : Nat) (k : Nat) (t0 : Nat) (rest : List (Nat × Nat × Nat)) (d : Deferred),
    s.mod.host.gState = 3 ∧ s.mod.boot.fetching = (src, k, t0) :: rest ∧ Outstanding s.mod 0x0D02 0 d ∧ (¬ (ok = true ∧
     s.mod.links.pcieSpeed ≠ 0 ∧ coldCovered s.mod src k = true))) ∧
    (∃ (s : State) (n : _) (ps : List Byte), Asked s.mod n 0x0D03 ps ∧ ps.length = 8 ∧ zeros ps = true ∧
    s.mod.host.gState ≠ 3) ∧
    (∃ (s : State) (n : _) (ps : List Byte), Asked s.mod n 0x0D04 ps ∧ ps.length = 8 ∧ zeros ps = true ∧ (n = 0 ∨ n = 14) ∧
     s.mod.boot.installing = false ∧ Room s.mod n) ∧
    (∃ (s : State) (d : Deferred), s.mod.host.gState = 3 ∧ s.mod.boot.installing = true ∧ Outstanding s.mod 0x0D04 0 d) ∧
    (∃ (s : State) (n : _) (ps : List Byte), Asked s.mod n 0x0D05 ps ∧ ps.length = 8 ∧ zeros ps = true ∧ (n = 0 ∨ n = 14) ∧
     s.mod.boot.installing = false ∧ s.mod.boot.rpmbSvn = s.mod.boot.svn) :=
  ⟨⟨cmd 14 0x0D01 (pk [(4, 1578290), (2, 2), (2, 0), (1, 0xAA), (1, 0xBB)]) id, 14, pk [(4, 1578290), (2, 2), (2, 0), (1,
    0xAA), (1, 0xBB)], by decide +kernel⟩,
   ⟨cmd 0 0x0D02 (pk [(8, 0x10000000000), (4, 64), (4, 0)]) (bWait 0 0), 0, pk [(8, 0x10000000000), (4, 64), (4, 0)],
    by decide +kernel⟩,
   ⟨cmd 2 0x0D02 (pk [(8, 0x80000000), (4, 64), (4, 0)]) (bState 1), 2, true, pk [(8, 0x80000000), (4, 64), (4, 0)],
    by decide +kernel⟩,
   ⟨cmd 2 0x0D02 (pk [(8, 0x80000000), (4, 64), (4, 0)]) (bState 1), 2, false, pk [(8, 0x80000000), (4, 64), (4, 0)],
    by decide +kernel⟩,
   ⟨5, 8192, (5, 4091), by decide +kernel⟩,
   ⟨st (fun m => bWait 0x0D02 0 (bBoot (fun v => { v with fetching := [(0x10000000000, 64, 7)] }) m)), true, 0x10000000000,
    64, 7, [], ⟨2, 0x55, 0x0D02, 0⟩, by decide +kernel⟩,
   ⟨st (fun m => bWait 0x0D02 0 (bBoot (fun v => { v with fetching := [(0x10000000000, 64, 7)] }) m)), false, 0x10000000000,
    64, 7, [], ⟨2, 0x55, 0x0D02, 0⟩, by decide +kernel⟩,
   ⟨cmd 2 0x0D03 (zs 8) (bState 1), 2, zs 8, by decide +kernel⟩,
   ⟨cmd 14 0x0D04 (zs 8) id, 14, zs 8, by decide +kernel⟩,
   ⟨st (fun m => bWait 0x0D04 0 (bBoot (fun v => { v with installing := true }) m)), ⟨2, 0x55, 0x0D04, 0⟩, by decide +kernel⟩,
   ⟨cmd 0 0x0D05 (zs 8) (bBoot (fun v => { v with svn := 7, rpmbSvn := 7 })), 0, zs 8, by decide +kernel⟩⟩

/-- Obligations.BootCommands: its clauses in order, from number 23. -/
theorem witness_BootCommands3 :
    (∃ (s : State) (n : _) (ok : Bool) (ps : List Byte), Asked s.mod n 0x0D05 ps ∧ ps.length = 8 ∧ zeros ps = true ∧
    (n = 0 ∨ n = 14) ∧ s.mod.boot.installing = false ∧ s.mod.boot.rpmbSvn ≠ s.mod.boot.svn ∧ ok = true) ∧
    (∃ (s : State) (n : _) (ok : Bool) (ps : List Byte), Asked s.mod n 0x0D05 ps ∧ ps.length = 8 ∧ zeros ps = true ∧
    (n = 0 ∨ n = 14) ∧ s.mod.boot.installing = false ∧ s.mod.boot.rpmbSvn ≠ s.mod.boot.svn ∧ ok = false) ∧
    (∃ (s : State) (n : _) (ps : List Byte), Asked s.mod n 0x0D06 ps ∧ ps.length = 8 ∧ leAt ps 0 1 ≤ 1 ∧
    zeros ((ps.drop 1).take 3) = true ∧ leAt ps 4 4 < 5428) ∧
    (∃ (s : State) (n : _) (ps : List Byte), Asked s.mod n 0x0D07 ps ∧ ps.length = 32 ∧ s.mod.boot.lmsNext < 2 ^ 20 ∧
    Room s.mod n) ∧
    (∃ (s : State) (nonce : List Byte) (rest : List (List Byte)) (d : Deferred), s.mod.host.gState = 3 ∧
    s.mod.boot.attests = nonce :: rest ∧ nonce.length = 32 ∧ Outstanding s.mod 0x0D07 0 d ∧ 2 ^ 20 ≤ (s.mod.boot.lmsNext)) ∧
    (∃ (s : State) (ok : Bool) (nonce : List Byte) (rest : List (List Byte)) (d : Deferred), s.mod.host.gState = 3 ∧
     s.mod.boot.attests = nonce :: rest ∧ nonce.length = 32 ∧ Outstanding s.mod 0x0D07 0 d ∧ (s.mod.boot.lmsNext) < 2 ^ 20 ∧
     ok = false) ∧
    (∃ (s : State) (ok : Bool) (nonce : List Byte) (rest : List (List Byte)) (d : Deferred), s.mod.host.gState = 3 ∧
     s.mod.boot.attests = nonce :: rest ∧ nonce.length = 32 ∧ Outstanding s.mod 0x0D07 0 d ∧ (s.mod.boot.lmsNext) < 2 ^ 20 ∧
     ok = true) ∧
    (∃ (s : State) (n : _) (ps : List Byte) (r : Report), Asked s.mod n 0x0D08 ps ∧ ps.length = 8 ∧ leAt ps 4 4 < 5428 ∧
     s.mod.boot.reports.find? (fun r => r.id == leAt ps 0 4) = some r) ∧
    (∃ (s : State) (n : _) (ps : List Byte), Asked s.mod n 0x0D09 ps ∧ ps.length = 8 ∧ zeros ps = true) ∧
    (∃ (s : State) (n : _) (ok : Bool) (ps : List Byte), Asked s.mod n 0x0D0A ps ∧ ps.length = 8 ∧ zeros ps = true ∧
    (n = 0 ∨ n = 14) ∧ ok = true) ∧
    (∃ (s : State) (n : _) (ok : Bool) (ps : List Byte), Asked s.mod n 0x0D0A ps ∧ ps.length = 8 ∧ zeros ps = true ∧
    (n = 0 ∨ n = 14) ∧ ok = false) :=
  ⟨⟨cmd 0 0x0D05 (zs 8) (bBoot (fun v => { v with svn := 9, rpmbSvn := 7 })), 0, true, zs 8, by decide +kernel⟩,
   ⟨cmd 0 0x0D05 (zs 8) (bBoot (fun v => { v with svn := 9, rpmbSvn := 7 })), 0, false, zs 8, by decide +kernel⟩,
   ⟨cmd 2 0x0D06 (pk [(1, 1), (3, 0), (4, 5427)]) id, 2, pk [(1, 1), (3, 0), (4, 5427)], by decide +kernel⟩,
   ⟨cmd 2 0x0D07 (zs 32) (bBoot (fun v => { v with lmsNext := 1048575 })), 2, zs 32, by decide +kernel⟩,
   ⟨st (fun m => bWait 0x0D07 0 (bBoot (fun v => { v with attests := [zs 32], lmsNext := 1048576 }) m)), zs 32, [], ⟨2, 0x55,
    0x0D07, 0⟩, by decide +kernel⟩,
   ⟨st (fun m => bWait 0x0D07 0 (bBoot (fun v => { v with attests := [zs 32], lmsNext := 1048575 }) m)), false, zs 32, [],
    ⟨2, 0x55, 0x0D07, 0⟩, by decide +kernel⟩,
   ⟨st (fun m => bWait 0x0D07 0 (bBoot (fun v => { v with attests := [zs 32], lmsNext := 1048575 }) m)), true, zs 32, [], ⟨2,
    0x55, 0x0D07, 0⟩, by decide +kernel⟩,
   ⟨cmd 2 0x0D08 (pk [(4, 1), (4, 2)]) (bBoot (fun v => { v with reports := [⟨1, [1, 2, 3]⟩] })), 2, pk [(4, 1), (4, 2)], ⟨1,
    [1, 2, 3]⟩, by decide +kernel⟩,
   ⟨cmd 2 0x0D09 (zs 8) id, 2, zs 8, by decide +kernel⟩,
   ⟨cmd 0 0x0D0A (zs 8) id, 0, true, zs 8, by decide +kernel⟩,
   ⟨cmd 14 0x0D0A (zs 8) id, 14, false, zs 8, by decide +kernel⟩⟩

/-- Obligations.StartUpAndPins: its clauses in order. -/
theorem witness_StartUpAndPins :
    (∃ (b : BootInput) (m : Machine.Module), m.boot.installing = false ∧ (b.bootSrc % 4) = 3) ∧
    (∃ (b : BootInput) (m : Machine.Module), m.boot.installing = false ∧ (b.bootSrc % 4) ≠ 3 ∧ b.fail = 8) ∧
    (∃ (b : BootInput) (m : Machine.Module), m.boot.installing = false ∧ (b.bootSrc % 4) ≠ 3 ∧ b.fail = 7) ∧
    (∃ (b : BootInput) (m : Machine.Module), m.boot.installing = false ∧ (b.bootSrc % 4) ≠ 3 ∧ b.fail ≠ 8 ∧ b.fail ≠ 7 ∧
     (b.bootSrc % 4) ≠ 0) ∧
    (∃ (b : BootInput) (m : Machine.Module), m.boot.installing = false ∧ (b.bootSrc % 4) ≠ 3 ∧ b.fail ≠ 8 ∧ b.fail ≠ 7 ∧
     (b.bootSrc % 4) = 0 ∧ (m.boot.emmc = [] ∨ b.fail = 1)) ∧
    (∃ (b : BootInput) (m : Machine.Module), m.boot.installing = false ∧ (b.bootSrc % 4) ≠ 3 ∧ b.fail ≠ 8 ∧ b.fail ≠ 7 ∧
     (b.bootSrc % 4) = 0 ∧ m.boot.emmc ≠ [] ∧ b.fail ≠ 1) ∧
    (∃ (b : BootInput) (m : Machine.Module), m.boot.installing = false ∧ (b.bootSrc % 4) ≠ 3 ∧ b.fail ≠ 8 ∧ b.fail ≠ 7) ∧
    (∃ (m : Machine.Module), m.boot.installing = false) ∧
    (∃ (s : State), s.mod.power.input = false) ∧
    (∃ (s : State), s.mod.power.input = true ∧ (s.mod.host.gState = 0 ∧ s.mod.power.locked = false ∧
    s.mod.power.resetLow = false ∧ s.mod.power.tripped = false ∧ s.mod.power.state = 0)) ∧
    (∃ (s : State), s.mod.power.input = true ∧
    (s.mod.power.tripped = true ∨ s.mod.power.locked = true ∨ s.mod.power.resetLow = true ∨ s.mod.power.state ≠ 0)) ∧
    (∃ (s : State), s.mod.power.input = true) ∧
    (∃ (s : State) (us : Nat), s.mod.power.input = true ∧ s.mod.power.resetLow = false ∧ 10 ≤ us) ∧
    (∃ (s : State) (us : Nat), s.mod.power.input = true ∧ s.mod.power.resetLow = false ∧ us < 2) :=
  ⟨⟨bIn 7 0, up, by decide +kernel⟩,
   ⟨bIn 1 8, up, by decide +kernel⟩,
   ⟨bIn 0 7, up, by decide +kernel⟩,
   ⟨bIn 2 0, up, by decide +kernel⟩,
   ⟨bIn 0 0, up, by decide +kernel⟩,
   ⟨bIn 0 0, { up with boot := { emmc := zs 300 } }, by decide +kernel⟩,
   ⟨bIn 2 0, up, by decide +kernel⟩,
   ⟨up, by decide +kernel⟩,
   ⟨{ mod := { up with power := { input := false } } }, by decide +kernel⟩,
   ⟨State.reset, by decide +kernel⟩,
   ⟨st id, by decide +kernel⟩,
   ⟨st id, by decide +kernel⟩,
   ⟨st id, 10, by decide +kernel⟩,
   ⟨st id, 1, by decide +kernel⟩⟩

/-- Obligations.StartUpAndPins: its clauses in order, from number 15. -/
theorem witness_StartUpAndPins2 :
    (∃ (s : State), s.mod.power.resetLow = true ∧ s.mod.power.tripped = false) ∧
    (∃ (s : State), s.mod.power.resetLow = true ∧ s.mod.power.tripped = true) ∧
    (∃ (s : State) (us : Nat), s.mod.power.input = true ∧ s.mod.power.resetLow = false ∧ 10 ≤ us ∧
    (s.mod.power.state = 4 ∨ s.mod.power.tripped = true)) ∧
    (∃ (s : State) (us : Nat), s.mod.power.input = true ∧ s.mod.power.resetLow = false ∧ 10 ≤ us ∧
    s.mod.power.tripped = false ∧ s.mod.power.entry = none ∧ s.mod.power.waking = none ∧
    s.mod.power.wakeMask.getLsbD 0 = true ∧ (s.mod.power.state = 2 ∨ s.mod.power.state = 3) ∧
    (s.mod.power.wakeTo = 0 ∨ s.mod.power.wakeTo = 2)) ∧
    (∃ (s : State) (us : Nat), s.mod.power.input = true ∧ s.mod.power.resetLow = false ∧ 10 ≤ us ∧
    s.mod.power.tripped = false ∧ s.mod.power.state ≠ 4 ∧
    (s.mod.power.entry = some 4 ∨ ((s.mod.power.entry = some 2 ∨ s.mod.power.entry = some 3) ∧
    s.mod.power.wakeMask.getLsbD 0 = true))) ∧
    (∃ (s : State) (us : Nat), s.mod.power.input = true ∧ s.mod.power.resetLow = false ∧ us < 2) ∧
    (∃ (s : State) (t0 : Nat), s.mod.power.offAt = some t0 ∧ s.mod.power.state = 4 ∧ t0 + 10 * msUnit ≤ s.mod.time.elapsed) ∧
    (∃ (s : State) (ir : Nat) (i : Nat), s.mod.power.input = true ∧ s.mod.power.resetLow = false ∧ domOn s.mod 49 = true ∧
    (i = (if ir ≤ 1 then ir else 0))) ∧
    (∃ (s : State) (ir : Nat), s.mod.power.input = true ∧ s.mod.power.resetLow = true ∧ ir ≤ 5) ∧
    (∃ (m : Machine.Module), m.host.part ≠ Config.part1536 ∧ m.host.stepping ≠ 0xA1) ∧
    (∃ (m : Machine.Module), m.host.part ≠ Config.part1536 ∧ m.host.stepping = 0xA1) ∧
    (∃ (m : Machine.Module), m.host.part = Config.part1536 ∧ m.host.stepping ≠ 0xA1) ∧
    (∃ (s : State), (s.mod.host.gState = 2 ∨ s.mod.host.gState = 4)) :=
  ⟨⟨st (fun m => { m with power := { m.power with resetLow := true }, time := { m.time with elapsed := 2000 * msUnit } }),
    by decide +kernel⟩,
   ⟨st (fun m => { m with power := { m.power with resetLow := true, tripped := true }, time := { m.time with elapsed := 2000 * msUnit } }),
    by decide +kernel⟩,
   ⟨st (fun m => { m with power := { m.power with tripped := true, latches := 5 }, time := { m.time with elapsed := 2000 * msUnit } }),
    10, by decide +kernel⟩,
   ⟨st (fun m => { m with power := { m.power with state := 3, wakeMask := 1, wakeTo := 2 }, time := { m.time with elapsed := 2000 * msUnit } }),
    10, by decide +kernel⟩,
   ⟨st (fun m => { m with power := { m.power with entry := some 2, wakeMask := 1 }, time := { m.time with elapsed := 2000 * msUnit } }),
    10, by decide +kernel⟩,
   ⟨st id, 1, by decide +kernel⟩,
   ⟨st (fun m => { m with power := { m.power with state := 4, offAt := some 0, latches := 5 }, time := { m.time with elapsed := 2000 * msUnit } }),
    0, by decide +kernel⟩,
   ⟨st id, 3, 0, by decide +kernel⟩,
   ⟨st (fun m => { m with power := { m.power with resetLow := true }, time := { m.time with elapsed := 2000 * msUnit } }), 5,
    by decide +kernel⟩,
   ⟨up, by decide +kernel⟩,
   ⟨{ up with host := { up.host with stepping := 0xA1 } }, by decide +kernel⟩,
   ⟨{ up with host := { up.host with part := Config.part1536 } }, by decide +kernel⟩,
   ⟨st (bState 4), by decide +kernel⟩⟩

/-- Obligations.StepRunsFront: its clauses in order. -/
theorem witness_StepRunsFront :
    (∃ (s : State) (i : Instr) (rest : List Instr), s.pending = i :: rest) ∧
    (∃ (s : State), s.pending = [] ∧ (∀ p < 2, (s.mod.txPort p).frame = none) ∧ s.mod.power.locked = false) ∧
    (∃ (s : State), s.pending = [] ∧ (∀ p < 2, (s.mod.txPort p).frame = none) ∧ s.mod.power.locked = true ∧
    s.mod.time.now < timeMod - 6 * nsUnit ∧ |s.mod.time.rate| ≤ 140737488) :=
  ⟨⟨{ st id with pending := [.perstRelease, .perstAssert] }, .perstRelease, [.perstAssert], by decide +kernel⟩,
   ⟨{ mod := { up with power := {} } }, by decide +kernel⟩,
   ⟨st id, by decide +kernel⟩⟩

/-- Obligations.QueueIsFifo: its clauses in order. -/
theorem witness_QueueIsFifo :
    ∃ (k : Nat) (s : State) (t : State), core.run k s = .next t :=
  ⟨1, { st id with pending := [.perstRelease, .perstAssert] }, { st (fun m => { m with links := { m.links with perst := false } }) with pending := [.perstAssert] },
    rfl⟩

/-- Obligations.StepsKeepMemoryForm: its clauses in order. -/
theorem witness_StepsKeepMemoryForm :
    ∃ (s : State) (t : State), s.mod.memOk ∧ step s = .next t :=
  ⟨{ st id with pending := [.perstRelease] }, st (fun m => { m with links := { m.links with perst := false } }), ⟨rfl, rfl,
    rfl⟩, rfl⟩

/-- Obligations.SafeFaultHeld: its clauses in order. -/
theorem witness_SafeFaultHeld :
    ∃ (s : State) (t : State), step s = .next t ∧ s.mod.safety.asserted = true ∧ t.mod.safety.asserted = false :=
  ⟨bClear [.safeClear 14], bNext (bClear [.safeClear 14]), rfl, by decide +kernel, by decide +kernel⟩

/-- Obligations.SecurityCountersNeverFall: its clauses in order. -/
theorem witness_SecurityCountersNeverFall :
    (∃ (s : State) (t : State), step s = .next t ∧ s.mod.boot.rpmbSvn ≠ t.mod.boot.rpmbSvn) ∧
    (∃ (s : State) (t : State) (r : Report), step s = .next t ∧ r ∈ t.mod.boot.reports ∧ r ∉ s.mod.boot.reports) ∧
    (∃ (s : State) (t : State), step s = .next t) :=
  ⟨⟨bCommit [.svnCommit 0 true], bNext (bCommit [.svnCommit 0 true]), rfl, by decide +kernel⟩,
   ⟨bAttest [.attestComplete true], bNext (bAttest [.attestComplete true]), ⟨1, report (bBoot (fun v => { v with attests := [] })
    (bAttest [.attestComplete true]).mod) 5 (zs 32)⟩, bAttest_next, bAttest_reports ▸ List.mem_cons_self, (nofun)⟩,
   ⟨{ st id with pending := [.perstRelease] }, st (fun m => { m with links := { m.links with perst := false } }), rfl⟩⟩

end Sys2Proof.Tests
end

