-- ==== Sys2Proof/Tests/WitnessEngine.lean ====
section
/-!
SUPPORT. Witnesses: for every statement that has hypotheses, concrete states and operands that meet them together, clause by clause.
-/

namespace Sys2Proof.Tests

set_option Elab.async false

open Sys2Proof Sys2Proof.Machine

/-- Obligations.ScalarWords: its clauses in order. -/
theorem witness_ScalarWords :
    (∃ (s : State) (c : Fin 32) (e : Fin 64) (w : W32), (Instr.saddi c e w).wf = true ∧ ControlReady s.mod c e w) ∧
    (∃ (s : State) (c : Fin 32) (e : Fin 64) (w : W32), (Instr.slui c e w).wf = true ∧ ControlReady s.mod c e w) ∧
    (∃ (s : State) (c : Fin 32) (e : Fin 64) (w : W32), (Instr.sori c e w).wf = true ∧ ControlReady s.mod c e w) ∧
    (∃ (s : State) (c : Fin 32) (e : Fin 64) (w : W32), (Instr.sadd c e w).wf = true ∧ ControlReady s.mod c e w) ∧
    (∃ (s : State) (c : Fin 32) (e : Fin 64) (w : W32), (Instr.ssub c e w).wf = true ∧ ControlReady s.mod c e w) ∧
    (∃ (s : State) (c : Fin 32) (e : Fin 64) (w : W32), (Instr.smul c e w).wf = true ∧ ControlReady s.mod c e w) ∧
    (∃ (s : State) (c : Fin 32) (e : Fin 64) (w : W32), (Instr.sand c e w).wf = true ∧ ControlReady s.mod c e w) ∧
    (∃ (s : State) (c : Fin 32) (e : Fin 64) (w : W32), (Instr.sor c e w).wf = true ∧ ControlReady s.mod c e w) ∧
    (∃ (s : State) (c : Fin 32) (e : Fin 64) (w : W32), (Instr.sxor c e w).wf = true ∧ ControlReady s.mod c e w) ∧
    (∃ (s : State) (c : Fin 32) (e : Fin 64) (w : W32), (Instr.sshl c e w).wf = true ∧ ControlReady s.mod c e w) ∧
    (∃ (s : State) (c : Fin 32) (e : Fin 64) (w : W32), (Instr.sshr c e w).wf = true ∧ ControlReady s.mod c e w) ∧
    (∃ (s : State) (c : Fin 32) (e : Fin 64) (w : W32), (Instr.ssra c e w).wf = true ∧ ControlReady s.mod c e w) :=
  ⟨⟨ctl 0x0D040005 (sc [7, 0xFFFFFFFE, 9, 3]) id, 1, 3, 0x0D040005, by decide +kernel⟩,
   ⟨ctl 0x1100ABCD (sc [7, 0xFFFFFFFE, 9, 3]) id, 1, 3, 0x1100ABCD, by decide +kernel⟩,
   ⟨ctl 0x1504ABCD (sc [7, 0xFFFFFFFE, 9, 3]) id, 1, 3, 0x1504ABCD, by decide +kernel⟩,
   ⟨ctl 0x19048000 (sc [7, 0xFFFFFFFE, 9, 3]) id, 1, 3, 0x19048000, by decide +kernel⟩,
   ⟨ctl 0x1D048000 (sc [7, 0xFFFFFFFE, 9, 3]) id, 1, 3, 0x1D048000, by decide +kernel⟩,
   ⟨ctl 0x21048000 (sc [7, 0xFFFFFFFE, 9, 3]) id, 1, 3, 0x21048000, by decide +kernel⟩,
   ⟨ctl 0x25048000 (sc [7, 0xFFFFFFFE, 9, 3]) id, 1, 3, 0x25048000, by decide +kernel⟩,
   ⟨ctl 0x29048000 (sc [7, 0xFFFFFFFE, 9, 3]) id, 1, 3, 0x29048000, by decide +kernel⟩,
   ⟨ctl 0x2D048000 (sc [7, 0xFFFFFFFE, 9, 3]) id, 1, 3, 0x2D048000, by decide +kernel⟩,
   ⟨ctl 0x31048000 (sc [7, 0xFFFFFFFE, 9, 3]) id, 1, 3, 0x31048000, by decide +kernel⟩,
   ⟨ctl 0x35048000 (sc [7, 0xFFFFFFFE, 9, 3]) id, 1, 3, 0x35048000, by decide +kernel⟩,
   ⟨ctl 0x39048000 (sc [7, 0xFFFFFFFE, 9, 3]) id, 1, 3, 0x39048000, by decide +kernel⟩⟩

/-- Obligations.BranchWords: its clauses in order. -/
theorem witness_BranchWords :
    (∃ (s : State) (c : Fin 32) (e : Fin 64), ControlReady s.mod c e 0) ∧
    (∃ (slot : Slot), slot ≠ .control) ∧
    (∃ (s : State) (c : Fin 32) (e : Fin 64) (w : W32), (Instr.br c e w).wf = true ∧ ControlReady s.mod c e w) ∧
    (∃ (s : State) (c : Fin 32) (e : Fin 64) (w : W32), (Instr.djnz c e w).wf = true ∧ ControlReady s.mod c e w) ∧
    (∃ (s : State) (c : Fin 32) (e : Fin 64), ControlReady s.mod c e 0 ∧
    (s.mod.eng c e).pc.toNat + 1 = (s.mod.core c).bundles ∧
    (∀ sl ∈ [Slot.control, .move, .mac, .vector], opOf (storeWord s.mod c (s.mod.eng c e).pc.toNat sl) = 0)) ∧
    (∃ (i : Instr), i.slotOp ≠ none ∧ i.wf = false) :=
  ⟨⟨ctl 0 {} id, 1, 3, by decide +kernel⟩,
   ⟨.mac, by decide +kernel⟩,
   ⟨ctl 0x05448006 (sc [7, 0xFFFFFFFE, 9, 3]) id, 1, 3, 0x05448006, by decide +kernel⟩,
   ⟨ctl 0x08C00006 (sc [7, 0xFFFFFFFE, 9, 3]) id, 1, 3, 0x08C00006, by decide +kernel⟩,
   ⟨eng { run := .issuing, pc := 2 } 0 0 0 0 (fun m => m.updCore 1 (fun v => { v with bundles := 3 })), 1, 3,
    by decide +kernel⟩,
   ⟨.saddi 0 0 0, by decide +kernel⟩⟩

/-- Obligations.HoldWords: its clauses in order. -/
theorem witness_HoldWords :
    (∃ (s : State) (c : Fin 32) (e : Fin 64) (w : W32), (Instr.syncwait c e w).wf = true ∧ ControlReady s.mod c e w ∧
     (s.mod.eng c e).hold.isSync = false ∧ syncOwned s.mod (((s.mod.core c).ctx).getD 64) ((ctlSa w (s.mod.eng c e).nxt).toNat
    % 65536) = true ∧ ((s.mod.eng c e).nxt.pair (fld w 17 14)) ≤ (s.mod.fab.sync.get 0 ((ctlSa w (s.mod.eng c e).nxt).toNat %
    65536)).toNat) ∧
    (∃ (s : State) (c : Fin 32) (e : Fin 64) (w : W32), (Instr.syncwait c e w).wf = true ∧ ControlReady s.mod c e w ∧
     (s.mod.eng c e).hold.isSync = false ∧ syncOwned s.mod (((s.mod.core c).ctx).getD 64) ((ctlSa w (s.mod.eng c e).nxt).toNat
    % 65536) = true ∧ (s.mod.fab.sync.get 0 ((ctlSa w (s.mod.eng c e).nxt).toNat % 65536)).toNat < ((s.mod.eng c e).nxt.pair
    (fld w 17 14))) ∧
    (∃ (s : State) (c : Fin 32) (e : Fin 64) (w : W32), (Instr.syncwait c e w).wf = true ∧ ControlReady s.mod c e w ∧
     (s.mod.eng c e).hold.isSync = false ∧ syncOwned s.mod (((s.mod.core c).ctx).getD 64) ((ctlSa w (s.mod.eng c e).nxt).toNat
    % 65536) = false) ∧
    (∃ (s : State) (c : Fin 32) (e : Fin 64) (o : _) (t : _) (n : _) (b : _), (s.mod.eng c e).hold = .sync o t n b ∧
     (s.mod.eng c e).run = .issuing ∧ (s.mod.eng c e).fault = none ∧ (b = true ∨ ((s.mod.core c).parkReq = false ∧
    (s.mod.core c).stopReq = false ∧ t ≤ (s.mod.fab.sync.get 0 o).toNat))) ∧
    (∃ (s : State) (c : Fin 32) (e : Fin 64) (w : W32), (Instr.fence c e w).wf = true ∧ ControlReady s.mod c e w ∧
    (s.mod.eng c e).inflight = 0) ∧
    (∃ (s : State) (c : Fin 32) (e : Fin 64) (w : W32), (Instr.fence c e w).wf = true ∧ ControlReady s.mod c e w ∧
    (s.mod.eng c e).inflight ≠ 0) ∧
    (∃ (s : State) (c : Fin 32) (e : Fin 64) (w : W32), (Instr.yield c e w).wf = true ∧ ControlReady s.mod c e w ∧
    (s.mod.core c).parkReq = false) ∧
    (∃ (s : State) (c : Fin 32) (e : Fin 64) (w : W32), (Instr.yield c e w).wf = true ∧ ControlReady s.mod c e w ∧
    (s.mod.core c).parkReq = true) ∧
    (∃ (s : State) (c : Fin 32) (e : Fin 64) (w : W32), (Instr.halt c e w).wf = true ∧ ControlReady s.mod c e w) ∧
    (∃ (s : State) (c : Fin 32) (e : Fin 64), (s.mod.eng c e).run = .halting ∧ anyLeft (s.mod.eng c e) = false ∧
    (s.mod.eng c e).inflight = 0 ∧ (s.mod.eng c e).redOut = false) ∧
    (∃ (s : State) (c : Fin 32) (e : Fin 64), (s.mod.core c).parkReq = true ∧ atYield s.mod c e = true ∧
    (s.mod.eng c e).inflight = 0 ∧ (s.mod.eng c e).redOut = false ∧ (s.mod.eng c e).hold.isPop = false ∧
    (s.mod.eng c e).hold.isPush = false) ∧
    (∃ (s : State) (c : Fin 32) (e : Fin 64) (q : _), (s.mod.core c).parkReq = true ∧ atYield s.mod c e = true ∧
    (s.mod.eng c e).inflight = 0 ∧ (s.mod.eng c e).redOut = false ∧ (s.mod.eng c e).hold = .pop q) ∧
    (∃ (s : State) (c : Fin 32) (e : Fin 64) (q : _), (s.mod.core c).parkReq = true ∧ atYield s.mod c e = true ∧
    (s.mod.eng c e).inflight = 0 ∧ (s.mod.eng c e).redOut = false ∧ (s.mod.eng c e).hold = .push q) :=
  ⟨⟨ctl 0x40008000 (sc [9, 0, 3, 0]) (fun m => { (ctxUp 5 2 m).updCtx 5 (fun v => { v with ranges := [(8, 4)] }) with fab := { sync := [(9, 3)] } }),
    1, 3, 0x40008000, by decide +kernel⟩,
   ⟨ctl 0x40008000 (sc [9, 0, 3, 0]) (fun m => (ctxUp 5 2 m).updCtx 5 (fun v => { v with ranges := [(8, 4)] })), 1, 3,
    0x40008000, by decide +kernel⟩,
   ⟨ctl 0x40008000 (sc [9, 0, 3, 0]) id, 1, 3, 0x40008000, by decide +kernel⟩,
   ⟨eng { run := .issuing, pc := 2, hold := .sync 9 3 0 true } 0 0 0 0x40008000 id, 1, 3, 9, 3, 0, true, by decide +kernel⟩,
   ⟨ctl 0x44000000 {} id, 1, 3, 0x44000000, by decide +kernel⟩,
   ⟨eng { run := .issuing, pc := 2, inflight := 2 } 0 0 0 0x44000000 id, 1, 3, 0x44000000, by decide +kernel⟩,
   ⟨ctl 0x48000000 {} id, 1, 3, 0x48000000, by decide +kernel⟩,
   ⟨ctl 0x48000000 {} (fun m => m.updCore 1 (fun v => { v with parkReq := true })), 1, 3, 0x48000000, by decide +kernel⟩,
   ⟨ctl 0x4C000000 {} id, 1, 3, 0x4C000000, by decide +kernel⟩,
   ⟨eng { run := .halting, pc := 3 } 0 0 0 0x4C000000 id, 1, 3, by decide +kernel⟩,
   ⟨ctl 0x48000000 {} (fun m => m.updCore 1 (fun v => { v with parkReq := true })), 1, 3, by decide +kernel⟩,
   ⟨eng { run := .issuing, pc := 3, bpc := 2, mvLeft := true, hold := .pop 4 } 0 0 0x48000000 0 (fun m => m.updCore 1 (fun v
    => { v with parkReq := true })), 1, 3, 4, by decide +kernel⟩,
   ⟨eng { run := .issuing, pc := 3, bpc := 2, mvLeft := true, hold := .push 4 } 0 0 0x40000000 0 (fun m => m.updCore 1 (fun v
    => { v with parkReq := true })), 1, 3, 4, by decide +kernel⟩⟩

end Sys2Proof.Tests
end

