-- ==== Sys2Proof/Tests/WitnessFabric.lean ====
section
/-!
SUPPORT. Witnesses: for every statement that has hypotheses, concrete states and operands that meet them together, clause by clause.
-/

namespace Sys2Proof.Tests

set_option Elab.async false

open Sys2Proof Sys2Proof.Machine

/-- Context 5 may access sync objects 8 to 11, two scratchpads and the chip store. -/
def fOwner (m : Machine.Module) : Machine.Module :=
  let rs : Tab Region := [(0, { base := 0x1102000000, pages := 128, cloche := 2, ctx := 5, rights := 7 }),
    (1, { base := 0x1000000000, pages := 16, cloche := 2, ctx := 0xFF, rights := 7 }),
    (2, { base := 0x1101000000, pages := 128, cloche := 2, ctx := 5, rights := 3 })]
  let m := (ctxUp 5 2 m).updCtx 5 (fun v => { v with ranges := [(8, 4)] })
  { m with safety := { m.safety with regions := rs, regionsB := rs } }

/-- A mover descriptor of engine 3: two rows of 16 bytes inside the scratchpad of core 1, one row a group. -/
def fJob (f : MoverJob → MoverJob) : MoverJob :=
  f { eng := 3, ctx := 5, pc := 2, off := 64, src := 0x1101000000, dst := 0x1101000400, rowBytes := 16, rows := 2, srcStride := 16
      dstStride := 16, scaleSrc := 0, scaleLines := 0, qBase := 0, groupRows := 1, flags := 0, engMask := 0, sync := 9
      started := true, done := 0, srcAt := 0x1101000000, dstAt := 0x1101000400, srcPeer := none, dstPeer := none, tag := none, wins := [] }

/-- Engine 3 of core 1 issues; the mover of core 1 holds one descriptor. -/
def fMover (f : MoverJob → MoverJob) : State :=
  eng { run := .issuing, pc := 3, inflight := 1 } 0 0 0 0 (fun m => (fOwner m).updCore 1 (fun v => { v with mover := [fJob f] }))

/-- The same, with its first scale line in the chip store poisoned. -/
def wPoisonedScale : State :=
  eng { run := .issuing, pc := 3, inflight := 1 } 0 0 0 0 (fun m =>
    let m := (fOwner m).updCore 1 (fun v => { v with mover := [fJob (fun j =>
      { j with flags := 2, scaleSrc := 0x1000000000, scaleLines := 2, qBase := 2048 })] })
    { m with mem := setPoison m.mem (0x1000000000 / 8) true })

/-- The mover holds one descriptor; module 9 is reached by runner 1, on which context 5 holds credits. -/
def fPeer (f : MoverJob → MoverJob) : State :=
  { (fMover f) with mod := (({ (fMover f).mod with links := { (fMover f).mod.links with route := List.replicate 10 1 } }.setRunner 1
      { state := 2 }).setCredit 1 5 { reserved := 8 }) }

/-- A put of 16 bytes from the scratchpad of core 1 to that of core 2. -/
def fOp (f : ROp → ROp) : ROp :=
  f { id := 4, core := 1, eng := 3, pc := 2, desc := 64, ctx := 5, sid := 0, kind := 0, cls := 0, aop := 0, lsyncOn := true
      loc := 0x100, remote := 0x1102000200, len := 16, lsync := 9, rsync := 8, amount := 3, seq := 0, target := 0x1102000200
      phase := 1, status := 0, window := none, runner := none, peer := none }

/-- Window 7 of context 5: the first 4 KiB of the scratchpad of core 2, for context 5 of this module. -/
def fWindow (f : Window → Window) (m : Machine.Module) : Machine.Module :=
  m.setWindow 7 (f { state := 1, ctx := 5, log2 := 12, base := 0x1102000000, syncBase := 8, syncCount := 4, perms := [⟨0, 5, 0xB⟩] })

/-- A put of 8 bytes that module 9 sends through runner 1, to window 7. -/
def fFrom : PeerOp :=
  { runner := 1, module := 9, context := 6, window := 7, offset := 16, kind := 0, aop := 0, length := 8, rsync := 0, amount := 0
    operand := 0, compare := 0, data := zs 8, poison := [false] }

/-- One operation in flight. -/
def fOps (f : ROp → ROp) (g : Machine.Module → Machine.Module := id) : State :=
  eng { run := .issuing, pc := 3, inflight := 1, opSeq := 1 } 0 0 0 0 (fun m =>
    let m := fWindow id (fOwner m)
    g { m with fab := { m.fab with ops := [fOp f], nextOp := 5 } })

/-- The mover of core 1 writes poisoned words to sync objects 8 and 9. -/
def wPoisonedSync : State :=
  eng { run := .issuing, pc := 3, inflight := 1 } 0 0 0 0 (fun m =>
    bad 0 ((fOwner m).updCore 1 (fun v => { v with mover := [fJob (fun j => { j with dst := 0x1200000040, dstAt := 0x1200000040 })] })))

/-- Module 9 is reached by runner 1, on which context 5 has so many credits. -/
def fRoute (n : Nat) (m : Machine.Module) : Machine.Module :=
  ({ m with links := { m.links with route := List.replicate 10 1 } }.setRunner 1 { state := 2 }).setCredit 1 5 { reserved := n }

/-- Obligations.MoverDescriptors: its clauses in order. -/
theorem witness_MoverDescriptors :
    (∃ (s : State) (c : Fin 32) (j : MoverJob) (rest : List MoverJob) (a : _) (b : _) (ka : _) (kb : _) (wa : _) (wb : _),
    (s.mod.core c).mover = j :: rest ∧ j.started = false ∧ j.srcPeer = none ∧ j.dstPeer = none ∧
    moverCheck c j (List.range j.rows) (List.range (groupsOf j)) s.mod = .ok ∧
    resolveSide c j true s.mod = .ok (.here a ka wa) ∧ resolveSide c j false s.mod = .ok (.here b kb wb) ∧
    moverBlocked s.mod c ({ j with started := true, since := s.mod.time.elapsed, srcAt := a, dstAt := b, wins := (wb.toList ++ (wa.toList ++ j.wins)) })
    = false) ∧
    (∃ (s : State) (c : Fin 32) (j : MoverJob) (rest : List MoverJob) (st : _), (s.mod.core c).mover = j :: rest ∧
    j.started = false ∧ ((fun (s : State) (c : Fin 32) (j : MoverJob) => j.eng < 64 ∧ (s.mod.core c).ctx = some j.ctx ∧
     (s.mod.eng c j.eng).run ≠ .off ∧ (s.mod.eng c j.eng).fault = none) s c j) ∧
    sideStatus c j true (List.range j.rows) s.mod = st ∧ st ≠ 0) ∧
    (∃ (s : State) (c : Fin 32) (j : MoverJob) (rest : List MoverJob), (s.mod.core c).mover = j :: rest ∧ j.started = true ∧
     j.done = groupsOf j ∧ j.lost = false ∧ j.wins = [] ∧ j.tag = none ∧ j.eng < 64 ∧ j.flags.getLsbD 0 = true) ∧
    (∃ (s : State) (c : Fin 32) (j : MoverJob) (rest : List MoverJob), (s.mod.core c).mover = j :: rest ∧ j.started = true ∧
     j.done = groupsOf j ∧ j.lost = false ∧ j.wins = [] ∧ j.tag = none ∧ j.eng < 64 ∧ j.flags.getLsbD 0 = false ∧
     j.flags.getLsbD 2 = true) ∧
    (∃ (s : State) (c : Fin 32) (j : MoverJob) (rest : List MoverJob), (s.mod.core c).mover = j :: rest ∧ j.started = true ∧
     j.done = groupsOf j ∧ j.lost = false ∧ j.wins = [] ∧ j.tag = none ∧ j.eng < 64 ∧ j.flags.getLsbD 0 = false ∧
     j.flags.getLsbD 2 = false) ∧
    (∃ (s : State) (c : Fin 32) (j : MoverJob) (rest : List MoverJob), (s.mod.core c).mover = j :: rest ∧ j.started = true ∧
     j.done = groupsOf j ∧ j.lost = false) ∧
    (∃ (s : State) (c : Fin 32) (j : MoverJob) (rest : List MoverJob), (s.mod.core c).mover = j :: rest ∧ j.started = true ∧
     j.done < groupsOf j ∧ j.lost = false ∧ j.srcPeer = none ∧ j.dstPeer = none ∧ moverBlocked s.mod c j = false ∧
    moverCheck c j (groupRows j) [j.done] s.mod = .ok ∧
    ((if j.flags.getLsbD 1 then fabRead (scaleAddr j j.done) 64 s.mod else (s.mod, [])).2.any Prod.snd = false) ∧
    ((writeRows j [] ((groupRows j).zipIdx.map (fun p => (p.2, p.1))) (if j.flags.getLsbD 1 then writeScale c j (if
    j.flags.getLsbD 1 then fabRead (scaleAddr j j.done) 64 s.mod else (s.mod, [])).2 (if j.flags.getLsbD 1 then fabRead
    (scaleAddr j j.done) 64 s.mod else (s.mod, [])).1 else s.mod)).2 = false) ∧ j.flags.getLsbD 0 = false) ∧
    (∃ (s : State) (c : Fin 32) (j : MoverJob) (rest : List MoverJob), (s.mod.core c).mover = j :: rest ∧ j.started = true ∧
     j.done < groupsOf j ∧ j.lost = false ∧ j.srcPeer = none ∧ j.dstPeer = none ∧ moverBlocked s.mod c j = false ∧
    moverCheck c j (groupRows j) [j.done] s.mod = .ok ∧
    ((if j.flags.getLsbD 1 then fabRead (scaleAddr j j.done) 64 s.mod else (s.mod, [])).2.any Prod.snd = false) ∧
    ((writeRows j [] ((groupRows j).zipIdx.map (fun p => (p.2, p.1))) (if j.flags.getLsbD 1 then writeScale c j (if
    j.flags.getLsbD 1 then fabRead (scaleAddr j j.done) 64 s.mod else (s.mod, [])).2 (if j.flags.getLsbD 1 then fabRead
    (scaleAddr j j.done) 64 s.mod else (s.mod, [])).1 else s.mod)).2 = false) ∧ j.flags.getLsbD 0 = true ∧
    j.done + 1 < groupsOf j) ∧
    (∃ (s : State) (c : Fin 32) (j : MoverJob) (rest : List MoverJob), (s.mod.core c).mover = j :: rest ∧ j.started = true ∧
     j.done < groupsOf j ∧ j.lost = false ∧ j.srcPeer = none ∧ j.dstPeer = none ∧ moverBlocked s.mod c j = false ∧
    moverCheck c j (groupRows j) [j.done] s.mod = .ok ∧
    ((if j.flags.getLsbD 1 then fabRead (scaleAddr j j.done) 64 s.mod else (s.mod, [])).2.any Prod.snd = false) ∧
    ((writeRows j [] ((groupRows j).zipIdx.map (fun p => (p.2, p.1))) (if j.flags.getLsbD 1 then writeScale c j (if
    j.flags.getLsbD 1 then fabRead (scaleAddr j j.done) 64 s.mod else (s.mod, [])).2 (if j.flags.getLsbD 1 then fabRead
    (scaleAddr j j.done) 64 s.mod else (s.mod, [])).1 else s.mod)).2 = false) ∧ j.flags.getLsbD 0 = true ∧
    j.done + 1 = groupsOf j) ∧
    (∃ (s : State) (c : Fin 32) (j : MoverJob) (rest : List MoverJob), (s.mod.core c).mover = j :: rest ∧ j.started = true ∧
     j.done < groupsOf j ∧ j.lost = false ∧ j.srcPeer = none ∧ j.dstPeer = none ∧ moverBlocked s.mod c j = false ∧
    moverCheck c j (groupRows j) [j.done] s.mod = .ok ∧ ((fun (s : State) (c : Fin 32) (j : MoverJob) => j.eng < 64 ∧
     (s.mod.core c).ctx = some j.ctx ∧ (s.mod.eng c j.eng).run ≠ .off ∧ (s.mod.eng c j.eng).fault = none) s c j) ∧
    ((if j.flags.getLsbD 1 then fabRead (scaleAddr j j.done) 64 s.mod else (s.mod, [])).2.any Prod.snd = true)) ∧
    (∃ (s : State) (c : Fin 32) (j : MoverJob) (rest : List MoverJob), (s.mod.core c).mover = j :: rest ∧ j.started = true ∧
     j.done < groupsOf j ∧ j.lost = false ∧ j.srcPeer = none ∧ j.dstPeer = none ∧ moverBlocked s.mod c j = false ∧
    moverCheck c j (groupRows j) [j.done] s.mod = .ok ∧ ((fun (s : State) (c : Fin 32) (j : MoverJob) => j.eng < 64 ∧
     (s.mod.core c).ctx = some j.ctx ∧ (s.mod.eng c j.eng).run ≠ .off ∧ (s.mod.eng c j.eng).fault = none) s c j) ∧
    ((if j.flags.getLsbD 1 then fabRead (scaleAddr j j.done) 64 s.mod else (s.mod, [])).2.any Prod.snd = false) ∧
    ((writeRows j [] ((groupRows j).zipIdx.map (fun p => (p.2, p.1))) (if j.flags.getLsbD 1 then writeScale c j (if
    j.flags.getLsbD 1 then fabRead (scaleAddr j j.done) 64 s.mod else (s.mod, [])).2 (if j.flags.getLsbD 1 then fabRead
    (scaleAddr j j.done) 64 s.mod else (s.mod, [])).1 else s.mod)).2 = true)) ∧
    (∃ (j : MoverJob), j.srcPeer = none) ∧
    (∃ (s : State) (c : Fin 32) (j : MoverJob) (rest : List MoverJob) (status : _) (r : Nat) (id : _), (s.mod.core c).mover =
    j :: rest ∧ j.started = true ∧ j.done + 1 = groupsOf j ∧ j.lost = false ∧ moverRunner j = some r ∧ j.tag = some id ∧
     allSent s.mod r j.ctx id = true ∧ moverBlocked s.mod c j = false ∧ moverCheck c j (groupRows j) [j.done] s.mod = .ok ∧
     status = 0 ∧ j.srcPeer = none ∧ j.dstPeer = some r ∧ j.flags.getLsbD 1 = false ∧ j.flags.getLsbD 0 = false) ∧
    (∃ (s : State) (c : Fin 32) (j : MoverJob) (rest : List MoverJob) (status : _) (r : Nat) (id : _), (s.mod.core c).mover =
    j :: rest ∧ j.started = true ∧ j.done + 1 = groupsOf j ∧ j.lost = false ∧ moverRunner j = some r ∧ j.tag = some id ∧
     allSent s.mod r j.ctx id = true ∧ moverBlocked s.mod c j = false ∧ moverCheck c j (groupRows j) [j.done] s.mod = .ok ∧
     ((fun (s : State) (c : Fin 32) (j : MoverJob) => j.eng < 64 ∧ (s.mod.core c).ctx = some j.ctx ∧
    (s.mod.eng c j.eng).run ≠ .off ∧ (s.mod.eng c j.eng).fault = none) s c j) ∧ 1 ≤ status ∧ status ≤ 0xC) ∧
    (∃ (m : Module) (j : MoverJob) (r : Nat) (n : _), j.srcPeer = none ∧ (j.srcAt + r * j.srcStride) % 8 = 0 ∧
    (j.dstAt + r * j.dstStride) % 8 = 0 ∧ j.rowBytes % 8 = 0 ∧ (∃ p q, placeOf m (j.srcAt + r * j.srcStride) = .spad p ∧
     placeOf m (j.dstAt + r * j.dstStride) = .spad q) ∧
    overlaps (j.srcAt + r * j.srcStride) j.rowBytes (j.dstAt + r * j.dstStride) j.rowBytes = false ∧ n < j.rowBytes / 8) :=
  ⟨⟨fMover (fun j => { j with started := false }), 1, fJob (fun j => { j with started := false }), [], 0x1101000000,
    0x1101000400, 0x2141, 0x2141, none, none, by decide +kernel⟩,
   ⟨fMover (fun j => { j with started := false, src := 0x2000 }), 1, fJob (fun j => { j with started := false, src := 0x2000 }),
    [], 1, by decide +kernel⟩,
   ⟨fMover (fun j => { j with done := 2, flags := 1 }), 1, fJob (fun j => { j with done := 2, flags := 1 }), [],
    by decide +kernel⟩,
   ⟨fMover (fun j => { j with done := 2, flags := 4 }), 1, fJob (fun j => { j with done := 2, flags := 4 }), [],
    by decide +kernel⟩,
   ⟨fMover (fun j => { j with done := 2 }), 1, fJob (fun j => { j with done := 2 }), [], by decide +kernel⟩,
   ⟨fMover (fun j => { j with done := 2, wins := [7, 7] }), 1, fJob (fun j => { j with done := 2, wins := [7, 7] }), [],
    by decide +kernel⟩,
   ⟨fMover (fun j => { j with done := 0 }), 1, fJob (fun j => { j with done := 0 }), [], by decide +kernel⟩,
   ⟨fMover (fun j => { j with flags := 1 }), 1, fJob (fun j => { j with flags := 1 }), [], by decide +kernel⟩,
   ⟨fMover (fun j => { j with done := 1, flags := 1 }), 1, fJob (fun j => { j with done := 1, flags := 1 }), [],
    by decide +kernel⟩,
   ⟨wPoisonedScale, 1, fJob (fun j => { j with flags := 2, scaleSrc := 0x1000000000, scaleLines := 2, qBase := 2048 }), [],
    by decide +kernel⟩,
   ⟨wPoisonedSync, 1, fJob (fun j => { j with dst := 0x1200000040, dstAt := 0x1200000040 }), [], by decide +kernel⟩,
   ⟨fJob id, by decide +kernel⟩,
   ⟨fPeer (fun j => { j with done := 1, dst := 0x8009070000000000, dstPeer := some 1, tag := some 4 }), 1, fJob (fun j => { j with done := 1, dst := 0x8009070000000000, dstPeer := some 1, tag := some 4 }),
    [], 0, 1, 4, by decide +kernel⟩,
   ⟨fPeer (fun j => { j with done := 1, dst := 0x8009070000000000, dstPeer := some 1, tag := some 4 }), 1, fJob (fun j => { j with done := 1, dst := 0x8009070000000000, dstPeer := some 1, tag := some 4 }),
    [], 5, 1, 4, by decide +kernel⟩,
   ⟨up, fJob id, 1, 1, rfl, rfl, rfl, rfl, ⟨1, 1, by decide +kernel⟩, by decide +kernel, by decide +kernel⟩⟩

/-- Obligations.RemoteOperations: its clauses in order. -/
theorem witness_RemoteOperations :
    (∃ (o : ROp) (m : Module), o.kind ≠ 3 ∧ targetOn m o.target o.len = false) ∧
    (∃ (o : ROp), o.kind = 3) ∧
    (∃ (o : ROp) (m : Module) (i : Nat), (o.kind = 0 ∨ o.kind = 4) ∧ o.peer = none ∧ targetOn m o.target o.len = true ∧
     placeOf m o.target ≠ .sync ∧ o.target % 8 = 0 ∧ o.loc % 8 = 0 ∧ o.len % 8 = 0 ∧ o.core < nCores m ∧
    o.loc + o.len ≤ 0x80000 ∧ overlaps (local_ o.core o.loc) o.len o.target o.len = false ∧ i < o.len / 8) ∧
    (∃ (o : ROp) (m : Module), (o.kind = 0 ∨ o.kind = 4) ∧ o.peer = none ∧ targetOn m o.target o.len = true ∧
    placeOf m o.target ≠ .sync ∧ o.target % 8 = 0 ∧ o.loc % 8 = 0 ∧ o.len % 8 = 0 ∧ o.core < nCores m ∧
    o.loc + o.len ≤ 0x80000 ∧ overlaps (local_ o.core o.loc) o.len o.target o.len = false ∧ o.kind = 0) ∧
    (∃ (o : ROp) (m : Module), (o.kind = 0 ∨ o.kind = 4) ∧ o.peer = none ∧ targetOn m o.target o.len = true ∧
    placeOf m o.target ≠ .sync ∧ o.target % 8 = 0 ∧ o.loc % 8 = 0 ∧ o.len % 8 = 0 ∧ o.core < nCores m ∧
    o.loc + o.len ≤ 0x80000 ∧ overlaps (local_ o.core o.loc) o.len o.target o.len = false ∧ o.kind = 4) ∧
    (∃ (o : ROp) (m : Module), (o.kind = 0 ∨ o.kind = 4) ∧ o.peer = none ∧ targetOn m o.target o.len = true ∧
    placeOf m o.target ≠ .sync ∧ o.target % 8 = 0 ∧ o.loc % 8 = 0 ∧ o.len % 8 = 0 ∧ o.core < nCores m ∧
    o.loc + o.len ≤ 0x80000 ∧ overlaps (local_ o.core o.loc) o.len o.target o.len = false) ∧
    (∃ (o : ROp) (m : Module), o.kind = 1 ∧ o.peer = none ∧ targetOn m o.target o.len = true ∧ placeOf m o.target ≠ .sync ∧
     placeOf m o.target ≠ .sq ∧ o.target % 8 = 0 ∧ o.loc % 8 = 0 ∧ o.len % 8 = 0 ∧
    overlaps (local_ o.core o.loc) o.len o.target o.len = false) ∧
    (∃ (o : ROp) (m : Module) (i : Nat), o.kind = 1 ∧ o.peer = none ∧ targetOn m o.target o.len = true ∧
    placeOf m o.target ≠ .sync ∧ placeOf m o.target ≠ .sq ∧ o.target % 8 = 0 ∧ o.loc % 8 = 0 ∧ o.len % 8 = 0 ∧
    overlaps (local_ o.core o.loc) o.len o.target o.len = false ∧ i < o.len / 8) ∧
    (∃ (a : Nat) (m : Module) (n : Nat) (k : Nat), placeOf m a = .sync ∧ a % 8 = 0 ∧ k < n / 8) ∧
    (∃ (a : Nat) (m : Module) (ws : List (W64 × Bool)) (k : Nat) (d : W64) (p : Bool), placeOf m a = .sync ∧ a % 8 = 0 ∧
     ws[k]? = some (d, p) ∧ p = true) ∧
    (∃ (a : Nat) (m : Module) (ws : List (W64 × Bool)) (k : Nat) (d : W64) (p : Bool), placeOf m a = .sync ∧ a % 8 = 0 ∧
     ws[k]? = some (d, p)) ∧
    (∃ (target : Nat) (aop : Nat) (m : Module) (p : Bool) (q : Bool), placeOf m target = .sync ∧ target % 8 = 0 ∧
    (p = true ∨ (aop = 2 ∧ q = true))) ∧
    (∃ (target : Nat) (m : Module), placeOf m target = .sync ∧ target % 8 = 0) ∧
    (∃ (target : Nat) (m : Module), placeOf m target ≠ .sync ∧ placeOf m target ≠ .sq ∧ target % 8 = 0 ∧
    wordPoison m.mem (target / 8) = false) ∧
    (∃ (target : Nat) (aop : Nat) (m : Module) (p : Bool) (q : Bool), placeOf m target ≠ .sync ∧ placeOf m target ≠ .sq ∧
     target % 8 = 0 ∧ (p = true ∨ (aop = 2 ∧ q = true) ∨ wordPoison m.mem (target / 8) = true)) ∧
    (∃ (s : State) (id : _) (o : ROp), findOp s.mod id = some o ∧ o.phase = 1 ∧ offModule s.mod o = false ∧
    opBlocked s.mod o = false ∧ mayEffect s.mod o = true ∧ o.peer = none) ∧
    (∃ (s : State) (id : _) (o : ROp), findOp s.mod id = some o ∧ o.phase = 1 ∧ offModule s.mod o = false ∧
    opBlocked s.mod o = false ∧ mayEffect s.mod o = true ∧ o.peer.isSome = true) ∧
    (∃ (s : State) (id : _) (o : ROp), findOp s.mod id = some o ∧ o.phase = 1 ∧ offModule s.mod o = true ∧
    opBlocked s.mod o = false ∧ mayEffect s.mod o = true ∧ routeTo s.mod (refModule o.remote) = none) ∧
    (∃ (s : State) (id : _) (o : ROp) (r : Nat), findOp s.mod id = some o ∧ o.phase = 1 ∧ offModule s.mod o = true ∧
    opBlocked s.mod o = false ∧ mayEffect s.mod o = true ∧ routeTo s.mod (refModule o.remote) = some r ∧
    (s.mod.credit r o.ctx).reserved = 0) ∧
    (∃ (s : State) (id : _) (o : ROp) (r : Nat), findOp s.mod id = some o ∧ o.phase = 1 ∧ offModule s.mod o = true ∧
    opBlocked s.mod o = false ∧ mayEffect s.mod o = true ∧ routeTo s.mod (refModule o.remote) = some r ∧
    0 < (s.mod.credit r o.ctx).reserved) ∧
    (∃ (s : State) (id : _) (o : ROp), findOp s.mod id = some o ∧ o.phase = 2 ∧ o.peer = none ∧ offModule s.mod o = false ∧
     opBlocked s.mod o = false ∧ o.core < 32 ∧ o.eng < 64) ∧
    (∃ (s : State) (id : _) (o : ROp), findOp s.mod id = some o ∧ o.phase = 2 ∧ o.peer = none ∧ offModule s.mod o = true ∧
     opBlocked s.mod o = false ∧ allLeft s.mod o = true ∧ o.core < 32 ∧ o.eng < 64) ∧
    (∃ (s : State) (id : _) (o : ROp), findOp s.mod id = some o ∧ o.phase = 3 ∧ o.peer = none ∧ opBlocked s.mod o = false ∧
     o.core < 32 ∧ o.eng < 64 ∧ (s.mod.core o.core).ctx = some o.ctx ∧ (s.mod.eng o.core o.eng).run ≠ .off ∧
    (s.mod.eng o.core o.eng).fault = none) ∧
    (∃ (s : State) (r : Nat) (k : Nat), r < 4 ∧ k < 64 ∧ 0 < (s.mod.credit r k).inUse) ∧
    (∃ (s : State) (r : Nat), r < 4 ∧ 0 < (s.mod.ownCredit r).inUse) ∧
    (∃ (obj : Nat) (i : Nat), i ≠ obj) ∧
    (∃ (e : _), e < 64) :=
  ⟨⟨fOp (fun o => { o with len := 16 }), { up with power := {} }, by decide +kernel⟩,
   ⟨fOp (fun o => { o with kind := 3 }), by decide +kernel⟩,
   ⟨fOp (fun o => { o with kind := 4 }), up, 1, by decide +kernel⟩,
   ⟨fOp (fun o => { o with kind := 0 }), up, by decide +kernel⟩,
   ⟨fOp (fun o => { o with kind := 4 }), up, by decide +kernel⟩,
   ⟨fOp (fun o => { o with kind := 0 }), up, by decide +kernel⟩,
   ⟨fOp (fun o => { o with kind := 1 }), up, by decide +kernel⟩,
   ⟨fOp (fun o => { o with kind := 1 }), { up with mem := memPut {} 0x1102000200 [1, 2, 3, 4, 5, 6, 7, 8, 9] }, 1,
    by decide +kernel⟩,
   ⟨0x1200000048, up, 16, 1, by decide +kernel⟩,
   ⟨0x1200000048, up, [(5, true)], 0, 5, true, by decide +kernel⟩,
   ⟨0x1200000048, up, [(5, false), (6, true)], 1, 6, true, by decide +kernel⟩,
   ⟨0x1200000048, 2, up, false, true, by decide +kernel⟩,
   ⟨0x1200000048, up, by decide +kernel⟩,
   ⟨0x1102000200, up, by decide +kernel⟩,
   ⟨0x1102000200, 2, up, false, true, by decide +kernel⟩,
   ⟨fOps (fun o => { o with cls := 2 }) id, 4, fOp (fun o => { o with cls := 2 }), by decide +kernel⟩,
   ⟨fOps (fun o => { o with peer := some fFrom }) id, 4, fOp (fun o => { o with peer := some fFrom }), by decide +kernel⟩,
   ⟨fOps (fun o => { o with phase := 1, remote := 0x8009070000000000 }) id, 4, fOp (fun o => { o with phase := 1, remote := 0x8009070000000000 }),
    by decide +kernel⟩,
   ⟨fOps (fun o => { o with phase := 1, remote := 0x8009070000000000 }) (fRoute 0), 4, fOp (fun o => { o with phase := 1, remote := 0x8009070000000000 }),
    1, by decide +kernel⟩,
   ⟨fOps (fun o => { o with phase := 1, remote := 0x8009070000000000 }) (fRoute 8), 4, fOp (fun o => { o with phase := 1, remote := 0x8009070000000000 }),
    1, by decide +kernel⟩,
   ⟨fOps (fun o => { o with phase := 2 }) id, 4, fOp (fun o => { o with phase := 2 }), by decide +kernel⟩,
   ⟨fOps (fun o => { o with phase := 2, remote := 0x8009070000000000 }) id, 4, fOp (fun o => { o with phase := 2, remote := 0x8009070000000000 }),
    by decide +kernel⟩,
   ⟨fOps (fun o => { o with phase := 3, status := 7 }) id, 4, fOp (fun o => { o with phase := 3, status := 7 }),
    by decide +kernel⟩,
   ⟨st (fun m => m.setCredit 3 63 { reserved := 8, inUse := 1 }), 3, 63, by decide +kernel⟩,
   ⟨st (fun m => m.setOwnCredit 3 { inUse := 1 }), 3, by decide +kernel⟩,
   ⟨9, 8, by decide +kernel⟩,
   ⟨63, by decide +kernel⟩⟩

/-- Obligations.Windows: its clauses in order. -/
theorem witness_Windows :
    (∃ (m : Module) (w : Nat), (m.window w).state = 0) ∧
    (∃ (m : Module) (w : Nat), (m.window w).state = 2) ∧
    (∃ (m : Module) (w : Nat) (mod_ : Nat) (k : Nat), (m.window w).state = 1 ∧ (∀ p ∈ (m.window w).perms, ¬ (p.module = mod_ ∧
     (p.ctx = k ∨ p.ctx = 0xFF)))) ∧
    (∃ (m : Module) (w : Nat) (mod_ : Nat) (k : Nat) (kind : Nat) (p : Perm), (m.window w).state = 1 ∧
    (m.window w).perms.find? (fun p => p.module == mod_ && (p.ctx == k || p.ctx == 0xFF)) = some p ∧
    (∃ b ∈ rightsFor kind, p.rights.getLsbD b = false)) ∧
    (∃ (m : Module) (w : Nat) (mod_ : Nat) (k : Nat) (kind : Nat) (off : Nat) (len : Nat) (p : Perm), (m.window w).state = 1 ∧
     (m.window w).perms.find? (fun p => p.module == mod_ && (p.ctx == k || p.ctx == 0xFF)) = some p ∧
    (∀ b ∈ rightsFor kind, p.rights.getLsbD b = true) ∧ (2 ^ (m.window w).log2 ≤ off ∨ 2 ^ (m.window w).log2 < off + len)) ∧
    (∃ (m : Module) (w : Nat) (mod_ : Nat) (k : Nat) (kind : Nat) (off : Nat) (len : Nat) (rs : Nat) (p : Perm), (m.window
    w).state = 1 ∧ (m.window w).perms.find? (fun p => p.module == mod_ && (p.ctx == k || p.ctx == 0xFF)) = some p ∧
    (∀ b ∈ rightsFor kind, p.rights.getLsbD b = true) ∧ off < 2 ^ (m.window w).log2 ∧ off + len ≤ 2 ^ (m.window w).log2 ∧
    3 ≤ kind ∧ kind ≤ 4 ∧ (rs < (m.window w).syncBase ∨ (m.window w).syncBase + (m.window w).syncCount ≤ rs)) ∧
    (∃ (m : Module) (w : Nat) (mod_ : Nat) (k : Nat) (kind : Nat) (off : Nat) (len : Nat) (rs : Nat) (p : Perm), (m.window
    w).state = 1 ∧ (m.window w).perms.find? (fun p => p.module == mod_ && (p.ctx == k || p.ctx == 0xFF)) = some p ∧
    (∀ b ∈ rightsFor kind, p.rights.getLsbD b = true) ∧ off < 2 ^ (m.window w).log2 ∧ off + len ≤ 2 ^ (m.window w).log2 ∧
    (3 ≤ kind → kind ≤ 4 → (m.window w).syncBase ≤ rs ∧ rs < (m.window w).syncBase + (m.window w).syncCount)) ∧
    (∃ (s : State) (id : _) (o : ROp) (a : _), findOp s.mod id = some o ∧ o.phase = 0 ∧ o.peer = none ∧
    nextArrival s.mod o = true ∧ windowPass s.mod (refWindow o.remote) s.mod.host.moduleId o.ctx o.kind (refOff o.remote)
    o.len o.rsync = .ok a ∧ opPermitted s.mod (windowSid s.mod (refWindow o.remote)) o.kind a o.len o.rsync = true) ∧
    (∃ (s : State) (id : _) (o : ROp) (st : _), findOp s.mod id = some o ∧ o.phase = 0 ∧ o.peer = none ∧
    nextArrival s.mod o = true ∧ windowPass s.mod (refWindow o.remote) s.mod.host.moduleId o.ctx o.kind (refOff o.remote)
    o.len o.rsync = .error st) ∧
    (∃ (s : State) (id : _) (o : ROp) (a : _), findOp s.mod id = some o ∧ o.phase = 0 ∧ o.peer = none ∧
    nextArrival s.mod o = true ∧ windowPass s.mod (refWindow o.remote) s.mod.host.moduleId o.ctx o.kind (refOff o.remote)
    o.len o.rsync = .ok a ∧ opPermitted s.mod (windowSid s.mod (refWindow o.remote)) o.kind a o.len o.rsync = false) ∧
    (∃ (m : Module) (w : Nat) (kind : Nat), ((kind ≠ 0 ∧ kind ≠ 4) ∨ (m.window w).state = 0)) ∧
    (∃ (m : Module) (w : Nat) (off : Nat) (len : Nat) (b : Nat), ((m.window w).base + off) % 8 = 0 ∧
    (¬ ((m.window w).base + off ≤ b ∧ b < (m.window w).base + min (off + len) (2 ^ (m.window w).log2)))) ∧
    (∃ (s : State) (id : _) (o : ROp) (p : PeerOp) (a : _), findOp s.mod id = some o ∧ o.phase = 0 ∧ o.peer = some p ∧
     nextArrival s.mod o = true ∧ windowPass s.mod p.window p.module p.context o.kind p.offset o.len o.rsync = .ok a ∧
     opPermitted s.mod (windowSid s.mod p.window) o.kind a o.len o.rsync = true) ∧
    (∃ (s : State) (n : Nat) (ps : List Byte), Asked s.mod n 0x0304 ps ∧ ps.length = 32 + 4 * (leAt ps 3 1) ∧
    12 ≤ (leAt ps 1 1) ∧ (leAt ps 1 1) ≤ 35 ∧ (leAt ps 2 1) < 64 ∧ 1 ≤ (leAt ps 3 1) ∧ (leAt ps 3 1) ≤ 16 ∧
    zeros ((ps.drop 4).take 4) = true ∧ zeros ((ps.drop 20).take 12) = true ∧ (leAt ps 8 8) % 2 ^ (leAt ps 1 1) = 0 ∧
    (leAt ps 16 2) + (leAt ps 18 2) ≤ 65536 ∧ (∀ i, i < (leAt ps 3 1) → permBad ps i = false) ∧
    (s.mod.ctx (leAt ps 2 1)).state ≠ 0 ∧ (s.mod.ctx (leAt ps 2 1)).client = n ∧ (s.mod.window (leAt ps 0 1)).state = 0 ∧
     asleepAt s.mod (leAt ps 8 8) (2 ^ (leAt ps 1 1)) = false ∧ windowPlace s.mod (leAt ps 8 8) (2 ^ (leAt ps 1 1)) = true ∧
     windowHeld s.mod (leAt ps 2 1) (leAt ps 8 8) (2 ^ (leAt ps 1 1)) ((List.range (leAt ps 3 1)).map (permOf ps)) = true ∧
    (∀ i, i < (leAt ps 18 2) → syncOwned s.mod (leAt ps 2 1) ((leAt ps 16 2) + i) = true)) ∧
    (∃ (s : State) (n : Nat) (ps : List Byte), Asked s.mod n 0x0305 ps ∧ Room s.mod n ∧ ps.length = 8 ∧
    zeros ((ps.drop 1).take 7) = true ∧ (s.mod.window (leAt ps 0 1)).state = 1) ∧
    (∃ (s : State) (w : Nat) (d : Deferred), (s.mod.window w).state = 2 ∧ (s.mod.window w).pending = 0 ∧
    Outstanding s.mod 0x0305 w d ∧ (s.mod.ctx (s.mod.window w).ctx).destroying = false) ∧
    (∃ (s : State) (n : Nat) (ps : List Byte), Asked s.mod n 0x0306 ps ∧ ps.length = 8 ∧ (leAt ps 0 1) < 64 ∧
    (leAt ps 1 1) < 4 ∧ leAt ps 2 2 ≤ 1984 ∧ zeros ((ps.drop 4).take 4) = true ∧ (s.mod.ctx (leAt ps 0 1)).state ≠ 0 ∧
     (s.mod.ctx (leAt ps 0 1)).client = n ∧ othersReserved s.mod (leAt ps 1 1) (leAt ps 0 1) + leAt ps 2 2 ≤ 1984) :=
  ⟨⟨fWindow (fun w => { w with state := 0 }) up, 7, by decide +kernel⟩,
   ⟨fWindow (fun w => { w with state := 2 }) up, 7, by decide +kernel⟩,
   ⟨fWindow (fun w => { w with perms := [⟨0, 4, 0xF⟩, ⟨1, 0xFF, 0xF⟩] }) up, 7, 0, 5, by decide +kernel⟩,
   ⟨fWindow (fun w => { w with log2 := 12 }) up, 7, 0, 5, 2, ⟨0, 5, 0xB⟩, by decide +kernel, by decide +kernel, ⟨2,
    by decide +kernel⟩⟩,
   ⟨fWindow (fun w => { w with log2 := 12 }) up, 7, 0, 5, 0, 4089, 8, ⟨0, 5, 0xB⟩, by decide +kernel⟩,
   ⟨fWindow (fun w => { w with log2 := 12 }) up, 7, 0, 5, 4, 4088, 8, 12, ⟨0, 5, 0xB⟩, by decide +kernel⟩,
   ⟨fWindow (fun w => { w with log2 := 12 }) up, 7, 0, 5, 4, 4088, 8, 11, ⟨0, 5, 0xB⟩, by decide +kernel⟩,
   ⟨fOps (fun o => { o with phase := 0, remote := 0x8000070000000FF0 }) id, 4, fOp (fun o => { o with phase := 0, remote := 0x8000070000000FF0 }),
    0x1102000FF0, by decide +kernel⟩,
   ⟨fOps (fun o => { o with phase := 0, kind := 2, remote := 0x8000070000000FF0 }) id, 4, fOp (fun o => { o with phase := 0, kind := 2, remote := 0x8000070000000FF0 }),
    5, by decide +kernel⟩,
   ⟨fOps (fun o => { o with phase := 0, remote := 0x8000070000000FF0 }) (fWindow (fun w => { w with base := 0x1103000000 })),
    4, fOp (fun o => { o with phase := 0, remote := 0x8000070000000FF0 }), 0x1103000FF0, by decide +kernel⟩,
   ⟨up, 7, 0, by decide +kernel⟩,
   ⟨fWindow id up, 7, 16, 8, 0x1102000018, by decide +kernel⟩,
   ⟨fOps (fun o => { o with phase := 0, len := 8, peer := some fFrom }) (fWindow (fun w => { w with perms := [⟨9, 6, 0xB⟩] })),
    4, fOp (fun o => { o with phase := 0, len := 8, peer := some fFrom }), fFrom, 0x1102000010, by decide +kernel⟩,
   ⟨cmd 2 0x0304 (pk [(1, 7), (1, 12), (1, 5), (1, 1), (4, 0), (8, 0x1000000000), (2, 8), (2, 4)] ++ zs 12 ++ [0, 5, 0xF, 0])
    fOwner, 2, pk [(1, 7), (1, 12), (1, 5), (1, 1), (4, 0), (8, 0x1000000000), (2, 8), (2, 4)] ++ zs 12 ++ [0, 5, 0xF, 0],
    by decide +kernel⟩,
   ⟨cmd 2 0x0305 (7 :: zs 7) (fun m => fWindow id (fOwner m)), 2, 7 :: zs 7, by decide +kernel⟩,
   ⟨st (fun m => let m := fWindow (fun w => { w with state := 2 }) (fOwner m); { m with host := { m.host with deferred := [⟨2, 0x55, 0x0305, 7⟩] } }),
    7, ⟨2, 0x55, 0x0305, 7⟩, by decide +kernel⟩,
   ⟨cmd 2 0x0306 (pk [(1, 5), (1, 3), (2, 1984), (4, 0)]) fOwner, 2, pk [(1, 5), (1, 3), (2, 1984), (4, 0)],
    by decide +kernel⟩⟩

/-- Obligations.MemoryCommands: its clauses in order. -/
theorem witness_MemoryCommands :
    (∃ (s : State) (ch : Nat), ch < 8 ∧ s.mod.mem.selfRefresh = false ∧ s.mod.mem.partRefresh.getLsbD (ch / 2) = false ∧
     (domOn s.mod (if ch < 4 then 41 else 42) = true) ∧
    (s.mod.mem.refreshAt.get 0 ch + ((if s.mod.mem.refresh39.get false ch then 3900 else 7800) * nsUnit) + ch * ((if
    s.mod.mem.refresh39.get false ch then 3900 else 7800) * nsUnit) / 8 ≤ s.mod.time.elapsed)) ∧
    (∃ (s : State), domOn s.mod 41 = true ∧ domOn s.mod 42 = true ∧ s.mod.mem.selfRefresh = false ∧ s.mod.mem.partRefresh = 0) ∧
    (∃ (s : State) (n : Nat) (ps : List Byte), Asked s.mod n 0x0300 ps ∧ ps.length = 8 ∧ leAt ps 0 1 ≤ 1 ∧
    zeros ((ps.drop 1).take 7) = true) ∧
    (∃ (s : State) (n : Nat) (ps : List Byte), Asked s.mod n 0x0301 ps ∧ ps.length = 16 ∧ (leAt ps 0 1) < 64 ∧
    leAt ps 1 1 = 0 ∧ 1 ≤ (leAt ps 2 2) ∧ (leAt ps 4 4) + (leAt ps 2 2) ≤ 65536 ∧ (s.mod.ctx (leAt ps 0 1)).state ≠ 0 ∧
     (s.mod.ctx (leAt ps 0 1)).client = n ∧ (s.mod.ctx (leAt ps 0 1)).ranges.length < 16 ∧
    (∀ i, i < 64 → ∀ r ∈ (s.mod.ctx i).ranges, overlaps r.1 r.2 (leAt ps 4 4) (leAt ps 2 2) = false)) ∧
    (∃ (s : State) (n : Nat) (ps : List Byte), Asked s.mod n 0x0302 ps ∧ ps.length = 16 ∧ (leAt ps 0 1) < 64 ∧
    leAt ps 1 1 = 0 ∧ leAt ps 8 8 = 0 ∧ 1 ≤ ((leAt ps 4 4, leAt ps 2 2)).2 ∧
    ((leAt ps 4 4, leAt ps 2 2)).1 + ((leAt ps 4 4, leAt ps 2 2)).2 ≤ 65536 ∧
    ((leAt ps 4 4, leAt ps 2 2)) ∈ (s.mod.ctx (leAt ps 0 1)).ranges ∧
    ((s.mod.ctx (leAt ps 0 1)).state ≠ 0 → (s.mod.ctx (leAt ps 0 1)).client = n) ∧ hasAdmitted s.mod (leAt ps 0 1) = false) ∧
    (∃ (s : State) (n : Nat) (ps : List Byte), Asked s.mod n 0x0303 ps ∧ ps.length = 16 ∧ (leAt ps 0 1) < 64 ∧
    leAt ps 2 2 = 1 ∧ (leAt ps 4 4) < 65536 ∧ syncOwned s.mod (leAt ps 0 1) (leAt ps 4 4) = true ∧
    ((s.mod.ctx (leAt ps 0 1)).state ≠ 0 → (s.mod.ctx (leAt ps 0 1)).client = n) ∧ leAt ps 1 1 = 0 ∧ leAt ps 8 8 = 0) ∧
    (∃ (s : State) (n : Nat) (ps : List Byte), Asked s.mod n 0x0303 ps ∧ ps.length = 16 ∧ (leAt ps 0 1) < 64 ∧
    leAt ps 2 2 = 1 ∧ (leAt ps 4 4) < 65536 ∧ syncOwned s.mod (leAt ps 0 1) (leAt ps 4 4) = true ∧
    ((s.mod.ctx (leAt ps 0 1)).state ≠ 0 → (s.mod.ctx (leAt ps 0 1)).client = n) ∧ leAt ps 1 1 = 1) ∧
    (∃ (s : State) (n : Nat) (ps : List Byte), Asked s.mod n 0x0F00 ps ∧ ps.length = 8 ∧ zeros ((ps.drop 1).take 7) = true ∧
     (leAt ps 0 1) < 64 ∧ (s.mod.ctx (leAt ps 0 1)).state ≠ 0 ∧ (s.mod.ctx (leAt ps 0 1)).client = n) ∧
    (∃ (s : State) (n : Nat) (ps : List Byte), Asked s.mod n 0x0F01 ps ∧ ps.length = 16 ∧ zeros ((ps.drop 1).take 7) = true ∧
     (leAt ps 0 1) < 64 ∧ (s.mod.ctx (leAt ps 0 1)).state ≠ 0 ∧ (s.mod.ctx (leAt ps 0 1)).client = n ∧
    hasAdmitted s.mod (leAt ps 0 1) = false) ∧
    (∃ (s : State) (n : Nat) (ps : List Byte), Asked s.mod n 0x0F02 ps ∧ ps.length = 16 ∧ leAt ps 1 1 ≤ 1 ∧
    zeros ((ps.drop 2).take 6) = true ∧ (leAt ps 0 1) < 64 ∧ (s.mod.ctx (leAt ps 0 1)).state ≠ 0 ∧
    (s.mod.ctx (leAt ps 0 1)).client = n ∧ hasAdmitted s.mod (leAt ps 0 1) = false) ∧
    (∃ (s : State) (n : Nat) (ps : List Byte), Asked s.mod n 0x0F03 ps ∧ ps.length = 32 ∧ leAt ps 28 4 ≠ 0xFFFFFFFF) ∧
    (∃ (s : State) (n : Nat) (ps : List Byte) (r : JobRecord), Asked s.mod n 0x0F04 ps ∧ ps.length = 8 ∧
    zeros ((ps.drop 2).take 6) = true ∧ (leAt ps 0 1) < 64 ∧ (s.mod.ctx (leAt ps 0 1)).state ≠ 0 ∧
    (s.mod.ctx (leAt ps 0 1)).client = n ∧ (s.mod.ctx (leAt ps 0 1)).records[leAt ps 1 1]? = some r) ∧
    (∃ (s : State) (n : Nat) (ps : List Byte), Asked s.mod n 0x0F01 ps ∧ ps.length = 16 ∧ zeros ((ps.drop 1).take 7) = true ∧
     leAt ps 0 1 < 64 ∧ (s.mod.ctx (leAt ps 0 1)).state ≠ 0 ∧ (s.mod.ctx (leAt ps 0 1)).client ≠ n) ∧
    (∃ (s : State) (n : Nat) (ps : List Byte), Asked s.mod n 0x0F01 ps ∧ ps.length = 16 ∧ zeros ((ps.drop 1).take 7) = true ∧
     leAt ps 0 1 < 64 ∧ (s.mod.ctx (leAt ps 0 1)).state = 0) ∧
    (∃ (k0 : W32) (k1 : W32) (c0 : W32) (c1 : W32) (c2 : W32) (c3 : W32) (x0 : Nat → W32) (x1 : Nat → W32) (x2 : Nat → W32)
    (x3 : Nat → W32), x0 0 = c0 ∧ x1 0 = c1 ∧ x2 0 = c2 ∧ x3 0 = c3 ∧
    (∀ r, r < 12 → let rk := (if r % 2 = 0 then k0 else k1) + BitVec.ofNat 32 r * 0x4B5A2048; x0 (r + 1) = x0 r + (x3 r ^^^
    rk) ∧ x1 (r + 1) = (x1 r ^^^ x0 (r + 1)).rotateLeft ([7, 19, 11, 26].getD (r % 4) 0) ∧
    x2 (r + 1) = x2 r + (x1 (r + 1) ^^^ rk) ∧ x3 (r + 1) = (x3 r + x2 (r + 1)).rotateLeft ([13, 5, 22, 17].getD (r % 4) 0))) ∧
    (∃ (k0 : W32) (k1 : W32) (c : W32 × W32 × W32 × W32) (d : W32 × W32 × W32 × W32), kzBlock k0 k1 c = kzBlock k0 k1 d) :=
  ⟨⟨st (fun m => { m with time := { m.time with elapsed := 20000 * nsUnit }, mem := { m.mem with ddrTemp := [85, 86], scrubPos := [(7, 117440511)] } }),
    7, by decide +kernel⟩,
   ⟨st id, by decide +kernel⟩,
   ⟨cmd 0 0x0300 (1 :: zs 7) id, 0, 1 :: zs 7, by decide +kernel⟩,
   ⟨cmd 2 0x0301 (pk [(1, 5), (1, 0), (2, 4), (4, 65532), (8, 6)]) fOwner, 2, pk [(1, 5), (1, 0), (2, 4), (4, 65532), (8,
    6)], by decide +kernel⟩,
   ⟨cmd 2 0x0302 (pk [(1, 5), (1, 0), (2, 4), (4, 8), (8, 0)]) fOwner, 2, pk [(1, 5), (1, 0), (2, 4), (4, 8), (8, 0)],
    by decide +kernel⟩,
   ⟨cmd 2 0x0303 (pk [(1, 5), (1, 0), (2, 1), (4, 11), (8, 0)]) fOwner, 2, pk [(1, 5), (1, 0), (2, 1), (4, 11), (8, 0)],
    by decide +kernel⟩,
   ⟨cmd 2 0x0303 (pk [(1, 5), (1, 1), (2, 1), (4, 8), (8, 77)]) fOwner, 2, pk [(1, 5), (1, 1), (2, 1), (4, 8), (8, 77)],
    by decide +kernel⟩,
   ⟨cmd 2 0x0F00 (5 :: zs 7) fOwner, 2, 5 :: zs 7, by decide +kernel⟩,
   ⟨cmd 2 0x0F01 (pk [(8, 5), (8, 99)]) fOwner, 2, pk [(8, 5), (8, 99)], by decide +kernel⟩,
   ⟨cmd 2 0x0F02 (pk [(1, 5), (1, 1), (6, 0), (8, 99)]) fOwner, 2, pk [(1, 5), (1, 1), (6, 0), (8, 99)], by decide +kernel⟩,
   ⟨cmd 0 0x0F03 (pk [(8, 1), (8, 2), (4, 3), (4, 4), (4, 5), (4, 0xFFFFFFFE)]) id, 0, pk [(8, 1), (8, 2), (4, 3), (4, 4),
    (4, 5), (4, 0xFFFFFFFE)], by decide +kernel⟩,
   ⟨cmd 2 0x0F04 (5 :: zs 7) (fun m => (fOwner m).updCtx 5 (fun v => { v with records := [{ jobId := 3, tag := 0, ctx := 5, outcome := 0, mode := 1, step := 2, seed := 4, imageCrc := 5, coreMask := 6, args := [1, 2, 3, 4, 5, 6, 7, 8], preemptions := 0, retries := 0, runFab := 9 }] })),
    2, 5 :: zs 7, { jobId := 3, tag := 0, ctx := 5, outcome := 0, mode := 1, step := 2, seed := 4, imageCrc := 5, coreMask := 6, args := [1, 2, 3, 4, 5, 6, 7, 8], preemptions := 0, retries := 0, runFab := 9 },
    by decide +kernel⟩,
   ⟨cmd 3 0x0F01 (pk [(8, 5), (8, 99)]) fOwner, 3, pk [(8, 5), (8, 99)], by decide +kernel⟩,
   ⟨cmd 2 0x0F01 (pk [(8, 6), (8, 99)]) fOwner, 2, pk [(8, 6), (8, 99)], by decide +kernel⟩,
   ⟨1, 2, 3, 4, 5, 6, fun r => ((List.range r).foldl (kzRound 1 2) (3, 4, 5, 6)).1, fun r => ((List.range r).foldl (kzRound 1
    2) (3, 4, 5, 6)).2.1, fun r => ((List.range r).foldl (kzRound 1 2) (3, 4, 5, 6)).2.2.1, fun r => ((List.range r).foldl
    (kzRound 1 2) (3, 4, 5, 6)).2.2.2, by decide +kernel⟩,
   ⟨1, 2, (3, 4, 5, 6), (3, 4, 5, 6), by decide +kernel⟩⟩

end Sys2Proof.Tests
end

