-- ==== Sys2Proof/Tests/WitnessKvq.lean ====
section
/-!
SUPPORT. Witnesses: for every statement that has hypotheses, concrete states and operands that meet them together, clause by clause.
-/

namespace Sys2Proof.Tests

set_option Elab.async false

open Sys2Proof Sys2Proof.Machine

/-- Context 5, which reads and writes the first 16 MiB of DDR4; grant 0 covers 4 MiB of cold frames. -/
def kOwner (m : Machine.Module) : Machine.Module :=
  let rs : Tab Region := [(0, { base := 0, pages := 4096, cloche := 2, ctx := 5, rights := 3 })]
  let m := (ctxUp 5 2 m).updCtx 5 (fun v => { v with ranges := [(8, 4)] })
  { m with
    safety := { m.safety with regions := rs, regionsB := rs }
    links := { m.links with grants := [(0, some ⟨0x10000000000, 22, 0x80000000, false⟩)] } }

/-- A pool of context 5: pages of 4 KiB that hold 16 tokens, 8 pages, 2 slots, 8 cold slots. -/
def kPool (f : Pool → Pool) : Pool :=
  f { live := true, ctx := 5, log2Page := 12, log2Token := 8, seqSlots := 2, numPages := 8, maxPages := 4, pageBase := 0x100000
      plBase := 0x200000, ltBase := 0x201000, coldSlots := 8, coldBase := 0x10000000000, coldMap := 0x10000100000 }

/-- Pool 3, with its sequences. -/
def kUp (f : Pool → Pool) (seqs : Tab Seq) (m : Machine.Module) : Machine.Module :=
  let m := kOwner m
  { m with kv := { pools := [(3, kPool f)], seqs := seqs } }

/-- A plan that pre-empts nothing and places one sequence. -/
def kPlan (outs ins : List (Nat × Nat)) : Plan :=
  { pool := 3, seqs := [(7, { state := 1, pool := 3, attr := 5, slot := 0, len := 17, pages := [0, 1], joinCommit := 1 })]
    outs := outs, ins := ins, table := [(7, 0, 0, 17)], outcomes := [⟨7, 0, 1, 2⟩], preempted := 0, deferrals := 0, notPlaced := 0 }

/-- Queue 9: form L with notices, its spill region in DDR4, from context 5 to context 5. -/
def kQueue (f : Queue → Queue) : Queue :=
  f { state := 1, form := 2, auto := true, notices := true, log2 := 12, owner := 5, prodId := 5, consId := 5, noticeSync := 8
      level := 4, spillBase := 0x300000, tagBase := 0x301000 }

/-- The comparator of a queue's position copies fails. -/
def kDead (q : Nat) (m : Machine.Module) : Machine.Module :=
  { m with safety := { m.safety with cmpDead := [(q, true)] } }

/-- Receive port 1 with stream 2, for a data type and a format, in a frame. -/
def wRx (dtype format : Nat) : State :=
  st (fun m => { m with
    rx := [(1, { live := true, lanes := 4 })]
    streams := [(2, { state := 2, frame := some ⟨7, true, [], [], 0⟩
                      cfg := { port := 1, vc := 15, dtype := dtype, format := format, wIn := 8, hIn := 1 } })] })

/-- The module with queue 9. -/
def kSq (f : Queue → Queue) (m : Machine.Module) : Machine.Module := (kOwner m).setQueue 9 (kQueue f)

/-- Obligations.KvCommands: its clauses in order. -/
theorem witness_KvCommands :
    (∃ (s : State) (n : Nat) (ps : List Byte), Asked s.mod n 0x0500 ps ∧ ps.length = 64 ∧ zeros ((ps.drop 6).take 2) = true ∧
     zeros ((ps.drop 44).take 4) = true ∧ leAt ps 0 1 < 32 ∧ poolBad (poolOf ps) = false ∧
    (s.mod.ctx (poolOf ps).ctx).state ≠ 0 ∧ (s.mod.ctx (poolOf ps).ctx).client = n ∧ (s.mod.pool (leAt ps 0 1)).live = false ∧
     (∀ r ∈ poolRegions (poolOf ps), ddrHeld s.mod (poolOf ps).ctx .read r.1 r.2 = true ∧
    ddrHeld s.mod (poolOf ps).ctx .write r.1 r.2 = true) ∧ (∀ r ∈ poolCold (poolOf ps), coldCovered s.mod r.1 r.2 = true)) ∧
    (∃ (s : State) (n : Nat) (ps : List Byte), Asked s.mod n 0x0501 ps ∧ ps.length = 8 ∧ zeros ((ps.drop 1).take 7) = true ∧
     (leAt ps 0 1) < 32 ∧ (s.mod.pool (leAt ps 0 1)).live = true ∧
    ((s.mod.ctx (s.mod.pool (leAt ps 0 1)).ctx).state ≠ 0 → (s.mod.ctx (s.mod.pool (leAt ps 0 1)).ctx).client = n) ∧
     hasAdmitted s.mod (s.mod.pool (leAt ps 0 1)).ctx = false ∧ kvBusy s.mod (leAt ps 0 1) = false) ∧
    (∃ (s : State) (n : Nat) (ps : List Byte), Asked s.mod n 0x0502 ps ∧ ps.length = 8 + 8 * (leAt ps 1 1) ∧
    (leAt ps 1 1) ≤ 32 ∧ leAt ps 2 1 ≤ 1 ∧ zeros ((ps.drop 3).take 5) = true ∧
    (∀ i, i < (leAt ps 1 1) → entryBad (entryOf ps i) = false) ∧ (leAt ps 0 1) < 32 ∧ (s.mod.pool (leAt ps 0 1)).live = true ∧
     ((s.mod.ctx (s.mod.pool (leAt ps 0 1)).ctx).state ≠ 0 → (s.mod.ctx (s.mod.pool (leAt ps 0 1)).ctx).client = n) ∧
     hasAdmitted s.mod (s.mod.pool (leAt ps 0 1)).ctx = false ∧
    ((if leAt ps 2 1 = 1 then [] else (s.mod.pool (leAt ps 0 1)).staged).length + (leAt ps 1 1) ≤ 1024) ∧
    kvBusy s.mod (leAt ps 0 1) = false) ∧
    (∃ (s : State) (n : Nat) (ps : List Byte), Asked s.mod n 0x0503 ps ∧ Room s.mod n ∧ ps.length = 8 ∧ (leAt ps 0 1) < 32 ∧
     zeros ((ps.drop 1).take 7) = true ∧ (s.mod.pool (leAt ps 0 1)).live = true ∧
    ((s.mod.ctx (s.mod.pool (leAt ps 0 1)).ctx).state ≠ 0 → (s.mod.ctx (s.mod.pool (leAt ps 0 1)).ctx).client = n) ∧
     hasAdmitted s.mod (s.mod.pool (leAt ps 0 1)).ctx = false ∧ stagedBad (s.mod.pool (leAt ps 0 1)) = false ∧
    stagedState s.mod (leAt ps 0 1) = false ∧ kvBusy s.mod (leAt ps 0 1) = false ∧ s.mod.power.entry = none) ∧
    (∃ (s : State) (n : Nat) (ps : List Byte) (l : List KvOutcome), Asked s.mod n 0x0504 ps ∧ ps.length = 8 ∧
    zeros ((ps.drop 1).take 1) = true ∧ zeros ((ps.drop 4).take 4) = true ∧ (leAt ps 0 1) < 32 ∧
    (s.mod.pool (leAt ps 0 1)).live = true ∧ ((s.mod.ctx (s.mod.pool (leAt ps 0 1)).ctx).state ≠ 0 → (s.mod.ctx (s.mod.pool
    (leAt ps 0 1)).ctx).client = n) ∧ (s.mod.pool (leAt ps 0 1)).outcomes = some l ∧ leAt ps 2 2 < l.length) ∧
    (∃ (s : State) (n : Nat) (ps : List Byte), Asked s.mod n 0x0505 ps ∧ ps.length = 8 ∧ leAt ps 0 2 < 1024 ∧
    zeros ((ps.drop 2).take 6) = true ∧ ((s.mod.seq (leAt ps 0 2)).state ≠ 0 → (s.mod.ctx (s.mod.pool (s.mod.seq (leAt ps 0
    2)).pool).ctx).state ≠ 0 → (s.mod.ctx (s.mod.pool (s.mod.seq (leAt ps 0 2)).pool).ctx).client = n)) ∧
    (∃ (s : State) (n : Nat) (ps : List Byte), Asked s.mod n 0x0506 ps ∧ ps.length = 8 ∧ leAt ps 1 1 ≤ 1 ∧
    zeros ((ps.drop 2).take 6) = true ∧ (leAt ps 0 1) < 32 ∧ (s.mod.pool (leAt ps 0 1)).live = true ∧
    ((s.mod.ctx (s.mod.pool (leAt ps 0 1)).ctx).state ≠ 0 → (s.mod.ctx (s.mod.pool (leAt ps 0 1)).ctx).client = n)) :=
  ⟨⟨cmd 2 0x0500 (pk [(1, 3), (1, 5), (1, 12), (1, 8), (2, 2), (2, 0), (4, 8), (4, 4), (8, 0x100000), (8, 0x200000), (8,
    0x201000), (4, 8), (4, 0), (8, 0x10000000000), (8, 0x10000100000)]) kOwner, 2, pk [(1, 3), (1, 5), (1, 12), (1, 8), (2,
    2), (2, 0), (4, 8), (4, 4), (8, 0x100000), (8, 0x200000), (8, 0x201000), (4, 8), (4, 0), (8, 0x10000000000), (8,
    0x10000100000)], by decide +kernel⟩,
   ⟨cmd 2 0x0501 (3 :: zs 7) (kUp id [(7, { state := 1, pool := 3 })]), 2, 3 :: zs 7, by decide +kernel⟩,
   ⟨cmd 2 0x0502 (pk [(1, 3), (1, 1), (1, 1), (5, 0), (2, 1023), (1, 1), (1, 5), (4, 17)]) (kUp id []), 2, pk [(1, 3), (1,
    1), (1, 1), (5, 0), (2, 1023), (1, 1), (1, 5), (4, 17)], by decide +kernel⟩,
   ⟨cmd 2 0x0503 (3 :: zs 7) (kUp (fun p => { p with staged := [⟨7, 1, 5, 17⟩] }) []), 2, 3 :: zs 7, by decide +kernel⟩,
   ⟨cmd 2 0x0504 (pk [(1, 3), (1, 0), (2, 1), (4, 0)]) (kUp (fun p => { p with outcomes := some [⟨7, 0, 1, 2⟩, ⟨8, 1, 0, 0⟩] })
    []), 2, pk [(1, 3), (1, 0), (2, 1), (4, 0)], [⟨7, 0, 1, 2⟩, ⟨8, 1, 0, 0⟩], by decide +kernel⟩,
   ⟨cmd 2 0x0505 (pk [(2, 1023), (6, 0)]) (kUp id [(1023, { state := 1, pool := 3 })]), 2, pk [(2, 1023), (6, 0)],
    by decide +kernel⟩,
   ⟨cmd 2 0x0506 (pk [(1, 3), (1, 1), (6, 0)]) (kUp id []), 2, pk [(1, 3), (1, 1), (6, 0)], by decide +kernel⟩⟩

/-- Obligations.KvCommits: its clauses in order. -/
theorem witness_KvCommits :
    (∃ (s : State) (n : Nat) (ns : List Nat), s.mod.kv.plan = none ∧ s.mod.kv.waiting = n :: ns) ∧
    (∃ (s : State) (pl : Plan) (d : Deferred), s.mod.kv.plan = some pl ∧ swapsReach s.mod pl = true ∧
    Outstanding s.mod 0x0503 pl.pool d ∧ (s.mod.pool pl.pool).ltBase % 64 = 0) ∧
    (∃ (s : State) (pl : Plan) (d : Deferred), s.mod.kv.plan = some pl ∧ (pl.outs ≠ [] ∨ pl.ins ≠ []) ∧
    Outstanding s.mod 0x0503 pl.pool d) ∧
    (∃ (m : Module) (n : Nat) (e : Staged) (i : Nat), (m.pool n).staged = [e] ∧ e.action = 1 ∧ m.seq e.seq = {} ∧
    (pagesFor (m.pool n) e.new) ≤ (m.pool n).maxPages ∧ 0 < freeSlots (m.pool n) ({ seqs := m.kv.seqs } : KvWork) n ∧
     (pagesFor (m.pool n) e.new) ≤ freePages (m.pool n) ({ seqs := m.kv.seqs } : KvWork) n ∧ i ≠ e.seq) ∧
    (∃ (m : Module) (n : Nat) (e : Staged), (m.pool n).staged = [e] ∧ e.action = 1 ∧ m.seq e.seq = {} ∧
    (pagesFor (m.pool n) e.new) ≤ (m.pool n).maxPages ∧ 0 < freeSlots (m.pool n) ({ seqs := m.kv.seqs } : KvWork) n ∧
     (pagesFor (m.pool n) e.new) ≤ freePages (m.pool n) ({ seqs := m.kv.seqs } : KvWork) n) ∧
    (∃ (m : Module) (n : Nat) (e : Staged), (m.pool n).staged = [e] ∧ e.action = 1 ∧ m.seq e.seq = {} ∧
    (m.pool n).maxPages < (pagesFor (m.pool n) e.new)) ∧
    (∃ (m : Module) (n : Nat) (e : Staged) (i : Nat), (m.pool n).staged = [e] ∧ e.action = 0 ∧ i ≠ e.seq) ∧
    (∃ (m : Module) (n : Nat) (e : Staged), (m.pool n).staged = [e] ∧ e.action = 0) ∧
    (∃ (m : Module) (n : Nat) (e : Staged) (i : Nat), (m.pool n).staged = [e] ∧ e.action = 2 ∧ (m.seq e.seq).state = 1 ∧
     pagesFor (m.pool n) ((m.seq e.seq).len + e.new) ≤ (m.pool n).maxPages ∧
    (pagesFor (m.pool n) ((m.seq e.seq).len + e.new) - pagesFor (m.pool n) (m.seq e.seq).len) ≤ freePages (m.pool n) ({ seqs := m.kv.seqs }
    : KvWork) n ∧ i ≠ e.seq) ∧
    (∃ (m : Module) (n : Nat) (e : Staged), (m.pool n).staged = [e] ∧ e.action = 2 ∧ (m.seq e.seq).state = 1 ∧
    pagesFor (m.pool n) ((m.seq e.seq).len + e.new) ≤ (m.pool n).maxPages ∧
    (pagesFor (m.pool n) ((m.seq e.seq).len + e.new) - pagesFor (m.pool n) (m.seq e.seq).len) ≤ freePages (m.pool n) ({ seqs := m.kv.seqs }
    : KvWork) n) ∧
    (∃ (m : Module) (n : Nat) (e : Staged) (i : Nat), (m.pool n).staged = [e] ∧ e.action = 2 ∧ (m.seq e.seq).state = 1 ∧
     pagesFor (m.pool n) ((m.seq e.seq).len + e.new) ≤ (m.pool n).maxPages ∧
    freePages (m.pool n) ({ seqs := m.kv.seqs } : KvWork) n < (pagesFor (m.pool n) ((m.seq e.seq).len + e.new) - pagesFor
    (m.pool n) (m.seq e.seq).len) ∧ (∀ v ∈ poolSeqs m.kv.seqs n, v.2.state = 1 → (m.seq e.seq).attr % 8 ≤ v.2.attr % 8) ∧
    i ≠ e.seq) ∧
    (∃ (m : Module) (n : Nat) (e : Staged), (m.pool n).staged = [e] ∧ e.action = 2 ∧ (m.seq e.seq).state = 1 ∧
    pagesFor (m.pool n) ((m.seq e.seq).len + e.new) ≤ (m.pool n).maxPages ∧
    freePages (m.pool n) ({ seqs := m.kv.seqs } : KvWork) n < (pagesFor (m.pool n) ((m.seq e.seq).len + e.new) - pagesFor
    (m.pool n) (m.seq e.seq).len) ∧ (∀ v ∈ poolSeqs m.kv.seqs n, v.2.state = 1 → (m.seq e.seq).attr % 8 ≤ v.2.attr % 8) ∧
    8 ≤ (m.seq e.seq).attr) ∧
    (∃ (m : Module) (n : Nat) (e : Staged), (m.pool n).staged = [e] ∧ e.action = 2 ∧ (m.seq e.seq).state = 1 ∧
    pagesFor (m.pool n) ((m.seq e.seq).len + e.new) ≤ (m.pool n).maxPages ∧
    freePages (m.pool n) ({ seqs := m.kv.seqs } : KvWork) n < (pagesFor (m.pool n) ((m.seq e.seq).len + e.new) - pagesFor
    (m.pool n) (m.seq e.seq).len) ∧ (∀ v ∈ poolSeqs m.kv.seqs n, v.2.state = 1 → (m.seq e.seq).attr % 8 ≤ v.2.attr % 8) ∧
     (m.seq e.seq).attr < 8 ∧ pagesFor (m.pool n) (m.seq e.seq).len ≤ freeCold (m.pool n) ({ seqs := m.kv.seqs } : KvWork) n) ∧
    (∃ (m : Module) (n : Nat) (e : Staged), (m.pool n).staged = [e] ∧ e.action = 2 ∧ (m.seq e.seq).state = 1 ∧
    pagesFor (m.pool n) ((m.seq e.seq).len + e.new) ≤ (m.pool n).maxPages ∧
    freePages (m.pool n) ({ seqs := m.kv.seqs } : KvWork) n < (pagesFor (m.pool n) ((m.seq e.seq).len + e.new) - pagesFor
    (m.pool n) (m.seq e.seq).len) ∧ (∀ v ∈ poolSeqs m.kv.seqs n, v.2.state = 1 → (m.seq e.seq).attr % 8 ≤ v.2.attr % 8) ∧
     (m.seq e.seq).attr < 8 ∧ freeCold (m.pool n) ({ seqs := m.kv.seqs } : KvWork) n < pagesFor (m.pool n) (m.seq e.seq).len) ∧
    (∃ (m : Module) (n : Nat) (e : Staged), (m.pool n).staged = [e] ∧ e.action = 2 ∧ (m.seq e.seq).state = 1 ∧
    pagesFor (m.pool n) ((m.seq e.seq).len + e.new) ≤ (m.pool n).maxPages ∧
    freePages (m.pool n) ({ seqs := m.kv.seqs } : KvWork) n < (pagesFor (m.pool n) ((m.seq e.seq).len + e.new) - pagesFor
    (m.pool n) (m.seq e.seq).len) ∧ (∀ v ∈ poolSeqs m.kv.seqs n, v.2.state = 1 → (m.seq e.seq).attr % 8 ≤ v.2.attr % 8)) ∧
    (∃ (m : Module) (n : Nat) (e : Staged) (i : Nat), (m.pool n).staged = [e] ∧ e.action = 3 ∧ (m.seq e.seq).state = 2 ∧
     (pagesFor (m.pool n) ((m.seq e.seq).len + e.new)) ≤ (m.pool n).maxPages ∧
    0 < freeSlots (m.pool n) ({ seqs := m.kv.seqs } : KvWork) n ∧
    (pagesFor (m.pool n) ((m.seq e.seq).len + e.new)) ≤ freePages (m.pool n) ({ seqs := m.kv.seqs } : KvWork) n ∧ i ≠ e.seq) ∧
    (∃ (m : Module) (n : Nat) (e : Staged), (m.pool n).staged = [e] ∧ e.action = 3 ∧ (m.seq e.seq).state = 2 ∧
    (pagesFor (m.pool n) ((m.seq e.seq).len + e.new)) ≤ (m.pool n).maxPages ∧
    0 < freeSlots (m.pool n) ({ seqs := m.kv.seqs } : KvWork) n ∧
    (pagesFor (m.pool n) ((m.seq e.seq).len + e.new)) ≤ freePages (m.pool n) ({ seqs := m.kv.seqs } : KvWork) n) ∧
    (∃ (m : Module) (n : Nat) (e : Staged) (i : Nat) (v : Seq), (m.pool n).staged = [e] ∧ e.action = 1 ∧ m.seq e.seq = {} ∧
     poolSeqs m.kv.seqs n = [(i, v)] ∧ m.seq i = v ∧ v.state = 1 ∧ v.attr % 8 < e.attr % 8 ∧ 8 ≤ v.attr ∧
    (pagesFor (m.pool n) e.new) ≤ (m.pool n).maxPages ∧ 0 < freeSlots (m.pool n) ({ seqs := m.kv.seqs } : KvWork) n ∧
     freePages (m.pool n) ({ seqs := m.kv.seqs } : KvWork) n < (pagesFor (m.pool n) e.new) ∧
    (pagesFor (m.pool n) e.new) ≤ (m.pool n).numPages ∧ v.pages.length ≤ (m.pool n).numPages) ∧
    (∃ (l : List (Nat × Seq)) (v : Nat × Seq), v ∈ l ∧ 8 ≤ v.2.attr) :=
  ⟨⟨st (fun m => let m := kUp (fun p => { p with staged := [⟨7, 1, 5, 17⟩] }) [] m; { m with kv := { m.kv with waiting := [3, 4] } }),
    3, [4], by decide +kernel⟩,
   ⟨st (fun m => let m := kUp id [] m; { m with kv := { m.kv with plan := some (kPlan [(0, 0)] []) }, host := { m.host with deferred := [⟨2, 0x55, 0x0503, 3⟩] } }),
    kPlan [(0, 0)] [], ⟨2, 0x55, 0x0503, 3⟩, by decide +kernel⟩,
   ⟨st (fun m => let m := kUp id [] m; { m with kv := { m.kv with plan := some (kPlan [] [(0, 0)]) }, host := { m.host with deferred := [⟨2, 0x55, 0x0503, 3⟩] } }),
    kPlan [] [(0, 0)], ⟨2, 0x55, 0x0503, 3⟩, by decide +kernel⟩,
   ⟨kUp (fun p => { p with staged := [⟨7, 1, 5, 64⟩] }) [] up, 3, ⟨7, 1, 5, 64⟩, 8, by decide +kernel⟩,
   ⟨kUp (fun p => { p with staged := [⟨7, 1, 5, 64⟩] }) [] up, 3, ⟨7, 1, 5, 64⟩, by decide +kernel⟩,
   ⟨kUp (fun p => { p with staged := [⟨7, 1, 5, 65⟩] }) [] up, 3, ⟨7, 1, 5, 65⟩, by decide +kernel⟩,
   ⟨kUp (fun p => { p with staged := [⟨7, 0, 0, 0⟩] }) [(7, { state := 1, pool := 3, pages := [0] })] up, 3, ⟨7, 0, 0, 0⟩, 8,
    by decide +kernel⟩,
   ⟨kUp (fun p => { p with staged := [⟨7, 0, 0, 0⟩] }) [(7, { state := 1, pool := 3, pages := [0] })] up, 3, ⟨7, 0, 0, 0⟩,
    by decide +kernel⟩,
   ⟨kUp (fun p => { p with staged := [⟨7, 2, 0, 16⟩] }) [(7, { state := 1, pool := 3, attr := 5, slot := 0, len := 17, pages := [0, 1] })]
    up, 3, ⟨7, 2, 0, 16⟩, 8, by decide +kernel⟩,
   ⟨kUp (fun p => { p with staged := [⟨7, 2, 0, 16⟩] }) [(7, { state := 1, pool := 3, attr := 5, slot := 0, len := 17, pages := [0, 1] })]
    up, 3, ⟨7, 2, 0, 16⟩, by decide +kernel⟩,
   ⟨kUp (fun p => { p with staged := [⟨7, 2, 0, 16⟩], numPages := 2 }) [(7, { state := 1, pool := 3, attr := 5, slot := 0, len := 17, pages := [0, 1] })]
    up, 3, ⟨7, 2, 0, 16⟩, 8, by decide +kernel⟩,
   ⟨kUp (fun p => { p with staged := [⟨7, 2, 0, 16⟩], numPages := 2 }) [(7, { state := 1, pool := 3, attr := 13, slot := 0, len := 17, pages := [0, 1] })]
    up, 3, ⟨7, 2, 0, 16⟩, by decide +kernel⟩,
   ⟨kUp (fun p => { p with staged := [⟨7, 2, 0, 16⟩], numPages := 2 }) [(7, { state := 1, pool := 3, attr := 5, slot := 0, len := 17, pages := [0, 1] })]
    up, 3, ⟨7, 2, 0, 16⟩, by decide +kernel⟩,
   ⟨kUp (fun p => { p with staged := [⟨7, 2, 0, 16⟩], numPages := 2, coldSlots := 1 }) [(7, { state := 1, pool := 3, attr := 5, slot := 0, len := 17, pages := [0, 1] })]
    up, 3, ⟨7, 2, 0, 16⟩, by decide +kernel⟩,
   ⟨kUp (fun p => { p with staged := [⟨7, 2, 0, 16⟩], numPages := 2 }) [(7, { state := 1, pool := 3, attr := 5, slot := 0, len := 17, pages := [0, 1] })]
    up, 3, ⟨7, 2, 0, 16⟩, by decide +kernel⟩,
   ⟨kUp (fun p => { p with staged := [⟨7, 3, 0, 16⟩] }) [(7, { state := 2, pool := 3, attr := 5, len := 17, cold := [0, 1] })]
    up, 3, ⟨7, 3, 0, 16⟩, 8, by decide +kernel⟩,
   ⟨kUp (fun p => { p with staged := [⟨7, 3, 0, 16⟩], numPages := 3 }) [(7, { state := 2, pool := 3, attr := 5, len := 17, cold := [0, 1] })]
    up, 3, ⟨7, 3, 0, 16⟩, by decide +kernel⟩,
   ⟨kUp (fun p => { p with staged := [⟨7, 1, 6, 17⟩], numPages := 2 }) [(8, { state := 1, pool := 3, attr := 13, slot := 0, len := 17, pages := [0, 1] })]
    up, 3, ⟨7, 1, 6, 17⟩, 8, { state := 1, pool := 3, attr := 13, slot := 0, len := 17, pages := [0, 1] }, by decide +kernel⟩,
   ⟨[(8, { attr := 8 })], (8, { attr := 8 }), by decide +kernel⟩⟩

/-- Obligations.QueuePositions: its clauses in order. -/
theorem witness_QueuePositions :
    (∃ (m : Module) (q : Nat), (m.queue q).main = (m.queue q).shadow ∧ (m.queue q).state = 1) ∧
    (∃ (m : Module) (q : Nat), (m.queue q).main = (m.queue q).shadow ∧ (m.queue q).state = 1) ∧
    (∃ (m : Module) (q : Nat) (ws : List SqWord), (m.queue q).auto = true ∧ (m.queue q).tail = [] ∧
    (m.queue q).head.length + ws.length ≤ 16 ∧ (m.queue q).main.rp + (m.queue q).head.length = (m.queue q).main.wp) ∧
    (∃ (m : Module) (q : Nat), (m.queue q).state = 1 ∧ (m.queue q).main ≠ (m.queue q).shadow ∧
    m.safety.cmpDead.get false q = false) ∧
    (∃ (m : Module) (q : Nat), (m.queue q).main = (m.queue q).shadow) ∧
    (∃ (m : Module) (q : Nat), (m.queue q).notices = true ∧ (m.queue q).form ≠ 2) ∧
    (∃ (m : Module) (q : Nat) (ws : List SqWord), (m.queue q).notices = true ∧ (m.queue q).form = 2 ∧
    occupancy (m.queue q) < (m.queue q).level ∧ (m.queue q).level ≤ occupancy (m.queue q) + ws.length) ∧
    (∃ (m : Module) (q : Nat) (ws : List SqWord), (m.queue q).notices = true ∧ (m.queue q).form = 2 ∧
    ((m.queue q).level ≤ occupancy (m.queue q) ∨ occupancy (m.queue q) + ws.length < (m.queue q).level)) ∧
    (∃ (m : Module) (q : Nat), (m.queue q).notices = false) :=
  ⟨⟨kSq (fun q => { q with main := ⟨9, 8, 8, 8⟩, shadow := ⟨9, 8, 8, 8⟩, head := [⟨0x55, 0x21, false⟩] }) up, 9,
    by decide +kernel⟩,
   ⟨kSq (fun q => { q with main := ⟨9, 8, 8, 8⟩, shadow := ⟨9, 8, 8, 8⟩, head := [⟨0x55, 0x21, false⟩] }) up, 9,
    by decide +kernel⟩,
   ⟨kSq (fun q => { q with main := ⟨9, 8, 8, 8⟩, shadow := ⟨9, 8, 8, 8⟩, head := [⟨0x55, 0x21, false⟩] }) up, 9,
    List.replicate 15 ⟨0x55, 0x21, false⟩, by decide +kernel⟩,
   ⟨kSq (fun q => { q with main := ⟨9, 8, 8, 8⟩ }) up, 9, by decide +kernel⟩,
   ⟨kSq id up, 9, by decide +kernel⟩,
   ⟨kSq (fun q => { q with form := 1 }) up, 9, by decide +kernel⟩,
   ⟨kSq (fun q => { q with main := ⟨11, 8, 8, 8⟩, shadow := ⟨11, 8, 8, 8⟩ }) up, 9, [⟨0x55, 0x21, false⟩], by decide +kernel⟩,
   ⟨kSq (fun q => { q with main := ⟨12, 8, 8, 8⟩, shadow := ⟨12, 8, 8, 8⟩ }) up, 9, [⟨0x55, 0x21, false⟩], by decide +kernel⟩,
   ⟨kSq (fun q => { q with notices := false }) up, 9, by decide +kernel⟩⟩

/-- Obligations.QueueCommands: its clauses in order. -/
theorem witness_QueueCommands :
    (∃ (s : State) (q : Nat) (w : WaitPush) (c : Nat) (e : Nat), domOn s.mod 40 = true ∧
    acceptable s.mod (s.mod.queue q) = some w ∧ w.who = .engine c e) ∧
    (∃ (s : State) (q : Nat) (w : WaitPush), domOn s.mod 40 = true ∧ acceptable s.mod (s.mod.queue q) = some w ∧
    (∀ c e, w.who ≠ .engine c e)) ∧
    (∃ (m : Module) (v : Queue) (w : WaitPush), acceptable m v = some w) ∧
    (∃ (s : State) (q : Nat), domOn s.mod 40 = true ∧ (s.mod.queue q).state = 1 ∧ (s.mod.queue q).head.length ≤ 8 ∧
    headEnd (s.mod.queue q) + 8 < tailStart (s.mod.queue q) ∧
    ((s.mod.queue q).auto = true → (s.mod.queue q).tail.length ≤ 16) ∧
    fwAllows s.mod (sidOf s.mod (s.mod.queue q).owner 0x23) .read ((s.mod.queue q).spillBase + 8 * ((headEnd (s.mod.queue q))
    / 8 * 8 % capacity (s.mod.queue q))) 64 = true ∧
    fwAllows s.mod (sidOf s.mod (s.mod.queue q).owner 0x23) .read ((s.mod.queue q).tagBase + ((headEnd (s.mod.queue q)) / 8 *
    8 % capacity (s.mod.queue q))) 8 = true) ∧
    (∃ (s : State) (n : Nat) (ps : List Byte), Asked s.mod n 0x0600 ps ∧ ps.length = 32 ∧ (leAt ps 0 2) < 512 ∧
    leAt ps 3 1 ≤ 3 ∧ queueBad (queueOf ps) = false ∧ (s.mod.queue (leAt ps 0 2)).state = 0 ∧
    (s.mod.ctx (queueOf ps).owner).state ≠ 0 ∧ (s.mod.ctx (queueOf ps).owner).client = n ∧
    ((queueOf ps).prodKind = 0 → (s.mod.ctx (queueOf ps).prodId).state ≠ 0 ∧ (s.mod.ctx (queueOf ps).prodId).client = n) ∧
     ((queueOf ps).consKind = 0 → (s.mod.ctx (queueOf ps).consId).state ≠ 0 ∧ (s.mod.ctx (queueOf ps).consId).client = n) ∧
     endTaken s.mod true (queueOf ps).prodKind (queueOf ps).prodId = false ∧
    endTaken s.mod false (queueOf ps).consKind (queueOf ps).consId = false ∧
    (∀ r ∈ queueRegions (queueOf ps), asleepAt s.mod r.1 r.2 = false) ∧
    (∀ r ∈ queueRegions (queueOf ps), regionHeld s.mod (queueOf ps).owner r.1 r.2 = true) ∧
    ((queueOf ps).notices = true → syncOwned s.mod (noticeCtx (queueOf ps)) (queueOf ps).noticeSync = true) ∧
     s.mod.safety.cmpDead.get false (leAt ps 0 2) = false) ∧
    (∃ (s : State) (n : Nat) (ps : List Byte), Asked s.mod n 0x0600 ps ∧ ps.length = 32 ∧ (leAt ps 0 2) < 512 ∧
    leAt ps 3 1 ≤ 3 ∧ queueBad (queueOf ps) = false ∧ (s.mod.queue (leAt ps 0 2)).state = 0 ∧
    (s.mod.ctx (queueOf ps).owner).state ≠ 0 ∧ (s.mod.ctx (queueOf ps).owner).client = n ∧
    ((queueOf ps).prodKind = 0 → (s.mod.ctx (queueOf ps).prodId).state ≠ 0 ∧ (s.mod.ctx (queueOf ps).prodId).client = n) ∧
     ((queueOf ps).consKind = 0 → (s.mod.ctx (queueOf ps).consId).state ≠ 0 ∧ (s.mod.ctx (queueOf ps).consId).client = n) ∧
     endTaken s.mod true (queueOf ps).prodKind (queueOf ps).prodId = false ∧
    endTaken s.mod false (queueOf ps).consKind (queueOf ps).consId = false ∧
    (∀ r ∈ queueRegions (queueOf ps), asleepAt s.mod r.1 r.2 = false) ∧
    (∀ r ∈ queueRegions (queueOf ps), regionHeld s.mod (queueOf ps).owner r.1 r.2 = true) ∧
    ((queueOf ps).notices = true → syncOwned s.mod (noticeCtx (queueOf ps)) (queueOf ps).noticeSync = true) ∧
     s.mod.safety.cmpDead.get false (leAt ps 0 2) = true) ∧
    (∃ (s : State) (n : Nat) (ps : List Byte), Asked s.mod n 0x0601 ps ∧ ps.length = 8 ∧ zeros ((ps.drop 2).take 6) = true ∧
     (leAt ps 0 2) < 512 ∧ (s.mod.queue (leAt ps 0 2)).state ≠ 0 ∧
    ((s.mod.ctx (s.mod.queue (leAt ps 0 2)).owner).state ≠ 0 → (s.mod.ctx (s.mod.queue (leAt ps 0 2)).owner).client = n) ∧
     queueActive s.mod (leAt ps 0 2) = false) ∧
    (∃ (s : State) (n : Nat) (ps : List Byte), Asked s.mod n 0x0602 ps ∧ ps.length = 8 ∧ zeros ((ps.drop 2).take 6) = true ∧
     (leAt ps 0 2) < 512 ∧ (s.mod.queue (leAt ps 0 2)).state ≠ 0 ∧
    ((s.mod.ctx (s.mod.queue (leAt ps 0 2)).owner).state ≠ 0 → (s.mod.ctx (s.mod.queue (leAt ps 0 2)).owner).client = n) ∧
     queueActive s.mod (leAt ps 0 2) = false) ∧
    (∃ (s : State) (n : Nat) (ps : List Byte), Asked s.mod n 0x0603 ps ∧ ps.length = 8 ∧ leAt ps 2 1 ≤ 1 ∧
    zeros ((ps.drop 3).take 5) = true ∧ (leAt ps 0 2) < 512 ∧ (s.mod.queue (leAt ps 0 2)).state ≠ 0 ∧
    ((s.mod.ctx (s.mod.queue (leAt ps 0 2)).owner).state ≠ 0 → (s.mod.ctx (s.mod.queue (leAt ps 0 2)).owner).client = n)) ∧
    (∃ (s : State) (n : Nat) (ps : List Byte), Asked s.mod n 0x0604 ps ∧ ps.length = 8 ∧ zeros ((ps.drop 2).take 2) = true ∧
     (leAt ps 0 2) < 512 ∧ (s.mod.queue (leAt ps 0 2)).state ≠ 0 ∧ 1 ≤ leAt ps 4 4 ∧
    leAt ps 4 4 ≤ capacity (s.mod.queue (leAt ps 0 2)) ∧
    ((s.mod.ctx (s.mod.queue (leAt ps 0 2)).owner).state ≠ 0 → (s.mod.ctx (s.mod.queue (leAt ps 0 2)).owner).client = n) ∧
     (s.mod.queue (leAt ps 0 2)).form = 2 ∧ (s.mod.queue (leAt ps 0 2)).notices = true) ∧
    (∃ (s : State) (n : Nat) (ps : List Byte), Asked s.mod n 0x0605 ps ∧ ps.length = 8 ∧ zeros ((ps.drop 2).take 6) = true ∧
     (leAt ps 0 2) < 512 ∧ (s.mod.queue (leAt ps 0 2)).state ≠ 0 ∧
    ((s.mod.ctx (s.mod.queue (leAt ps 0 2)).owner).state ≠ 0 → (s.mod.ctx (s.mod.queue (leAt ps 0 2)).owner).client = n) ∧
     queueActive s.mod (leAt ps 0 2) = false ∧ s.mod.safety.cmpDead.get false (leAt ps 0 2) = false) ∧
    (∃ (s : State) (n : Nat) (ps : List Byte), Asked s.mod n 0x0605 ps ∧ ps.length = 8 ∧ zeros ((ps.drop 2).take 6) = true ∧
     (leAt ps 0 2) < 512 ∧ (s.mod.queue (leAt ps 0 2)).state ≠ 0 ∧
    ((s.mod.ctx (s.mod.queue (leAt ps 0 2)).owner).state ≠ 0 → (s.mod.ctx (s.mod.queue (leAt ps 0 2)).owner).client = n) ∧
     queueActive s.mod (leAt ps 0 2) = false ∧ s.mod.safety.cmpDead.get false (leAt ps 0 2) = true) ∧
    (∃ (s : State) (n : Nat) (ps : List Byte), Asked s.mod n 0x0605 ps ∧ ps.length = 8 ∧ zeros ((ps.drop 2).take 6) = true ∧
     (leAt ps 0 2) < 512 ∧ (s.mod.queue (leAt ps 0 2)).state ≠ 0 ∧
    ((s.mod.ctx (s.mod.queue (leAt ps 0 2)).owner).state ≠ 0 → (s.mod.ctx (s.mod.queue (leAt ps 0 2)).owner).client = n) ∧
     queueActive s.mod (leAt ps 0 2) = true) :=
  ⟨⟨eng { run := .issuing, pc := 3, bpc := 2, mvLeft := true, hold := .push 9 } 0 0 0x40080000 0 (kSq (fun q => { q with waiting := [⟨.engine 1 3, 5, [⟨0x55, 0x21, false⟩]⟩] })),
    9, ⟨.engine 1 3, 5, [⟨0x55, 0x21, false⟩]⟩, 1, 3, by decide +kernel⟩,
   ⟨st (kSq (fun q => { q with waiting := [⟨.intake 2, 5, [⟨0x55, 0x21, false⟩]⟩] })), 9, ⟨.intake 2, 5, [⟨0x55, 0x21,
    false⟩]⟩, by decide +kernel, by decide +kernel, by intro c e h; cases h⟩,
   ⟨kOwner up, kQueue (fun q => { q with waiting := [⟨.intake 2, 5, [⟨0x55, 0x21, false⟩]⟩] }), ⟨.intake 2, 5, [⟨0x55, 0x21,
    false⟩]⟩, by decide +kernel⟩,
   ⟨st (kSq (fun q => { q with main := ⟨40, 8, 8, 8⟩, shadow := ⟨40, 8, 8, 8⟩, head := List.replicate 8 ⟨0x55, 0x21, false⟩ })),
    9, by decide +kernel⟩,
   ⟨cmd 2 0x0600 (pk [(2, 511), (1, 2), (1, 3), (1, 12), (1, 5), (1, 0), (1, 5), (1, 0), (1, 5), (2, 11), (4, 512), (8,
    0x300000), (8, 0x301000)]) kOwner, 2, pk [(2, 511), (1, 2), (1, 3), (1, 12), (1, 5), (1, 0), (1, 5), (1, 0), (1, 5), (2,
    11), (4, 512), (8, 0x300000), (8, 0x301000)], by decide +kernel⟩,
   ⟨cmd 2 0x0600 (pk [(2, 511), (1, 2), (1, 3), (1, 12), (1, 5), (1, 0), (1, 5), (1, 0), (1, 5), (2, 11), (4, 512), (8,
    0x300000), (8, 0x301000)]) (fun m => kDead 511 (kOwner m)), 2, pk [(2, 511), (1, 2), (1, 3), (1, 12), (1, 5), (1, 0), (1,
    5), (1, 0), (1, 5), (2, 11), (4, 512), (8, 0x300000), (8, 0x301000)], by decide +kernel⟩,
   ⟨cmd 2 0x0601 (pk [(2, 9), (6, 0)]) (kSq id), 2, pk [(2, 9), (6, 0)], by decide +kernel⟩,
   ⟨cmd 2 0x0602 (pk [(2, 9), (6, 0)]) (kSq (fun q => { q with state := 3, main := ⟨9, 8, 8, 8⟩, head := [⟨0x55, 0x21, false⟩] })),
    2, pk [(2, 9), (6, 0)], by decide +kernel⟩,
   ⟨cmd 2 0x0603 (pk [(2, 9), (1, 1), (5, 0)]) (kSq id), 2, pk [(2, 9), (1, 1), (5, 0)], by decide +kernel⟩,
   ⟨cmd 2 0x0604 (pk [(2, 9), (2, 0), (4, 512)]) (kSq id), 2, pk [(2, 9), (2, 0), (4, 512)], by decide +kernel⟩,
   ⟨cmd 2 0x0605 (pk [(2, 9), (6, 0)]) (kSq id), 2, pk [(2, 9), (6, 0)], by decide +kernel⟩,
   ⟨cmd 2 0x0605 (pk [(2, 9), (6, 0)]) (fun m => kDead 9 (kSq id m)), 2, pk [(2, 9), (6, 0)], by decide +kernel⟩,
   ⟨cmd 2 0x0605 (pk [(2, 9), (6, 0)]) (fun m => (kSq (fun q => { q with prodKind := 1, prodId := 4 }) m).setStream 4 { state := 2 }),
    2, pk [(2, 9), (6, 0)], by decide +kernel⟩⟩

/-- Obligations.ReceivePackets: its clauses in order. -/
theorem witness_ReceivePackets :
    (∃ (s : State) (port : Nat) (p : CsiPacket) (i : Nat) (f : Frame), (s.mod.rxPort port).live = true ∧
    domOn s.mod 46 = true ∧ domOn s.mod 39 = true ∧ p.ecc = 0 ∧ p.vc ≤ 15 ∧ p.long = true ∧ p.dtype ≠ 0x12 ∧
    (streamsOn s.mod port p.vc).find? (fun i => (s.mod.stream i).cfg.dtype == p.dtype) = some i ∧
    (s.mod.stream i).cfg.format ≠ 5 ∧ (s.mod.stream i).frame = some f ∧ f.lines.length < (s.mod.stream i).cfg.hIn ∧
    p.crcOk = true ∧ p.overflow = false) ∧
    (∃ (s : State) (port : Nat) (p : CsiPacket) (i : Nat) (f : Frame), (s.mod.rxPort port).live = true ∧
    domOn s.mod 46 = true ∧ domOn s.mod 39 = true ∧ p.ecc = 0 ∧ p.vc ≤ 15 ∧ p.long = true ∧ p.dtype ≠ 0x12 ∧
    (streamsOn s.mod port p.vc).find? (fun i => (s.mod.stream i).cfg.dtype == p.dtype) = some i ∧
    (s.mod.stream i).cfg.format ≠ 5 ∧ (s.mod.stream i).frame = some f ∧ f.lines.length < (s.mod.stream i).cfg.hIn ∧
    p.crcOk = false ∧ p.overflow = false) ∧
    (∃ (s : State) (port : Nat) (p : CsiPacket) (i : Nat) (f : Frame), (s.mod.rxPort port).live = true ∧
    domOn s.mod 46 = true ∧ domOn s.mod 39 = true ∧ p.ecc = 0 ∧ p.vc ≤ 15 ∧ p.long = true ∧ p.dtype ≠ 0x12 ∧
    (streamsOn s.mod port p.vc).find? (fun i => (s.mod.stream i).cfg.dtype == p.dtype) = some i ∧
    (s.mod.stream i).cfg.format = 5 ∧ (s.mod.stream i).frame = some f ∧ p.overflow = false ∧ p.crcOk = true) ∧
    (∃ (s : State) (port : Nat) (p : CsiPacket) (i : Nat) (f : Frame), (s.mod.rxPort port).live = true ∧
    domOn s.mod 46 = true ∧ domOn s.mod 39 = true ∧ p.ecc = 0 ∧ p.vc ≤ 15 ∧ p.long = true ∧ p.dtype ≠ 0x12 ∧
    (streamsOn s.mod port p.vc).find? (fun i => (s.mod.stream i).cfg.dtype == p.dtype) = some i ∧
    (s.mod.stream i).cfg.format = 5 ∧ (s.mod.stream i).frame = some f ∧ p.overflow = false ∧ p.crcOk = false) ∧
    (∃ (s : State) (port : Nat) (p : CsiPacket), (s.mod.rxPort port).live = true ∧ domOn s.mod 46 = true ∧
    domOn s.mod 39 = true ∧ p.ecc = 0 ∧ p.vc ≤ 15 ∧ p.long = true ∧ p.dtype ≠ 0x12 ∧
    (∀ i ∈ streamsOn s.mod port p.vc, (s.mod.stream i).cfg.dtype ≠ p.dtype) ∧ p.crcOk = true) ∧
    (∃ (s : State) (port : Nat) (p : CsiPacket), (s.mod.rxPort port).live = true ∧ domOn s.mod 46 = true ∧
    domOn s.mod 39 = true ∧ p.ecc = 0 ∧ p.vc ≤ 15 ∧ p.long = true ∧ p.dtype ≠ 0x12 ∧
    (∀ i ∈ streamsOn s.mod port p.vc, (s.mod.stream i).cfg.dtype ≠ p.dtype) ∧ p.crcOk = false) ∧
    (∃ (s : State) (port : Nat) (p : CsiPacket), (s.mod.rxPort port).live = true ∧ domOn s.mod 46 = true ∧
    domOn s.mod 39 = true ∧ p.ecc = 2 ∧ p.long = false) ∧
    (∃ (c : StreamCfg) (p : List Byte), 8 * p.length ≠ c.wIn * pixelBits c.format) :=
  ⟨⟨wRx 0x2B 0, 1, { ecc := 0, vc := 15, dtype := 0x2B, long := true, crcOk := true, payload := [1, 2], overflow := false },
    2, ⟨7, true, [], [], 0⟩, by decide +kernel⟩,
   ⟨wRx 0x2B 0, 1, { ecc := 0, vc := 15, dtype := 0x2B, long := true, crcOk := false, payload := [1, 2], overflow := false },
    2, ⟨7, true, [], [], 0⟩, by decide +kernel⟩,
   ⟨wRx 0x30 5, 1, { ecc := 0, vc := 15, dtype := 0x30, long := true, crcOk := true, payload := [1, 2], overflow := false },
    2, ⟨7, true, [], [], 0⟩, by decide +kernel⟩,
   ⟨wRx 0x30 5, 1, { ecc := 0, vc := 15, dtype := 0x30, long := true, crcOk := false, payload := [1, 2], overflow := false },
    2, ⟨7, true, [], [], 0⟩, by decide +kernel⟩,
   ⟨wRx 0x2A 0, 1, { ecc := 0, vc := 15, dtype := 0x2B, long := true, crcOk := true, payload := [1, 2], overflow := false },
    by decide +kernel⟩,
   ⟨wRx 0x2A 0, 1, { ecc := 0, vc := 15, dtype := 0x2B, long := true, crcOk := false, payload := [1, 2], overflow := false },
    by decide +kernel⟩,
   ⟨wRx 0x2B 0, 1, { ecc := 2, vc := 15, dtype := 0x2B, long := false, crcOk := true, payload := [1, 2], overflow := false },
    by decide +kernel⟩,
   ⟨{ wIn := 8, format := 0 }, [1, 2], by decide +kernel⟩⟩

end Sys2Proof.Tests
end

