-- ==== Sys2Proof/Tests/WitnessLinks.lean ====
section
/-!
SUPPORT. Witnesses: for every statement that has hypotheses, concrete states and operands that meet them together, clause by clause.
-/

namespace Sys2Proof.Tests

set_option Elab.async false

open Sys2Proof Sys2Proof.Machine

/-- The links as given. -/
def rLink (f : Links → Links) (m : Machine.Module) : Machine.Module := { m with links := f m.links }

/-- Runner 1 as given. -/
def rRun (r : Runner) (m : Machine.Module) : Machine.Module := m.setRunner 1 r

/-- A deferred command. -/
def rDef (code key : Nat) (m : Machine.Module) : Machine.Module :=
  { m with host := { m.host with deferred := [⟨2, 0x55, code, key⟩] } }

/-- Transmit port 1 takes queue 9, which holds n words of one packet. -/
def rTx (n : Nat) (m : Machine.Module) : Machine.Module :=
  let ws : List SqWord := List.replicate (n - 1) ⟨0x1122334455667788, 0x0A, false⟩ ++ [⟨1, 0x1A, false⟩]
  let m := (ctxUp 5 2 m).setQueue 9
    { state := 1, auto := true, log2 := 12, owner := 5, prodId := 5, consKind := 3, consId := 1, main := ⟨n, 0, 0, 0⟩, shadow := ⟨n, 0, 0, 0⟩
      head := ws, eops := [(n - 1, 7)], packets := 1 }
  m.setTx 1 { live := true, running := true, queue := 9, lanes := 1, rate := 1000, dtype := 0x30, lineBytes := 64, dataLines := 1 }

/-- A peer's operation. -/
def rOp : PeerOp :=
  { runner := 1, module := 5, context := 7, window := 9, offset := 0, kind := 0, aop := 0, length := 8, rsync := 0, amount := 0
    operand := 0, compare := 0, data := [], poison := [] }

/-- Context 5 holds an image whose load from the cold frame runs. -/
def rLoad (m : Machine.Module) : Machine.Module :=
  rDef 0x0402 80 (m.setCtx 5 { state := 1, client := 2, images :=
    [(0, some { base := 0, bytes := 80, crc := 0, loaded := false, srcAddr := 0x10000000000 })] })

/-- A commit that swaps. -/
def rSwap (m : Machine.Module) : Machine.Module :=
  let m := rDef 0x0503 3 (ctxUp 5 2 m)
  { m with kv := { pools := [(3, { live := true, ctx := 5 })]
                   plan := some ⟨3, [], [(0, 0)], [], [], [], 0, 0, 0, 0⟩ } }

/-- Milliseconds after power-on. -/
def rAt (ms : Nat) (m : Machine.Module) : Machine.Module := { m with time := { m.time with elapsed := ms * msUnit } }

/-- A packet of context 5 for another module. -/
def rOut : OutPacket := { op := 4, part := 0, dest := 5, crossed := 1, body := { rOp with context := 5 } }

/-- What is claimed of the value that is there. -/
theorem rSome {a : Option Nat} {n : Nat} {P : Nat → Prop} (h : a = some n) (hp : P n) : ∀ b, a = some b → P b := fun b e => by
  rw [h] at e; cases e; exact hp
theorem rNone {a : Option Nat} {P : Nat → Prop} (h : a = none) : ∀ b, a = some b → P b := fun b e => by
  rw [h] at e; cases e

/-- A Frame End on transmit port 1, until the time given. -/
def rFrame (t : Nat) (m : Machine.Module) : Machine.Module :=
  m.setTx 1 { (rTx 8 m).txPort 1 with frame := some (⟨0, 1, 1, 0, none⟩, t) }

/-- The power block as given. -/
def oPow (f : Power → Power) (m : Machine.Module) : Machine.Module := { m with power := f m.power }

/-- A job of context 5 on core 1. -/
def oJob (st : JobState) : Job :=
  { id := 9, ctx := 5, client := 2, tag := 0x77, prio := 3, mask := 2, runLimit := 0, args := [], slots := [], state := st, admitted := 1
    seed := 0, step := 4, mode := 0, acceptedAt := 0, firstDispatch := some 0, dispatchedAt := 0, dispatched := 0, preemptions := 0
    retries := 0, inherited := 0, sliceFor := none, sliceStart := 0, parkAt := none, granted := false, inPlace := [], saves := [], loaded := true }

/-- The module with that job. -/
def oRun (st : JobState) (m : Machine.Module) : Machine.Module :=
  let m := (ctxUp 5 2 m).setCore 1 { job := some 9, ctx := some 5, mask := 8 }
  { m with sched := { m.sched with jobs := [oJob st] } }

/-- The health block as given. -/
def qHl (f : Health → Health) (m : Machine.Module) : Machine.Module :=
  { m with health := f m.health, time := { m.time with elapsed := 2000 * msUnit } }

/-- A valid profile 1. -/
def qProf : List Byte :=
  let bs := fields 128 [(0, 4, 0x4B5A5046), (4, 2, 1), (6, 1, 1), (28, 1, 105), (29, 1, 115), (30, 1, 1), (32, 4, 63)]
  setBytes bs 124 (leBytes 4 (crc32c (bs.take 124)).toNat)

/-- Core 1 held for its temperature and off, cool since 0; 1 s has passed. -/
def qHeld (m : Machine.Module) : Machine.Module :=
  oPow (fun p => { p with on := setBit p.on 1 false }) ((qHl (fun h => { h with plans := [(1, { coolSince := some 0, lower := true, vset := 900 })] }) m).setCore 1
    { thermalHeld := true })

/-- Obligations.LinkCommands: its clauses in order. -/
theorem witness_LinkCommands :
    (∃ (s : State) (n : Nat) (ps : List Byte), Asked s.mod n 0x0E00 ps ∧ ps.length = 8 ∧ leAt ps 0 1 ≤ 1 ∧
    zeros ((ps.drop 1).take 7) = true) ∧
    (∃ (s : State) (n : Nat) (ps : List Byte), Asked s.mod n 0x0E01 ps ∧ ps.length = 24 ∧ (leAt ps 0 1) ≤ 63 ∧
    12 ≤ (leAt ps 1 1) ∧ (leAt ps 1 1) ≤ 40 ∧ zeros ((ps.drop 2).take 6) = true ∧ (leAt ps 8 8) % 2 ^ (leAt ps 1 1) = 0 ∧
    leAt ps 16 8 % 4096 = 0 ∧ 0x10000000000 ≤ (leAt ps 8 8) ∧ (leAt ps 8 8) + 2 ^ (leAt ps 1 1) ≤ 0x20000000000 ∧
    (∀ i o, i < 64 → s.mod.links.grants.get none i = some o → overlaps (leAt ps 8 8) (2 ^ (leAt ps 1 1)) o.coldBase (2 ^
    o.log2) = false) ∧ (n = 0 ∨ n = 14) ∧ s.mod.links.grants.get none (leAt ps 0 1) = none) ∧
    (∃ (s : State) (n : Nat) (ps : List Byte) (v : Grant), Asked s.mod n 0x0E02 ps ∧ Room s.mod n ∧ ps.length = 8 ∧
    (leAt ps 0 1) ≤ 63 ∧ zeros ((ps.drop 1).take 7) = true ∧ (n = 0 ∨ n = 14) ∧
    s.mod.links.grants.get none (leAt ps 0 1) = some v ∧ v.closing = false) ∧
    (∃ (s : State) (n : Nat) (ps : List Byte) (v : Grant), Asked s.mod n 0x0E02 ps ∧ Room s.mod n ∧ ps.length = 8 ∧
    (leAt ps 0 1) ≤ 63 ∧ zeros ((ps.drop 1).take 7) = true ∧ (n = 0 ∨ n = 14) ∧
    s.mod.links.grants.get none (leAt ps 0 1) = some v ∧ v.closing = false) ∧
    (∃ (s : State) (n : Nat) (ps : List Byte), Asked s.mod n 0x0E03 ps ∧ ps.length = 24 ∧ txBad ps = false ∧
    zeros ((ps.drop 5).take 1) = true ∧ zeros ((ps.drop 18).take 6) = true ∧ (n = 0 ∨ n = 14) ∧
    (leAt ps 14 2 + leAt ps 16 2) * leAt ps 12 2 / 8 ≤ capacity (s.mod.queue (leAt ps 6 2)) ∧
    (s.mod.txPort (leAt ps 0 1)).running = false ∧ (s.mod.txPort (leAt ps 0 1)).stopping = false ∧
    (s.mod.queue (leAt ps 6 2)).state ≠ 0 ∧ (s.mod.queue (leAt ps 6 2)).consKind = 3 ∧
    (s.mod.queue (leAt ps 6 2)).consId = (leAt ps 0 1) ∧ (s.mod.queue (leAt ps 6 2)).auto = true) ∧
    (∃ (s : State) (n : Nat) (ps : List Byte), Asked s.mod n 0x0E04 ps ∧ Room s.mod n ∧ ps.length = 8 ∧ leAt ps 0 1 ≤ 1 ∧
     zeros ((ps.drop 2).take 6) = true ∧ (n = 0 ∨ n = 14) ∧ (s.mod.txPort (leAt ps 0 1)).live = true ∧
    (s.mod.txPort (leAt ps 0 1)).stopping = false ∧ leAt ps 1 1 = 1 ∧ s.mod.power.entry = none) ∧
    (∃ (s : State) (n : Nat) (ps : List Byte), Asked s.mod n 0x0E04 ps ∧ Room s.mod n ∧ ps.length = 8 ∧ leAt ps 0 1 ≤ 1 ∧
     zeros ((ps.drop 2).take 6) = true ∧ (n = 0 ∨ n = 14) ∧ (s.mod.txPort (leAt ps 0 1)).live = true ∧
    (s.mod.txPort (leAt ps 0 1)).stopping = false ∧ leAt ps 1 1 = 1 ∧ s.mod.power.entry ≠ none) ∧
    (∃ (s : State) (n : Nat) (ps : List Byte), Asked s.mod n 0x0E04 ps ∧ Room s.mod n ∧ ps.length = 8 ∧ leAt ps 0 1 ≤ 1 ∧
     zeros ((ps.drop 2).take 6) = true ∧ (n = 0 ∨ n = 14) ∧ (s.mod.txPort (leAt ps 0 1)).live = true ∧
    (s.mod.txPort (leAt ps 0 1)).stopping = false ∧ leAt ps 1 1 = 0) ∧
    (∃ (s : State) (n : Nat) (ps : List Byte), Asked s.mod n 0x0E05 ps ∧ Room s.mod n ∧ ps.length = 8 ∧ leAt ps 0 1 ≤ 3 ∧
     zeros ((ps.drop 1).take 7) = true ∧ (n = 0 ∨ n = 14) ∧ s.mod.power.entry = none ∧ (s.mod.runner (leAt ps 0 1)).state = 0) :=
  ⟨⟨cmd 2 0x0E00 (1 :: zs 7) id, 2, 1 :: zs 7, by decide +kernel⟩,
   ⟨cmd 0 0x0E01 (pk [(1, 63), (1, 40), (6, 0), (8, 0x10000000000), (8, 4096)]) id, 0, pk [(1, 63), (1, 40), (6, 0), (8,
    0x10000000000), (8, 4096)], first4 (by decide +kernel)
    (first4 (by decide +kernel)
    ⟨by decide +kernel, by decide +kernel, (fun _ _ _ h => nomatch h),
    by decide +kernel, by decide +kernel⟩)⟩,
   ⟨cmd 14 0x0E02 (3 :: zs 7) (rLink (fun l => { l with grants := [(3, some ⟨0x10000000000, 22, 0x80000000, false⟩)] })), 14,
    3 :: zs 7, ⟨0x10000000000, 22, 0x80000000, false⟩, by decide +kernel⟩,
   ⟨cmd 14 0x0E02 (3 :: zs 7) (rLink (fun l => { l with grants := [(3, some ⟨0x10000000000, 22, 0x80000000, false⟩)] })), 14,
    3 :: zs 7, ⟨0x10000000000, 22, 0x80000000, false⟩, by decide +kernel⟩,
   ⟨cmd 0 0x0E03 (pk [(1, 1), (1, 0), (1, 4), (1, 15), (1, 0x37), (1, 0), (2, 9), (4, 4500), (2, 64), (2, 1), (2, 2), (6,
    0)]) (fun m => (rTx 8 m).setTx 1 {}), 0, pk [(1, 1), (1, 0), (1, 4), (1, 15), (1, 0x37), (1, 0), (2, 9), (4, 4500), (2,
    64), (2, 1), (2, 2), (6, 0)], by decide +kernel⟩,
   ⟨cmd 0 0x0E04 (1 :: 1 :: zs 6) (rTx 8), 0, 1 :: 1 :: zs 6, by decide +kernel⟩,
   ⟨cmd 0 0x0E04 (1 :: 1 :: zs 6) (fun m => oPow (fun p => { p with entry := some 3 }) (rTx 8 m)), 0, 1 :: 1 :: zs 6,
    by decide +kernel⟩,
   ⟨cmd 0 0x0E04 (1 :: 0 :: zs 6) (rTx 8), 0, 1 :: 0 :: zs 6, by decide +kernel⟩,
   ⟨cmd 0 0x0E05 (1 :: zs 7) id, 0, 1 :: zs 7, by decide +kernel⟩⟩

/-- Obligations.LinkCommands: its clauses in order, from number 10. -/
theorem witness_LinkCommands2 :
    (∃ (s : State) (n : Nat) (ps : List Byte), Asked s.mod n 0x0E05 ps ∧ Room s.mod n ∧ ps.length = 8 ∧ leAt ps 0 1 ≤ 3 ∧
     zeros ((ps.drop 1).take 7) = true ∧ (n = 0 ∨ n = 14) ∧ s.mod.power.entry = none ∧ (s.mod.runner (leAt ps 0 1)).state = 1) ∧
    (∃ (s : State) (n : Nat) (ps : List Byte), Asked s.mod n 0x0E05 ps ∧ Room s.mod n ∧ ps.length = 8 ∧ leAt ps 0 1 ≤ 3 ∧
     zeros ((ps.drop 1).take 7) = true ∧ (n = 0 ∨ n = 14) ∧ s.mod.power.entry = none ∧ (s.mod.runner (leAt ps 0 1)).state = 2) ∧
    (∃ (s : State) (n : Nat) (ps : List Byte), Asked s.mod n 0x0E05 ps ∧ ps.length = 8 ∧ leAt ps 0 1 ≤ 3 ∧
    zeros ((ps.drop 1).take 7) = true ∧ (n = 0 ∨ n = 14) ∧ s.mod.power.entry ≠ none) ∧
    (∃ (s : State) (n : Nat) (ps : List Byte), Asked s.mod n 0x0E06 ps ∧ ps.length = 8 ∧ leAt ps 0 1 ≤ 3 ∧
    zeros ((ps.drop 1).take 7) = true ∧ (n = 0 ∨ n = 14) ∧ (s.mod.runner (leAt ps 0 1)).state = 0) ∧
    (∃ (s : State) (n : Nat) (ps : List Byte), Asked s.mod n 0x0E06 ps ∧ ps.length = 8 ∧ leAt ps 0 1 ≤ 3 ∧
    zeros ((ps.drop 1).take 7) = true ∧ (n = 0 ∨ n = 14) ∧ (s.mod.runner (leAt ps 0 1)).state ≠ 0 ∧
    (∀ c, c < 32 → (s.mod.core c).mover = [])) ∧
    (∃ (s : State) (n : Nat) (ps : List Byte), Asked s.mod n 0x0E07 ps ∧ ps.length = 16 ∧
    (∀ i, i < 16 → leAt ps i 1 ≤ 3 ∨ leAt ps i 1 = 0xFF) ∧ leAt ps s.mod.host.moduleId 1 = 0xFF ∧ (n = 0 ∨ n = 14)) ∧
    (∃ (s : State) (n : Nat) (ps : List Byte), Asked s.mod n 0x0E08 ps ∧ Room s.mod n ∧ ps.length = 8 ∧ zeros ps = true ∧
    (n = 0 ∨ n = 14)) ∧
    (∃ (s : State) (n : Nat) (ps : List Byte), Asked s.mod n 0x0E09 ps ∧ ps.length = 8 ∧ leAt ps 0 1 ≤ 1 ∧
    0x50 ≤ leAt ps 1 1 ∧ leAt ps 1 1 ≤ 0x57 ∧ zeros ((ps.drop 2).take 6) = true) :=
  ⟨⟨cmd 0 0x0E05 (1 :: zs 7) (rRun { state := 1 }), 0, 1 :: zs 7, by decide +kernel⟩,
   ⟨cmd 14 0x0E05 (1 :: zs 7) (rRun { state := 2 }), 14, 1 :: zs 7, by decide +kernel⟩,
   ⟨cmd 0 0x0E05 (1 :: zs 7) (fun m => oPow (fun p => { p with entry := some 3 }) m), 0, 1 :: zs 7, by decide +kernel⟩,
   ⟨cmd 14 0x0E06 (3 :: zs 7) id, 14, 3 :: zs 7, by decide +kernel⟩,
   ⟨cmd 14 0x0E06 (1 :: zs 7) (rRun { state := 2 }), 14, 1 :: zs 7, by decide +kernel⟩,
   ⟨cmd 0 0x0E07 ([0xFF, 0, 3] ++ List.replicate 13 0xFF) id, 0, [0xFF, 0, 3] ++ List.replicate 13 0xFF, by decide +kernel⟩,
   ⟨cmd 0 0x0E08 (zs 8) id, 0, zs 8, by decide +kernel⟩,
   ⟨cmd 2 0x0E09 (pk [(1, 1), (1, 0x57), (6, 0)]) id, 2, pk [(1, 1), (1, 0x57), (6, 0)], by decide +kernel⟩⟩

/-- Obligations.LinkEvents: its clauses in order. -/
theorem witness_LinkEvents :
    (∃ (s : State) (speed : Nat) (width : Nat), linkStateOk speed width = true ∧ (mayTrain s.mod = true ∨ speed = 0) ∧
    speed = s.mod.links.pcieSpeed ∧ width = s.mod.links.pcieWidth) ∧
    (∃ (s : State) (speed : Nat) (width : Nat), linkStateOk speed width = true ∧ (mayTrain s.mod = true ∨ speed = 0) ∧
    16 * speed + width ≠ 16 * s.mod.links.pcieSpeed + s.mod.links.pcieWidth) ∧
    (∃ (s : State) (v : Nat), v < 16 ∧ s.mod.links.pcieSpeed ≠ 0 ∧ s.mod.host.msixPba.getLsbD v = false) ∧
    (∃ (s : State) (v : Nat), v < 16 ∧ s.mod.links.pcieSpeed ≠ 0 ∧ s.mod.host.msixPba.getLsbD v = true) ∧
    (∃ (s : State) (k : Nat) (slot : Nat) (i : Image), s.mod.host.gState = 3 ∧ k < 64 ∧ slot < 16 ∧
    imageOf s.mod k slot = some i ∧ i.loaded = false ∧ 0x10000000000 ≤ i.srcAddr ∧
    i.startAt + 50 * msUnit ≤ s.mod.time.elapsed) ∧
    (∃ (s : State) (k : Nat) (slot : Nat) (i : Image), s.mod.host.gState = 3 ∧ k < 64 ∧ slot < 16 ∧
    imageOf s.mod k slot = some i ∧ i.loaded = false ∧ 0x10000000000 ≤ i.srcAddr ∧
    s.mod.time.elapsed < i.startAt + 50 * msUnit) ∧
    (∃ (s : State) (p : Plan), s.mod.host.gState = 3 ∧ swapping s.mod = some p ∧ p.startAt + 50 * msUnit ≤ s.mod.time.elapsed) ∧
    (∃ (s : State) (p : Plan), s.mod.host.gState = 3 ∧ swapping s.mod = some p ∧ s.mod.time.elapsed < p.startAt + 50 * msUnit) ∧
    (∃ (s : State) (f : Nat × Nat × Nat) (rest : List (Nat × Nat × Nat)), s.mod.host.gState = 3 ∧
    s.mod.boot.fetching = f :: rest ∧ f.2.2 + 50 * msUnit ≤ s.mod.time.elapsed) ∧
    (∃ (s : State) (f : Nat × Nat × Nat) (rest : List (Nat × Nat × Nat)), s.mod.host.gState = 3 ∧
    s.mod.boot.fetching = f :: rest ∧ s.mod.time.elapsed < f.2.2 + 50 * msUnit) ∧
    (∃ (s : State) (g : Nat) (v : Grant) (d : Deferred), s.mod.host.gState = 3 ∧ s.mod.links.grants.get none g = some v ∧
     v.closing = true ∧ Outstanding s.mod 0x0E02 g d ∧ rangeBusy s.mod v.coldBase (2 ^ v.log2) = false) ∧
    (∃ (s : State) (g : Nat) (v : Grant) (d : Deferred), s.mod.host.gState = 3 ∧ s.mod.links.grants.get none g = some v ∧
     v.closing = true ∧ Outstanding s.mod 0x0E02 g d ∧ rangeBusy s.mod v.coldBase (2 ^ v.log2) = true) ∧
    (∃ (s : State) (recs : List (Option (List Byte))), s.mod.host.gState = 3 ∧ findDeferred s.mod 0x0E08 0 ≠ none ∧
    (∃ x ∈ (if (s.mod.boot.quiet = some (recs.take 16)) then [0, 0, 0, 0] else buildMasks { s.mod with links := { s.mod.links with ids := (recs.take 16) } }),
    x ≠ 0) ∧ (s.mod.boot.compared = false ∨ (if (s.mod.boot.quiet = some (recs.take 16)) then [0, 0, 0, 0] else buildMasks { s.mod with links := { s.mod.links with ids := (recs.take 16) } })
    ≠ s.mod.boot.masks)) ∧
    (∃ (s : State) (recs : List (Option (List Byte))), s.mod.host.gState = 3 ∧ findDeferred s.mod 0x0E08 0 ≠ none ∧
    ((∀ x ∈ (if (s.mod.boot.quiet = some (recs.take 16)) then [0, 0, 0, 0] else buildMasks { s.mod with links := { s.mod.links with ids := (recs.take 16) } }),
    x = 0) ∨ (s.mod.boot.compared = true ∧ (if (s.mod.boot.quiet = some (recs.take 16)) then [0, 0, 0, 0] else buildMasks { s.mod with links := { s.mod.links with ids := (recs.take 16) } })
    = s.mod.boot.masks))) ∧
    (∃ (s : State) (p : Nat), (s.mod.txPort p).stopping = true ∧ (s.mod.txPort p).frame = none) ∧
    (∃ (s : State) (p : Nat), (s.mod.txPort p).stopping = true ∧ (s.mod.txPort p).frame ≠ none) :=
  ⟨⟨st id, 4, 8, by decide +kernel⟩,
   ⟨st id, 5, 8, by decide +kernel⟩,
   ⟨st id, 15, by decide +kernel⟩,
   ⟨st (fun m => { m with host := { m.host with msixPba := 0x8000 } }), 15, by decide +kernel⟩,
   ⟨st (fun m => rAt 50 (rLoad m)), 5, 0, { base := 0, bytes := 80, crc := 0, loaded := false, srcAddr := 0x10000000000 },
    by decide +kernel⟩,
   ⟨st (fun m => rAt 49 (rLoad m)), 5, 0, { base := 0, bytes := 80, crc := 0, loaded := false, srcAddr := 0x10000000000 },
    by decide +kernel⟩,
   ⟨st (fun m => rAt 50 (rSwap m)), ⟨3, [], [(0, 0)], [], [], [], 0, 0, 0, 0⟩, by decide +kernel⟩,
   ⟨st (fun m => rAt 49 (rSwap m)), ⟨3, [], [(0, 0)], [], [], [], 0, 0, 0, 0⟩, by decide +kernel⟩,
   ⟨st (fun m => rAt 50 { m with boot := { m.boot with fetching := [(0x10000000000, 64, 0)] } }), (0x10000000000, 64, 0), [],
    by decide +kernel⟩,
   ⟨st (fun m => rAt 49 { m with boot := { m.boot with fetching := [(0x10000000000, 64, 0)] } }), (0x10000000000, 64, 0), [],
    by decide +kernel⟩,
   ⟨st (fun m => rDef 0x0E02 3 (rLink (fun l => { l with grants := [(3, some ⟨0x10000000000, 22, 0x80000000, true⟩)] }) m)),
    3, ⟨0x10000000000, 22, 0x80000000, true⟩, ⟨2, 0x55, 0x0E02, 3⟩, by decide +kernel⟩,
   ⟨st (fun m => { (rDef 0x0E02 3 (rLink (fun l => { l with grants := [(3, some ⟨0x10000000000, 22, 0x80000000, true⟩)] }) m)) with boot := { m.boot with fetching := [(0x10000000000, 64, 0)] } }),
    3, ⟨0x10000000000, 22, 0x80000000, true⟩, ⟨2, 0x55, 0x0E02, 3⟩, by decide +kernel⟩,
   ⟨st (rDef 0x0E08 0), [none, some [1, 2]], by decide +kernel, by decide +kernel, ⟨2, by decide +kernel, by decide +kernel⟩,
    .inl (by decide +kernel)⟩,
   ⟨st (fun m => rDef 0x0E08 0 { m with boot := { m.boot with quiet := some [] } }), [], by decide +kernel,
    by decide +kernel, .inl (by rw [if_pos (by decide +kernel)]; intro x hx; simp at hx; exact hx)⟩,
   ⟨st (fun m => m.setTx 1 { (rTx 8 m).txPort 1 with stopping := true }), 1, by decide +kernel⟩,
   ⟨st (fun m => m.setTx 1 { (rFrame 5 m).txPort 1 with stopping := true }), 1, by decide +kernel⟩⟩

/-- Obligations.LinkEvents: its clauses in order, from number 17. -/
theorem witness_LinkEvents2 :
    (∃ (s : State) (p : Nat), p < 2 ∧ (s.mod.txPort p).running = true ∧ (s.mod.txPort p).stopping = false ∧
    (s.mod.txPort p).frame = none ∧ domOn s.mod 46 = true ∧ domOn s.mod 40 = true ∧
    (s.mod.queue (s.mod.txPort p).queue).state = 1 ∧ (s.mod.queue (s.mod.txPort p).queue).consKind = 3 ∧
    (s.mod.queue (s.mod.txPort p).queue).consId = p ∧
    (∃ e ∈ (s.mod.queue (s.mod.txPort p).queue).eops, (s.mod.queue (s.mod.txPort p).queue).main.rp ≤ e.1) ∧
    ((((popPacket (occupancy (s.mod.queue (s.mod.txPort p).queue)) (s.mod.txPort p).queue s.mod []).2).filter (fun w =>
    (w.tag.extractLsb' 0 4).toNat = 15)).flatMap (fun w => leBytes 8 w.data.toNat)).length = (s.mod.txPort p).metaLines *
    (s.mod.txPort p).lineBytes ∧ ((((popPacket (occupancy (s.mod.queue (s.mod.txPort p).queue)) (s.mod.txPort p).queue s.mod
    []).2).filter (fun w => (w.tag.extractLsb' 0 4).toNat ≠ 15)).flatMap (fun w => leBytes 8 w.data.toNat)).length =
    (s.mod.txPort p).dataLines * (s.mod.txPort p).lineBytes) ∧
    (∃ (s : State) (p : Nat), p < 2 ∧ (s.mod.txPort p).running = true ∧ (s.mod.txPort p).stopping = false ∧
    (s.mod.txPort p).frame = none ∧ domOn s.mod 46 = true ∧ domOn s.mod 40 = true ∧
    (s.mod.queue (s.mod.txPort p).queue).state = 1 ∧ (s.mod.queue (s.mod.txPort p).queue).consKind = 3 ∧
    (s.mod.queue (s.mod.txPort p).queue).consId = p ∧
    (∃ e ∈ (s.mod.queue (s.mod.txPort p).queue).eops, (s.mod.queue (s.mod.txPort p).queue).main.rp ≤ e.1) ∧
    (((((popPacket (occupancy (s.mod.queue (s.mod.txPort p).queue)) (s.mod.txPort p).queue s.mod []).2).filter (fun w =>
    (w.tag.extractLsb' 0 4).toNat = 15)).flatMap (fun w => leBytes 8 w.data.toNat)).length ≠ (s.mod.txPort p).metaLines *
    (s.mod.txPort p).lineBytes ∨ ((((popPacket (occupancy (s.mod.queue (s.mod.txPort p).queue)) (s.mod.txPort p).queue s.mod
    []).2).filter (fun w => (w.tag.extractLsb' 0 4).toNat ≠ 15)).flatMap (fun w => leBytes 8 w.data.toNat)).length ≠
    (s.mod.txPort p).dataLines * (s.mod.txPort p).lineBytes)) ∧
    (∃ (s : State) (p : Nat) (e : CsiOut) (T : Nat), p < 2 ∧ s.pending = [] ∧ (s.mod.txPort p).frame = some (e, T) ∧
    T ≤ (tscCycle s.mod).time.elapsed) ∧
    (∃ (s : State) (p : Nat) (e : CsiOut) (T : Nat), p < 2 ∧ s.pending = [] ∧ (s.mod.txPort p).frame = some (e, T) ∧
    (tscCycle s.mod).time.elapsed < T) ∧
    (∃ (s : State) (addr : Nat) (a : Nat), domOn s.mod 37 = true ∧ domOn s.mod 47 = true ∧ addr < 128 ∧
    a ≠ 0x28 + s.mod.host.moduleId) ∧
    (∃ (s : State) (addr : Nat), domOn s.mod 37 = true ∧ domOn s.mod 47 = true ∧ addr < 128) ∧
    (∃ (s : State) (off : Nat) (bs : List Byte), reached .i3c s.mod = true ∧ bs.length ≤ 512 ∧ off < 0x10000) ∧
    (∃ (s : State), reached .i3c s.mod = true) ∧
    (∃ (s : State) (n : Nat) (rest : List Nat), reached .i3c s.mod = true ∧ s.mod.host.ibiRaised = none ∧
    bitsOf s.mod.host.ibiPend = n :: rest) ∧
    (∃ (s : State), reached .i3c s.mod = true ∧ (s.mod.host.ibiRaised ≠ none ∨ bitsOf s.mod.host.ibiPend = [])) ∧
    (∃ (s : State), reached .i3c s.mod = true) ∧
    (∃ (s : State) (n : Nat), domOn s.mod 47 = true ∧ s.mod.host.ibiRaised = some n ∧ s.mod.host.ibiOn = true ∧
    bitsOf (setBit s.mod.host.ibiPend n false) = []) ∧
    (∃ (s : State) (n : Nat) (k : Nat) (rest : List Nat), domOn s.mod 47 = true ∧ s.mod.host.ibiRaised = some n ∧
     s.mod.host.ibiOn = true ∧ bitsOf (setBit s.mod.host.ibiPend n false) = k :: rest) ∧
    (∃ (s : State) (r : Nat) (width : Nat) (peer : Nat), r < 4 ∧ domOn s.mod 44 = true ∧ (s.mod.runner r).state = 1 ∧
    peer < 16 ∧ (width = 4 ∨ width = 8) ∧ peer ≠ s.mod.host.moduleId) ∧
    (∃ (s : State) (r : Nat) (width : Nat) (peer : Nat), r < 4 ∧ domOn s.mod 44 = true ∧ (s.mod.runner r).state = 1 ∧
    peer < 16 ∧ (width = 0 ∨ ((width = 4 ∨ width = 8) ∧ peer = s.mod.host.moduleId))) ∧
    (∃ (s : State) (r : Nat) (seq : Nat) (ok : Bool) (p : TransitPacket), r < 4 ∧ domOn s.mod 44 = true ∧
    (s.mod.runner r).state = 2 ∧ p.dest < 16 ∧ ok = false ∧ (s.mod.runner r).rx ≤ seq) :=
  ⟨⟨st (rTx 8), 1, first4 (by decide +kernel)
    (first4 (by decide +kernel)
    ⟨by decide +kernel, ⟨(7, 7), by decide +kernel⟩,
    by decide +kernel⟩)⟩,
   ⟨st (rTx 9), 1, first4 (by decide +kernel)
    (first4 (by decide +kernel)
    ⟨by decide +kernel, ⟨(8, 7), by decide +kernel⟩,
    by decide +kernel⟩)⟩,
   ⟨st (rFrame 0), 1, ⟨0, 1, 1, 0, none⟩, 0, by decide +kernel⟩,
   ⟨st (rFrame (2 ^ 90)), 1, ⟨0, 1, 1, 0, none⟩, 2 ^ 90, by decide +kernel⟩,
   ⟨st id, 127, 0x29, by decide +kernel⟩,
   ⟨st id, 127, by decide +kernel⟩,
   ⟨st (fun m => { m with host := { m.host with i3cAddr := some 9 } }), 0x200, [1, 2], by decide +kernel⟩,
   ⟨st (fun m => { m with host := { m.host with i3cAddr := some 9 } }), by decide +kernel⟩,
   ⟨st (fun m => { m with host := { m.host with i3cAddr := some 9, ibiPend := 6 } }), 1, [2], by decide +kernel⟩,
   ⟨st (fun m => { m with host := { m.host with i3cAddr := some 9 } }), by decide +kernel⟩,
   ⟨st (fun m => { m with host := { m.host with i3cAddr := some 9 } }), by decide +kernel⟩,
   ⟨st (fun m => { m with host := { m.host with ibiRaised := some 1, ibiOn := true, ibiPend := 2 } }), 1, by decide +kernel⟩,
   ⟨st (fun m => { m with host := { m.host with ibiRaised := some 1, ibiOn := true, ibiPend := 6 } }), 1, 2, [],
    by decide +kernel⟩,
   ⟨st (fun m => rDef 0x0E05 1 (rRun { state := 1 } m)), 1, 8, 5, by decide +kernel⟩,
   ⟨st (fun m => rDef 0x0E05 1 (rRun { state := 1 } m)), 1, 0, 5, by decide +kernel⟩,
   ⟨st (rRun { state := 2, rx := 5 }), 1, 5, false, ⟨0, 0, some rOp⟩, by decide +kernel⟩⟩

/-- Obligations.LinkEvents: its clauses in order, from number 33. -/
theorem witness_LinkEvents3 :
    (∃ (s : State) (r : Nat) (seq : Nat) (ok : Bool) (p : TransitPacket), r < 4 ∧ domOn s.mod 44 = true ∧
    (s.mod.runner r).state = 2 ∧ p.dest < 16 ∧ ok = false ∧ seq < (s.mod.runner r).rx) ∧
    (∃ (s : State) (r : Nat) (seq : Nat) (ok : Bool) (p : TransitPacket), r < 4 ∧ domOn s.mod 44 = true ∧
    (s.mod.runner r).state = 2 ∧ p.dest < 16 ∧ ok = true ∧ seq < (s.mod.runner r).rx) ∧
    (∃ (s : State) (r : Nat) (seq : Nat) (ok : Bool) (p : TransitPacket) (b : Nat), r < 4 ∧ domOn s.mod 44 = true ∧
     (s.mod.runner r).state = 2 ∧ p.dest < 16 ∧ ok = true ∧ (s.mod.runner r).rx ≤ seq ∧ (s.mod.runner r).rxBad = some b ∧
    b < seq) ∧
    (∃ (s : State) (r : Nat) (seq : Nat) (ok : Bool) (p : TransitPacket) (o : PeerOp), r < 4 ∧ domOn s.mod 44 = true ∧
     (s.mod.runner r).state = 2 ∧ p.dest < 16 ∧ ok = true ∧ (s.mod.runner r).rx ≤ seq ∧
    (∀ b, (s.mod.runner r).rxBad = some b → seq ≤ b) ∧ p.dest = s.mod.host.moduleId ∧ p.op = some o) ∧
    (∃ (s : State) (r : Nat) (seq : Nat) (ok : Bool) (p : TransitPacket) (waits : Bool), r < 4 ∧ domOn s.mod 44 = true ∧
     (s.mod.runner r).state = 2 ∧ p.dest < 16 ∧ ok = true ∧ (s.mod.runner r).rx ≤ seq ∧
    (∀ b, (s.mod.runner r).rxBad = some b → seq ≤ b) ∧ (p.dest ≠ s.mod.host.moduleId ∧ p.crossed < 4 ∧
    s.mod.links.route.getD p.dest 0xFF < 4 ∧ (s.mod.runner (s.mod.links.route.getD p.dest 0xFF)).state = 2) ∧ waits = false ∧
     (∀ k < 4, (s.mod.runner k).transit = []) ∧ (s.mod.runner (s.mod.links.route.getD p.dest 0xFF)).retryRun < 8 ∧
    pathBlocked s.mod (partOfRunner r) (partOfRunner (s.mod.links.route.getD p.dest 0xFF)) = false) ∧
    (∃ (s : State) (r : Nat) (seq : Nat) (ok : Bool) (p : TransitPacket) (waits : Bool), r < 4 ∧ domOn s.mod 44 = true ∧
     (s.mod.runner r).state = 2 ∧ p.dest < 16 ∧ ok = true ∧ (s.mod.runner r).rx ≤ seq ∧
    (∀ b, (s.mod.runner r).rxBad = some b → seq ≤ b) ∧ (p.dest ≠ s.mod.host.moduleId ∧ p.crossed < 4 ∧
    s.mod.links.route.getD p.dest 0xFF < 4 ∧ (s.mod.runner (s.mod.links.route.getD p.dest 0xFF)).state = 2) ∧
    (waits = true ∨ ((∀ k < 4, (s.mod.runner k).transit = []) ∧
    8 ≤ (s.mod.runner (s.mod.links.route.getD p.dest 0xFF)).retryRun)) ∧
    (((s.mod.runner r).transit.filter (fun w => w.1.crossed == p.crossed)).length) < 64) ∧
    (∃ (s : State) (r : Nat) (seq : Nat) (ok : Bool) (p : TransitPacket) (waits : Bool), r < 4 ∧ domOn s.mod 44 = true ∧
     (s.mod.runner r).state = 2 ∧ p.dest < 16 ∧ ok = true ∧ (s.mod.runner r).rx ≤ seq ∧
    (∀ b, (s.mod.runner r).rxBad = some b → seq ≤ b) ∧ (p.dest ≠ s.mod.host.moduleId ∧ p.crossed < 4 ∧
    s.mod.links.route.getD p.dest 0xFF < 4 ∧ (s.mod.runner (s.mod.links.route.getD p.dest 0xFF)).state = 2) ∧ waits = true ∧
     64 ≤ (((s.mod.runner r).transit.filter (fun w => w.1.crossed == p.crossed)).length)) ∧
    (∃ (s : State) (r : Nat) (seq : Nat) (ok : Bool) (p : TransitPacket) (waits : Bool) (o : PeerOp) (y : Nat), r < 4 ∧
    domOn s.mod 44 = true ∧ (s.mod.runner r).state = 2 ∧ p.dest < 16 ∧ ok = true ∧ (s.mod.runner r).rx ≤ seq ∧
    (∀ b, (s.mod.runner r).rxBad = some b → seq ≤ b) ∧ p.dest ≠ s.mod.host.moduleId ∧ p.op = some o ∧ waits = true ∧
    (4 ≤ p.crossed ∨ 4 ≤ (s.mod.links.route.getD p.dest 0xFF) ∨ (s.mod.runner (s.mod.links.route.getD p.dest 0xFF)).state ≠ 2)
    ∧ answerRoute s.mod r o.module = some y ∧ (s.mod.runner y).retryRun < 8) ∧
    (∃ (s : State) (r : Nat) (f : LinkRetry), r < 4 ∧ (s.mod.runner r).state = 2 ∧ (s.mod.runner r).retryRun < 8 ∧
    (∃ p ∈ (s.mod.runner r).replay, p.seq = f.seq ∧ (f.silent = true → p.at_ + usUnit ≤ s.mod.time.elapsed))) ∧
    (∃ (s : State) (r : Nat) (f : LinkRetry), r < 4 ∧ (s.mod.runner r).state = 2 ∧ (s.mod.runner r).retryRun < 8 ∧
    (∀ p ∈ (s.mod.runner r).replay, p.seq = f.seq → f.silent = true ∧ s.mod.time.elapsed < p.at_ + usUnit)) ∧
    (∃ (s : State) (r : Nat), r < 4 ∧ (s.mod.runner r).state = 2 ∧ (s.mod.runner r).retryRun = 8 ∧
    (s.mod.runner r).failRun < 2) ∧
    (∃ (s : State) (r : Nat), r < 4 ∧ (s.mod.runner r).state = 2 ∧ (s.mod.runner r).retryRun = 8 ∧
    2 ≤ (s.mod.runner r).failRun) ∧
    (∃ (s : State) (r : Nat), r < 4 ∧ (s.mod.runner r).state = 2 ∧ (s.mod.runner r).retryRun = 8) ∧
    (∃ (s : State) (r : Nat), r < 4 ∧ (s.mod.runner r).state = 2 ∧ (s.mod.runner r).retryRun = 8) :=
  ⟨⟨st (rRun { state := 2, rx := 5 }), 1, 4, false, ⟨0, 0, some rOp⟩, by decide +kernel⟩,
   ⟨st (rRun { state := 2, rx := 5 }), 1, 4, true, ⟨0, 0, some rOp⟩, by decide +kernel⟩,
   ⟨st (rRun { state := 2, rx := 5, rxBad := some 5 }), 1, 6, true, ⟨0, 0, some rOp⟩, 5, by decide +kernel⟩,
   ⟨st (rRun { state := 2, rx := 5, rxBad := some 5 }), 1, 5, true, ⟨0, 0, some rOp⟩, rOp, first4 (by decide +kernel)
    ⟨by decide +kernel, by decide +kernel, rSome (by decide +kernel :
    _ = some 5) (le_refl 5), by decide +kernel, by decide +kernel⟩⟩,
   ⟨st (fun m => rRun { state := 2 } (rLink (fun l => { l with route := [0xFF, 0xFF, 0xFF, 2] }) (m.setRunner 2 { state := 2 }))),
    1, 0, true, ⟨3, 3, none⟩, false, first4 (by decide +kernel)
    ⟨by decide +kernel, by decide +kernel, rNone (by decide +kernel), first4 (by decide +kernel)
    (by decide +kernel)⟩⟩,
   ⟨st (fun m => rRun { state := 2 } (rLink (fun l => { l with route := [0xFF, 0xFF, 0xFF, 2] }) (m.setRunner 2 { state := 2 }))),
    1, 0, true, ⟨3, 3, none⟩, true, first4 (by decide +kernel)
    ⟨by decide +kernel, by decide +kernel, rNone (by decide +kernel), by decide +kernel, by decide +kernel, by decide +kernel⟩⟩,
   ⟨st (fun m => rRun { state := 2, transit := List.replicate 64 (⟨3, 3, none⟩, 0) } (rLink (fun l => { l with route := [0xFF, 0xFF, 0xFF, 2] })
    (m.setRunner 2 { state := 2 }))), 1, 0, true, ⟨3, 3, none⟩, true, first4 (by decide +kernel)
    ⟨by decide +kernel, by decide +kernel, rNone (by decide +kernel), by decide +kernel, by decide +kernel,
    by decide +kernel⟩⟩,
   ⟨st (rRun { state := 2 }), 1, 0, true, ⟨3, 4, some rOp⟩, true, rOp, 1, first4 (by decide +kernel)
    ⟨by decide +kernel, by decide +kernel, rNone (by decide +kernel), first4 (by decide +kernel)
    ⟨by decide +kernel, by decide +kernel⟩⟩⟩,
   ⟨st (fun m => rRun { state := 2, seq := 2, retryRun := 7, retrySeq := some 1, replay := [⟨0, 0, .own rOut⟩, ⟨1, 0, .own rOut⟩] }
    (oRun .dispatched m)), 1, ⟨1, false⟩, by decide +kernel⟩,
   ⟨st (rRun { state := 2, replay := [⟨0, 0, .own rOut⟩] }), 1, ⟨0, true⟩, by decide +kernel⟩,
   ⟨st (rRun { state := 2, retryRun := 8, failRun := 1 }), 1, by decide +kernel⟩,
   ⟨st (rRun { state := 2, retryRun := 8, failRun := 2 }), 1, by decide +kernel⟩,
   ⟨st (rRun { state := 2, retryRun := 8 }), 1, by decide +kernel⟩,
   ⟨st (rRun { state := 2, retryRun := 8, seq := 1, replay := [⟨0, 0, .own rOut⟩], queue := [.own rOut] }), 1,
    by decide +kernel⟩⟩

/-- Obligations.PowerCommands: its clauses in order. -/
theorem witness_PowerCommands :
    (∃ (s : State) (n : Nat) (ps : List Byte), Asked s.mod n 0x0200 ps ∧ ps.length = 8 ∧ leAt ps 0 1 ≤ 1 ∧
    zeros ((ps.drop 1).take 7) = true) ∧
    (∃ (s : State) (n : Nat) (ps : List Byte), Asked s.mod n 0x0201 ps ∧ Room s.mod n ∧ ps.length = 8 ∧ (leAt ps 0 1) ≠ 1 ∧
     (leAt ps 0 1) ≤ 4 ∧ leAt ps 1 1 ≤ 1 ∧ zeros ((ps.drop 2).take 6) = true ∧ (n = 0 ∨ n = 14) ∧
    (leAt ps 0 1) ≠ s.mod.power.state ∧ s.mod.power.entry = none ∧ s.mod.power.waking = none ∧ s.mod.power.state ≠ 4 ∧
    isWake s.mod (leAt ps 0 1) = true ∧ (s.mod.power.state = 2 ∨ s.mod.power.state = 3)) ∧
    (∃ (s : State) (n : Nat) (ps : List Byte), Asked s.mod n 0x0201 ps ∧ Room s.mod n ∧ ps.length = 8 ∧ (leAt ps 0 1) ≠ 1 ∧
     (leAt ps 0 1) ≤ 4 ∧ leAt ps 1 1 ≤ 1 ∧ zeros ((ps.drop 2).take 6) = true ∧ (n = 0 ∨ n = 14) ∧
    (leAt ps 0 1) ≠ s.mod.power.state ∧ s.mod.power.entry = none ∧ s.mod.power.waking = none ∧ s.mod.power.state ≠ 4 ∧
    isWake s.mod (leAt ps 0 1) = false ∧ refusal s.mod (leAt ps 0 1) (leAt ps 1 1 = 1) = none) ∧
    (∃ (s : State) (n : Nat) (ps : List Byte) (r : Nat × Nat × Nat), Asked s.mod n 0x0201 ps ∧ Room s.mod n ∧ ps.length = 8 ∧
     (leAt ps 0 1) ≠ 1 ∧ (leAt ps 0 1) ≤ 4 ∧ leAt ps 1 1 ≤ 1 ∧ zeros ((ps.drop 2).take 6) = true ∧ (n = 0 ∨ n = 14) ∧
    (leAt ps 0 1) ≠ s.mod.power.state ∧ s.mod.power.entry = none ∧ s.mod.power.waking = none ∧ s.mod.power.state ≠ 4 ∧
    isWake s.mod (leAt ps 0 1) = false ∧ refusal s.mod (leAt ps 0 1) (leAt ps 1 1 = 1) = some r) ∧
    (∃ (s : State) (n : Nat) (ps : List Byte), Asked s.mod n 0x0202 ps ∧ Room s.mod n ∧ ps.length = 8 ∧
    switchable s.mod (leAt ps 0 1) = true ∧ leAt ps 1 1 ≤ 1 ∧ zeros ((ps.drop 2).take 6) = true ∧ (n = 0 ∨ n = 14) ∧
     s.mod.power.state = 0 ∧ s.mod.power.entry = none ∧ leAt ps 1 1 = 1) ∧
    (∃ (s : State) (n : Nat) (ps : List Byte), Asked s.mod n 0x0202 ps ∧ Room s.mod n ∧ ps.length = 8 ∧
    switchable s.mod (leAt ps 0 1) = true ∧ leAt ps 1 1 ≤ 1 ∧ zeros ((ps.drop 2).take 6) = true ∧ (n = 0 ∨ n = 14) ∧
     s.mod.power.state = 0 ∧ s.mod.power.entry = none ∧ leAt ps 1 1 = 0 ∧ domainRefusal s.mod (leAt ps 0 1) = none) ∧
    (∃ (s : State) (n : Nat) (ps : List Byte) (r : Nat × Nat × Nat), Asked s.mod n 0x0202 ps ∧ Room s.mod n ∧ ps.length = 8 ∧
     switchable s.mod (leAt ps 0 1) = true ∧ leAt ps 1 1 ≤ 1 ∧ zeros ((ps.drop 2).take 6) = true ∧ (n = 0 ∨ n = 14) ∧
     s.mod.power.state = 0 ∧ s.mod.power.entry = none ∧ leAt ps 1 1 = 0 ∧ domainRefusal s.mod (leAt ps 0 1) = some r) ∧
    (∃ (s : State) (n : Nat) (ps : List Byte), Asked s.mod n 0x0203 ps ∧ ps.length = 24 ∧ leAt ps 0 4 ≤ 63 ∧
    (leAt ps 4 1 = 0 ∨ leAt ps 4 1 = 2) ∧ leAt ps 16 4 < 1000000000 ∧ zeros ((ps.drop 5).take 3) = true ∧
    zeros ((ps.drop 20).take 4) = true ∧ (n = 0 ∨ n = 14)) ∧
    (∃ (s : State) (n : Nat) (ps : List Byte), Asked s.mod n 0x0204 ps ∧ ps.length = 8 ∧ zeros ps = true) ∧
    (∃ (m : Module) (target : Nat) (park : Bool) (r : Nat × Nat × Nat), refusal m target park = some r) ∧
    (∃ (m : Module) (target : Nat) (park : Bool) (r : Nat × Nat × Nat) (unit : Nat) (why : Nat) (obj : Nat), refusal m target
    park = some r ∧ ((fun unit why obj => (unit < 32 ∧ why = 1 ∧ park = false ∧ ∃ j ∈ m.sched.jobs, j.state ≠ .queued ∧
    j.ctx = obj ∧ j.mask.getLsbD unit = true ∧ ∀ i < unit, j.mask.getLsbD i = false) ∨ (unit = 0x20 ∧ why = 2 ∧ obj < 32 ∧
     kvBusy m obj = true) ∨ (unit = 0x20 ∧ why = 3 ∧ target ≠ 2 ∧ ∃ d ∈ m.host.deferred, d.client = obj) ∨ (unit = 0x21 ∧
    why = 4 ∧ obj < 16 ∧ (m.stream obj).state = 2) ∨ (unit = 0x22 ∧ why = 5 ∧ target ≠ 2 ∧ obj < 64 ∧
    (m.loop obj).state ≠ .off) ∨ (unit = 0x23 ∧ why = 6 ∧ target ≠ 2 ∧ obj < 512 ∧ (m.queue obj).state = 1 ∧
    occupancy (m.queue obj) ≠ 0) ∨ (unit = 0x25 ∧ why = 7 ∧ obj < 4 ∧ (m.runner obj).state ≠ 0) ∨ (unit = 0x26 ∧ why = 8 ∧
     target ≠ 2 ∧ obj < 4 ∧ ∃ q < 8, (m.lq obj q).frames ≠ []) ∨ (unit = 0x28 ∧ why = 9 ∧ obj < 2 ∧
    (m.txPort obj).running = true) ∨ (unit = 0x29 ∧ why = 10 ∧ obj = 0 ∧ ((target ≠ 2 ∧
    m.safety.asserted = false) ∨ ∃ k < 64, let w := m.safety.wdogs.get {} k; (w.state = 1 ∨ w.state = 2) ∧ ¬(target = 2 ∧
     (w.source = 2 ∨ w.source = 5)))) ∨ (unit = 0x2A ∧ why = 11 ∧ obj < 4 ∧ ((∃ i < 512, (m.queue i).state ≠ 0 ∧
    ∃ r ∈ queueRegions (m.queue i), inQuad obj r.1 r.2 = true) ∨ (∃ w < 256, (m.window w).state = 1 ∧
    inQuad obj (m.window w).base (2 ^ (m.window w).log2) = true) ∨ (∃ i < 16, let c := (m.stream i).cfg; (m.stream i).state ≠
    0 ∧ c.conceal = 2 ∧ inQuad obj c.refBase (c.wIn * c.hIn * channelsOf i c) = true) ∨ ∃ p < 4, ∃ f < 16, ∃ v, (m.port
    p).filters.get none f = some v ∧ inQuad obj v.base (64 + v.slots * 2048) = true)) : Nat → Nat → Nat → Prop) unit why obj)) ∧
    (∃ (m : Module) (d : Nat), switchable m d = true) ∧
    (∃ (m : Module) (d : Nat) (r : Nat × Nat × Nat), switchable m d = true ∧ domainRefusal m d = some r) :=
  ⟨⟨cmd 2 0x0200 (1 :: zs 7) id, 2, 1 :: zs 7, by decide +kernel⟩,
   ⟨cmd 0 0x0201 (0 :: 0 :: zs 6) (oPow (fun p => { p with state := 3 })), 0, 0 :: 0 :: zs 6, by decide +kernel⟩,
   ⟨cmd 0 0x0201 (4 :: 1 :: zs 6) id, 0, 4 :: 1 :: zs 6, by decide +kernel⟩,
   ⟨cmd 14 0x0201 (2 :: 0 :: zs 6) (oRun .dispatched), 14, 2 :: 0 :: zs 6, (1, 1, 5), by decide +kernel⟩,
   ⟨cmd 0 0x0202 (46 :: 1 :: zs 6) id, 0, 46 :: 1 :: zs 6, by decide +kernel⟩,
   ⟨cmd 0 0x0202 (31 :: 0 :: zs 6) id, 0, 31 :: 0 :: zs 6, by decide +kernel⟩,
   ⟨cmd 0 0x0202 (1 :: 0 :: zs 6) (oRun .queued), 0, 1 :: 0 :: zs 6, (1, 1, 5), by decide +kernel⟩,
   ⟨cmd 14 0x0203 (pk [(4, 63), (1, 2), (3, 0), (8, 7), (4, 999999999), (4, 0)]) id, 14, pk [(4, 63), (1, 2), (3, 0), (8, 7),
    (4, 999999999), (4, 0)], by decide +kernel⟩,
   ⟨cmd 2 0x0204 (zs 8) id, 2, zs 8, by decide +kernel⟩,
   ⟨oRun .dispatched up, 2, false, (1, 1, 5), by decide +kernel⟩,
   ⟨oRun .dispatched up, 2, false, (1, 1, 5), 1, 1, 5, by decide +kernel, Or.inl (by decide +kernel)⟩,
   ⟨up, 1, by decide +kernel⟩,
   ⟨oRun .queued up, 1, (1, 1, 5), by decide +kernel⟩⟩

/-- Obligations.PowerTransitions: its clauses in order. -/
theorem witness_PowerTransitions :
    (∃ (s : State) (fromSafety : Bool), s.mod.host.gState = 3 ∧
    (s.mod.power.waiting.contains (if fromSafety then 2 else 1) = true) ∧ s.mod.power.entry = none ∧
    s.mod.power.waking = none ∧ s.mod.power.state = 0 ∧
    (refusal { s.mod with power := { s.mod.power with waiting := s.mod.power.waiting.erase (if fromSafety then 2 else 1) } } 2
    true = none)) ∧
    (∃ (s : State) (fromSafety : Bool) (r : Nat × Nat × Nat), s.mod.host.gState = 3 ∧
    (s.mod.power.waiting.contains (if fromSafety then 2 else 1) = true) ∧ s.mod.power.entry = none ∧
    s.mod.power.waking = none ∧ s.mod.power.state = 0 ∧
    (refusal { s.mod with power := { s.mod.power with waiting := s.mod.power.waiting.erase (if fromSafety then 2 else 1) } } 2
    true = some r)) ∧
    (∃ (s : State) (fromSafety : Bool), s.mod.host.gState = 3 ∧ s.mod.power.entry = none ∧ s.mod.power.waking = none ∧
     s.mod.power.state = 2 ∧ (s.mod.power.waiting.contains (if fromSafety then 2 else 1) = true)) ∧
    (∃ (m : Module) (target : Nat) (unit : Nat) (j : Job), (m.sched.jobs.map (·.id)).Nodup ∧
    j ∈ (startEntry target unit m).sched.jobs ∧ j.state = .dispatched) ∧
    (∃ (m : Module) (j : Job) (c : Nat), (m.sched.jobs.map (·.id)).Nodup ∧ j ∈ m.sched.jobs ∧ j.state = .dispatched ∧
    j.parkAt = none ∧ c ∈ bitsOf j.mask) ∧
    (∃ (m : Module), (m.sched.jobs.map (·.id)).Nodup) ∧
    (∃ (s : State) (target : Nat), s.mod.host.gState = 3 ∧ s.mod.power.entry = some target ∧ allParked s.mod = true ∧
     s.mod.power.abortDue = none ∧ (target = 2 ∨ target = 3 ∨ target = 4)) ∧
    (∃ (s : State) (target : Nat) (reason : Nat) (unit : Nat) (u : Nat) (off : Nat) (d : Deferred), s.mod.host.gState = 3 ∧
     s.mod.power.entry = some target ∧ abortCause reason unit s.mod = some u ∧ (off = 0 ∨ allParked s.mod = true) ∧
     Outstanding s.mod 0x0201 0 d) ∧
    (∃ (s : State) (at_ : Nat), s.mod.power.wakeAt = some at_ ∧ s.mod.power.wakeMask.getLsbD 1 = true ∧ at_ ≤ s.mod.time.now ∧
     domOn s.mod 49 = true ∧ s.mod.power.entry = none ∧ s.mod.power.waking = none ∧
    (s.mod.power.state = 2 ∨ s.mod.power.state = 3) ∧ (s.mod.power.wakeTo = 0 ∨ s.mod.power.wakeTo = 2)) ∧
    (∃ (s : State) (at_ : Nat), s.mod.power.wakeAt = some at_ ∧ s.mod.power.wakeMask.getLsbD 1 = true ∧ at_ ≤ s.mod.time.now ∧
     domOn s.mod 49 = true ∧ (s.mod.power.entry = some 2 ∨ s.mod.power.entry = some 3)) ∧
    (∃ (s : State) (target : Nat), s.mod.host.gState = 3 ∧ s.mod.power.waking = some target) ∧
    (∃ (s : State) (d : Nat) (e : Deferred), s.mod.host.gState = 3 ∧ Outstanding s.mod 0x0202 d e ∧
     s.mod.power.domainReq.find? (fun r => r.1 == d) = some (d, false)) ∧
    (∃ (s : State) (d : Nat) (e : Deferred), s.mod.host.gState = 3 ∧ Outstanding s.mod 0x0202 d e ∧
     s.mod.power.domainReq.find? (fun r => r.1 == d) = some (d, true) ∧ s.mod.power.state = 0 ∧ s.mod.power.entry = none ∧
    (d < 32 → (s.mod.core d).marginHeld = false ∧ (s.mod.core d).thermalHeld = false) ∧ d < 50 ∧
    (s.mod.power.domainReq.erase (d, true)).find? (fun r => r.1 == d) ≠ some (d, false)) ∧
    (∃ (s : State) (d : Nat) (e : Deferred), s.mod.host.gState = 3 ∧ Outstanding s.mod 0x0202 d e ∧
     s.mod.power.domainReq.find? (fun r => r.1 == d) = some (d, true) ∧ s.mod.power.state = 0 ∧ s.mod.power.entry = none ∧
    (d < 32 → (s.mod.core d).marginHeld = false ∧ (s.mod.core d).thermalHeld = false) ∧ d < 50 ∧
    (s.mod.power.domainReq.erase (d, true)).find? (fun r => r.1 == d) = some (d, false)) ∧
    (∃ (s : State) (d : Nat) (e : Deferred), s.mod.host.gState = 3 ∧ Outstanding s.mod 0x0202 d e ∧
     s.mod.power.domainReq.find? (fun r => r.1 == d) = some (d, true) ∧
    (s.mod.power.state ≠ 0 ∨ s.mod.power.entry ≠ none ∨ (d < 32 ∧
    ((s.mod.core d).marginHeld = true ∨ (s.mod.core d).thermalHeld = true)))) :=
  ⟨⟨st (oPow (fun p => { p with waiting := [1, 2] })), true, by decide +kernel⟩,
   ⟨st (fun m => let m := (oPow (fun p => { p with waiting := [1] })) m; rRun { state := 1 } m), false, (0x25, 7, 1),
    by decide +kernel⟩,
   ⟨st (oPow (fun p => { p with waiting := [2], state := 2 })), true, by decide +kernel⟩,
   ⟨oRun .dispatched up, 2, 0x20, { (oJob .dispatched) with parkAt := some 0 }, by decide +kernel⟩,
   ⟨oRun .dispatched up, oJob .dispatched, 1, by decide +kernel⟩,
   ⟨oRun .dispatched up, by decide +kernel⟩,
   ⟨st (oPow (fun p => { p with entry := some 3 })), 3, by decide +kernel⟩,
   ⟨st (fun m => rDef 0x0201 0 ((oPow (fun p => { p with entry := some 3, abortDue := some 0x26 })) m)), 3, 16, 5, 0x26, 0,
    ⟨2, 0x55, 0x0201, 0⟩, by decide +kernel⟩,
   ⟨st (oPow (fun p => { p with state := 3, wakeAt := some 0, wakeMask := 2, wakeTo := 2 })), 0, by decide +kernel⟩,
   ⟨st (oPow (fun p => { p with entry := some 2, wakeAt := some 0, wakeMask := 2, wakeTo := 2 })), 0, by decide +kernel⟩,
   ⟨st (oPow (fun p => { p with state := 2, waking := some 0, on := 0x3BDF000000000 })), 0, by decide +kernel⟩,
   ⟨st (fun m => rDef 0x0202 46 ((oPow (fun p => { p with domainReq := [(46, false)] })) m)), 46, ⟨2, 0x55, 0x0202, 46⟩,
    by decide +kernel⟩,
   ⟨st (fun m => rDef 0x0202 31 ((oPow (fun p => { p with domainReq := [(31, true)], on := 0x3FFFF7FFFFFFF, offByCmd := 0x80000000 }))
    m)), 31, ⟨2, 0x55, 0x0202, 31⟩, by decide +kernel⟩,
   ⟨st (fun m => rDef 0x0202 31 ((oPow (fun p => { p with domainReq := [(31, true), (31, false)], on := 0x3FFFF7FFFFFFF, offByCmd := 0x80000000 }))
    m)), 31, ⟨2, 0x55, 0x0202, 31⟩, by decide +kernel⟩,
   ⟨st (fun m => rDef 0x0202 31 ((oPow (fun p => { p with state := 2, domainReq := [(31, true)] })) m)), 31, ⟨2, 0x55,
    0x0202, 31⟩, by decide +kernel⟩⟩

set_option maxRecDepth 100000 in
/-- Obligations.HealthCommands: its clauses in order. -/
theorem witness_HealthCommands :
    (∃ (s : State) (n : Nat) (ps : List Byte), Asked s.mod n 0x0100 ps ∧ ps.length = 8 ∧ leAt ps 0 1 ≤ 1 ∧
    zeros ((ps.drop 1).take 7) = true) ∧
    (∃ (s : State) (n : Nat) (ps : List Byte), Asked s.mod n 0x0101 ps ∧ ps.length = 8 ∧ zeros ps = true) ∧
    (∃ (s : State) (n : Nat) (ps : List Byte), Asked s.mod n 0x0102 ps ∧ ps.length = 8 ∧ leAt ps 0 1 < nCores s.mod ∧
    zeros ((ps.drop 1).take 7) = true) ∧
    (∃ (s : State) (n : Nat) (ps : List Byte), Asked s.mod n 0x0103 ps ∧ ps.length = 8 ∧ leAt ps 0 1 ≤ 1 ∧
    zeros ((ps.drop 1).take 7) = true ∧ (n = 14 ∨ (n = 0 ∧ locked s.mod = false)) ∧ leAt ps 0 1 ≠ s.mod.power.bin ∧
    (leAt ps 0 1 = 0 → ∀ c, c < nCores s.mod → vReqIn s.mod 0 c ≤ 950)) ∧
    (∃ (s : State) (n : Nat) (ps : List Byte), Asked s.mod n 0x0104 ps ∧ ps.length = 16 ∧ leAt ps 0 1 ≤ 1 ∧ 1 ≤ leAt ps 8 1 ∧
     leAt ps 8 1 ≤ 15 ∧ zeros ((ps.drop 1).take 3) = true ∧ zeros ((ps.drop 9).take 7) = true ∧
    (∃ r ∈ (if leAt ps 0 1 = 0 then s.mod.health.logFixed.recs else s.mod.health.logRing.recs), r.seq = leAt ps 4 4)) ∧
    (∃ (s : State) (n : Nat) (ps : List Byte), Asked s.mod n 0x0105 ps ∧ ps.length = 8 ∧ leAt ps 0 1 ≤ 3 ∧
    zeros ((ps.drop 1).take 7) = true) ∧
    (∃ (s : State) (n : Nat) (ps : List Byte), Asked s.mod n 0x0106 ps ∧ Room s.mod n ∧ ps.length = 136 ∧ leAt ps 0 1 ≤ 3 ∧
     zeros ((ps.drop 1).take 7) = true ∧ profileValid (leAt ps 0 1) (ps.drop 8) = true ∧ (n = 14 ∨ (n = 0 ∧
    locked s.mod = false))) ∧
    (∃ (s : State) (i : Nat) (bs : List Byte) (rest : List (Nat × List Byte)) (d : Deferred), s.mod.host.gState = 3 ∧
     s.mod.health.writing = (i, bs) :: rest ∧ Outstanding s.mod 0x0106 i d) ∧
    (∃ (s : State) (n : Nat) (ps : List Byte), Asked s.mod n 0x0107 ps ∧ ps.length = 8 ∧ leAt ps 0 1 ≤ 1 ∧ leAt ps 1 1 ≤ 3 ∧
     zeros ((ps.drop 2).take 6) = true ∧ (n = 14 ∨ (n = 0 ∧ locked s.mod = false)) ∧
    profileValid (leAt ps 1 1) (storedProfile s.mod (leAt ps 1 1)) = true) ∧
    (∃ (s : State) (n : Nat) (ps : List Byte), Asked s.mod n 0x0108 ps ∧ ps.length = 8 ∧ leAt ps 0 1 < nCores s.mod ∧
    zeros ((ps.drop 1).take 7) = true) :=
  ⟨⟨cmd 2 0x0100 (1 :: zs 7) (qHl (fun h => { h with temps := [(3, some 40)] })), 2, 1 :: zs 7, by decide +kernel⟩,
   ⟨cmd 2 0x0101 (zs 8) id, 2, zs 8, by decide +kernel⟩,
   ⟨cmd 2 0x0102 (31 :: zs 7) id, 2, 31 :: zs 7, by decide +kernel⟩,
   ⟨cmd 0 0x0103 (1 :: zs 7) id, 0, 1 :: zs 7, by decide +kernel⟩,
   ⟨cmd 2 0x0104 (pk [(1, 1), (3, 0), (4, 7), (1, 15), (7, 0)]) (qHl (fun h => { h with logRing := { a := { recs := [⟨2, 1, 7, 9, zs 16⟩] } } })),
    2, pk [(1, 1), (3, 0), (4, 7), (1, 15), (7, 0)], first4 (by decide +kernel)
    ⟨by decide +kernel, by decide +kernel, by decide +kernel, ⟨⟨2, 1, 7, 9, zs 16⟩, by decide +kernel⟩⟩⟩,
   ⟨cmd 2 0x0105 (3 :: zs 7) id, 2, 3 :: zs 7, by decide +kernel⟩,
   ⟨cmd 0 0x0106 (1 :: zs 7 ++ qProf) id, 0, 1 :: zs 7 ++ qProf, by decide +kernel⟩,
   ⟨st (fun m => rDef 0x0106 1 ((qHl (fun h => { h with writing := [(1, [1]), (2, [])] })) m)), 1, [1], [(2, [])], ⟨2, 0x55,
    0x0106, 1⟩, by decide +kernel⟩,
   ⟨cmd 0 0x0107 (1 :: 1 :: zs 6) (qHl (fun h => { h with profiles := [(1, qProf)] })), 0, 1 :: 1 :: zs 6, by decide +kernel⟩,
   ⟨cmd 2 0x0108 (31 :: zs 7) id, 2, 31 :: zs 7, by decide +kernel⟩⟩

/-- Obligations.HealthEvents: its clauses in order. -/
theorem witness_HealthEvents :
    (∃ (s : State) (i : Nat) (t : Int), i < 48 ∧ domOn s.mod 49 = true ∧ s.mod.power.tripped = false ∧ -128 < t ∧ t < 125 ∧
     (32 ≤ i ∨ (coreAtPos s.mod i).isSome = true)) ∧
    (∃ (s : State) (i : Nat) (t : Int), i < 48 ∧ domOn s.mod 49 = true ∧ s.mod.power.tripped = false ∧ 125 ≤ t ∧ t < 128 ∧
    (32 ≤ i ∨ (coreAtPos s.mod i).isSome = true) ∧ 1 ≤ s.mod.health.tripRun.get 0 i) ∧
    (∃ (s : State) (t0 : Nat), s.mod.host.gState = 3 ∧ s.mod.health.holdRetry = some t0 ∧
    t0 + 10 * msUnit ≤ s.mod.time.elapsed ∧ (∃ i x, i < 16 ∧ s.mod.health.temps.get none (32 + i) = some x ∧ hotAt s.mod ≤ x)) ∧
    (∃ (s : State) (t0 : Nat), s.mod.host.gState = 3 ∧ s.mod.health.holdRetry = some t0 ∧
    t0 + 10 * msUnit ≤ s.mod.time.elapsed ∧ (∀ i x, i < 16 → s.mod.health.temps.get none (32 + i) = some x → x < hotAt s.mod)) ∧
    (∃ (s : State) (c : Fin 32) (t0 : Nat) (x : Int), s.mod.host.gState = 3 ∧ (s.mod.plan c).coolSince = some t0 ∧
    (s.mod.core c).thermalHeld = true ∧ domOn s.mod c = false ∧ t0 + 100 * msUnit ≤ s.mod.time.elapsed ∧
     s.mod.health.temps.get none (sensorOf s.mod c) = some x ∧ x < hotAt s.mod - 10) ∧
    (∃ (s : State) (c : Fin 32) (t0 : Nat) (x : Int), s.mod.host.gState = 3 ∧ (s.mod.plan c).coolSince = some t0 ∧
    (s.mod.core c).thermalHeld = true ∧ domOn s.mod c = false ∧ t0 + 100 * msUnit ≤ s.mod.time.elapsed ∧
     s.mod.health.temps.get none (sensorOf s.mod c) = some x ∧ hotAt s.mod - 10 ≤ x) ∧
    (∃ (s : State) (d : Nat) (mv : Nat), d < 50 ∧ domOn s.mod d = true ∧ mv < 0x10000) ∧
    (∃ (s : State) (i : Nat) (cls : Nat) (k : Nat), s.mod.host.gState = 3 ∧ monitored s.mod i = some k ∧ cls < 4 ∧
    domOn s.mod k = true) ∧
    (∃ (s : State) (c : Fin 32) (ratios : List Nat) (r0 : List Nat), s.mod.host.gState = 3 ∧ c.val < nCores s.mod ∧
    domOn s.mod c = true ∧ ratios.length = 4 ∧ (∀ r ∈ ratios, r < 2 ^ 32) ∧ (s.mod.plan c).base = some r0) :=
  ⟨⟨st id, 47, 124, by decide +kernel⟩,
   ⟨st (qHl (fun h => { h with tripRun := [(3, 1)] })), 3, 125, by decide +kernel⟩,
   ⟨st (qHl (fun h => { h with holdRetry := some 0, temps := [(47, some 110)] })), 0, by decide +kernel, by decide +kernel,
    by decide +kernel, ⟨15, 110, by decide +kernel⟩⟩,
   ⟨st (qHl (fun h => { h with holdRetry := some 0 })), 0, by decide +kernel, by decide +kernel, by decide +kernel, (fun _ _
    _ h => nomatch h)⟩,
   ⟨st (fun m => { (qHeld m) with health := { (qHeld m).health with temps := (List.range 64).map (fun i => (i, some (hotAt up - 11))) } }),
    1, 0, hotAt up - 11, by decide +kernel⟩,
   ⟨st (fun m => { (qHeld m) with health := { (qHeld m).health with temps := (List.range 64).map (fun i => (i, some (hotAt up - 10))) } }),
    1, 0, hotAt up - 10, by decide +kernel⟩,
   ⟨st id, 49, 65535, by decide +kernel⟩,
   ⟨st id, 35, 3, 35, by decide +kernel⟩,
   ⟨st (qHl (fun h => { h with plans := [(1, { base := some [9, 9, 9, 9] })] })), 1, [9, 9, 10, 9], [9, 9, 9, 9],
    by decide +kernel⟩⟩

/-- Obligations.HealthEvents: its clauses in order, from number 10. -/
theorem witness_HealthEvents2 :
    (∃ (s : State) (c : Fin 32) (readings : List (List Nat)), s.mod.host.gState = 3 ∧ c.val < nCores s.mod ∧
    domOn s.mod c = true ∧ (s.mod.plan c).base = none ∧ (s.mod.core c).job = none ∧ readings.length = 4 ∧
    (∀ l ∈ readings, l.length = 16 ∧ ∀ r ∈ l, r < 2 ^ 32)) ∧
    (∃ (s : State) (c : Fin 32), s.mod.host.gState = 3 ∧ (s.mod.plan c).lower = true ∧ (s.mod.core c).job = none) ∧
    (∃ (s : State), s.mod.host.gState = 3 ∧ s.mod.health.binPending = 2 ∧ (∀ j ∈ s.mod.sched.jobs, j.state ≠ .dispatched)) ∧
    (∃ (s : State) (t0 : Nat), s.mod.host.gState = 3 ∧ s.mod.health.consentAt = some t0 ∧ s.mod.health.binPending = 2 ∧
     s.mod.health.binForce = false ∧ t0 + 1000 * msUnit ≤ s.mod.time.elapsed ∧ (s.mod.sched.jobs.map (·.id)).Nodup ∧
    (∃ j ∈ s.mod.sched.jobs, j.state = .dispatched)) ∧
    (∃ (m : Module) (i : Nat), 950 < vReq m i ∧ i < 32 ∧ (m.core i).marginHeld = false) ∧
    (∃ (m : Module) (i : Nat), vReq m i ≤ 950 ∧ (m.plan i).vset ≤ vReq m i) ∧
    (∃ (m : Module) (i : Nat), vReq m i ≤ 950 ∧ vReq m i < (m.plan i).vset ∧ i < 32) ∧
    (∃ (m : Module) (i : Nat), vReq m i ≤ 950 ∧ vReq m i < (m.plan i).vset ∧ 32 ≤ i) :=
  ⟨⟨st id, 31, List.replicate 4 ((List.range 16).map (fun i => 4294967295 - i)), by decide +kernel⟩,
   ⟨st (qHl (fun h => { h with plans := [(1, { lower := true, vset := 900 })] })), 1, by decide +kernel⟩,
   ⟨st (qHl (fun h => { h with binPending := 2, binTarget := 1 })), by decide +kernel⟩,
   ⟨st (fun m => oRun .dispatched ((qHl (fun h => { h with binPending := 2, consentAt := some 0 })) m)), 0,
    first4 (by decide +kernel)
    ⟨by decide +kernel, by decide +kernel, ⟨oJob
    .dispatched, by decide +kernel⟩⟩⟩,
   ⟨(qHl (fun h => { h with plans := [(1, { cls := 7 })] })) up, 1, by decide +kernel⟩,
   ⟨(qHl (fun h => { h with plans := [(1, { cls := 6, vset := 940 })] })) up, 1, by decide +kernel⟩,
   ⟨(qHl (fun h => { h with plans := [(1, { cls := 6, vset := 941 })] })) up, 1, by decide +kernel⟩,
   ⟨(qHl (fun h => { h with plans := [(32, { cls := 6, vset := 941 })] })) up, 32, by decide +kernel⟩⟩

end Sys2Proof.Tests
end

