-- ==== Sys2Proof/Tests/WitnessLoads.lean ====
section
/-!
SUPPORT. Witnesses: for every statement that has hypotheses, concrete states and operands that meet them together, clause by clause.
-/

namespace Sys2Proof.Tests

set_option Elab.async false

open Sys2Proof Sys2Proof.Machine

/-- An integer reduction of two engines, the first giving `x` in each element, the second 3. -/
def wSum (x : W32) : RedInst :=
  ⟨0, 2, 1, false, [⟨2, 1, List.replicate 16 { val := x }⟩, ⟨3, 2, List.replicate 16 { val := 3 }⟩]⟩

/-- A floating-point reduction of two engines, a lane of each. -/
def wAdd : RedInst := ⟨0, 2, 1, true, [⟨2, 2, [{ val := 0x40000000 }]⟩, ⟨3, 2, [{ val := 0x3F800000 }]⟩]⟩

/-- Two tiles at offset 64 of the scratchpad, the second poisoned. -/
def wTiles (m : Machine.Module) : Machine.Module :=
  bad 72 (spad 64 (leBytes 8 0x1122334455667788 ++ leBytes 8 0x99AABBCCDDEEFF01) m)

/-- Registers that stores read. -/
def wStored : Regs := { sc [0, 64, 0x11223344] with t := [(4, ⟨0xABCDEF, true⟩)], v := [(68, 5)] }

/-- Registers that MAC words read. -/
def wRegs : Regs :=
  { t := [(1, ⟨0x1234, false⟩), (2, ⟨0x5, true⟩)], s := [(0, 1)], a := [(16, ⟨5, true, false⟩)], v := [(16, 0x3F800000)], p0 := { flags := 0xC } }

/-- Registers that Vector words read. -/
def wRows : Regs :=
  { s := [(0, 0x40000000), (1, 0x3F800000), (9, 0x7FC00001)], v := (List.range 128).map (fun i => (i, BitVec.ofNat 32 (0x3F800000 + 0x900000 * i))) }

/-- Context 5 may access sync objects 8 to 11. -/
def wOwner (m : Machine.Module) : Machine.Module := (ctxUp 5 2 m).updCtx 5 (fun v => { v with ranges := [(8, 4)] })

/-- The ternary grid, and what its codes stand for. -/
def wTernary : Grid := ⟨2, some 2, 1, [qRat 0, qRat 1, qRat 0, qRat (-1)]⟩
theorem wTernary_zero : wTernary.Candidate 0 0 := ⟨⟨qRat 0, rfl, by simp [wTernary, qRat]⟩, by decide⟩
theorem wTernary_one : wTernary.Candidate 1 1 := ⟨⟨qRat 1, rfl, by simp [wTernary, qRat]⟩, by decide⟩
theorem wTernary_values {c : Nat} {r : ℝ} (h : wTernary.Candidate c r) : r = 0 ∨ r = 1 ∨ r = -1 := by
  obtain ⟨⟨v, hv, he⟩, -⟩ := h
  have h4 : c < 4 := (List.getElem?_eq_some_iff.mp hv).1
  have hp : (2 : ℝ) ^ q2Scale ≠ 0 := by positivity
  have he' : r * 2 ^ q2Scale = v.a + v.b * √2 := by simpa [wTernary] using he
  have key : ∀ n : ℤ, v = qRat n → r = n := fun n e => by
    subst e
    refine mul_right_cancel₀ hp ?_
    simpa [qRat] using he'
  interval_cases c <;> simp [wTernary] at hv <;> subst hv
  · left; simpa using key 0 rfl
  · right; left; simpa using key 1 rfl
  · left; simpa using key 0 rfl
  · right; right; simpa using key (-1) rfl

/-- A quarter, rounded, is itself, and one is. -/
theorem wRounds_quarter : RoundsTo (1 / 4) 0x3E800000 := by
  have hv : ((flVal 0x3E800000 : ℚ) : ℝ) = 1 / 4 := by
    have : flVal 0x3E800000 = 1 / 4 := by decide +kernel
    rw [this]; norm_num
  refine ⟨⟨fun h => absurd h (by decide), fun h => absurd h (by norm_num)⟩, fun h => absurd h (by norm_num), fun h => absurd h (by norm_num), fun _ _ => ⟨by decide, by decide, fun v _ => ?_⟩⟩
  rw [hv]
  refine ⟨by simp, fun hne h => absurd ?_ hne⟩
  have h0 : ((flVal v : ℚ) : ℝ) - 1 / 4 = 0 := abs_eq_zero.mp (by rw [h]; simp)
  exact_mod_cast (sub_eq_zero.mp h0).trans hv.symm
theorem wRounds_one : RoundsTo 1 0x3F800000 := by
  have hv : ((flVal 0x3F800000 : ℚ) : ℝ) = 1 := by
    have : flVal 0x3F800000 = 1 := by decide +kernel
    rw [this]; norm_num
  refine ⟨⟨fun h => absurd h (by decide), fun h => absurd h (by norm_num)⟩, fun h => absurd h (by norm_num), fun h => absurd h (by norm_num), fun _ _ => ⟨by decide, by decide, fun v _ => ?_⟩⟩
  rw [hv]
  refine ⟨by simp, fun hne h => absurd ?_ hne⟩
  have h0 : ((flVal v : ℚ) : ℝ) - 1 = 0 := abs_eq_zero.mp (by rw [h]; simp)
  exact_mod_cast (sub_eq_zero.mp h0).trans hv.symm

/-- Obligations.GridValues: the premises of its stochastic clause together, for a quarter between 0 and 1 of the ternary grid. -/
theorem witness_GridValues_between :
    flVal 0x3E800000 = 1 / 4 ∧
    IsGreatest { r | (∃ c, wTernary.Candidate c r) ∧ r < ((1 / 4 : ℚ) : ℝ) } 0 ∧
    IsLeast { r | (∃ c, wTernary.Candidate c r) ∧ ((1 / 4 : ℚ) : ℝ) < r } 1 ∧
    (¬ ∃ c, wTernary.Candidate c ((1 / 4 : ℚ) : ℝ)) ∧
    RoundsTo (((1 / 4 : ℚ) : ℝ) - 0) 0x3E800000 ∧ RoundsTo ((1 : ℝ) - 0) 0x3F800000 := by
  refine ⟨by decide +kernel, ⟨⟨⟨0, wTernary_zero⟩, by norm_num⟩, ?_⟩, ⟨⟨⟨1, wTernary_one⟩, by norm_num⟩, ?_⟩, ?_,
    by simpa using wRounds_quarter, by simpa using wRounds_one⟩
  · rintro r ⟨⟨c, h⟩, hr⟩
    rcases wTernary_values h with rfl | rfl | rfl <;> (revert hr; norm_num)
  · rintro r ⟨⟨c, h⟩, hr⟩
    rcases wTernary_values h with rfl | rfl | rfl <;> (revert hr; norm_num)
  · rintro ⟨c, h⟩
    rcases wTernary_values h with h | h | h <;> norm_num at h

/-- A mover descriptor: one row of 8 bytes from DDR4 into the scratchpad of core 1, sync object 9. -/
def wMover : List Byte :=
  pk [(8, 0x1000), (8, 0x1101000400), (4, 8), (4, 1), (4, 0), (4, 0), (8, 0), (8, 0), (8, 0), (2, 9)] ++ zs 6

/-- A put of 8 bytes from offset 0x100 into the chip store, sync object 9. -/
def wOperation : List Byte := pk [(1, 0), (1, 1), (1, 0), (1, 1), (4, 0x100), (8, 0x1000000000), (4, 8), (2, 9), (2, 0), (8, 0)]

/-- Queue 9, of context 5 at both ends, capacity 8. -/
def wQueue (auto : Bool) (head : List SqWord) (p : Positions) (m : Machine.Module) : Machine.Module :=
  m.setQueue 9 { state := 1, auto := auto, prodId := 5, consId := 5, owner := 5, log2 := 6, head := head, main := p }

/-- Obligations.TileLoads: its clauses in order. -/
theorem witness_TileLoads :
    (∃ (s : State) (c : Fin 32) (e : Fin 64) (w : W32) (x : _), (Instr.ldt c e w).wf = true ∧
    movePresents s.mod c e w = true ∧ fld w 11 11 = 0 ∧
    address ((moveRegs (s.mod.eng c e)).scalar (fld w 21 18)) (signed 11 (fld w 10 0) * 8) 8 8 = .ok x) ∧
    (∃ (s : State) (c : Fin 32) (e : Fin 64) (w : W32) (x : _), (Instr.ldt c e w).wf = true ∧
    movePresents s.mod c e w = true ∧ fld w 11 11 = 1 ∧
    address ((moveRegs (s.mod.eng c e)).scalar (fld w 21 18)) (signed 11 (fld w 10 0) * 8) 2 2 = .ok x ∧
    (((moveRegs (s.mod.eng c e)).scalar (fld w 17 14)).toNat) % 2 = 0 ∧
    0 < (((moveRegs (s.mod.eng c e)).scalar (fld w 17 14)).toNat) ∧
    (((moveRegs (s.mod.eng c e)).scalar (fld w 17 14)).toNat) ≤ 0x7FFFE) ∧
    (∃ (s : State) (c : Fin 32) (e : Fin 64) (w : W32) (x : _), (Instr.ldtsl c e w).wf = true ∧
    movePresents s.mod c e w = true ∧ fld w 11 11 = 0 ∧
    address ((moveRegs (s.mod.eng c e)).scalar (fld w 21 18)) (signed 11 (fld w 10 0) * 8) 8 8 = .ok x) ∧
    (∃ (s : State) (c : Fin 32) (e : Fin 64) (w : W32) (x : _), (Instr.ldtsl c e w).wf = true ∧
    movePresents s.mod c e w = true ∧ fld w 11 11 = 1 ∧
    address ((moveRegs (s.mod.eng c e)).scalar (fld w 21 18)) (signed 11 (fld w 10 0) * 8) 2 2 = .ok x ∧
    (((moveRegs (s.mod.eng c e)).scalar (fld w 17 14)).toNat) % 2 = 0 ∧
    0 < (((moveRegs (s.mod.eng c e)).scalar (fld w 17 14)).toNat) ∧
    (((moveRegs (s.mod.eng c e)).scalar (fld w 17 14)).toNat) ≤ 0x7FFFE) ∧
    (∃ (s : State) (c : Fin 32) (e : Fin 64) (w : W32) (x : _), (Instr.ldtsr c e w).wf = true ∧
    movePresents s.mod c e w = true ∧ fld w 11 11 = 0 ∧
    address ((moveRegs (s.mod.eng c e)).scalar (fld w 21 18)) (signed 11 (fld w 10 0) * 8) 8 8 = .ok x) ∧
    (∃ (s : State) (c : Fin 32) (e : Fin 64) (w : W32) (x : _), (Instr.ldtsr c e w).wf = true ∧
    movePresents s.mod c e w = true ∧ fld w 11 11 = 1 ∧
    address ((moveRegs (s.mod.eng c e)).scalar (fld w 21 18)) (signed 11 (fld w 10 0) * 8) 2 2 = .ok x ∧
    (((moveRegs (s.mod.eng c e)).scalar (fld w 17 14)).toNat) % 2 = 0 ∧
    0 < (((moveRegs (s.mod.eng c e)).scalar (fld w 17 14)).toNat) ∧
    (((moveRegs (s.mod.eng c e)).scalar (fld w 17 14)).toNat) ≤ 0x7FFFE) ∧
    (∃ (s : State) (c : Fin 32) (e : Fin 64) (w : W32) (x : _) (y : _), (Instr.ldt2 c e w).wf = true ∧
    movePresents s.mod c e w = true ∧ address ((moveRegs (s.mod.eng c e)).scalar (fld w 22 19)) (8 * (fld w 7 0 : Int)) 8 8 =
    .ok x ∧ address ((moveRegs (s.mod.eng c e)).scalar (fld w 18 15)) (8 * (fld w 7 0 : Int)) 8 8 = .ok y) ∧
    (∃ (s : State) (c : Fin 32) (e : Fin 64) (w : W32) (x : _) (y : _), (Instr.ldt2s c e w).wf = true ∧
    movePresents s.mod c e w = true ∧ address ((moveRegs (s.mod.eng c e)).scalar (fld w 22 19)) (8 * (fld w 7 0 : Int)) 8 8 =
    .ok x ∧ address ((moveRegs (s.mod.eng c e)).scalar (fld w 18 15)) (8 * (fld w 7 0 : Int)) 8 8 = .ok y) ∧
    (∃ (x : _) (st : _) (r : _), x % 2 = 0 ∧ st % 2 = 0 ∧ r < 4) ∧
    (∃ (x : _) (st : _), x % 2 = 0 ∧ st % 2 = 0) :=
  ⟨⟨mov 0x09041001 (sc [0, 64, 0x7FFFE, 8]) wTiles, 1, 3, 0x09041001, 72, by decide +kernel⟩,
   ⟨mov 0x09049800 (sc [0, 64, 0x7FFFE, 8]) wTiles, 1, 3, 0x09049800, 64, by decide +kernel⟩,
   ⟨mov 0x65041001 (sc [0, 64, 0x7FFFE, 8]) wTiles, 1, 3, 0x65041001, 72, by decide +kernel⟩,
   ⟨mov 0x65049800 (sc [0, 64, 0x7FFFE, 8]) wTiles, 1, 3, 0x65049800, 64, by decide +kernel⟩,
   ⟨mov 0x69041001 (sc [0, 64, 0x7FFFE, 8]) wTiles, 1, 3, 0x69041001, 72, by decide +kernel⟩,
   ⟨mov 0x69049800 (sc [0, 64, 0x7FFFE, 8]) wTiles, 1, 3, 0x69049800, 64, by decide +kernel⟩,
   ⟨mov 0x05089F01 (sc [0, 64, 0x7FFFE, 8]) wTiles, 1, 3, 0x05089F01, 72, 72, by decide +kernel⟩,
   ⟨mov 0x61089F01 (sc [0, 64, 0x7FFFE, 8]) wTiles, 1, 3, 0x61089F01, 72, 72, by decide +kernel⟩,
   ⟨66, 2, 3, by decide +kernel⟩,
   ⟨66, 2, by decide +kernel⟩⟩

/-- Obligations.RowLoads: its clauses in order. -/
theorem witness_RowLoads :
    (∃ (s : State) (c : Fin 32) (e : Fin 64) (w : W32) (x : _), (Instr.ldv c e w).wf = true ∧
    movePresents s.mod c e w = true ∧ address ((moveRegs (s.mod.eng c e)).scalar (fld w 21 18)) (signed 11 (fld w 10 0) * 64)
    64 64 = .ok x) ∧
    (∃ (s : State) (c : Fin 32) (e : Fin 64) (w : W32) (x : _), (Instr.lds c e w).wf = true ∧
    movePresents s.mod c e w = true ∧ address ((moveRegs (s.mod.eng c e)).scalar (fld w 21 18)) (signed 11 (fld w 10 0) * 4) 4
    4 = .ok x ∧ wordPoison s.mod.mem (local_ c x / 8) = false) ∧
    (∃ (s : State) (c : Fin 32) (e : Fin 64) (w : W32) (x : _), (Instr.ldq c e w).wf = true ∧
    movePresents s.mod c e w = true ∧ address ((moveRegs (s.mod.eng c e)).scalar (fld w 21 18)) (signed 11 (fld w 10 0) * 64)
    64 64 = .ok x ∧ (∀ k, k < 8 → wordPoison s.mod.mem (local_ c x / 8 + k) = false)) ∧
    (∃ (s : State) (c : Fin 32) (e : Fin 64) (w : W32) (x : _) (p : _), (Instr.ldp c e w).wf = true ∧
    movePresents s.mod c e w = true ∧ address ((moveRegs (s.mod.eng c e)).scalar (fld w 21 18)) (signed 11 (fld w 10 0) * 64)
    64 576 = .ok x ∧ (∀ k, k < 72 → wordPoison s.mod.mem (local_ c x / 8 + k) = false) ∧
    tableOf (memBytes s.mod.mem (local_ c x) 576) = some p) ∧
    (∃ (s : State) (c : Fin 32) (e : Fin 64) (w : W32) (d : _), (Instr.srr c e w).wf = true ∧
    movePresents s.mod c e w = true ∧ special (s.mod.eng c e) (fld w 3 0) = some d) ∧
    (∃ (s : State) (c : Fin 32) (e : Fin 64) (w : W32) (k : _), (Instr.ldv c e w).wf = true ∧
    movePresents s.mod c e w = true ∧ (s.mod.eng c e).fault = none ∧
    address ((moveRegs (s.mod.eng c e)).scalar (fld w 21 18)) (signed 11 (fld w 10 0) * 64) 64 64 = .error k) ∧
    (∃ (s : State) (c : Fin 32) (e : Fin 64) (w : W32) (k : _), (Instr.lds c e w).wf = true ∧
    movePresents s.mod c e w = true ∧ (s.mod.eng c e).fault = none ∧
    address ((moveRegs (s.mod.eng c e)).scalar (fld w 21 18)) (signed 11 (fld w 10 0) * 4) 4 4 = .error k) ∧
    (∃ (s : State) (c : Fin 32) (e : Fin 64) (w : W32) (k : _), (Instr.ldq c e w).wf = true ∧
    movePresents s.mod c e w = true ∧ (s.mod.eng c e).fault = none ∧
    address ((moveRegs (s.mod.eng c e)).scalar (fld w 21 18)) (signed 11 (fld w 10 0) * 64) 64 64 = .error k) ∧
    (∃ (s : State) (c : Fin 32) (e : Fin 64) (w : W32) (k : _), (Instr.ldp c e w).wf = true ∧
    movePresents s.mod c e w = true ∧ (s.mod.eng c e).fault = none ∧
    address ((moveRegs (s.mod.eng c e)).scalar (fld w 21 18)) (signed 11 (fld w 10 0) * 64) 64 576 = .error k) ∧
    (∃ (s : State) (c : Fin 32) (e : Fin 64) (w : W32) (k : _), (Instr.ldt c e w).wf = true ∧
    movePresents s.mod c e w = true ∧ (s.mod.eng c e).fault = none ∧ fld w 11 11 = 0 ∧
    address ((moveRegs (s.mod.eng c e)).scalar (fld w 21 18)) (signed 11 (fld w 10 0) * 8) 8 8 = .error k) ∧
    (∃ (s : State) (c : Fin 32) (e : Fin 64) (w : W32), (Instr.ldt c e w).wf = true ∧ movePresents s.mod c e w = true ∧
     (s.mod.eng c e).fault = none ∧ fld w 11 11 = 1 ∧ (((moveRegs (s.mod.eng c e)).scalar (fld w 17 14)).toNat) % 2 = 1) ∧
    (∃ (s : State) (c : Fin 32) (e : Fin 64) (w : W32), (Instr.ldt c e w).wf = true ∧ movePresents s.mod c e w = true ∧
     (s.mod.eng c e).fault = none ∧ fld w 11 11 = 1 ∧ (((moveRegs (s.mod.eng c e)).scalar (fld w 17 14)).toNat) % 2 = 0 ∧
     ((((moveRegs (s.mod.eng c e)).scalar (fld w 17 14)).toNat) = 0 ∨ 0x7FFFE < (((moveRegs (s.mod.eng c e)).scalar (fld w 17
    14)).toNat))) ∧
    (∃ (s : State) (c : Fin 32) (e : Fin 64) (w : W32) (k : _), (Instr.ldt c e w).wf = true ∧
    movePresents s.mod c e w = true ∧ (s.mod.eng c e).fault = none ∧ fld w 11 11 = 1 ∧
    (((moveRegs (s.mod.eng c e)).scalar (fld w 17 14)).toNat) % 2 = 0 ∧
    0 < (((moveRegs (s.mod.eng c e)).scalar (fld w 17 14)).toNat) ∧
    (((moveRegs (s.mod.eng c e)).scalar (fld w 17 14)).toNat) ≤ 0x7FFFE ∧
    address ((moveRegs (s.mod.eng c e)).scalar (fld w 21 18)) (signed 11 (fld w 10 0) * 8) 2 2 = .error k) ∧
    (∃ (s : State) (c : Fin 32) (e : Fin 64) (w : W32) (k : _), (Instr.ldtsl c e w).wf = true ∧
    movePresents s.mod c e w = true ∧ (s.mod.eng c e).fault = none ∧ fld w 11 11 = 0 ∧
    address ((moveRegs (s.mod.eng c e)).scalar (fld w 21 18)) (signed 11 (fld w 10 0) * 8) 8 8 = .error k) ∧
    (∃ (s : State) (c : Fin 32) (e : Fin 64) (w : W32), (Instr.ldtsl c e w).wf = true ∧ movePresents s.mod c e w = true ∧
     (s.mod.eng c e).fault = none ∧ fld w 11 11 = 1 ∧ (((moveRegs (s.mod.eng c e)).scalar (fld w 17 14)).toNat) % 2 = 1) ∧
    (∃ (s : State) (c : Fin 32) (e : Fin 64) (w : W32), (Instr.ldtsl c e w).wf = true ∧ movePresents s.mod c e w = true ∧
     (s.mod.eng c e).fault = none ∧ fld w 11 11 = 1 ∧ (((moveRegs (s.mod.eng c e)).scalar (fld w 17 14)).toNat) % 2 = 0 ∧
     ((((moveRegs (s.mod.eng c e)).scalar (fld w 17 14)).toNat) = 0 ∨ 0x7FFFE < (((moveRegs (s.mod.eng c e)).scalar (fld w 17
    14)).toNat))) ∧
    (∃ (s : State) (c : Fin 32) (e : Fin 64) (w : W32) (k : _), (Instr.ldtsl c e w).wf = true ∧
    movePresents s.mod c e w = true ∧ (s.mod.eng c e).fault = none ∧ fld w 11 11 = 1 ∧
    (((moveRegs (s.mod.eng c e)).scalar (fld w 17 14)).toNat) % 2 = 0 ∧
    0 < (((moveRegs (s.mod.eng c e)).scalar (fld w 17 14)).toNat) ∧
    (((moveRegs (s.mod.eng c e)).scalar (fld w 17 14)).toNat) ≤ 0x7FFFE ∧
    address ((moveRegs (s.mod.eng c e)).scalar (fld w 21 18)) (signed 11 (fld w 10 0) * 8) 2 2 = .error k) ∧
    (∃ (s : State) (c : Fin 32) (e : Fin 64) (w : W32) (k : _), (Instr.ldtsr c e w).wf = true ∧
    movePresents s.mod c e w = true ∧ (s.mod.eng c e).fault = none ∧ fld w 11 11 = 0 ∧
    address ((moveRegs (s.mod.eng c e)).scalar (fld w 21 18)) (signed 11 (fld w 10 0) * 8) 8 8 = .error k) ∧
    (∃ (s : State) (c : Fin 32) (e : Fin 64) (w : W32), (Instr.ldtsr c e w).wf = true ∧ movePresents s.mod c e w = true ∧
     (s.mod.eng c e).fault = none ∧ fld w 11 11 = 1 ∧ (((moveRegs (s.mod.eng c e)).scalar (fld w 17 14)).toNat) % 2 = 1) ∧
    (∃ (s : State) (c : Fin 32) (e : Fin 64) (w : W32), (Instr.ldtsr c e w).wf = true ∧ movePresents s.mod c e w = true ∧
     (s.mod.eng c e).fault = none ∧ fld w 11 11 = 1 ∧ (((moveRegs (s.mod.eng c e)).scalar (fld w 17 14)).toNat) % 2 = 0 ∧
     ((((moveRegs (s.mod.eng c e)).scalar (fld w 17 14)).toNat) = 0 ∨ 0x7FFFE < (((moveRegs (s.mod.eng c e)).scalar (fld w 17
    14)).toNat))) ∧
    (∃ (s : State) (c : Fin 32) (e : Fin 64) (w : W32) (k : _), (Instr.ldtsr c e w).wf = true ∧
    movePresents s.mod c e w = true ∧ (s.mod.eng c e).fault = none ∧ fld w 11 11 = 1 ∧
    (((moveRegs (s.mod.eng c e)).scalar (fld w 17 14)).toNat) % 2 = 0 ∧
    0 < (((moveRegs (s.mod.eng c e)).scalar (fld w 17 14)).toNat) ∧
    (((moveRegs (s.mod.eng c e)).scalar (fld w 17 14)).toNat) ≤ 0x7FFFE ∧
    address ((moveRegs (s.mod.eng c e)).scalar (fld w 21 18)) (signed 11 (fld w 10 0) * 8) 2 2 = .error k) ∧
    (∃ (s : State) (c : Fin 32) (e : Fin 64) (w : W32) (k : _), (Instr.ldt2 c e w).wf = true ∧
    movePresents s.mod c e w = true ∧ (s.mod.eng c e).fault = none ∧
    (address ((moveRegs (s.mod.eng c e)).scalar (fld w 22 19)) (8 * (fld w 7 0 : Int)) 8 8) = .error k) ∧
    (∃ (s : State) (c : Fin 32) (e : Fin 64) (w : W32) (x : _) (k : _), (Instr.ldt2 c e w).wf = true ∧
    movePresents s.mod c e w = true ∧ (s.mod.eng c e).fault = none ∧
    (address ((moveRegs (s.mod.eng c e)).scalar (fld w 22 19)) (8 * (fld w 7 0 : Int)) 8 8) = .ok x ∧
    (address ((moveRegs (s.mod.eng c e)).scalar (fld w 18 15)) (8 * (fld w 7 0 : Int)) 8 8) = .error k) ∧
    (∃ (s : State) (c : Fin 32) (e : Fin 64) (w : W32) (k : _), (Instr.ldt2s c e w).wf = true ∧
    movePresents s.mod c e w = true ∧ (s.mod.eng c e).fault = none ∧
    (address ((moveRegs (s.mod.eng c e)).scalar (fld w 22 19)) (8 * (fld w 7 0 : Int)) 8 8) = .error k) ∧
    (∃ (s : State) (c : Fin 32) (e : Fin 64) (w : W32) (x : _) (k : _), (Instr.ldt2s c e w).wf = true ∧
    movePresents s.mod c e w = true ∧ (s.mod.eng c e).fault = none ∧
    (address ((moveRegs (s.mod.eng c e)).scalar (fld w 22 19)) (8 * (fld w 7 0 : Int)) 8 8) = .ok x ∧
    (address ((moveRegs (s.mod.eng c e)).scalar (fld w 18 15)) (8 * (fld w 7 0 : Int)) 8 8) = .error k) ∧
    (∃ (base : W32) (imm : Int) (align : Nat), ((base.toNat : Int) + imm) % align ≠ 0) ∧
    (∃ (base : W32) (imm : Int) (align : Nat) (len : Nat), ((base.toNat : Int) + imm) % align = 0 ∧
    (((base.toNat : Int) + imm) < 0 ∨ 0x80000 < ((base.toNat : Int) + imm) + len)) ∧
    (∃ (base : W32) (imm : Int) (align : Nat) (len : Nat), ((base.toNat : Int) + imm) % align = 0 ∧
    0 ≤ ((base.toNat : Int) + imm) ∧ ((base.toNat : Int) + imm) + len ≤ 0x80000) ∧
    (∃ (s : State) (c : Fin 32) (e : Fin 64) (w : W32) (x : _) (j : _), (Instr.lds c e w).wf = true ∧
    movePresents s.mod c e w = true ∧ (s.mod.eng c e).fault = none ∧
    address ((moveRegs (s.mod.eng c e)).scalar (fld w 21 18)) (signed 11 (fld w 10 0) * 4) 4 4 = .ok x ∧ j < ((4 + 7) / 8) ∧
     wordPoison s.mod.mem (local_ c x / 8 + j) = true) ∧
    (∃ (s : State) (c : Fin 32) (e : Fin 64) (w : W32) (x : _) (j : _), (Instr.ldq c e w).wf = true ∧
    movePresents s.mod c e w = true ∧ (s.mod.eng c e).fault = none ∧
    address ((moveRegs (s.mod.eng c e)).scalar (fld w 21 18)) (signed 11 (fld w 10 0) * 64) 64 64 = .ok x ∧
    j < ((64 + 7) / 8) ∧ wordPoison s.mod.mem (local_ c x / 8 + j) = true) ∧
    (∃ (s : State) (c : Fin 32) (e : Fin 64) (w : W32) (x : _) (j : _), (Instr.ldp c e w).wf = true ∧
    movePresents s.mod c e w = true ∧ (s.mod.eng c e).fault = none ∧
    address ((moveRegs (s.mod.eng c e)).scalar (fld w 21 18)) (signed 11 (fld w 10 0) * 64) 64 576 = .ok x ∧
    j < ((576 + 7) / 8) ∧ wordPoison s.mod.mem (local_ c x / 8 + j) = true) ∧
    (∃ (s : State) (c : Fin 32) (e : Fin 64) (w : W32) (x : _), (Instr.ldp c e w).wf = true ∧
    movePresents s.mod c e w = true ∧ (s.mod.eng c e).fault = none ∧
    address ((moveRegs (s.mod.eng c e)).scalar (fld w 21 18)) (signed 11 (fld w 10 0) * 64) 64 576 = .ok x ∧
    (∀ k, k < 72 → wordPoison s.mod.mem (local_ c x / 8 + k) = false) ∧ tableOf (memBytes s.mod.mem (local_ c x) 576) = none) ∧
    (∃ (s : State) (c : Fin 32) (e : Fin 64) (w : W32), (Instr.srr c e w).wf = true ∧ movePresents s.mod c e w = true ∧
     (s.mod.eng c e).fault = none ∧ special (s.mod.eng c e) (fld w 3 0) = none) :=
  ⟨⟨mov 0x11040000 (sc [0, 64, 128, 0x7FFC0]) wTiles, 1, 3, 0x11040000, 64, by decide +kernel⟩,
   ⟨mov 0x19040000 (sc [0, 64, 128, 0x7FFC0]) wTiles, 1, 3, 0x19040000, 64, by decide +kernel⟩,
   ⟨mov 0x21040000 (sc [0, 64, 128, 0x7FFC0]) (spad 64 (leBytes 8 0x1122334455667788 ++ leBytes 8 0x99AABBCCDDEEFF01)), 1, 3,
    0x21040000, 64, by decide +kernel⟩,
   ⟨mov 0x24480000 (sc [0, 64, 128, 0x7FFC0]) id, 1, 3, 0x24480000, 128, { ent := (List.range 256).foldl (fun t i => t.put 0 i 0) [] },
    by decide +kernel⟩,
   ⟨mov 0x29000006 (sc [0, 64, 128, 0x7FFC0]) id, 1, 3, 0x29000006, 0, by decide +kernel⟩,
   ⟨mov 0x11040000 (sc [0, 3, 0x7FFFE, 0x80000, 64]) id, 1, 3, 0x11040000, 2, by decide +kernel⟩,
   ⟨mov 0x190C0000 (sc [0, 3, 0x7FFFE, 0x80000, 64]) id, 1, 3, 0x190C0000, 3, by decide +kernel⟩,
   ⟨mov 0x210C0000 (sc [0, 3, 0x7FFFE, 0x80000, 64]) id, 1, 3, 0x210C0000, 3, by decide +kernel⟩,
   ⟨mov 0x244C0000 (sc [0, 64, 128, 0x7FFC0]) id, 1, 3, 0x244C0000, 3, by decide +kernel⟩,
   ⟨mov 0x09040000 (sc [0, 3, 0x7FFFE, 0x80000, 64]) id, 1, 3, 0x09040000, 2, by decide +kernel⟩,
   ⟨mov 0x09104800 (sc [0, 3, 0x7FFFE, 0x80000, 64]) id, 1, 3, 0x09104800, by decide +kernel⟩,
   ⟨mov 0x09100800 (sc [0, 3, 0x7FFFE, 0x80000, 64]) id, 1, 3, 0x09100800, by decide +kernel⟩,
   ⟨mov 0x090C8800 (sc [0, 3, 0x7FFFE, 0x80000, 64]) id, 1, 3, 0x090C8800, 3, by decide +kernel⟩,
   ⟨mov 0x65040000 (sc [0, 3, 0x7FFFE, 0x80000, 64]) id, 1, 3, 0x65040000, 2, by decide +kernel⟩,
   ⟨mov 0x65104800 (sc [0, 3, 0x7FFFE, 0x80000, 64]) id, 1, 3, 0x65104800, by decide +kernel⟩,
   ⟨mov 0x65100800 (sc [0, 3, 0x7FFFE, 0x80000, 64]) id, 1, 3, 0x65100800, by decide +kernel⟩,
   ⟨mov 0x650C8800 (sc [0, 3, 0x7FFFE, 0x80000, 64]) id, 1, 3, 0x650C8800, 3, by decide +kernel⟩,
   ⟨mov 0x69040000 (sc [0, 3, 0x7FFFE, 0x80000, 64]) id, 1, 3, 0x69040000, 2, by decide +kernel⟩,
   ⟨mov 0x69104800 (sc [0, 3, 0x7FFFE, 0x80000, 64]) id, 1, 3, 0x69104800, by decide +kernel⟩,
   ⟨mov 0x69100800 (sc [0, 3, 0x7FFFE, 0x80000, 64]) id, 1, 3, 0x69100800, by decide +kernel⟩,
   ⟨mov 0x690C8800 (sc [0, 3, 0x7FFFE, 0x80000, 64]) id, 1, 3, 0x690C8800, 3, by decide +kernel⟩,
   ⟨mov 0x050A0000 (sc [0, 3, 0x7FFFE, 0x80000, 64]) id, 1, 3, 0x050A0000, 2, by decide +kernel⟩,
   ⟨mov 0x05218000 (sc [0, 3, 0x7FFFE, 0x80000, 64]) id, 1, 3, 0x05218000, 64, 3, by decide +kernel⟩,
   ⟨mov 0x610A0000 (sc [0, 3, 0x7FFFE, 0x80000, 64]) id, 1, 3, 0x610A0000, 2, by decide +kernel⟩,
   ⟨mov 0x61218000 (sc [0, 3, 0x7FFFE, 0x80000, 64]) id, 1, 3, 0x61218000, 64, 3, by decide +kernel⟩,
   ⟨3, 0, 8, by decide +kernel⟩,
   ⟨0x7FFC0, 64, 64, 64, by decide +kernel⟩,
   ⟨0x7FFC0, 0, 64, 64, by decide +kernel⟩,
   ⟨mov 0x19040002 (sc [0, 64, 128, 0x7FFC0]) wTiles, 1, 3, 0x19040002, 72, 0, by decide +kernel⟩,
   ⟨mov 0x21040000 (sc [0, 64, 128, 0x7FFC0]) wTiles, 1, 3, 0x21040000, 64, 1, by decide +kernel⟩,
   ⟨mov 0x24440000 (sc [0, 64, 128, 0x7FFC0]) wTiles, 1, 3, 0x24440000, 64, 1, by decide +kernel⟩,
   ⟨mov 0x24480000 (sc [0, 64, 128, 0x7FFC0]) (spad 128 [0, 0, 0x10]), 1, 3, 0x24480000, 128, by decide +kernel⟩,
   ⟨mov 0x2900000F (sc [0, 64, 128, 0x7FFC0]) id, 1, 3, 0x2900000F, by decide +kernel⟩⟩

/-- Obligations.StoreWords: its clauses in order. -/
theorem witness_StoreWords :
    (∃ (s : State) (c : Fin 32) (e : Fin 64) (w : W32) (x : _), (Instr.stt c e w).wf = true ∧
    movePresents s.mod c e w = true ∧ address ((moveRegs (s.mod.eng c e)).scalar (fld w 21 18)) (signed 11 (fld w 10 0) * 8) 8
    8 = .ok x) ∧
    (∃ (s : State) (c : Fin 32) (e : Fin 64) (w : W32) (x : _), (Instr.stv c e w).wf = true ∧
    movePresents s.mod c e w = true ∧ address ((moveRegs (s.mod.eng c e)).scalar (fld w 21 18)) (signed 11 (fld w 10 0) * 64)
    64 64 = .ok x) ∧
    (∃ (s : State) (c : Fin 32) (e : Fin 64) (w : W32) (x : _), (Instr.sts c e w).wf = true ∧
    movePresents s.mod c e w = true ∧ address ((moveRegs (s.mod.eng c e)).scalar (fld w 21 18)) (signed 11 (fld w 10 0) * 4) 4
    4 = .ok x) :=
  ⟨⟨mov 0x0D040000 wStored (bad 64), 1, 3, 0x0D040000, 64, by decide +kernel⟩,
   ⟨mov 0x15040000 wStored (bad 64), 1, 3, 0x15040000, 64, by decide +kernel⟩,
   ⟨mov 0x1C840001 wStored (bad 64), 1, 3, 0x1C840001, 68, by decide +kernel⟩⟩

/-- Obligations.IssueWords: its clauses in order. -/
theorem witness_IssueWords :
    (∃ (s : State) (c : Fin 32) (e : Fin 64) (w : W32) (x : _), (Instr.movd c e w).wf = true ∧
    movePresents s.mod c e w = true ∧ address ((moveRegs (s.mod.eng c e)).scalar (fld w 21 18)) 0 64 64 = .ok x ∧
    (16 ≤ (s.mod.eng c e).inflight ∨ 16 ≤ (s.mod.core c).mover.length) ∧ (s.mod.eng c e).fault = none) ∧
    (∃ (s : State) (c : Fin 32) (e : Fin 64) (w : W32) (x : _), (Instr.movd c e w).wf = true ∧
    movePresents s.mod c e w = true ∧ address ((moveRegs (s.mod.eng c e)).scalar (fld w 21 18)) 0 64 64 = .ok x ∧
    (s.mod.eng c e).inflight < 16 ∧ (s.mod.core c).mover.length < 16 ∧
    (∀ i, i < 8 → wordPoison s.mod.mem (local_ c x / 8 + i) = false) ∧
    moverBad c (memBytes s.mod.mem (local_ c x) 64) = false ∧
    ((moverJob e (ctxOfCore s.mod c) (s.mod.eng c e).bpc.toNat x (memBytes s.mod.mem (local_ c x) 64)).flags.getLsbD 2 = true
    ∨ syncOwned s.mod (ctxOfCore s.mod c) (moverJob e (ctxOfCore s.mod c) (s.mod.eng c e).bpc.toNat x (memBytes s.mod.mem
    (local_ c x) 64)).sync = true)) ∧
    (∃ (s : State) (c : Fin 32) (e : Fin 64) (w : W32) (x : _), (Instr.movd c e w).wf = true ∧
    movePresents s.mod c e w = true ∧ address ((moveRegs (s.mod.eng c e)).scalar (fld w 21 18)) 0 64 64 = .ok x ∧
    (s.mod.eng c e).inflight < 16 ∧ (s.mod.core c).mover.length < 16 ∧ (s.mod.eng c e).fault = none ∧ (∃ i, i < 8 ∧
    wordPoison s.mod.mem (local_ c x / 8 + i) = true)) ∧
    (∃ (s : State) (c : Fin 32) (e : Fin 64) (w : W32) (x : _), (Instr.rmo c e w).wf = true ∧
    movePresents s.mod c e w = true ∧ (s.mod.eng c e).inflight < 16 ∧
    address ((moveRegs (s.mod.eng c e)).scalar (fld w 21 18)) 0 32 32 = .ok x ∧
    (∀ i, i < 4 → wordPoison s.mod.mem (local_ c x / 8 + i) = false) ∧
    rmoBad s.mod (memBytes s.mod.mem (local_ c x) 32) = false ∧
    ((ropOf s.mod c e x (memBytes s.mod.mem (local_ c x) 32)).lsyncOn = true → syncOwned s.mod (ctxOfCore s.mod c) (ropOf
    s.mod c e x (memBytes s.mod.mem (local_ c x) 32)).lsync = true) ∧
    (isRef (ropOf s.mod c e x (memBytes s.mod.mem (local_ c x) 32)).remote = false → 3 ≤ (ropOf s.mod c e x (memBytes
    s.mod.mem (local_ c x) 32)).kind → syncOwned s.mod (ctxOfCore s.mod c) (ropOf s.mod c e x (memBytes s.mod.mem (local_ c x)
    32)).rsync = true)) ∧
    (∃ (s : State) (c : Fin 32) (e : Fin 64) (w : W32), (Instr.sig c e w).wf = true ∧ movePresents s.mod c e w = true ∧
     (s.mod.eng c e).inflight < 16 ∧ syncOwned s.mod (ctxOfCore s.mod c) (((moveRegs (s.mod.eng c e)).scalar (fld w 21
    18)).toNat % 65536) = true) ∧
    (∃ (s : State) (c : Fin 32) (e : Fin 64) (w : W32), (Instr.sig c e w).wf = true ∧ movePresents s.mod c e w = true ∧
     (s.mod.eng c e).inflight < 16 ∧ syncOwned s.mod (ctxOfCore s.mod c) (((moveRegs (s.mod.eng c e)).scalar (fld w 21
    18)).toNat % 65536) = false ∧ (s.mod.eng c e).fault = none) :=
  ⟨⟨eng { run := .issuing, pc := 3, bpc := 2, mvLeft := true, src := (sc [0, 64, 9, 512]), nxt := (sc [0, 64, 9, 512]), inflight := 16 }
    0 0 0x2C040000 0 id, 1, 3, 0x2C040000, 64, by decide +kernel⟩,
   ⟨mov 0x2C040000 (sc [0, 64, 9, 512]) (fun m => spad 64 wMover (wOwner m)), 1, 3, 0x2C040000, 64, by decide +kernel⟩,
   ⟨mov 0x2C040000 (sc [0, 64, 9, 512]) (fun m => bad 88 ((fun m => spad 64 wMover (wOwner m)) m)), 1, 3, 0x2C040000, 64,
    by decide +kernel⟩,
   ⟨mov 0x30040000 (sc [0, 64, 9, 512]) (fun m => spad 64 wOperation (wOwner m)), 1, 3, 0x30040000, 64, by decide +kernel⟩,
   ⟨mov 0x34080005 (sc [0, 64, 9, 512]) wOwner, 1, 3, 0x34080005, by decide +kernel⟩,
   ⟨mov 0x34040005 (sc [0, 64, 9, 512]) wOwner, 1, 3, 0x34040005, by decide +kernel⟩⟩

/-- Obligations.QueueWords: its clauses in order. -/
theorem witness_QueueWords :
    (∃ (s : State) (c : Fin 32) (e : Fin 64) (w : W32), (Instr.sqpush c e w).wf = true ∧ movePresents s.mod c e w = true ∧
     ((fun (s : State) (c e : Nat) (w : W32) => ((moveRegs (s.mod.eng c e)).scalar (fld w 21 18)).toNat) s c e w) < 512 ∧
     sqBound (s.mod.queue ((fun (s : State) (c e : Nat) (w : W32) => ((moveRegs (s.mod.eng c e)).scalar (fld w 21 18)).toNat)
    s c e w)) (ctxOfCore s.mod c) true = true ∧ (s.mod.eng c e).hold.isPush = false ∧
    acceptable s.mod (s.mod.queue ((fun (s : State) (c e : Nat) (w : W32) => ((moveRegs (s.mod.eng c e)).scalar (fld w 21
    18)).toNat) s c e w)) = none ∧ canAccept (s.mod.queue ((fun (s : State) (c e : Nat) (w : W32) => ((moveRegs (s.mod.eng c
    e)).scalar (fld w 21 18)).toNat) s c e w)) 1 = true) ∧
    (∃ (s : State) (c : Fin 32) (e : Fin 64) (w : W32), (Instr.sqpush c e w).wf = true ∧ movePresents s.mod c e w = true ∧
     ((fun (s : State) (c e : Nat) (w : W32) => ((moveRegs (s.mod.eng c e)).scalar (fld w 21 18)).toNat) s c e w) < 512 ∧
     sqBound (s.mod.queue ((fun (s : State) (c e : Nat) (w : W32) => ((moveRegs (s.mod.eng c e)).scalar (fld w 21 18)).toNat)
    s c e w)) (ctxOfCore s.mod c) true = true ∧ (s.mod.eng c e).hold.isPush = false ∧
    canAccept (s.mod.queue ((fun (s : State) (c e : Nat) (w : W32) => ((moveRegs (s.mod.eng c e)).scalar (fld w 21 18)).toNat)
    s c e w)) 1 = false) ∧
    (∃ (s : State) (c : Fin 32) (e : Fin 64) (w : W32), (Instr.sqpushv c e w).wf = true ∧ movePresents s.mod c e w = true ∧
     ((fun (s : State) (c e : Nat) (w : W32) => ((moveRegs (s.mod.eng c e)).scalar (fld w 21 18)).toNat) s c e w) < 512 ∧
     sqBound (s.mod.queue ((fun (s : State) (c e : Nat) (w : W32) => ((moveRegs (s.mod.eng c e)).scalar (fld w 21 18)).toNat)
    s c e w)) (ctxOfCore s.mod c) true = true ∧ (s.mod.eng c e).hold.isPush = false ∧
    acceptable s.mod (s.mod.queue ((fun (s : State) (c e : Nat) (w : W32) => ((moveRegs (s.mod.eng c e)).scalar (fld w 21
    18)).toNat) s c e w)) = none ∧ canAccept (s.mod.queue ((fun (s : State) (c e : Nat) (w : W32) => ((moveRegs (s.mod.eng c
    e)).scalar (fld w 21 18)).toNat) s c e w)) 8 = true) ∧
    (∃ (s : State) (c : Fin 32) (e : Fin 64) (w : W32), (Instr.sqpop c e w).wf = true ∧ movePresents s.mod c e w = true ∧
     ((fun (s : State) (c e : Nat) (w : W32) => ((moveRegs (s.mod.eng c e)).scalar (fld w 21 18)).toNat) s c e w) < 512 ∧
     sqBound (s.mod.queue ((fun (s : State) (c e : Nat) (w : W32) => ((moveRegs (s.mod.eng c e)).scalar (fld w 21 18)).toNat)
    s c e w)) (ctxOfCore s.mod c) false = true ∧
    (s.mod.queue ((fun (s : State) (c e : Nat) (w : W32) => ((moveRegs (s.mod.eng c e)).scalar (fld w 21 18)).toNat) s c e
    w)).state = 1 ∧ occupancy (s.mod.queue ((fun (s : State) (c e : Nat) (w : W32) => ((moveRegs (s.mod.eng c e)).scalar (fld
    w 21 18)).toNat) s c e w)) = 0) ∧
    (∃ (s : State) (c : Fin 32) (e : Fin 64) (w : W32) (d : SqWord) (ds : List SqWord), (Instr.sqpop c e w).wf = true ∧
     movePresents s.mod c e w = true ∧ (false = true → (s.mod.core c).stopping = false ∨ (s.mod.eng c e).hold.isPop = false) ∧
     ((fun (s : State) (c e : Nat) (w : W32) => ((moveRegs (s.mod.eng c e)).scalar (fld w 21 18)).toNat) s c e w) < 512 ∧
     sqBound (s.mod.queue ((fun (s : State) (c e : Nat) (w : W32) => ((moveRegs (s.mod.eng c e)).scalar (fld w 21 18)).toNat)
    s c e w)) (ctxOfCore s.mod c) false = true ∧
    (s.mod.queue ((fun (s : State) (c e : Nat) (w : W32) => ((moveRegs (s.mod.eng c e)).scalar (fld w 21 18)).toNat) s c e
    w)).state = 1 ∧ 1 ≤ occupancy (s.mod.queue ((fun (s : State) (c e : Nat) (w : W32) => ((moveRegs (s.mod.eng c e)).scalar
    (fld w 21 18)).toNat) s c e w)) ∧ (s.mod.queue ((fun (s : State) (c e : Nat) (w : W32) => ((moveRegs (s.mod.eng c
    e)).scalar (fld w 21 18)).toNat) s c e w)).head = d :: ds) ∧
    (∃ (s : State) (c : Fin 32) (e : Fin 64) (w : W32) (d : SqWord) (ds : List SqWord), (Instr.sqpopw c e w).wf = true ∧
     movePresents s.mod c e w = true ∧ (true = true → (s.mod.core c).stopping = false ∨ (s.mod.eng c e).hold.isPop = false) ∧
     ((fun (s : State) (c e : Nat) (w : W32) => ((moveRegs (s.mod.eng c e)).scalar (fld w 21 18)).toNat) s c e w) < 512 ∧
     sqBound (s.mod.queue ((fun (s : State) (c e : Nat) (w : W32) => ((moveRegs (s.mod.eng c e)).scalar (fld w 21 18)).toNat)
    s c e w)) (ctxOfCore s.mod c) false = true ∧
    (s.mod.queue ((fun (s : State) (c e : Nat) (w : W32) => ((moveRegs (s.mod.eng c e)).scalar (fld w 21 18)).toNat) s c e
    w)).state = 1 ∧ 1 ≤ occupancy (s.mod.queue ((fun (s : State) (c e : Nat) (w : W32) => ((moveRegs (s.mod.eng c e)).scalar
    (fld w 21 18)).toNat) s c e w)) ∧ (s.mod.queue ((fun (s : State) (c e : Nat) (w : W32) => ((moveRegs (s.mod.eng c
    e)).scalar (fld w 21 18)).toNat) s c e w)).head = d :: ds) ∧
    (∃ (s : State) (c : Fin 32) (e : Fin 64) (w : W32), (Instr.sqpopw c e w).wf = true ∧ movePresents s.mod c e w = true ∧
     (s.mod.eng c e).fault = none ∧ ((fun (s : State) (c e : Nat) (w : W32) => ((moveRegs (s.mod.eng c e)).scalar (fld w 21
    18)).toNat) s c e w) < 512 ∧ sqBound (s.mod.queue ((fun (s : State) (c e : Nat) (w : W32) => ((moveRegs (s.mod.eng c
    e)).scalar (fld w 21 18)).toNat) s c e w)) (ctxOfCore s.mod c) false = true ∧
    occupancy (s.mod.queue ((fun (s : State) (c e : Nat) (w : W32) => ((moveRegs (s.mod.eng c e)).scalar (fld w 21 18)).toNat)
    s c e w)) = 0) ∧
    (∃ (s : State) (c : Fin 32) (e : Fin 64) (w : W32), (Instr.sqpopv c e w).wf = true ∧ movePresents s.mod c e w = true ∧
     ((s.mod.core c).stopping = false ∨ (s.mod.eng c e).hold.isPop = false) ∧
    ((fun (s : State) (c e : Nat) (w : W32) => ((moveRegs (s.mod.eng c e)).scalar (fld w 21 18)).toNat) s c e w) < 512 ∧
     sqBound (s.mod.queue ((fun (s : State) (c e : Nat) (w : W32) => ((moveRegs (s.mod.eng c e)).scalar (fld w 21 18)).toNat)
    s c e w)) (ctxOfCore s.mod c) false = true ∧
    (s.mod.queue ((fun (s : State) (c e : Nat) (w : W32) => ((moveRegs (s.mod.eng c e)).scalar (fld w 21 18)).toNat) s c e
    w)).state = 1 ∧ 8 ≤ occupancy (s.mod.queue ((fun (s : State) (c e : Nat) (w : W32) => ((moveRegs (s.mod.eng c e)).scalar
    (fld w 21 18)).toNat) s c e w)) ∧ 8 ≤ (s.mod.queue ((fun (s : State) (c e : Nat) (w : W32) => ((moveRegs (s.mod.eng c
    e)).scalar (fld w 21 18)).toNat) s c e w)).head.length) ∧
    (∃ (s : State) (c : Fin 32) (e : Fin 64) (w : W32), (Instr.sqmark c e w).wf = true ∧ movePresents s.mod c e w = true ∧
     ((fun (s : State) (c e : Nat) (w : W32) => ((moveRegs (s.mod.eng c e)).scalar (fld w 21 18)).toNat) s c e w) < 512 ∧
     sqBound (s.mod.queue ((fun (s : State) (c e : Nat) (w : W32) => ((moveRegs (s.mod.eng c e)).scalar (fld w 21 18)).toNat)
    s c e w)) (ctxOfCore s.mod c) false = true ∧
    (s.mod.queue ((fun (s : State) (c e : Nat) (w : W32) => ((moveRegs (s.mod.eng c e)).scalar (fld w 21 18)).toNat) s c e
    w)).auto = false ∧ (s.mod.queue ((fun (s : State) (c e : Nat) (w : W32) => ((moveRegs (s.mod.eng c e)).scalar (fld w 21
    18)).toNat) s c e w)).state = 1) ∧
    (∃ (s : State) (c : Fin 32) (e : Fin 64) (w : W32), (Instr.sqmark c e w).wf = true ∧ movePresents s.mod c e w = true ∧
     ((fun (s : State) (c e : Nat) (w : W32) => ((moveRegs (s.mod.eng c e)).scalar (fld w 21 18)).toNat) s c e w) < 512 ∧
     sqBound (s.mod.queue ((fun (s : State) (c e : Nat) (w : W32) => ((moveRegs (s.mod.eng c e)).scalar (fld w 21 18)).toNat)
    s c e w)) (ctxOfCore s.mod c) false = true ∧
    (s.mod.queue ((fun (s : State) (c e : Nat) (w : W32) => ((moveRegs (s.mod.eng c e)).scalar (fld w 21 18)).toNat) s c e
    w)).auto = true ∧ (s.mod.eng c e).fault = none) ∧
    (∃ (s : State) (c : Fin 32) (e : Fin 64) (w : W32), (Instr.sqrewind c e w).wf = true ∧ movePresents s.mod c e w = true ∧
     ((fun (s : State) (c e : Nat) (w : W32) => ((moveRegs (s.mod.eng c e)).scalar (fld w 21 18)).toNat) s c e w) < 512 ∧
     sqBound (s.mod.queue ((fun (s : State) (c e : Nat) (w : W32) => ((moveRegs (s.mod.eng c e)).scalar (fld w 21 18)).toNat)
    s c e w)) (ctxOfCore s.mod c) false = true ∧
    (s.mod.queue ((fun (s : State) (c e : Nat) (w : W32) => ((moveRegs (s.mod.eng c e)).scalar (fld w 21 18)).toNat) s c e
    w)).auto = false ∧ (s.mod.queue ((fun (s : State) (c e : Nat) (w : W32) => ((moveRegs (s.mod.eng c e)).scalar (fld w 21
    18)).toNat) s c e w)).state = 1) ∧
    (∃ (s : State) (c : Fin 32) (e : Fin 64) (w : W32), (Instr.sqrewind c e w).wf = true ∧ movePresents s.mod c e w = true ∧
     ((fun (s : State) (c e : Nat) (w : W32) => ((moveRegs (s.mod.eng c e)).scalar (fld w 21 18)).toNat) s c e w) < 512 ∧
     sqBound (s.mod.queue ((fun (s : State) (c e : Nat) (w : W32) => ((moveRegs (s.mod.eng c e)).scalar (fld w 21 18)).toNat)
    s c e w)) (ctxOfCore s.mod c) false = true ∧
    (s.mod.queue ((fun (s : State) (c e : Nat) (w : W32) => ((moveRegs (s.mod.eng c e)).scalar (fld w 21 18)).toNat) s c e
    w)).auto = true ∧ (s.mod.eng c e).fault = none) ∧
    (∃ (s : State) (c : Fin 32) (e : Fin 64) (w : W32), (Instr.sqrelease c e w).wf = true ∧ movePresents s.mod c e w = true ∧
     ((fun (s : State) (c e : Nat) (w : W32) => ((moveRegs (s.mod.eng c e)).scalar (fld w 21 18)).toNat) s c e w) < 512 ∧
     sqBound (s.mod.queue ((fun (s : State) (c e : Nat) (w : W32) => ((moveRegs (s.mod.eng c e)).scalar (fld w 21 18)).toNat)
    s c e w)) (ctxOfCore s.mod c) false = true ∧
    (s.mod.queue ((fun (s : State) (c e : Nat) (w : W32) => ((moveRegs (s.mod.eng c e)).scalar (fld w 21 18)).toNat) s c e
    w)).auto = false ∧ (s.mod.queue ((fun (s : State) (c e : Nat) (w : W32) => ((moveRegs (s.mod.eng c e)).scalar (fld w 21
    18)).toNat) s c e w)).state = 1) ∧
    (∃ (s : State) (c : Fin 32) (e : Fin 64) (w : W32), (Instr.sqrelease c e w).wf = true ∧ movePresents s.mod c e w = true ∧
     ((fun (s : State) (c e : Nat) (w : W32) => ((moveRegs (s.mod.eng c e)).scalar (fld w 21 18)).toNat) s c e w) < 512 ∧
     sqBound (s.mod.queue ((fun (s : State) (c e : Nat) (w : W32) => ((moveRegs (s.mod.eng c e)).scalar (fld w 21 18)).toNat)
    s c e w)) (ctxOfCore s.mod c) false = true ∧
    (s.mod.queue ((fun (s : State) (c e : Nat) (w : W32) => ((moveRegs (s.mod.eng c e)).scalar (fld w 21 18)).toNat) s c e
    w)).auto = true ∧ (s.mod.eng c e).fault = none) ∧
    (∃ (s : State) (c : Fin 32) (e : Fin 64) (w : W32), (Instr.sqpush c e w).wf = true ∧ movePresents s.mod c e w = true ∧
     (s.mod.eng c e).fault = none ∧ 512 ≤ (((moveRegs (s.mod.eng c e)).scalar (fld w 21 18)).toNat)) ∧
    (∃ (s : State) (c : Fin 32) (e : Fin 64) (w : W32), (Instr.sqpush c e w).wf = true ∧ movePresents s.mod c e w = true ∧
     (s.mod.eng c e).fault = none ∧ (((moveRegs (s.mod.eng c e)).scalar (fld w 21 18)).toNat) < 512 ∧
    sqBound (s.mod.queue (((moveRegs (s.mod.eng c e)).scalar (fld w 21 18)).toNat)) (ctxOfCore s.mod c) true = false) ∧
    (∃ (s : State) (c : Fin 32) (e : Fin 64) (w : W32), (Instr.sqpushv c e w).wf = true ∧ movePresents s.mod c e w = true ∧
     (s.mod.eng c e).fault = none ∧ 512 ≤ (((moveRegs (s.mod.eng c e)).scalar (fld w 21 18)).toNat)) ∧
    (∃ (s : State) (c : Fin 32) (e : Fin 64) (w : W32), (Instr.sqpushv c e w).wf = true ∧ movePresents s.mod c e w = true ∧
     (s.mod.eng c e).fault = none ∧ (((moveRegs (s.mod.eng c e)).scalar (fld w 21 18)).toNat) < 512 ∧
    sqBound (s.mod.queue (((moveRegs (s.mod.eng c e)).scalar (fld w 21 18)).toNat)) (ctxOfCore s.mod c) true = false) ∧
    (∃ (s : State) (c : Fin 32) (e : Fin 64) (w : W32), (Instr.sqpop c e w).wf = true ∧ movePresents s.mod c e w = true ∧
     (s.mod.eng c e).fault = none ∧ 512 ≤ (((moveRegs (s.mod.eng c e)).scalar (fld w 21 18)).toNat)) ∧
    (∃ (s : State) (c : Fin 32) (e : Fin 64) (w : W32), (Instr.sqpop c e w).wf = true ∧ movePresents s.mod c e w = true ∧
     (s.mod.eng c e).fault = none ∧ (((moveRegs (s.mod.eng c e)).scalar (fld w 21 18)).toNat) < 512 ∧
    sqBound (s.mod.queue (((moveRegs (s.mod.eng c e)).scalar (fld w 21 18)).toNat)) (ctxOfCore s.mod c) false = false) ∧
    (∃ (s : State) (c : Fin 32) (e : Fin 64) (w : W32), (Instr.sqpopw c e w).wf = true ∧ movePresents s.mod c e w = true ∧
     (s.mod.eng c e).fault = none ∧ 512 ≤ (((moveRegs (s.mod.eng c e)).scalar (fld w 21 18)).toNat)) ∧
    (∃ (s : State) (c : Fin 32) (e : Fin 64) (w : W32), (Instr.sqpopw c e w).wf = true ∧ movePresents s.mod c e w = true ∧
     (s.mod.eng c e).fault = none ∧ (((moveRegs (s.mod.eng c e)).scalar (fld w 21 18)).toNat) < 512 ∧
    sqBound (s.mod.queue (((moveRegs (s.mod.eng c e)).scalar (fld w 21 18)).toNat)) (ctxOfCore s.mod c) false = false) ∧
    (∃ (s : State) (c : Fin 32) (e : Fin 64) (w : W32), (Instr.sqpopv c e w).wf = true ∧ movePresents s.mod c e w = true ∧
     (s.mod.eng c e).fault = none ∧ 512 ≤ (((moveRegs (s.mod.eng c e)).scalar (fld w 21 18)).toNat)) ∧
    (∃ (s : State) (c : Fin 32) (e : Fin 64) (w : W32), (Instr.sqpopv c e w).wf = true ∧ movePresents s.mod c e w = true ∧
     (s.mod.eng c e).fault = none ∧ (((moveRegs (s.mod.eng c e)).scalar (fld w 21 18)).toNat) < 512 ∧
    sqBound (s.mod.queue (((moveRegs (s.mod.eng c e)).scalar (fld w 21 18)).toNat)) (ctxOfCore s.mod c) false = false) ∧
    (∃ (s : State) (c : Fin 32) (e : Fin 64) (w : W32), (Instr.sqmark c e w).wf = true ∧ movePresents s.mod c e w = true ∧
     (s.mod.eng c e).fault = none ∧ 512 ≤ (((moveRegs (s.mod.eng c e)).scalar (fld w 21 18)).toNat)) ∧
    (∃ (s : State) (c : Fin 32) (e : Fin 64) (w : W32), (Instr.sqmark c e w).wf = true ∧ movePresents s.mod c e w = true ∧
     (s.mod.eng c e).fault = none ∧ (((moveRegs (s.mod.eng c e)).scalar (fld w 21 18)).toNat) < 512 ∧
    sqBound (s.mod.queue (((moveRegs (s.mod.eng c e)).scalar (fld w 21 18)).toNat)) (ctxOfCore s.mod c) false = false) ∧
    (∃ (s : State) (c : Fin 32) (e : Fin 64) (w : W32), (Instr.sqrewind c e w).wf = true ∧ movePresents s.mod c e w = true ∧
     (s.mod.eng c e).fault = none ∧ 512 ≤ (((moveRegs (s.mod.eng c e)).scalar (fld w 21 18)).toNat)) ∧
    (∃ (s : State) (c : Fin 32) (e : Fin 64) (w : W32), (Instr.sqrewind c e w).wf = true ∧ movePresents s.mod c e w = true ∧
     (s.mod.eng c e).fault = none ∧ (((moveRegs (s.mod.eng c e)).scalar (fld w 21 18)).toNat) < 512 ∧
    sqBound (s.mod.queue (((moveRegs (s.mod.eng c e)).scalar (fld w 21 18)).toNat)) (ctxOfCore s.mod c) false = false) ∧
    (∃ (s : State) (c : Fin 32) (e : Fin 64) (w : W32), (Instr.sqrelease c e w).wf = true ∧ movePresents s.mod c e w = true ∧
     (s.mod.eng c e).fault = none ∧ 512 ≤ (((moveRegs (s.mod.eng c e)).scalar (fld w 21 18)).toNat)) ∧
    (∃ (s : State) (c : Fin 32) (e : Fin 64) (w : W32), (Instr.sqrelease c e w).wf = true ∧ movePresents s.mod c e w = true ∧
     (s.mod.eng c e).fault = none ∧ (((moveRegs (s.mod.eng c e)).scalar (fld w 21 18)).toNat) < 512 ∧
    sqBound (s.mod.queue (((moveRegs (s.mod.eng c e)).scalar (fld w 21 18)).toNat)) (ctxOfCore s.mod c) false = false) :=
  ⟨⟨mov 0x41080031 (sc [0, 0, 9, 512, 10]) (wQueue false [] ⟨8, 8, 8, 8⟩), 1, 3, 0x41080031, by decide +kernel⟩,
   ⟨mov 0x41080031 (sc [0, 0, 9, 512, 10]) (wQueue false [] ⟨8, 0, 0, 0⟩), 1, 3, 0x41080031, by decide +kernel⟩,
   ⟨mov 0x4D080031 (sc [0, 0, 9, 512, 10]) (wQueue false [] ⟨8, 8, 8, 8⟩), 1, 3, 0x4D080031, by decide +kernel⟩,
   ⟨mov 0x45084000 (sc [0, 0, 9, 512, 10]) (wQueue false [] ⟨8, 8, 8, 8⟩), 1, 3, 0x45084000, by decide +kernel⟩,
   ⟨mov 0x45084000 (sc [0, 0, 9, 512, 10]) (wQueue false [⟨0x55, 0x21, true⟩] ⟨9, 8, 8, 8⟩), 1, 3, 0x45084000, ⟨0x55, 0x21,
    true⟩, [], by decide +kernel⟩,
   ⟨mov 0x49084000 (sc [0, 0, 9, 512, 10]) (wQueue false [⟨0x55, 0x21, false⟩] ⟨9, 8, 8, 8⟩), 1, 3, 0x49084000, ⟨0x55, 0x21,
    false⟩, [], by decide +kernel⟩,
   ⟨mov 0x49084000 (sc [0, 0, 9, 512, 10]) (wQueue false [] ⟨8, 8, 8, 8⟩), 1, 3, 0x49084000, by decide +kernel⟩,
   ⟨mov 0x51084000 (sc [0, 0, 9, 512, 10]) (wQueue false (List.replicate 8 ⟨0x55, 0x21, false⟩) ⟨8, 0, 0, 0⟩), 1, 3,
    0x51084000, by decide +kernel⟩,
   ⟨mov 0x54080000 (sc [0, 0, 9, 512, 10]) (wQueue false (List.replicate 8 ⟨0x55, 0x21, false⟩) ⟨8, 0, 0, 0⟩), 1, 3,
    0x54080000, by decide +kernel⟩,
   ⟨mov 0x54080000 (sc [0, 0, 9, 512, 10]) (wQueue true (List.replicate 8 ⟨0x55, 0x21, false⟩) ⟨8, 0, 0, 0⟩), 1, 3,
    0x54080000, by decide +kernel⟩,
   ⟨mov 0x58080000 (sc [0, 0, 9, 512, 10]) (wQueue false (List.replicate 8 ⟨0x55, 0x21, false⟩) ⟨8, 0, 0, 0⟩), 1, 3,
    0x58080000, by decide +kernel⟩,
   ⟨mov 0x58080000 (sc [0, 0, 9, 512, 10]) (wQueue true (List.replicate 8 ⟨0x55, 0x21, false⟩) ⟨8, 0, 0, 0⟩), 1, 3,
    0x58080000, by decide +kernel⟩,
   ⟨mov 0x5C080000 (sc [0, 0, 9, 512, 10]) (wQueue false (List.replicate 8 ⟨0x55, 0x21, false⟩) ⟨8, 0, 0, 0⟩), 1, 3,
    0x5C080000, by decide +kernel⟩,
   ⟨mov 0x5C080000 (sc [0, 0, 9, 512, 10]) (wQueue true (List.replicate 8 ⟨0x55, 0x21, false⟩) ⟨8, 0, 0, 0⟩), 1, 3,
    0x5C080000, by decide +kernel⟩,
   ⟨mov 0x400C0000 (sc [0, 0, 9, 512, 10]) (wQueue false (List.replicate 8 ⟨0x55, 0x21, false⟩) ⟨8, 0, 0, 0⟩), 1, 3,
    0x400C0000, by decide +kernel⟩,
   ⟨mov 0x40100000 (sc [0, 0, 9, 512, 10]) (wQueue false (List.replicate 8 ⟨0x55, 0x21, false⟩) ⟨8, 0, 0, 0⟩), 1, 3,
    0x40100000, by decide +kernel⟩,
   ⟨mov 0x4C0C0000 (sc [0, 0, 9, 512, 10]) (wQueue false (List.replicate 8 ⟨0x55, 0x21, false⟩) ⟨8, 0, 0, 0⟩), 1, 3,
    0x4C0C0000, by decide +kernel⟩,
   ⟨mov 0x4C100000 (sc [0, 0, 9, 512, 10]) (wQueue false (List.replicate 8 ⟨0x55, 0x21, false⟩) ⟨8, 0, 0, 0⟩), 1, 3,
    0x4C100000, by decide +kernel⟩,
   ⟨mov 0x440C0000 (sc [0, 0, 9, 512, 10]) (wQueue false (List.replicate 8 ⟨0x55, 0x21, false⟩) ⟨8, 0, 0, 0⟩), 1, 3,
    0x440C0000, by decide +kernel⟩,
   ⟨mov 0x44100000 (sc [0, 0, 9, 512, 10]) (wQueue false (List.replicate 8 ⟨0x55, 0x21, false⟩) ⟨8, 0, 0, 0⟩), 1, 3,
    0x44100000, by decide +kernel⟩,
   ⟨mov 0x480C0000 (sc [0, 0, 9, 512, 10]) (wQueue false (List.replicate 8 ⟨0x55, 0x21, false⟩) ⟨8, 0, 0, 0⟩), 1, 3,
    0x480C0000, by decide +kernel⟩,
   ⟨mov 0x48100000 (sc [0, 0, 9, 512, 10]) (wQueue false (List.replicate 8 ⟨0x55, 0x21, false⟩) ⟨8, 0, 0, 0⟩), 1, 3,
    0x48100000, by decide +kernel⟩,
   ⟨mov 0x500C0000 (sc [0, 0, 9, 512, 10]) (wQueue false (List.replicate 8 ⟨0x55, 0x21, false⟩) ⟨8, 0, 0, 0⟩), 1, 3,
    0x500C0000, by decide +kernel⟩,
   ⟨mov 0x50100000 (sc [0, 0, 9, 512, 10]) (wQueue false (List.replicate 8 ⟨0x55, 0x21, false⟩) ⟨8, 0, 0, 0⟩), 1, 3,
    0x50100000, by decide +kernel⟩,
   ⟨mov 0x540C0000 (sc [0, 0, 9, 512, 10]) (wQueue false (List.replicate 8 ⟨0x55, 0x21, false⟩) ⟨8, 0, 0, 0⟩), 1, 3,
    0x540C0000, by decide +kernel⟩,
   ⟨mov 0x54100000 (sc [0, 0, 9, 512, 10]) (wQueue false (List.replicate 8 ⟨0x55, 0x21, false⟩) ⟨8, 0, 0, 0⟩), 1, 3,
    0x54100000, by decide +kernel⟩,
   ⟨mov 0x580C0000 (sc [0, 0, 9, 512, 10]) (wQueue false (List.replicate 8 ⟨0x55, 0x21, false⟩) ⟨8, 0, 0, 0⟩), 1, 3,
    0x580C0000, by decide +kernel⟩,
   ⟨mov 0x58100000 (sc [0, 0, 9, 512, 10]) (wQueue false (List.replicate 8 ⟨0x55, 0x21, false⟩) ⟨8, 0, 0, 0⟩), 1, 3,
    0x58100000, by decide +kernel⟩,
   ⟨mov 0x5C0C0000 (sc [0, 0, 9, 512, 10]) (wQueue false (List.replicate 8 ⟨0x55, 0x21, false⟩) ⟨8, 0, 0, 0⟩), 1, 3,
    0x5C0C0000, by decide +kernel⟩,
   ⟨mov 0x5C100000 (sc [0, 0, 9, 512, 10]) (wQueue false (List.replicate 8 ⟨0x55, 0x21, false⟩) ⟨8, 0, 0, 0⟩), 1, 3,
    0x5C100000, by decide +kernel⟩⟩

/-- Obligations.MacWords: its clauses in order. -/
theorem witness_MacWords :
    (∃ (s : State) (c : Fin 32) (e : Fin 64) (w : W32), (Instr.mac c e w).wf = true ∧ macPresents s.mod c e w = true ∧
     ((decide (fld w 14 14 = 1)) = false ∨ (((s.mod.eng c e).src.ptab (fld w 15 15)).flags.getLsbD 2 = true ∧
    ((s.mod.eng c e).src.ptab (fld w 15 15)).flags.getLsbD 3 = true))) ∧
    (∃ (s : State) (c : Fin 32) (e : Fin 64) (w : W32), (Instr.mac c e w).wf = true ∧ macPresents s.mod c e w = true ∧
    (decide (fld w 14 14 = 1)) = true ∧ (¬ (((s.mod.eng c e).src.ptab (fld w 15 15)).flags.getLsbD 2 = true ∧
    ((s.mod.eng c e).src.ptab (fld w 15 15)).flags.getLsbD 3 = true)) ∧ (s.mod.eng c e).fault = none) ∧
    (∃ (s : State) (c : Fin 32) (e : Fin 64) (w : W32), (Instr.aclr c e w).wf = true ∧ macPresents s.mod c e w = true) ∧
    (∃ (s : State) (c : Fin 32) (e : Fin 64) (w : W32), (Instr.pcomb c e w).wf = true ∧ macPresents s.mod c e w = true) ∧
    (∃ (s : State) (c : Fin 32) (e : Fin 64) (w : W32), (Instr.cvt c e w).wf = true ∧ macPresents s.mod c e w = true) :=
  ⟨⟨mac 0x05124000 wRegs id, 1, 3, 0x05124000, by decide +kernel⟩,
   ⟨mac 0x0512C000 wRegs id, 1, 3, 0x0512C000, by decide +kernel⟩,
   ⟨mac 0x09000000 wRegs id, 1, 3, 0x09000000, by decide +kernel⟩,
   ⟨mac 0x0E400000 wRegs id, 1, 3, 0x0E400000, by decide +kernel⟩,
   ⟨mac 0x10D00000 wRegs id, 1, 3, 0x10D00000, by decide +kernel⟩⟩

/-- Obligations.Reductions: its clauses in order. -/
theorem witness_Reductions :
    (∃ (s : State) (c : Fin 32) (e : Fin 64) (w : W32), (Instr.redi c e w).wf = true ∧ macPresents s.mod c e w = true ∧
    (∀ j ∈ ((s.mod.core c).red ++ (s.mod.core c).fired), j.idx = (s.mod.eng c e).joined → groupsMeet j.base j.g (e.val / 2 ^
    (fld w 2 0) * 2 ^ (fld w 2 0)) (fld w 2 0) = true → j.base = (e.val / 2 ^ (fld w 2 0) * 2 ^ (fld w 2 0)) ∧
    j.g = (fld w 2 0) ∧ j.float = false)) ∧
    (∃ (s : State) (c : Fin 32) (e : Fin 64) (w : W32), (Instr.redi c e w).wf = true ∧ macPresents s.mod c e w = true ∧
     (s.mod.eng c e).fault = none ∧ (∃ j ∈ ((s.mod.core c).red ++ (s.mod.core c).fired), j.idx = (s.mod.eng c e).joined ∧
     groupsMeet j.base j.g (e.val / 2 ^ (fld w 2 0) * 2 ^ (fld w 2 0)) (fld w 2 0) = true ∧
    ¬ (j.base = (e.val / 2 ^ (fld w 2 0) * 2 ^ (fld w 2 0)) ∧ j.g = (fld w 2 0) ∧ j.float = false))) ∧
    (∃ (s : State) (c : Fin 32) (e : Fin 64) (w : W32), (Instr.redf c e w).wf = true ∧ macPresents s.mod c e w = true ∧
    (∀ j ∈ ((s.mod.core c).red ++ (s.mod.core c).fired), j.idx = (s.mod.eng c e).joined → groupsMeet j.base j.g (e.val / 2 ^
    (fld w 2 0) * 2 ^ (fld w 2 0)) (fld w 2 0) = true → j.base = (e.val / 2 ^ (fld w 2 0) * 2 ^ (fld w 2 0)) ∧
    j.g = (fld w 2 0) ∧ j.float = true)) ∧
    (∃ (s : State) (c : Fin 32) (e : Fin 64) (w : W32), (Instr.redf c e w).wf = true ∧ macPresents s.mod c e w = true ∧
     (s.mod.eng c e).fault = none ∧ (∃ j ∈ ((s.mod.core c).red ++ (s.mod.core c).fired), j.idx = (s.mod.eng c e).joined ∧
     groupsMeet j.base j.g (e.val / 2 ^ (fld w 2 0) * 2 ^ (fld w 2 0)) (fld w 2 0) = true ∧
    ¬ (j.base = (e.val / 2 ^ (fld w 2 0) * 2 ^ (fld w 2 0)) ∧ j.g = (fld w 2 0) ∧ j.float = true))) ∧
    (∃ (s : State) (c : Fin 32) (base : _) (idx : _) (i : RedInst), (s.mod.core c).red.find? (fun j => j.base == base && j.idx
    == idx) = some i ∧ i.parts.length = 2 ^ i.g ∧ (i.parts.map (·.eng)).Nodup ∧ (∀ p ∈ i.parts, p.eng < 64)) ∧
    (∃ (i : RedInst), i.float = false) ∧
    (∃ (i : RedInst) (n : _), i.float = false ∧ n < 16) ∧
    (∃ (i : RedInst) (a : List Acc) (b : List Acc), i.float = true ∧ i.g = 1 ∧ redLeaves i = [a, b]) :=
  ⟨⟨mac 0x16100002 wRegs (fun m => m.updCore 1 (fun k => { k with red := [⟨0, 0, 2, false, [⟨2, 1, []⟩]⟩] })), 1, 3,
    0x16100002, by decide +kernel⟩,
   ⟨mac 0x16100001 wRegs (fun m => m.updCore 1 (fun k => { k with fired := [⟨0, 0, 2, false, [⟨2, 1, []⟩]⟩] })), 1, 3,
    0x16100001, by decide +kernel⟩,
   ⟨mac 0x18C40006 wRegs id, 1, 3, 0x18C40006, by decide +kernel⟩,
   ⟨mac 0x18C40002 wRegs (fun m => m.updCore 1 (fun k => { k with red := [⟨0, 0, 2, false, [⟨2, 1, []⟩]⟩] })), 1, 3,
    0x18C40002, by decide +kernel⟩,
   ⟨st (fun m => m.updCore 1 (fun k => { k with red := [wSum 4] })), 1, 2, 0, wSum 4, by decide +kernel⟩,
   ⟨wSum 4, by decide +kernel⟩,
   ⟨wSum 0x7FFFFFFF, 3, by decide +kernel⟩,
   ⟨wAdd, [{ val := 0x40000000 }], [{ val := 0x3F800000 }], by decide +kernel⟩⟩

/-- Obligations.VectorWords: its clauses in order. -/
theorem witness_VectorWords :
    (∃ (s : State) (c : Fin 32) (e : Fin 64) (w : W32), (Instr.vadd c e w).wf = true ∧ vecPresents s.mod c e w = true) ∧
    (∃ (s : State) (c : Fin 32) (e : Fin 64) (w : W32), (Instr.vsub c e w).wf = true ∧ vecPresents s.mod c e w = true) ∧
    (∃ (s : State) (c : Fin 32) (e : Fin 64) (w : W32), (Instr.vmul c e w).wf = true ∧ vecPresents s.mod c e w = true) ∧
    (∃ (s : State) (c : Fin 32) (e : Fin 64) (w : W32), (Instr.vfma c e w).wf = true ∧ vecPresents s.mod c e w = true) ∧
    (∃ (s : State) (c : Fin 32) (e : Fin 64) (w : W32), (Instr.vmin c e w).wf = true ∧ vecPresents s.mod c e w = true) ∧
    (∃ (s : State) (c : Fin 32) (e : Fin 64) (w : W32), (Instr.vmax c e w).wf = true ∧ vecPresents s.mod c e w = true) ∧
    (∃ (s : State) (c : Fin 32) (e : Fin 64) (w : W32), (Instr.vneg c e w).wf = true ∧ vecPresents s.mod c e w = true) ∧
    (∃ (s : State) (c : Fin 32) (e : Fin 64) (w : W32), (Instr.vabs c e w).wf = true ∧ vecPresents s.mod c e w = true) ∧
    (∃ (s : State) (c : Fin 32) (e : Fin 64) (w : W32), (Instr.vrsqrt c e w).wf = true ∧ vecPresents s.mod c e w = true) ∧
    (∃ (s : State) (c : Fin 32) (e : Fin 64) (w : W32), (Instr.vrcp c e w).wf = true ∧ vecPresents s.mod c e w = true) ∧
    (∃ (s : State) (c : Fin 32) (e : Fin 64) (w : W32), (Instr.vi2f c e w).wf = true ∧ vecPresents s.mod c e w = true) ∧
    (∃ (s : State) (c : Fin 32) (e : Fin 64) (w : W32), (Instr.vf2i c e w).wf = true ∧ vecPresents s.mod c e w = true) ∧
    (∃ (s : State) (c : Fin 32) (e : Fin 64) (w : W32), (Instr.viadd c e w).wf = true ∧ vecPresents s.mod c e w = true) ∧
    (∃ (x : W32) (y : W32), (isNan x = true ∨ isNan y = true)) ∧
    (∃ (x : W32) (y : W32), (isNan x = true ∨ isNan y = true)) ∧
    (∃ (z : W32), isNan z = true) ∧
    (∃ (x : W32), isNan x = true) ∧
    (∃ (x : W32), isNan x = false ∧ isSub x = false) ∧
    (∃ (s : State) (c : Fin 32) (e : Fin 64) (w : W32), (Instr.vbc c e w).wf = true ∧ vecPresents s.mod c e w = true) ∧
    (∃ (s : State) (c : Fin 32) (e : Fin 64) (w : W32), (Instr.vget c e w).wf = true ∧ vecPresents s.mod c e w = true) ∧
    (∃ (s : State) (c : Fin 32) (e : Fin 64) (w : W32) (g : _), (Instr.qnt c e w).wf = true ∧ vecPresents s.mod c e w = true ∧
     gridFor (s.mod.core c).grids (fld w 17 13) (fld w 11 10) = .ok g) ∧
    (∃ (s : State) (c : Fin 32) (e : Fin 64) (w : W32) (g : _), (Instr.deq c e w).wf = true ∧ vecPresents s.mod c e w = true ∧
     gridFor (s.mod.core c).grids (fld w 17 13) (fld w 11 10) = .ok g) ∧
    (∃ (s : State) (c : Fin 32) (e : Fin 64) (w : W32), (Instr.qnt c e w).wf = true ∧ vecPresents s.mod c e w = true ∧
     (s.mod.eng c e).fault = none ∧ (findGrid (s.mod.core c).grids (fld w 17 13) = none ∨ ∃ g, findGrid (s.mod.core c).grids
    (fld w 17 13) = some g ∧ fld w 11 10 ≠ 0 ∧ g.width = 4)) ∧
    (∃ (s : State) (c : Fin 32) (e : Fin 64) (w : W32), (Instr.deq c e w).wf = true ∧ vecPresents s.mod c e w = true ∧
     (s.mod.eng c e).fault = none ∧ (findGrid (s.mod.core c).grids (fld w 17 13) = none ∨ ∃ g, findGrid (s.mod.core c).grids
    (fld w 17 13) = some g ∧ fld w 11 10 ≠ 0 ∧ g.width = 4)) :=
  ⟨⟨vec 0x04840000 wRows id, 1, 3, 0x04840000, by decide +kernel⟩,
   ⟨vec 0x08840000 wRows id, 1, 3, 0x08840000, by decide +kernel⟩,
   ⟨vec 0x0C842000 wRows id, 1, 3, 0x0C842000, by decide +kernel⟩,
   ⟨vec 0x10840000 wRows id, 1, 3, 0x10840000, by decide +kernel⟩,
   ⟨vec 0x14840000 wRows id, 1, 3, 0x14840000, by decide +kernel⟩,
   ⟨vec 0x18842000 wRows id, 1, 3, 0x18842000, by decide +kernel⟩,
   ⟨vec 0x1C840000 wRows id, 1, 3, 0x1C840000, by decide +kernel⟩,
   ⟨vec 0x20840000 wRows id, 1, 3, 0x20840000, by decide +kernel⟩,
   ⟨vec 0x24842000 wRows id, 1, 3, 0x24842000, by decide +kernel⟩,
   ⟨vec 0x28840000 wRows id, 1, 3, 0x28840000, by decide +kernel⟩,
   ⟨vec 0x2C840000 wRows id, 1, 3, 0x2C840000, by decide +kernel⟩,
   ⟨vec 0x30842000 wRows id, 1, 3, 0x30842000, by decide +kernel⟩,
   ⟨vec 0x34840000 wRows id, 1, 3, 0x34840000, by decide +kernel⟩,
   ⟨0x7FC00000, 0x3F800000, by decide +kernel⟩,
   ⟨0x3F800000, 0x7FC00000, by decide +kernel⟩,
   ⟨0x7FC00000, by decide +kernel⟩,
   ⟨0x7F800001, by decide +kernel⟩,
   ⟨0x3F800000, by decide +kernel⟩,
   ⟨vec 0x40A40000 wRows id, 1, 3, 0x40A40000, by decide +kernel⟩,
   ⟨vec 0x4484000F wRows id, 1, 3, 0x4484000F, by decide +kernel⟩,
   ⟨vec 0x60842000 wRows id, 1, 3, 0x60842000, (presetGrid 1).getD ⟨0, none, 0, []⟩, by decide +kernel⟩,
   ⟨vec 0x64842000 wRows id, 1, 3, 0x64842000, (presetGrid 1).getD ⟨0, none, 0, []⟩, by decide +kernel⟩,
   ⟨vec 0x60862000 wRows id, 1, 3, 0x60862000, by decide +kernel, by decide +kernel, by decide +kernel, Or.inl
    (by decide +kernel)⟩,
   ⟨vec 0x64862000 wRows id, 1, 3, 0x64862000, by decide +kernel, by decide +kernel, by decide +kernel, Or.inl
    (by decide +kernel)⟩⟩

/-- Obligations.BinaryValues: its clauses in order. -/
theorem witness_BinaryValues :
    (∃ (x : W32) (y : W32), isFin x = true ∧ isFin y = true ∧ (flVal x + flVal y) ≠ 0) ∧
    (∃ (x : W32) (y : W32), isFin x = true ∧ isFin y = true ∧ (flVal x + flVal y) = 0) ∧
    (∃ (x : W32) (y : W32), isFin x = true ∧ isFin y = true ∧ (flVal x - flVal y) ≠ 0) ∧
    (∃ (x : W32) (y : W32), isFin x = true ∧ isFin y = true ∧ (flVal x - flVal y) = 0) ∧
    (∃ (x : W32) (y : W32), isFin x = true ∧ isFin y = true ∧ (flVal x * flVal y) ≠ 0) ∧
    (∃ (x : W32) (y : W32), isFin x = true ∧ isFin y = true ∧ (flVal x * flVal y) = 0) ∧
    (∃ (x : W32) (y : W32) (z : W32), isFin x = true ∧ isFin y = true ∧ isFin z = true ∧ (flVal x * flVal y) + flVal z ≠ 0) ∧
    (∃ (x : W32) (y : W32) (z : W32), isFin x = true ∧ isFin y = true ∧ isFin z = true ∧ (flVal x * flVal y) + flVal z = 0) ∧
    (∃ (x : W32) (y : W32), isFin x = true ∧ isFin y = true) ∧
    (∃ (x : W32) (y : W32) (z : W32), isInf x = true ∧ isNan y = false ∧ isNan z = false ∧ isFin y = true ∧ isFin z = true) ∧
    (∃ (x : W32) (y : W32) (z : W32), isInf x = true ∧ isNan y = false ∧ isNan z = false) ∧
    (∃ (x : W32) (y : W32), isInf x = true ∧ isNan y = false) ∧
    (∃ (x : W32), isFin x = true ∧ isZero x = false ∧ isNeg x = false) ∧
    (∃ (x : W32), isFin x = true ∧ isZero x = false ∧ isNeg x = true) ∧
    (∃ (x : W32), isFin x = true ∧ isZero x = false) ∧
    (∃ (x : W32), isZero x = true) ∧
    (∃ (x : W32), isInf x = true ∧ isNeg x = false) ∧
    (∃ (x : W32), isInf x = true) ∧
    (∃ (n : W32), n ≠ 0) ∧
    (∃ (x : W32), isInf x = true) ∧
    (∃ (x : W32), isFin x = true ∧ 2 ^ 31 ≤ (flVal x)) ∧
    (∃ (x : W32), isFin x = true ∧ (flVal x) < -2 ^ 31) ∧
    (∃ (x : W32), isFin x = true ∧ -2 ^ 31 ≤ (flVal x) ∧ (flVal x) < 2 ^ 31 ∧ |((flToInt x).toInt : ℚ) - (flVal x)| = 1 / 2) ∧
    (∃ (x : W32), isFin x = true ∧ -2 ^ 31 ≤ (flVal x) ∧ (flVal x) < 2 ^ 31) ∧
    (∃ (a : Acc), (a.ovf = true ∨ a.poi = true)) ∧
    (∃ (a : Acc), a.ovf = false ∧ a.poi = false ∧ a.val = 0) ∧
    (∃ (a : Acc), a.ovf = false ∧ a.poi = false ∧ a.val ≠ 0) :=
  ⟨⟨0x7F7FFFFF, 0x73800000, by decide +kernel⟩,
   ⟨0x3F800000, 0xBF800000, by decide +kernel⟩,
   ⟨0x00800000, 0x00800001, by decide +kernel⟩,
   ⟨0x80000000, 0, by decide +kernel⟩,
   ⟨0x1F800001, 0x1FC00000, by decide +kernel⟩,
   ⟨0x80000001, 0x3F800000, by decide +kernel⟩,
   ⟨0x3F800001, 0x3F800001, 0xBF800000, by decide +kernel⟩,
   ⟨0x3F800000, 0x40000000, 0xC0000000, by decide +kernel⟩,
   ⟨0x80000000, 0, by decide +kernel⟩,
   ⟨0x7F800000, 0x3F800000, 0, by decide +kernel⟩,
   ⟨0xFF800000, 0, 0x3F800000, by decide +kernel⟩,
   ⟨0x7F800000, 0xFF800000, by decide +kernel⟩,
   ⟨0x00800000, by decide +kernel⟩,
   ⟨0x80800000, by decide +kernel⟩,
   ⟨0x7F7FFFFF, by decide +kernel⟩,
   ⟨0x80000001, by decide +kernel⟩,
   ⟨0x7F800000, by decide +kernel⟩,
   ⟨0xFF800000, by decide +kernel⟩,
   ⟨0x80000001, by decide +kernel⟩,
   ⟨0xFF800000, by decide +kernel⟩,
   ⟨0x4F000000, by decide +kernel⟩,
   ⟨0xCF000001, by decide +kernel⟩,
   ⟨0x40200000, by decide +kernel⟩,
   ⟨0xCF000000, by decide +kernel⟩,
   ⟨{ val := 1, ovf := true }, by decide +kernel⟩,
   ⟨{}, by decide +kernel⟩,
   ⟨{ val := 19640 }, by decide +kernel⟩⟩

/-- Obligations.GridValues: its clauses in order. -/
theorem witness_GridValues :
    (∃ (n4 : Grid) (u4 : Grid) (l4 : Grid) (t2 : Grid) (b1 : Grid) (p4 : Grid) (c : Nat), [0, 1, 2, 3, 4, 5].map presetGrid =
    [n4, u4, l4, t2, b1, p4].map some ∧ c < 8) ∧
    (∃ (n4 : Grid) (u4 : Grid) (l4 : Grid) (t2 : Grid) (b1 : Grid) (p4 : Grid) (c : Nat), [0, 1, 2, 3, 4, 5].map presetGrid =
    [n4, u4, l4, t2, b1, p4].map some ∧ 1 ≤ c ∧ c ≤ 7) ∧
    (∃ (n4 : Grid) (u4 : Grid) (l4 : Grid) (t2 : Grid) (b1 : Grid) (p4 : Grid) (c : Nat), [0, 1, 2, 3, 4, 5].map presetGrid =
    [n4, u4, l4, t2, b1, p4].map some ∧ 9 ≤ c ∧ c ≤ 15) ∧
    (∃ (n4 : Grid) (u4 : Grid) (l4 : Grid) (t2 : Grid) (b1 : Grid) (p4 : Grid) (c : Nat), [0, 1, 2, 3, 4, 5].map presetGrid =
    [n4, u4, l4, t2, b1, p4].map some ∧ c < 16) ∧
    (∃ (n4 : Grid) (u4 : Grid) (l4 : Grid) (t2 : Grid) (b1 : Grid) (p4 : Grid), [0, 1, 2, 3, 4, 5].map presetGrid = [n4, u4,
    l4, t2, b1, p4].map some) ∧
    (∃ (u : UserGrid) (c : Nat) (v : W32), u.vals[c]? = some v ∧ c < 2 ^ widthBits u.width ∧ -32 ≤ u.exp) ∧
    (∃ (g : Grid) (x : W32), 0 < g.den ∧ isFin x = true ∧ (∃ c r, g.Candidate c r)) ∧
    (∃ (g : Grid) (x : W32), 0 < g.den ∧ isFin x = true ∧ (∃ c r, g.Candidate c r)) ∧
    (∃ (x : W32) (y : W32), isFin x = true ∧ isFin y = true ∧ isZero y = false ∧ isZero x = false) ∧
    (∃ (x : W32) (y : W32), isFin x = true ∧ isFin y = true ∧ isZero y = false ∧ isZero x = true) ∧
    (∃ (g : Grid) (x : W32), 0 < g.den ∧ isInf x = true ∧ (∃ c r, g.Candidate c r)) ∧
    (∃ (x : W32), isNan x = true) ∧
    (∃ (g : Grid) (c : Nat) (p : Bool), (p = true ∨ g.hole = some c)) ∧
    (∃ (g : Grid) (c : Nat) (r : ℝ), 0 < g.den ∧ g.Candidate c r ∧ r = 0) ∧
    (∃ (g : Grid) (c : Nat) (r : ℝ), 0 < g.den ∧ g.Candidate c r ∧ r ≠ 0) :=
  ⟨⟨(presetGrid 0).getD ⟨0, none, 0, []⟩, (presetGrid 1).getD ⟨0, none, 0, []⟩, (presetGrid 2).getD ⟨0, none, 0, []⟩,
    (presetGrid 3).getD ⟨0, none, 0, []⟩, (presetGrid 4).getD ⟨0, none, 0, []⟩, (presetGrid 5).getD ⟨0, none, 0, []⟩, 7,
    by decide +kernel⟩,
   ⟨(presetGrid 0).getD ⟨0, none, 0, []⟩, (presetGrid 1).getD ⟨0, none, 0, []⟩, (presetGrid 2).getD ⟨0, none, 0, []⟩,
    (presetGrid 3).getD ⟨0, none, 0, []⟩, (presetGrid 4).getD ⟨0, none, 0, []⟩, (presetGrid 5).getD ⟨0, none, 0, []⟩, 1,
    by decide +kernel⟩,
   ⟨(presetGrid 0).getD ⟨0, none, 0, []⟩, (presetGrid 1).getD ⟨0, none, 0, []⟩, (presetGrid 2).getD ⟨0, none, 0, []⟩,
    (presetGrid 3).getD ⟨0, none, 0, []⟩, (presetGrid 4).getD ⟨0, none, 0, []⟩, (presetGrid 5).getD ⟨0, none, 0, []⟩, 15,
    by decide +kernel⟩,
   ⟨(presetGrid 0).getD ⟨0, none, 0, []⟩, (presetGrid 1).getD ⟨0, none, 0, []⟩, (presetGrid 2).getD ⟨0, none, 0, []⟩,
    (presetGrid 3).getD ⟨0, none, 0, []⟩, (presetGrid 4).getD ⟨0, none, 0, []⟩, (presetGrid 5).getD ⟨0, none, 0, []⟩, 15,
    by decide +kernel⟩,
   ⟨(presetGrid 0).getD ⟨0, none, 0, []⟩, (presetGrid 1).getD ⟨0, none, 0, []⟩, (presetGrid 2).getD ⟨0, none, 0, []⟩,
    (presetGrid 3).getD ⟨0, none, 0, []⟩, (presetGrid 4).getD ⟨0, none, 0, []⟩, (presetGrid 5).getD ⟨0, none, 0, []⟩,
    by decide +kernel⟩,
   ⟨{ width := 1, hole := false, exp := -32, vals := [0xBF800000, 0, 0x80000000, 0x3F800000] }, 3, 0x3F800000,
    by decide +kernel⟩,
   ⟨wTernary, 0x3F000000, by decide +kernel, by decide +kernel, 1, 1, wTernary_one⟩,
   ⟨wTernary, 0x3E800000, by decide +kernel, by decide +kernel, 1, 1, wTernary_one⟩,
   ⟨0x3F800000, 0x40400000, by decide +kernel⟩,
   ⟨0x80000000, 0x40400000, by decide +kernel⟩,
   ⟨wTernary, 0xFF800000, by decide +kernel, by decide +kernel, 1, 1, wTernary_one⟩,
   ⟨0x7FC00001, by decide +kernel⟩,
   ⟨wTernary, 2, false, by decide +kernel⟩,
   ⟨wTernary, 0, 0, by decide +kernel, wTernary_zero, rfl⟩,
   ⟨wTernary, 1, 1, by decide +kernel, wTernary_one, one_ne_zero⟩⟩

end Sys2Proof.Tests
end

