-- ==== Sys2Proof/Tests/WitnessMailbox.lean ====
section
/-!
SUPPORT. Witnesses: for every statement that has hypotheses, concrete states and operands that meet them together, clause by clause.
-/

namespace Sys2Proof.Tests

set_option Elab.async false

open Sys2Proof Sys2Proof.Machine

/-- Mailbox 2 as given. -/
def xBox (b : Mbx) (m : Machine.Module) : Machine.Module := m.setMbx 2 b

/-- No domain is on. -/
def xDark (m : Machine.Module) : Machine.Module := { m with power := { m.power with on := 0 } }

/-- A hand-over that waits on mailbox 2. -/
def xWait (code pend : Nat) (minor : Option Nat) : State :=
  st (xBox { (mb code []) with state := 1, pend := pend, minor := minor })

/-- The event ring: head, tail and backlog. -/
def xRing (h t : W32) (b : List EventRec) : Machine.Module :=
  { up with host := { up.host with evtHead := h, evtTail := t, backlog := b } }

/-- Obligations.Responses: its clauses in order. -/
theorem witness_Responses :
    (∃ (n : Nat) (data : List Byte) (k : Nat), data.length ≤ 504 ∧ k ≠ n) ∧
    (∃ (data : List Byte), data.length ≤ 504) ∧
    (∃ (code : Nat) (n : Nat) (checks : List Byte → Module → List (Bool × Nat)) (m : Module) (rc : Nat), running m n code =
    true ∧ firstFail (checks (params m n) m) = some rc ∧ (powered m code = true ∨ rc = 0x21 ∨ rc = 0x22 ∨ rc = 0x24)) ∧
    (∃ (code : Nat) (n : Nat) (checks : List Byte → Module → List (Bool × Nat)) (m : Module) (rc : Nat), running m n code =
    true ∧ firstFail (checks (params m n) m) = some rc ∧ powered m code = false ∧ rc ≠ 0x21 ∧ rc ≠ 0x22 ∧ rc ≠ 0x24) ∧
    (∃ (code : Nat) (n : Nat) (checks : List Byte → Module → List (Bool × Nat)) (m : Module), running m n code = true ∧
     firstFail (checks (params m n) m) = none ∧ powered m code = true) ∧
    (∃ (code : Nat) (n : Nat) (checks : List Byte → Module → List (Bool × Nat)) (m : Module), running m n code = true ∧
     firstFail (checks (params m n) m) = none ∧ powered m code = false) ∧
    (∃ (code : Nat) (n : Nat) (m : Module), ((m.mbx n).state ≠ 2 ∨ reqCode m n ≠ code ∨ 15 ≤ n ∨ m.host.gState = 4 ∨
    m.power.tripped = true)) ∧
    (∃ (l : List (Bool × Nat)) (rc : Nat), firstFail l = some rc) :=
  ⟨⟨2, [1, 2], 3, by decide +kernel⟩,
   ⟨[1, 2], by decide +kernel⟩,
   ⟨0x0003, 2, (fun _ _ => [(false, 0x21), (true, 0x22)]), (cmd 2 3 [] id).mod, 0x22, by decide +kernel⟩,
   ⟨0x0600, 2, (fun _ _ => [(true, 0x23)]), (cmd 2 0x600 [] xDark).mod, 0x23, by decide +kernel⟩,
   ⟨0x0003, 2, (fun _ _ => []), (cmd 2 3 [] id).mod, by decide +kernel⟩,
   ⟨0x0600, 2, (fun _ _ => []), (cmd 2 0x600 [] xDark).mod, by decide +kernel⟩,
   ⟨0x0003, 2, up, by decide +kernel⟩,
   ⟨[(false, 0x21), (true, 0x22)], 0x22, by decide +kernel⟩⟩

/-- Obligations.MailboxWindow: its clauses in order. -/
theorem witness_MailboxWindow :
    (∃ (s : State) (path : Path) (n : Nat), reached path s.mod = true ∧ n < 15 ∧ pathField s.mod n ≠ 3 ∧
    pathOk path n s.mod = false) ∧
    (∃ (s : State) (path : Path) (n : Nat) (v : W32), reached path s.mod = true ∧ n < 15 ∧ pathField s.mod n ≠ 3 ∧
    pathOk path n s.mod = true ∧ ((s.mod.mbx n).owner = true ∨ v.toNat / 256 ≠ 0)) ∧
    (∃ (s : State) (path : Path) (n : Nat) (v : W32), reached path s.mod = true ∧ n < 15 ∧ pathField s.mod n ≠ 3 ∧
    pathOk path n s.mod = true ∧ (s.mod.mbx n).owner = false ∧ v.toNat < 256 ∧ s.mod.host.gState ≠ 3 ∧ n ≠ 0) ∧
    (∃ (s : State) (path : Path) (n : Nat) (v : W32), reached path s.mod = true ∧ n < 15 ∧ pathField s.mod n ≠ 3 ∧
    pathOk path n s.mod = true ∧ (s.mod.mbx n).owner = false ∧ v.toNat < 256 ∧ (s.mod.host.gState = 3 ∨ n = 0) ∧
    ((s.mod.mbx n).last = none ∨ ∃ l, (s.mod.mbx n).last = some l ∧ (v.toNat % 256) = (l + 1) % 256)) ∧
    (∃ (s : State) (path : Path) (n : Nat) (v : W32), reached path s.mod = true ∧ n < 15 ∧ pathField s.mod n ≠ 3 ∧
    pathOk path n s.mod = true ∧ (s.mod.mbx n).owner = false ∧ v.toNat < 256 ∧ (s.mod.host.gState = 3 ∨ n = 0) ∧
    (s.mod.mbx n).last = some (v.toNat % 256) ∧ (s.mod.mbx n).held = true) ∧
    (∃ (s : State) (path : Path) (n : Nat) (v : W32) (l : Nat), reached path s.mod = true ∧ n < 15 ∧ pathField s.mod n ≠ 3 ∧
     pathOk path n s.mod = true ∧ (s.mod.mbx n).owner = false ∧ v.toNat < 256 ∧ (s.mod.host.gState = 3 ∨ n = 0) ∧
    (s.mod.mbx n).last = some l ∧ (v.toNat % 256) ≠ (l + 1) % 256 ∧ ((v.toNat % 256) ≠ l ∨ (s.mod.mbx n).held = false)) ∧
    (∃ (s : State) (path : Path) (n : Nat) (v : W32), reached path s.mod = true ∧ n < 15 ∧ pathField s.mod n ≠ 3 ∧
    pathOk path n s.mod = true ∧ v.getLsbD 27 = true) ∧
    (∃ (s : State) (path : Path) (v : W32), reached path s.mod = true ∧ s.mod.host.gState ≠ 3 ∧
    (v - s.mod.host.evtTail).toNat ≤ (s.mod.host.evtHead - s.mod.host.evtTail).toNat) ∧
    (∃ (s : State) (path : Path) (v : W32), reached path s.mod = true ∧ s.mod.host.gState ≠ 3 ∧
    (s.mod.host.evtHead - s.mod.host.evtTail).toNat < (v - s.mod.host.evtTail).toNat) ∧
    (∃ (s : State) (path : Path) (v : W32), reached path s.mod = true ∧ s.mod.host.gState = 3 ∧ s.mod.host.backlog = [] ∧
    (v - s.mod.host.evtTail).toNat ≤ (s.mod.host.evtHead - s.mod.host.evtTail).toNat) ∧
    (∃ (s : State) (path : Path), reached path s.mod = true ∧ s.mod.host.mbxLock = false) ∧
    (∃ (s : State) (path : Path), reached path s.mod = true ∧ s.mod.host.mbxLock = true) ∧
    (∃ (s : State) (path : Path) (n : Nat) (o : Nat) (bs : List Byte), reached path s.mod = true ∧ n < 15 ∧
    pathField s.mod n ≠ 3 ∧ pathOk path n s.mod = true ∧ (s.mod.mbx n).owner = false ∧ o + bs.length ≤ 0x200) ∧
    (∃ (s : State) (path : Path) (n : Nat) (o : Nat) (bs : List Byte), reached path s.mod = true ∧ n < 15 ∧
    pathField s.mod n ≠ 3 ∧ pathOk path n s.mod = true ∧ (s.mod.mbx n).owner = true ∧ bs ≠ [] ∧ o + bs.length ≤ 0x200) ∧
    (∃ (s : State) (path : Path) (n : Nat) (o : Nat) (bs : List Byte), reached path s.mod = true ∧ n < 15 ∧ bs ≠ [] ∧
    o + bs.length ≤ 0x200) :=
  ⟨⟨st (fun m => { m with host := { m.host with mbxPath := 0x20 } }), .pcie, 2, by decide +kernel⟩,
   ⟨st (xBox { owner := true }), .pcie, 2, 7, by decide +kernel⟩,
   ⟨st (fun m => { m with host := { m.host with gState := 4 } }), .pcie, 2, 7, by decide +kernel⟩,
   ⟨st (xBox {}), .pcie, 2, 7, by decide +kernel⟩,
   ⟨st (xBox { last := some 7, held := true }), .pcie, 2, 7, by decide +kernel⟩,
   ⟨st (xBox { last := some 7, held := true }), .pcie, 2, 9, 7, by decide +kernel⟩,
   ⟨st (xBox { wrb := true }), .pcie, 2, 0x08000000, by decide +kernel⟩,
   ⟨st (fun m => { m with host := { m.host with gState := 1, evtHead := 3, evtTail := 1 } }), .pcie, 3, by decide +kernel⟩,
   ⟨st (fun m => { m with host := { m.host with gState := 1, evtHead := 3, evtTail := 1 } }), .pcie, 4, by decide +kernel⟩,
   ⟨st (fun m => { m with host := { m.host with evtHead := 3, evtTail := 1 } }), .pcie, 3, by decide +kernel⟩,
   ⟨st (fun m => { m with host := { m.host with mbxPath := 5 } }), .pcie, by decide +kernel⟩,
   ⟨st (fun m => { m with host := { m.host with mbxLock := true } }), .pcie, by decide +kernel⟩,
   ⟨st (xBox {}), .pcie, 14, 0x1FE, [1, 2], by decide +kernel⟩,
   ⟨st (xBox { owner := true }), .pcie, 2, 3, [1, 2], by decide +kernel⟩,
   ⟨st (xBox { owner := true }), .pcie, 14, 0x1FC, [1, 2, 3, 4], by decide +kernel⟩⟩

/-- Obligations.MailboxTake: its clauses in order. -/
theorem witness_MailboxTake :
    (∃ (s : State) (n : Nat), domOn s.mod 37 = true ∧ (∀ i, i < 15 → (s.mod.mbx i).state = 2 → reqCode s.mod i = 0x0500) ∧
     nextMailbox s.mod = some n ∧ (s.mod.mbx n).pend = 0 ∧ firstFail (takeChecks s.mod n) = none) ∧
    (∃ (s : State) (n : Nat) (rc : Nat), domOn s.mod 37 = true ∧
    (∀ i, i < 15 → (s.mod.mbx i).state = 2 → reqCode s.mod i = 0x0500) ∧ nextMailbox s.mod = some n ∧ (s.mod.mbx n).pend = 0 ∧
     firstFail (takeChecks s.mod n) = some rc) ∧
    (∃ (s : State) (n : Nat), domOn s.mod 37 = true ∧ (∀ i, i < 15 → (s.mod.mbx i).state = 2 → reqCode s.mod i = 0x0500) ∧
     nextMailbox s.mod = some n ∧ (s.mod.mbx n).pend = 1) ∧
    (∃ (s : State) (n : Nat), domOn s.mod 37 = true ∧ (∀ i, i < 15 → (s.mod.mbx i).state = 2 → reqCode s.mod i = 0x0500) ∧
     nextMailbox s.mod = some n ∧ (s.mod.mbx n).pend = 2) ∧
    (∃ (m : Module), m.host.gState = 3 ∧ waits m 14 = true) ∧
    (∃ (m : Module) (n : Nat), m.host.gState = 3 ∧ waits m 14 = false ∧ n < 14 ∧ waits m n = true ∧
    (∀ k, k < 14 → k ≠ n → waits m k = false)) ∧
    (∃ (m : Module) (n : Nat), m.host.gState = 3 ∧ 504 < reqLen m n) ∧
    (∃ (m : Module) (n : Nat), m.host.gState = 3 ∧ reqLen m n ≤ 504 ∧ isCode (reqCode m n) = false) ∧
    (∃ (m : Module) (n : Nat), m.host.gState = 3 ∧ reqLen m n ≤ 504 ∧ isCode (reqCode m n) = true ∧ reqField m n 6 2 = 0 ∧
     (m.mbx n).minor = none ∧ reqCode m n ≠ 0 ∧ reqCode m n ≠ 1 ∧ reqCode m n ≠ 2) ∧
    (∃ (s : State), s.mod.host.gState = 3 ∧ s.mod.host.lastMs < s.mod.time.elapsed / msUnit) :=
  ⟨⟨xWait 0 0 none, 2, by decide +kernel⟩,
   ⟨xWait 0x55 0 (some 0), 2, 0x20, by decide +kernel⟩,
   ⟨xWait 0 1 (some 0), 2, by decide +kernel⟩,
   ⟨xWait 0 2 (some 0), 2, by decide +kernel⟩,
   ⟨up.setMbx 14 { owner := true, state := 1 }, by decide +kernel⟩,
   ⟨(xWait 0 0 none).mod, 2, by decide +kernel⟩,
   ⟨up.setMbx 2 (mb 0 (zs 505)), 2, by decide +kernel⟩,
   ⟨up.setMbx 2 (mb 0x1000 []), 2, by decide +kernel⟩,
   ⟨up.setMbx 2 { mb 0x0003 [] with minor := none }, 2, by decide +kernel⟩,
   ⟨st (fun m => { m with time := { m.time with elapsed := msUnit } }), by decide +kernel⟩⟩

/-- Obligations.EventRing: its clauses in order. -/
theorem witness_EventRing :
    (∃ (m : Module) (k : Nat), m.host.gState = 3 ∧ m.host.backlog = [] ∧ (m.host.evtHead - m.host.evtTail).toNat < 16 ∧
    k ≠ m.host.evtHead.toNat % 16) ∧
    (∃ (m : Module), m.host.gState = 3 ∧ m.host.backlog = [] ∧ (m.host.evtHead - m.host.evtTail).toNat < 16) ∧
    (∃ (m : Module), m.host.gState = 3 ∧ (m.host.backlog ≠ [] ∨ 16 ≤ (m.host.evtHead - m.host.evtTail).toNat) ∧
     m.host.backlog.length < 1024) ∧
    (∃ (m : Module) (r : EventRec), m.host.gState = 3 ∧ (m.host.backlog ≠ [] ∨ 16 ≤ (m.host.evtHead - m.host.evtTail).toNat) ∧
     1024 ≤ m.host.backlog.length ∧ r.unsolicited = true) ∧
    (∃ (m : Module) (r : EventRec), m.host.gState = 3 ∧ (m.host.backlog ≠ [] ∨ 16 ≤ (m.host.evtHead - m.host.evtTail).toNat) ∧
     1024 ≤ m.host.backlog.length ∧ r.unsolicited = false) ∧
    (∃ (m : Module), m.host.held = [] ∧ m.host.lostSince = 0 ∧
    m.host.backlog.length + (m.host.evtHead - m.host.evtTail).toNat ≤ 16) ∧
    (∃ (m : Module), m.host.held = [] ∧ m.host.lostSince = 0 ∧
    m.host.backlog.length + (m.host.evtHead - m.host.evtTail).toNat ≤ 16) ∧
    (∃ (m : Module) (i : Nat) (r : EventRec), m.host.held = [] ∧ m.host.lostSince = 0 ∧
    m.host.backlog.length + (m.host.evtHead - m.host.evtTail).toNat ≤ 16 ∧ m.host.backlog[i]? = some r) ∧
    (∃ (m : Module) (code : Nat) (key : Nat) (d : Deferred), Outstanding m code key d) ∧
    (∃ (m : Module) (n : Nat) (body : Module → Module), Room m n ∧ (∀ x, (body x).host.deferred = x.host.deferred)) ∧
    (∃ (m : Module) (n : Nat), (¬ Room m n)) :=
  ⟨⟨xRing 17 5 [], 2, by decide +kernel⟩,
   ⟨xRing 17 5 [], by decide +kernel⟩,
   ⟨xRing 21 5 [], by decide +kernel⟩,
   ⟨xRing 21 5 (List.replicate 1024 { code := 0x0210, payload := [1], unsolicited := true }), { code := 0x0210, payload := [1], unsolicited := true },
    by decide +kernel⟩,
   ⟨xRing 21 5 (List.replicate 1024 { code := 0x0210, payload := [1], unsolicited := true }), { code := 0x0503, payload := [1], unsolicited := false },
    by decide +kernel⟩,
   ⟨xRing 19 5 [{ code := 0x0210, payload := [1], unsolicited := true }, { code := 0x0503, payload := [1], unsolicited := false }],
    by decide +kernel⟩,
   ⟨xRing 19 5 [{ code := 0x0210, payload := [1], unsolicited := true }, { code := 0x0503, payload := [1], unsolicited := false }],
    by decide +kernel⟩,
   ⟨xRing 19 5 [{ code := 0x0210, payload := [1], unsolicited := true }, { code := 0x0503, payload := [1], unsolicited := false }],
    1, { code := 0x0503, payload := [1], unsolicited := false }, by decide +kernel⟩,
   ⟨{ up with host := { up.host with deferred := [⟨2, 0x55, 0x0503, 3⟩] } }, 0x0503, 3, ⟨2, 0x55, 0x0503, 3⟩,
    by decide +kernel⟩,
   ⟨up, 2, (fun x => x), by decide +kernel, fun _ => rfl⟩,
   ⟨{ up with host := { up.host with deferred := List.replicate 256 ⟨2, 0x55, 0x0503, 3⟩ } }, 2, by decide +kernel⟩⟩

/-- Obligations.InterfaceCommands: its clauses in order. -/
theorem witness_InterfaceCommands :
    (∃ (s : State) (n : Nat) (ps : List Byte), Asked s.mod n 0x0000 ps) ∧
    (∃ (s : State) (n : Nat) (ps : List Byte), Asked s.mod n 0x0001 ps ∧ ps.length = 8 ∧ zeros ((ps.drop 2).take 6) = true ∧
     ((s.mod.mbx n).minor = none ∨ holdsContext s.mod n = false) ∧ leAt ps 0 1 = s.mod.host.ifVersion / 256) ∧
    (∃ (s : State) (n : Nat) (ps : List Byte), Asked s.mod n 0x0001 ps ∧ ps.length = 8 ∧ zeros ((ps.drop 2).take 6) = true ∧
     ((s.mod.mbx n).minor = none ∨ holdsContext s.mod n = false) ∧ leAt ps 0 1 ≠ s.mod.host.ifVersion / 256) ∧
    (∃ (s : State) (n : Nat), Asked s.mod n 0x0002 []) ∧
    (∃ (s : State) (n : Nat) (ps : List Byte), Asked s.mod n 0x0003 ps ∧ ps.length = 8 ∧ leAt ps 0 1 ≤ 1 ∧
    zeros ((ps.drop 1).take 7) = true) ∧
    (∃ (s : State) (n : Nat) (ps : List Byte), Asked s.mod n 0x0004 ps ∧ ps.length = 8 ∧ leAt ps 0 1 ≤ 1 ∧
    zeros ((ps.drop 1).take 7) = true) :=
  ⟨⟨cmd 2 0x0000 ([1, 2]) id, 2, [1, 2], by decide +kernel⟩,
   ⟨cmd 2 0x0001 ([1, 9, 0, 0, 0, 0, 0, 0]) id, 2, [1, 9, 0, 0, 0, 0, 0, 0], by decide +kernel⟩,
   ⟨cmd 2 0x0001 ([2, 9, 0, 0, 0, 0, 0, 0]) id, 2, [2, 9, 0, 0, 0, 0, 0, 0], by decide +kernel⟩,
   ⟨cmd 2 2 [], 2, by decide +kernel⟩,
   ⟨cmd 2 0x0003 (1 :: zs 7) id, 2, 1 :: zs 7, by decide +kernel⟩,
   ⟨cmd 2 0x0004 (1 :: zs 7) id, 2, 1 :: zs 7, by decide +kernel⟩⟩

end Sys2Proof.Tests
end

