-- ==== Sys2Proof/Tests/WitnessSafety.lean ====
section
/-!
SUPPORT. Witnesses: for every statement that has hypotheses, concrete states and operands that meet them together, clause by clause.
-/

namespace Sys2Proof.Tests

set_option Elab.async false

open Sys2Proof Sys2Proof.Machine

/-- The safety block as given; 2 s have passed. -/
def fSafe (f : Safety → Safety) (m : Machine.Module) : Machine.Module :=
  { m with safety := f m.safety, time := { m.time with elapsed := 2000 * msUnit, now := 2000 * msUnit } }

/-- The recovery block as given; 2 s have passed. -/
def fRcv (f : Recovery → Recovery) (m : Machine.Module) : Machine.Module :=
  { m with rcv := f m.rcv, time := { m.time with elapsed := 2000 * msUnit } }

/-- A region in the first copy of the table only, or in neither. -/
def fSplit (one : Bool) (m : Machine.Module) : Machine.Module :=
  fSafe (fun v => { v with regions := if one then [(0, { base := 0, pages := 1, cloche := 2, ctx := 5, rights := 3 })] else [] }) m

/-- Queues 3 and 4 exist. -/
def fQueues (m : Machine.Module) : Machine.Module :=
  ((ctxUp 5 2 m).setQueue 3 { state := 1, owner := 5, prodId := 5, consId := 5, log2 := 6 }).setQueue 4 { state := 1, owner := 5, prodId := 5, consId := 5, log2 := 6 }

/-- Engine 3 of core 1, of context 5 and a job whose engines were stopped, with a get from quadrant 2 of the chip store in flight. -/
def fWait (m : Machine.Module) : Machine.Module :=
  let m := (ctxUp 5 2 m).updCtx 5 (fun v => { v with yieldWait := 10, ranges := [(8, 4)] })
  let m := (m.setCore 1 { job := some 9, ctx := some 5, bundles := 8, mask := 8 }).setEng 1 3 { run := .forced, inflight := 1 }
  let o : ROp :=
    { id := 7, core := 1, eng := 3, pc := 1, desc := 64, ctx := 5, sid := 0, kind := 1, cls := 1, aop := 0, lsyncOn := true, loc := 0x100
      remote := 0x1003000000, len := 8, lsync := 9, rsync := 0, amount := 0, seq := 1, target := 0x1003000000, phase := 1, status := 0
      window := none, runner := none, peer := none }
  let j : Job :=
    { id := 9, ctx := 5, client := 2, tag := 0x77, prio := 3, mask := 2, runLimit := 0, args := [], slots := [], state := .dispatched
      admitted := 1, seed := 0, step := 4, mode := 0, acceptedAt := 0, firstDispatch := some 0, dispatchedAt := 0, dispatched := 0
      preemptions := 0, retries := 0, inherited := 0, sliceFor := none, sliceStart := 0, parkAt := some 0, forcedAt := some 0, granted := false
      inPlace := [], saves := [], loaded := true }
  { m with
    fab := { m.fab with ops := [o] }, sched := { m.sched with jobs := [j] }, time := { m.time with elapsed := 2000 * msUnit } }

/-- The signatures that are expected, but that of one engine is another where `bad` says so. -/
def fSigs (bad : Bool) : List (BitVec 64) :=
  (List.range 64).map (fun e => if bad && e == 5 then Config.goldenSignature 5 + 1 else Config.goldenSignature e)

/-- Every signature is the expected one, but for the one that is not. -/
theorem fSigs_good (bad : Bool) (e : Nat) (h : e < 64) (hb : bad = true → e ≠ 5) : signed_ (fSigs bad) e = true := by
  have : (fSigs bad).getD e 0 = Config.goldenSignature e := by
    simp only [fSigs, List.getD_eq_getElem?_getD, List.getElem?_map, List.getElem?_range h, Option.map_some, Option.getD_some]
    cases bad
    · simp
    · simp [hb rfl]
  rw [signed_, this]
  exact beq_self_eq_true _

/-- That one is not. -/
theorem fSigs_bad : signed_ (fSigs true) 5 = false := by
  have : (fSigs true).getD 5 0 = Config.goldenSignature 5 + 1 := rfl
  rw [signed_, this]
  generalize Config.goldenSignature 5 = x
  simp

/-- A reset of a partition is due, with that get in flight, in a phase. -/
def fPart (n phase : Nat) (m : Machine.Module) : Machine.Module :=
  let m := fRcv (fun v => { v with queue := [⟨true, n, 3, 2, none⟩] }) (fWait m)
  { m with fab := { m.fab with ops := m.fab.ops.map (fun o => { o with phase := phase }) } }

/-- A checker channel with a complete packet on each side. -/
def fPair (word : W64) : Machine.Module :=
  (fSafe id up).setChecker 7 { enable := true, runMax := 1, bufP := [⟨[(5, 0x10)], true, 0⟩], bufC := [⟨[(word, 0x10)], true, 0⟩], pairUs := 9 }

/-- Obligations.SafetyCommands: its clauses in order. -/
theorem witness_SafetyCommands :
    (∃ (r : Region) (cl : Nat) (k : Nat) (acc : Access) (a : Nat) (n : Nat), regionAllows r cl k acc a n = true ∧ acc ≠ .read) ∧
    (∃ (s : State) (n : Nat) (ps : List Byte), Asked s.mod n 0x0B00 ps ∧ ps.length = 8 ∧ leAt ps 0 1 ≤ 1 ∧
    zeros ((ps.drop 1).take 7) = true) ∧
    (∃ (s : State) (n : Nat) (ps : List Byte), Asked s.mod n 0x0B01 ps ∧ ps.length = 24 ∧ (leAt ps 0 2) < 1024 ∧
    ((leAt ps 2 1) < 64 ∨ (leAt ps 2 1) = 0xFF) ∧ (leAt ps 3 1) ≤ 15 ∧ (leAt ps 4 1) ≤ 7 ∧ zeros ((ps.drop 5).take 1) = true ∧
     zeros ((ps.drop 20).take 4) = true ∧ leAt ps 8 8 % 4096 = 0 ∧ 1 ≤ leAt ps 16 4 ∧ leAt ps 16 4 ≤ 2 ^ 24 ∧
    oneRegion s.mod (leAt ps 8 8) (4096 * leAt ps 16 4) = true ∧ (n = 14 ∨ ((leAt ps 3 1) ≠ 15 ∧ (leAt ps 2 1) ≠ 0xFF ∧
     (s.mod.ctx (leAt ps 2 1)).state ≠ 0 ∧ (s.mod.ctx (leAt ps 2 1)).client = n)) ∧
    (∀ c, c < 64 → hasAdmitted s.mod c = true → covers s.mod (leAt ps 3 1) (leAt ps 2 1) c = false ∧
     ((s.mod.safety.regions.get {} (leAt ps 0 2)).rights ≠ 0 → covers s.mod (s.mod.safety.regions.get {} (leAt ps 0 2)).cloche
    (s.mod.safety.regions.get {} (leAt ps 0 2)).ctx c = false))) ∧
    (∃ (s : State) (ps : List Byte), Asked s.mod 14 0x0B02 ps ∧ ps.length = 24 ∧ (leAt ps 0 1) ≤ 63 ∧ leAt ps 1 1 ≤ 5 ∧
    leAt ps 2 1 ≤ 7 ∧ (leAt ps 3 1 ≤ 63 ∨ leAt ps 3 1 = 0xFF) ∧ leAt ps 4 2 ≤ srcLimit (leAt ps 1 1) ∧ leAt ps 6 1 ≤ 1 ∧
    10 ≤ leAt ps 12 4 ∧ leAt ps 12 4 ≤ 10000000 ∧ leAt ps 8 4 < leAt ps 12 4 ∧ zeros ((ps.drop 7).take 1) = true ∧
    zeros ((ps.drop 20).take 4) = true ∧ (leAt ps 6 1 = 1 → (s.mod.safety.wdogs.get {} (leAt ps 0 1)).state ≠ 1 ∧
     (s.mod.safety.wdogs.get {} (leAt ps 0 1)).state ≠ 2)) ∧
    (∃ (s : State) (ps : List Byte), Asked s.mod 14 0x0B03 ps ∧ ps.length = 8 ∧ leAt ps 0 1 ≤ 63 ∧
    zeros ((ps.drop 1).take 7) = true ∧ (s.mod.safety.wdogs.get {} (leAt ps 0 1)).source = 5) ∧
    (∃ (s : State) (ps : List Byte), Asked s.mod 14 0x0B04 ps ∧ ps.length = 16 ∧ leAt ps 0 1 ≤ 1 ∧ 1 ≤ leAt ps 1 1 ∧
    leAt ps 1 1 ≤ 8 ∧ leAt ps 2 1 ≤ 3 ∧ 2000 ≤ leAt ps 4 4 ∧ leAt ps 4 4 ≤ 1000000 ∧ leAt ps 8 4 < leAt ps 4 4 ∧
    zeros ((ps.drop 3).take 1) = true ∧ zeros ((ps.drop 12).take 4) = true) ∧
    (∃ (s : State) (ps : List Byte), Asked s.mod 14 0x0B05 ps ∧ ps.length = 24 ∧ leAt ps 0 1 ≤ 7 ∧ leAt ps 1 1 ≤ 1 ∧
    leAt ps 2 1 ≤ 3 ∧ 1 ≤ leAt ps 3 1 ∧ leAt ps 4 2 ≤ 511 ∧ leAt ps 6 2 ≤ 511 ∧ leAt ps 20 1 ≤ 64 ∧
    zeros ((ps.drop 21).take 3) = true ∧ (leAt ps 1 1 = 1 → (s.mod.queue (leAt ps 4 2)).state ≠ 0 ∧
    (s.mod.queue (leAt ps 6 2)).state ≠ 0)) ∧
    (∃ (s : State) (ps : List Byte), Asked s.mod 14 0x0B06 ps ∧ ps.length = 8 ∧ zeros ps = true ∧ s.mod.safety.selfTest = 1 ∧
     present_ s.mod = 0) ∧
    (∃ (s : State) (ps : List Byte), Asked s.mod 14 0x0B06 ps ∧ ps.length = 8 ∧ zeros ps = true ∧
    (s.mod.safety.selfTest ≠ 1 ∨ present_ s.mod ≠ 0)) ∧
    (∃ (s : State) (ps : List Byte), Asked s.mod 14 0x0B07 ps ∧ ps.length = 8 ∧ zeros ps = true) :=
  ⟨⟨{ base := 0, pages := 1, cloche := 2, ctx := 5, rights := 3 }, 2, 5, .write, 0, 4096, by decide +kernel⟩,
   ⟨cmd 2 0x0B00 (1 :: zs 7) id, 2, 1 :: zs 7, by decide +kernel⟩,
   ⟨cmd 2 0x0B01 (pk [(2, 1023), (1, 5), (1, 2), (1, 7), (1, 0), (2, 0xFFFF), (8, 4096), (4, 3670015), (4, 0)]) (ctxUp 5 2),
    2, pk [(2, 1023), (1, 5), (1, 2), (1, 7), (1, 0), (2, 0xFFFF), (8, 4096), (4, 3670015), (4, 0)], by decide +kernel⟩,
   ⟨cmd 14 0x0B02 (pk [(1, 63), (1, 1), (1, 7), (1, 63), (2, 511), (1, 1), (1, 0), (4, 9), (4, 10), (4, 0), (4, 0)]) id, pk
    [(1, 63), (1, 1), (1, 7), (1, 63), (2, 511), (1, 1), (1, 0), (4, 9), (4, 10), (4, 0), (4, 0)], by decide +kernel⟩,
   ⟨cmd 14 0x0B03 (63 :: zs 7) (fSafe (fun v => { v with wdogs := [(63, { state := 1, source := 5, firstUs := 9 })] })), 63
    :: zs 7, by decide +kernel⟩,
   ⟨cmd 14 0x0B04 (pk [(1, 1), (1, 8), (1, 3), (1, 0), (4, 1000000), (4, 999999), (4, 0)]) id, pk [(1, 1), (1, 8), (1, 3),
    (1, 0), (4, 1000000), (4, 999999), (4, 0)], by decide +kernel⟩,
   ⟨cmd 14 0x0B05 (pk [(1, 7), (1, 1), (1, 3), (1, 1), (2, 3), (2, 4), (4, 0), (4, 0), (4, 9), (1, 64), (3, 0)]) fQueues, pk
    [(1, 7), (1, 1), (1, 3), (1, 1), (2, 3), (2, 4), (4, 0), (4, 0), (4, 9), (1, 64), (3, 0)], by decide +kernel⟩,
   ⟨cmd 14 0x0B06 (zs 8) (fSafe (fun v => { v with selfTest := 1 })), zs 8, by decide +kernel⟩,
   ⟨cmd 14 0x0B06 (zs 8) id, zs 8, by decide +kernel⟩,
   ⟨cmd 14 0x0B07 (zs 8) id, zs 8, by decide +kernel⟩⟩

/-- Obligations.SafetyEvents: its clauses in order. -/
theorem witness_SafetyEvents :
    (∃ (m : Module) (k : Nat), (m.safety.wdogs.get {} k).state = 1 ∧
    (m.time.elapsed - (m.safety.wdogs.get {} k).since) ≤ (m.safety.wdogs.get {} k).firstUs * usUnit) ∧
    (∃ (m : Module) (k : Nat), (m.safety.wdogs.get {} k).state = 2 ∧
    (m.safety.wdogs.get {} k).minUs * usUnit ≤ (m.time.elapsed - (m.safety.wdogs.get {} k).since) ∧
    (m.time.elapsed - (m.safety.wdogs.get {} k).since) ≤ (m.safety.wdogs.get {} k).maxUs * usUnit) ∧
    (∃ (m : Module) (k : Nat), (m.safety.wdogs.get {} k).state = 2 ∧
    (m.time.elapsed - (m.safety.wdogs.get {} k).since) < (m.safety.wdogs.get {} k).minUs * usUnit) ∧
    (∃ (m : Module) (k : Nat), (m.safety.wdogs.get {} k).state = 1 ∧
    (m.safety.wdogs.get {} k).firstUs * usUnit < (m.time.elapsed - (m.safety.wdogs.get {} k).since)) ∧
    (∃ (m : Module) (k : Nat), (m.safety.wdogs.get {} k).state = 2 ∧
    (m.safety.wdogs.get {} k).minUs * usUnit ≤ (m.time.elapsed - (m.safety.wdogs.get {} k).since) ∧
    (m.safety.wdogs.get {} k).maxUs * usUnit < (m.time.elapsed - (m.safety.wdogs.get {} k).since)) ∧
    (∃ (m : Module) (k : Nat), ((m.safety.wdogs.get {} k).state = 0 ∨ (m.safety.wdogs.get {} k).state = 3)) ∧
    (∃ (m : Module) (k : Nat), k < 64 ∧ (m.safety.wdogs.get {} k).action.getLsbD 0 = true) ∧
    (∃ (m : Module) (k : Nat), k < 64 ∧ (m.safety.wdogs.get {} k).action.getLsbD 1 = true) ∧
    (∃ (m : Module) (k : Nat), k < 64 ∧ (m.safety.wdogs.get {} k).action.getLsbD 2 = true ∧
    (m.safety.wdogs.get {} k).ctx < 64 ∧ (m.ctx (m.safety.wdogs.get {} k).ctx).state ≠ 0) ∧
    (∃ (k : Nat), k < 64) ∧
    (∃ (s : State) (k : Nat), k < 64 ∧ domOn s.mod 48 = true ∧ (s.mod.safety.wdogs.get {} k).state = 1 ∧
     (s.mod.safety.wdogs.get {} k).firstUs * usUnit < s.mod.time.elapsed - (s.mod.safety.wdogs.get {} k).since) ∧
    (∃ (s : State) (k : Nat), k < 64 ∧ domOn s.mod 48 = true ∧ (s.mod.safety.wdogs.get {} k).state = 2 ∧
     (s.mod.safety.wdogs.get {} k).maxUs * usUnit < s.mod.time.elapsed - (s.mod.safety.wdogs.get {} k).since) :=
  ⟨⟨fSafe (fun v => { v with wdogs := [(5, { state := 1, firstUs := 2000000 })] }) up, 5, by decide +kernel⟩,
   ⟨fSafe (fun v => { v with wdogs := [(5, { state := 2, minUs := 2000000, maxUs := 2000000 })] }) up, 5, by decide +kernel⟩,
   ⟨fSafe (fun v => { v with wdogs := [(5, { state := 2, minUs := 2000001 })] }) up, 5, by decide +kernel⟩,
   ⟨fSafe (fun v => { v with wdogs := [(5, { state := 1, firstUs := 1999999 })] }) up, 5, by decide +kernel⟩,
   ⟨fSafe (fun v => { v with wdogs := [(5, { state := 2, minUs := 3, maxUs := 1999999 })] }) up, 5, by decide +kernel⟩,
   ⟨fSafe (fun v => { v with wdogs := [(5, { state := 3 })] }) up, 5, by decide +kernel⟩,
   ⟨fSafe (fun v => { v with wdogs := [(5, { state := 2, action := 7, ctx := 5 })] }) up, 5, by decide +kernel⟩,
   ⟨fSafe (fun v => { v with wdogs := [(5, { state := 2, action := 7, ctx := 5 })] }) up, 5, by decide +kernel⟩,
   ⟨fSafe (fun v => { v with wdogs := [(5, { state := 2, action := 7, ctx := 5 })] }) (ctxUp 5 2 up), 5, by decide +kernel⟩,
   ⟨5, by decide +kernel⟩,
   ⟨st (fSafe (fun v => { v with wdogs := [(5, { state := 1, firstUs := 1999999 })] })), 5, by decide +kernel⟩,
   ⟨st (fSafe (fun v => { v with wdogs := [(5, { state := 2, maxUs := 1999999 })] })), 5, by decide +kernel⟩⟩

/-- Obligations.SafetyEvents: its clauses in order, from number 13. -/
theorem witness_SafetyEvents2 :
    (∃ (m : Module) (want : Nat) (c : Nat), want ≤ nCores m ∧ c < nCores m ∧ (∀ i, i < nCores m → goldenSkips m i = false)) ∧
    (∃ (s : State) (u : Nat), s.mod.host.gState = 3 ∧ s.mod.safety.gtOn = true ∧ s.mod.power.state = 0 ∧
    goldenInstant s.mod = some u ∧ s.mod.safety.gtLast ≠ some u ∧
    s.mod.time.elapsed < (s.mod.time.elapsed - (s.mod.time.now - u * usUnit)) + 1000 * usUnit) ∧
    (∃ (s : State) (u : Nat), s.mod.host.gState = 3 ∧ s.mod.safety.gtOn = true ∧ s.mod.power.state = 0 ∧
    goldenInstant s.mod = some u ∧ s.mod.safety.gtLast ≠ some u ∧
    (s.mod.time.elapsed - (s.mod.time.now - u * usUnit)) + 1000 * usUnit ≤ s.mod.time.elapsed ∧ domOn s.mod 48 = true) ∧
    (∃ (s : State) (u : Nat), s.mod.host.gState = 3 ∧ s.mod.safety.gtOn = true ∧ s.mod.power.state = 0 ∧
    goldenInstant s.mod = some u ∧ s.mod.safety.gtLast ≠ some u ∧
    (s.mod.time.elapsed - (s.mod.time.now - u * usUnit)) + 1000 * usUnit ≤ s.mod.time.elapsed) ∧
    (∃ (s : State) (c : Fin 32) (sigs : List (BitVec 64)) (retest : List (BitVec 64)), s.mod.host.gState = 3 ∧
     s.mod.safety.gtPending.contains c.val = true ∧ domOn s.mod c = true ∧ (s.mod.core c).job = none ∧
    coreDrained s.mod c = true ∧ sigs.length = 64 ∧ retest.length = 64 ∧ (∀ e, e < 64 → signed_ sigs e = true)) ∧
    (∃ (s : State) (c : Fin 32) (sigs : List (BitVec 64)) (retest : List (BitVec 64)) (e : Nat), s.mod.host.gState = 3 ∧
     s.mod.safety.gtPending.contains c.val = true ∧ domOn s.mod c = true ∧ (s.mod.core c).job = none ∧
    coreDrained s.mod c = true ∧ sigs.length = 64 ∧ retest.length = 64 ∧ e < 64 ∧ signed_ sigs e = false ∧
    signed_ retest e = true ∧ (∀ i, i < 64 → i ≠ e → signed_ sigs i = true)) ∧
    (∃ (s : State) (c : Fin 32) (sigs : List (BitVec 64)) (retest : List (BitVec 64)) (e : Nat), s.mod.host.gState = 3 ∧
     s.mod.safety.gtPending.contains c.val = true ∧ domOn s.mod c = true ∧ (s.mod.core c).job = none ∧
    coreDrained s.mod c = true ∧ sigs.length = 64 ∧ retest.length = 64 ∧ e < 64 ∧ signed_ sigs e = false ∧
    signed_ retest e = false ∧ (∀ i, i < 64 → i ≠ e → signed_ sigs i = true)) ∧
    (∃ (s : State), domOn s.mod 48 = true ∧ (s.mod.safety.gtPending ≠ [] ∨ s.mod.safety.gtLost = true) ∧
    s.mod.safety.gtLate = false ∧ s.mod.safety.gtAt + 1000 * usUnit ≤ s.mod.time.elapsed ∧
    (s.mod.safety.gtOn = false ∨ s.mod.power.state ≠ 0 ∨ goldenInstant s.mod = s.mod.safety.gtLast)) ∧
    (∃ (s : State) (ch : Nat) (p : ChkPacket) (ps : List ChkPacket), ch < 8 ∧ domOn s.mod 48 = true ∧
    (s.mod.checker ch).enable = true ∧ (s.mod.checker ch).tripped = false ∧ (s.mod.checker ch).bufP = p :: ps ∧
    p.done = true ∧ (s.mod.checker ch).bufC = [] ∧ p.at_ + (s.mod.checker ch).pairUs * usUnit < s.mod.time.elapsed) ∧
    (∃ (p : ChkPacket) (k : ChkPacket) (w : W64 × BitVec 8), (w ∈ p.words ∨ w ∈ k.words)) ∧
    (∃ (p : ChkPacket) (i : Nat), i < 2 * p.words.length) ∧
    (∃ (a : W32) (b : W32), (isNan a = true ∨ isNan b = true)) :=
  ⟨⟨up, 8, 31, by decide +kernel⟩,
   ⟨st (fSafe (fun v => { v with gtOn := true, gtCores := 2, gtPeriod := 2000, gtLast := some 1997000 })), 2000000,
    by decide +kernel⟩,
   ⟨st (fSafe (fun v => { v with gtOn := true, gtCores := 2, gtPeriod := 2000, gtLast := some 1997000, gtPhase := 1000 })),
    1999000, by decide +kernel⟩,
   ⟨st (fSafe (fun v => { v with gtOn := true, gtCores := 2, gtPeriod := 2000, gtLast := some 1997000, gtPhase := 1000 })),
    1999000, by decide +kernel⟩,
   ⟨st (fSafe (fun v => { v with gtOn := true, gtCores := 2, gtPeriod := 2000, gtPending := [1, 2], gtJobs := [] })), 1,
    fSigs false, fSigs false, first4 (by decide +kernel)
    ⟨by decide +kernel,
    by decide +kernel, by decide +kernel, (fun e h => fSigs_good false e h (fun hb => absurd hb (by decide)))⟩⟩,
   ⟨st (fSafe (fun v => { v with gtOn := true, gtCores := 2, gtPeriod := 2000, gtPending := [1, 2], gtJobs := [] })), 1,
    fSigs true, fSigs false, 5, first4 (by decide +kernel)
    ⟨by decide +kernel,
    by decide +kernel, by decide +kernel, (by decide +kernel), fSigs_bad, (fSigs_good false 5 (by decide) (fun hb => absurd hb
    (by decide))), (fun i h hi => fSigs_good true i h (fun _ => hi))⟩⟩,
   ⟨st (fSafe (fun v => { v with gtOn := true, gtCores := 2, gtPeriod := 2000, gtPending := [1, 2], gtJobs := [] })), 1,
    fSigs true, fSigs true, 5, first4 (by decide +kernel)
    ⟨by decide +kernel,
    by decide +kernel, by decide +kernel, (by decide +kernel), fSigs_bad, fSigs_bad, (fun i h hi => fSigs_good true i h (fun _
    => hi))⟩⟩,
   ⟨st (fSafe (fun v => { v with gtPending := [1], gtAt := 1999 * msUnit })), by decide +kernel⟩,
   ⟨st (fun m => (fSafe id m).setChecker 7 { enable := true, runMax := 1, bufP := [⟨[(5, 0x10)], true, 0⟩], pairUs := 9 }),
    7, ⟨[(5, 0x10)], true, 0⟩, [], by decide +kernel⟩,
   ⟨⟨[(5, 0x10)], true, 0⟩, ⟨[], true, 0⟩, (5, 0x10), by decide +kernel⟩,
   ⟨⟨[(5, 0x10)], true, 0⟩, 1, by decide +kernel⟩,
   ⟨0x7FC00000, 0, by decide +kernel⟩⟩

/-- Obligations.SafetyEvents: its clauses in order, from number 25. -/
theorem witness_SafetyEvents3 :
    (∃ (a : W32), isNan a = false) ∧
    (∃ (m : Module) (ch : Nat) (p : ChkPacket) (k : ChkPacket) (ps : List ChkPacket) (ks : List ChkPacket), (m.checker
    ch).bufP = p :: ps ∧ (m.checker ch).bufC = k :: ks ∧ p.done = true ∧ k.done = true ∧ (m.checker ch).tripped = false ∧
     apart (m.checker ch) p k = false ∧ judgePair (m.checker ch) p k = none) ∧
    (∃ (m : Module) (ch : Nat) (p : ChkPacket) (k : ChkPacket) (ps : List ChkPacket) (ks : List ChkPacket) (lane : Nat),
    (m.checker ch).bufP = p :: ps ∧ (m.checker ch).bufC = k :: ks ∧ p.done = true ∧ k.done = true ∧
    (m.checker ch).tripped = false ∧ apart (m.checker ch) p k = false ∧ judgePair (m.checker ch) p k = some lane) ∧
    (∃ (m : Module) (ch : Nat) (p : ChkPacket) (k : ChkPacket) (ps : List ChkPacket) (ks : List ChkPacket), (m.checker
    ch).bufP = p :: ps ∧ (m.checker ch).bufC = k :: ks ∧ p.done = true ∧ k.done = true ∧ (m.checker ch).tripped = false ∧
     apart (m.checker ch) p k = false) ∧
    (∃ (bit : Nat) (b : Nat), bit < 13 ∧ b ≠ bit) ∧
    (∃ (bit : Nat), bit < 13) ∧
    (∃ (s : State) (what : Nat), domOn s.mod 48 = true ∧ 2 ≤ what) ∧
    (∃ (s : State), domOn s.mod 48 = true) ∧
    (∃ (m : Module) (sid : W16) (acc : Access) (a : Nat) (n : Nat), oneRegion m a n = true ∧ fwAllows m sid acc a n = false ∧
     (granted m.safety.regions sid acc a n ≠ granted m.safety.regionsB sid acc a n)) ∧
    (∃ (m : Module) (sid : W16) (acc : Access) (a : Nat) (n : Nat), oneRegion m a n = true ∧ fwAllows m sid acc a n = false ∧
     (¬ (granted m.safety.regions sid acc a n ≠ granted m.safety.regionsB sid acc a n))) ∧
    (∃ (m : Module) (sid : W16) (acc : Access) (a : Nat) (n : Nat), oneRegion m a n = true ∧ fwAllows m sid acc a n = false) :=
  ⟨⟨0, by decide +kernel⟩,
   ⟨fPair 5, 7, ⟨[(5, 0x10)], true, 0⟩, ⟨[(5, 0x10)], true, 0⟩, [], [], by decide +kernel⟩,
   ⟨fPair 0x3F800000, 7, ⟨[(5, 0x10)], true, 0⟩, ⟨[(0x3F800000, 0x10)], true, 0⟩, [], [], 0, by decide +kernel⟩,
   ⟨fPair 5, 7, ⟨[(5, 0x10)], true, 0⟩, ⟨[(5, 0x10)], true, 0⟩, [], [], by decide +kernel⟩,
   ⟨12, 3, by decide +kernel⟩,
   ⟨12, by decide +kernel⟩,
   ⟨st id, 2, by decide +kernel⟩,
   ⟨st id, by decide +kernel⟩,
   ⟨fSplit true up, 0x2145, .write, 0, 8, by decide +kernel⟩,
   ⟨fSplit false up, 0x2145, .write, 0, 8, by decide +kernel⟩,
   ⟨fSplit true up, 0x2145, .write, 0, 8, by decide +kernel⟩⟩

/-- Obligations.HangsAndContextReset: its clauses in order. -/
theorem witness_HangsAndContextReset :
    (∃ (m : Module) (part : Bool) (obj : Nat), part = false ∧ (m.ctx obj).state = 0) ∧
    (∃ (m : Module) (part : Bool) (obj : Nat), (part = true ∨ (m.ctx obj).state ≠ 0) ∧
    (recovering m part obj = true ∨ (if part then m.rcv.partWaiting.getLsbD obj else m.rcv.ctxWaiting.getLsbD obj) = true)) ∧
    (∃ (m : Module) (part : Bool) (obj : Nat) (by_ : Option (Nat × Nat)), (part = true ∨ (m.ctx obj).state ≠ 0) ∧
    recovering m part obj = false ∧ ((if part then m.rcv.partWaiting.getLsbD obj else m.rcv.ctxWaiting.getLsbD obj) = false) ∧
     ((by_.isSome || (if part then m.rcv.partAction else m.rcv.ctxAction) = 1) = true)) ∧
    (∃ (m : Module) (part : Bool) (obj : Nat) (by_ : Option (Nat × Nat)), (part = true ∨ (m.ctx obj).state ≠ 0) ∧
    recovering m part obj = false ∧ ((if part then m.rcv.partWaiting.getLsbD obj else m.rcv.ctxWaiting.getLsbD obj) = false) ∧
     ((by_.isSome || (if part then m.rcv.partAction else m.rcv.ctxAction) = 1) = false) ∧ part = true ∧ obj < 4) ∧
    (∃ (m : Module) (part : Bool) (obj : Nat) (by_ : Option (Nat × Nat)), (part = true ∨ (m.ctx obj).state ≠ 0) ∧
    recovering m part obj = false ∧ ((if part then m.rcv.partWaiting.getLsbD obj else m.rcv.ctxWaiting.getLsbD obj) = false) ∧
     ((by_.isSome || (if part then m.rcv.partAction else m.rcv.ctxAction) = 1) = false) ∧ part = false ∧ obj < 64) ∧
    (∃ (m : Module) (part : Bool) (obj : Nat) (by_ : Option (Nat × Nat)), (part = true ∨ (m.ctx obj).state ≠ 0) ∧
    recovering m part obj = false ∧ ((if part then m.rcv.partWaiting.getLsbD obj else m.rcv.ctxWaiting.getLsbD obj) = false) ∧
     ((by_.isSome || (if part then m.rcv.partAction else m.rcv.ctxAction) = 1) = false)) ∧
    (∃ (m : Module) (part : Bool) (obj : Nat), (part = true ∨ (m.ctx obj).state ≠ 0) ∧ recovering m part obj = false ∧
    ((if part then m.rcv.partWaiting.getLsbD obj else m.rcv.ctxWaiting.getLsbD obj) = false)) ∧
    (∃ (m : Module) (part : Bool) (obj : Nat), (part = true ∨ (m.ctx obj).state ≠ 0)) ∧
    (∃ (s : State) (c : Fin 32) (e : Fin 64) (k : Nat) (id : Nat) (j : Job) (t0 : Nat) (n : Nat), s.mod.host.gState = 3 ∧
     (s.mod.core c).ctx = some k ∧ (s.mod.core c).job = some id ∧ findJob s.mod id = some j ∧ j.forcedAt = some t0 ∧
    slotRun (s.mod.eng c e) = false ∧ (s.mod.eng c e).inflight ≠ 0 ∧ (s.mod.eng c e).told = false ∧
    t0 + msUnit ≤ s.mod.time.elapsed ∧ allHeld (s.mod.setEng c e { (s.mod.eng c e) with told := true }) n c e = true) ∧
    (∃ (s : State) (c : Fin 32) (e : Fin 64) (k : Nat) (id : Nat) (j : Job) (t0 : Nat) (n : Nat), s.mod.host.gState = 3 ∧
     (s.mod.core c).ctx = some k ∧ (s.mod.core c).job = some id ∧ findJob s.mod id = some j ∧ j.forcedAt = some t0 ∧
    slotRun (s.mod.eng c e) = false ∧ (s.mod.eng c e).inflight ≠ 0 ∧ (s.mod.eng c e).told = false ∧
    t0 + msUnit ≤ s.mod.time.elapsed ∧ allHeld (s.mod.setEng c e { (s.mod.eng c e) with told := true }) n c e = false) :=
  ⟨⟨up, false, 5, by decide +kernel⟩,
   ⟨fRcv (fun v => { v with ctxWaiting := 0x20 }) (ctxUp 5 2 up), false, 5, by decide +kernel⟩,
   ⟨ctxUp 5 2 up, false, 5, none, by decide +kernel⟩,
   ⟨up, true, 3, none, by decide +kernel⟩,
   ⟨fRcv (fun v => { v with ctxAction := 0 }) (ctxUp 63 2 up), false, 63, none, by decide +kernel⟩,
   ⟨up, true, 3, none, by decide +kernel⟩,
   ⟨up, true, 3, by decide +kernel⟩,
   ⟨up, true, 3, by decide +kernel⟩,
   ⟨st fWait, 1, 3, 5, 9, ((fWait up).sched.jobs.head (by decide +kernel)), 0, 2, by decide +kernel⟩,
   ⟨st fWait, 1, 3, 5, 9, ((fWait up).sched.jobs.head (by decide +kernel)), 0, 3, by decide +kernel⟩⟩

/-- Obligations.HangsAndContextReset: its clauses in order, from number 11. -/
theorem witness_HangsAndContextReset2 :
    (∃ (s : State) (c : Fin 32) (e : Fin 64) (k : Nat) (id : Nat) (j : Job) (t0 : Nat), s.mod.host.gState = 3 ∧
    (s.mod.core c).ctx = some k ∧ (s.mod.core c).job = some id ∧ findJob s.mod id = some j ∧ j.forcedAt = some t0 ∧
    slotRun (s.mod.eng c e) = false ∧ (s.mod.eng c e).inflight ≠ 0 ∧ (s.mod.eng c e).told = false ∧
    t0 + msUnit ≤ s.mod.time.elapsed) ∧
    (∃ (m : Module) (n : Nat) (c : Nat) (e : Nat), n < 4 ∧ (m.core c).mover.any (fun j => j.eng == e) = false) ∧
    (∃ (m : Module) (n : Nat) (c : Nat) (e : Nat) (o : ROp), n < 4 ∧ (m.core c).mover.any (fun j => j.eng == e) = false ∧
    o ∈ opsOf m c e) ∧
    (∃ (s : State) (n : Nat) (p : FabricPacket) (held : List FabricPacket), s.mod.host.gState = 3 ∧ n < 4 ∧
    (∀ x ∈ p :: held, (canHold s.mod n x = true ∨ canAnswer s.mod n x = true) ∧ (p :: held).count x ≤ packetBound s.mod x) ∧
     sinceOf s.mod p + s.mod.rcv.bridgeMs * msUnit ≤ s.mod.time.elapsed) ∧
    (∃ (s : State) (n : Nat) (p : FabricPacket) (held : List FabricPacket), s.mod.host.gState = 3 ∧ n < 4 ∧
    (∀ x ∈ p :: held, (canHold s.mod n x = true ∨ canAnswer s.mod n x = true) ∧ (p :: held).count x ≤ packetBound s.mod x) ∧
     s.mod.time.elapsed < sinceOf s.mod p + s.mod.rcv.bridgeMs * msUnit) ∧
    (∃ (s : State) (n : Nat), s.mod.host.gState = 3 ∧ n < 4) ∧
    (∃ (s : State) (k : Nat) (r : RecItem) (rest : List RecItem), s.mod.host.gState = 3 ∧ s.mod.power.entry = none ∧
     s.mod.rcv.ctxRst = none ∧ s.mod.rcv.partRst = none ∧ s.mod.rcv.queue = r :: rest ∧ r.part = false ∧ r.obj = k) ∧
    (∃ (s : State) (d : DrainCheck) (r : CtxRst), s.mod.host.gState = 3 ∧ d.ctx < 64 ∧ s.mod.rcv.ctxRst = some r ∧
    r.ctx = d.ctx ∧ (ctxDrained s.mod (d.ctx) = true ∨ ((r.since + msUnit ≤ s.mod.time.elapsed) ∧
    (∀ n, ¬ (fun n => n ∈ d.into ∧ mayStick s.mod (d.ctx) n = true) n) ∧ r.escalated = false)) ∧
    (s.mod.ctx (d.ctx)).state = 1 ∧ (s.mod.ctx (d.ctx)).destroying = false) ∧
    (∃ (s : State) (d : DrainCheck) (r : CtxRst), s.mod.host.gState = 3 ∧ d.ctx < 64 ∧ s.mod.rcv.ctxRst = some r ∧
    r.ctx = d.ctx ∧ ctxDrained s.mod (d.ctx) = false ∧ (¬ (r.since + msUnit ≤ s.mod.time.elapsed))) ∧
    (∃ (s : State) (d : DrainCheck) (r : CtxRst), s.mod.host.gState = 3 ∧ d.ctx < 64 ∧ s.mod.rcv.ctxRst = some r ∧
    r.ctx = d.ctx ∧ ctxDrained s.mod (d.ctx) = false ∧ (r.since + msUnit ≤ s.mod.time.elapsed) ∧
    (r.escalated = true ∨ ∃ n, (fun n => n ∈ d.into ∧ mayStick s.mod (d.ctx) n = true) n)) :=
  ⟨⟨st fWait, 1, 3, 5, 9, ((fWait up).sched.jobs.head (by decide +kernel)), 0, by decide +kernel⟩,
   ⟨fWait up, 2, 1, 3, by decide +kernel⟩,
   ⟨fWait up, 2, 1, 3, ((fWait up).fab.ops.head (by decide +kernel)), by decide +kernel⟩,
   ⟨st fWait, 2, .op 7, [], by decide +kernel⟩,
   ⟨st (fun m => let m := fWait m; { m with time := { m.time with elapsed := 0 } }), 2, .op 7, [], by decide +kernel⟩,
   ⟨st id, 3, by decide +kernel⟩,
   ⟨st (fun m => fRcv (fun v => { v with queue := [⟨false, 5, 3, 2, none⟩] }) (fWait m)), 5, ⟨false, 5, 3, 2, none⟩, [],
    by decide +kernel⟩,
   ⟨st (fun m => fRcv (fun v => { v with ctxRst := some ⟨5, 3, 0, false, none⟩ }) (ctxUp 5 2 m)), ⟨5, []⟩, ⟨5, 3, 0, false,
    none⟩, by decide +kernel, by decide +kernel, by decide +kernel, by decide +kernel, .inl (by decide +kernel),
    by decide +kernel, by decide +kernel⟩,
   ⟨st (fun m => fRcv (fun v => { v with ctxRst := some ⟨5, 3, 2000 * msUnit, false, none⟩ }) (fWait m)), ⟨5, []⟩, ⟨5, 3,
    2000 * msUnit, false, none⟩, by decide +kernel⟩,
   ⟨st (fun m => fRcv (fun v => { v with ctxRst := some ⟨5, 3, 0, false, none⟩ }) (fWait m)), ⟨5, [2]⟩, ⟨5, 3, 0, false,
    none⟩, first4 (by decide +kernel)
    ⟨by decide +kernel, by decide +kernel,
    .inr ⟨2, by decide +kernel⟩⟩⟩⟩

/-- Obligations.PartitionReset: its clauses in order. -/
theorem witness_PartitionReset :
    (∃ (s : State) (n : Nat) (r : RecItem) (rest : List RecItem), s.mod.host.gState = 3 ∧ s.mod.power.entry = none ∧
     s.mod.rcv.ctxRst = none ∧ s.mod.rcv.partRst = none ∧ n < 4 ∧ s.mod.rcv.queue = r :: rest ∧ r.part = true ∧ r.obj = n) ∧
    (∃ (s : State) (n : Nat) (r : RecItem) (rest : List RecItem) (id : Nat) (o : ROp), s.mod.host.gState = 3 ∧
     s.mod.power.entry = none ∧ s.mod.rcv.ctxRst = none ∧ s.mod.rcv.partRst = none ∧ n < 4 ∧ s.mod.rcv.queue = r :: rest ∧
     r.part = true ∧ r.obj = n ∧ findOp s.mod id = some o ∧ o.peer = none ∧ o.core ∉ coresIn s.mod n ∧
    heldInto s.mod n o = true ∧ s.mod.kv.waiting = [] ∧ s.mod.kv.plan = none) ∧
    (∃ (s : State) (n : Nat) (r : RecItem) (rest : List RecItem) (id : Nat) (o : ROp), s.mod.host.gState = 3 ∧
     s.mod.power.entry = none ∧ s.mod.rcv.ctxRst = none ∧ s.mod.rcv.partRst = none ∧ n < 4 ∧ s.mod.rcv.queue = r :: rest ∧
     r.part = true ∧ r.obj = n ∧ findOp s.mod id = some o ∧ o.peer = none ∧ o.core ∉ coresIn s.mod n ∧
    insidePart s.mod n o = true) ∧
    (∃ (s : State) (n : Nat) (r : RecItem) (rest : List RecItem) (id : Nat) (o : ROp), s.mod.host.gState = 3 ∧
     s.mod.power.entry = none ∧ s.mod.rcv.ctxRst = none ∧ s.mod.rcv.partRst = none ∧ n < 4 ∧ s.mod.rcv.queue = r :: rest ∧
     r.part = true ∧ r.obj = n ∧ findOp s.mod id = some o ∧ o.peer = none ∧ o.core ∉ coresIn s.mod n ∧
    responseInto s.mod n o = true) ∧
    (∃ (s : State) (n : Nat) (p : PartRst), s.mod.host.gState = 3 ∧ s.mod.rcv.partRst = some p ∧ p.part = n ∧ n < 4 ∧
    hitDone s.mod p = true) :=
  ⟨⟨st (fRcv (fun v => { v with queue := [⟨true, 2, 3, 2, none⟩] })), 2, ⟨true, 2, 3, 2, none⟩, [], by decide +kernel⟩,
   ⟨st (fPart 2 1), 2, ⟨true, 2, 3, 2, none⟩, [], 7, ((fPart 2 1 up).fab.ops.head (by decide +kernel)), by decide +kernel⟩,
   ⟨st (fPart 2 1), 2, ⟨true, 2, 3, 2, none⟩, [], 7, ((fPart 2 1 up).fab.ops.head (by decide +kernel)), by decide +kernel⟩,
   ⟨st (fPart 1 2), 1, ⟨true, 1, 3, 2, none⟩, [], 7, ((fPart 1 2 up).fab.ops.head (by decide +kernel)), by decide +kernel⟩,
   ⟨st (fun m => fQueues (fRcv (fun v => { v with partRst := some ⟨2, 3, none, 0, [], 0⟩ }) m)), 2, ⟨2, 3, none, 0, [], 0⟩,
    by decide +kernel⟩⟩

end Sys2Proof.Tests
end

