-- ==== Sys2Proof/Tests/WitnessSched.lean ====
section
/-!
SUPPORT. Witnesses: for every statement that has hypotheses, concrete states and operands that meet them together, clause by clause.
-/

namespace Sys2Proof.Tests

set_option Elab.async false

open Sys2Proof Sys2Proof.Machine

/-- Job 9 of context 5 and client 2, on core 1. -/
def sJob (f : Job → Job) : Job :=
  f { id := 9, ctx := 5, client := 2, tag := 0x77, prio := 3, mask := 2, runLimit := 0, args := [1, 2], slots := [], state := .dispatched
      admitted := 1, seed := 0, step := 4, mode := 0, acceptedAt := 0, firstDispatch := some 0, dispatchedAt := 0, dispatched := 0
      preemptions := 0, retries := 0, inherited := 0, sliceFor := none, sliceStart := 0, parkAt := none, granted := false
      inPlace := [], saves := [], loaded := true }

/-- The job, another job, and engines 3 and 4 of core 1 as given. -/
def sUp (f : Job → Job) (e : Engine) (more : List Job) (m : Machine.Module) : Machine.Module :=
  let m := ctxUp 6 2 (ctxUp 5 2 m)
  let m := (m.updCtx 5 (fun v => { v with binds := [⟨8, 4, 6⟩], yieldWait := 10, ranges := [(8, 4)] })).setCore 1
    { job := some 9, ctx := some 5, bundles := 8, mask := 0x18 }
  let m := (m.setEng 1 3 e).setEng 1 4 e
  { m with
    sched := { m.sched with jobs := sJob f :: more, due := true }
    time := { m.time with elapsed := 30 * usUnit }
    host := { m.host with deferred := [⟨2, 0x77, 0x0404, 9⟩] } }

/-- Core 1 has its ageing baseline and carries nothing. -/
def sFree (m : Machine.Module) : Machine.Module :=
  { (m.setCore 1 { mask := 0x18, bundles := 8 }) with health := { m.health with plans := [(1, { base := some [1, 1, 1, 1] })] } }

/-- An image of one bundle without effect. -/
def sImage : List Byte :=
  let bs := pk [(4, 0x4B5A4550), (2, 1), (2, 0), (4, 80), (4, 0), (2, 1), (2, 0), (2, 0), (2, 0), (4, 64), (4, 0), (4, 0),
    (4, 0xFFFFFFFF), (4, 0xFFFFFFFF), (4, 0), (8, 8), (8, 0)] ++ zs 16
  setBytes bs 12 (leBytes 4 (imgCrc bs).toNat)

/-- Context 5 reads and writes 256 MiB of DDR4. -/
def sRegions : Tab Region := [(0, { base := 0, pages := 0x10000, cloche := 2, ctx := 5, rights := 3 })]

/-- Context 5 with a save region, a slot whose load runs from DDR4, and a firewall region. -/
def sLoad (loaded : Bool) (m : Machine.Module) : Machine.Module :=
  let m := m.setCtx 5 { state := 1, client := 2, cloche := 2, maxPrio := 7, saveBase := 0, saveBytes := 33 * 0x100000, ranges := [(8, 4)]
                        images := [(0, some { base := 0x2000000, bytes := 80, crc := 0, loaded := loaded, srcAddr := 0x3000000 })]
                        records := [⟨7, 0x66, 5, 2, 0, 0, 0, 0, 0, [], 0, 0, 0⟩], binds := [⟨8, 4, 6⟩] }
  { m with
    mem := memPut m.mem 0x3000000 sImage
    host := { m.host with deferred := [⟨2, 0x55, 0x0402, 80⟩] }
    safety := { m.safety with regions := sRegions, regionsB := sRegions } }

/-- Obligations.JobsStart: its clauses in order. -/
theorem witness_JobsStart :
    (∃ (s : State) (k : Nat) (j : Job), s.mod.host.gState = 3 ∧
    s.mod.sched.jobs.find? (fun i => i.ctx == k && i.state == .queued) = some j ∧ hasAdmitted s.mod k = false ∧
    kvBusyCtx s.mod k = false ∧ owesCommit s.mod k = false ∧ admitting s.mod = true ∧ ctxHeld s.mod k = false ∧
    findJob s.mod j.id = some j) ∧
    (∃ (s : State), s.mod.host.gState = 3 ∧ s.mod.sched.due = true ∧ dispatching s.mod = true ∧
    (s.mod.sched.jobs.map (·.id)).Nodup) ∧
    (∃ (s : State), s.mod.host.gState = 3 ∧ s.mod.sched.period ≠ s.mod.time.now / (100 * msUnit)) ∧
    (∃ (s : State) (id : Nat) (j : Job), s.mod.host.gState = 3 ∧ findJob s.mod id = some j ∧ j.granted = true ∧
    (j.state = .ready ∨ j.state = .parked) ∧ dispatching s.mod = true ∧ ctxHeld s.mod j.ctx = false ∧
    (∀ c ∈ bitsOf j.mask, (s.mod.core c).job = none ∧ coreDrained s.mod c = true ∧ coreUsable s.mod c = true ∧
    coreReady s.mod c = true)) ∧
    (∃ (m : Module) (j : Job), belowShare m j.client = true) ∧
    (∃ (m : Module) (j : Job), belowShare m j.client = false) ∧
    (∃ (m : Module) (j : Job), belowShare m j.client = true) :=
  ⟨⟨st (fun m =>  (sUp (fun j => { j with state := .queued, admitted := 0 }) {} [] m)), 5, sJob (fun j => { j with state := .queued, admitted := 0 }),
    by decide +kernel⟩,
   ⟨st (fun m => sFree (sUp (fun j => { j with state := .ready }) {} [sJob (fun j => { j with id := 10, ctx := 6, mask := 3, prio := 7, state := .ready, admitted := 2 })]
    m)), by decide +kernel⟩,
   ⟨st (fun m => { (sUp id {} [] m) with time := { m.time with now := 100 * msUnit, elapsed := 100 * msUnit } }),
    by decide +kernel⟩,
   ⟨st (fun m => sFree (sUp (fun j => { j with state := .parked, granted := true, inPlace := [1] }) { run := .parked } []
    m)), 9, sJob (fun j => { j with state := .parked, granted := true, inPlace := [1] }), by decide +kernel⟩,
   ⟨(fun m : Machine.Module => { m with sched := { m.sched with periodLen := 100 } }) (up.setClient 2 { share := 1 }), sJob
    id, by decide +kernel⟩,
   ⟨(fun m : Machine.Module => { m with sched := { m.sched with periodLen := 100 } }) (up.setClient 2 { share := 0 }), sJob
    id, by decide +kernel⟩,
   ⟨(fun m : Machine.Module => { m with sched := { m.sched with periodLen := 100 } }) (up.setClient 2 { share := 1 }), sJob
    id, by decide +kernel⟩⟩

/-- Obligations.PreemptionAndEnds: its clauses in order. -/
theorem witness_PreemptionAndEnds :
    (∃ (s : State) (id : Nat) (j : Job) (t0 : Nat), s.mod.host.gState = 3 ∧ findJob s.mod id = some j ∧ j.parkAt = some t0 ∧
     j.state = .dispatched ∧ ctxHeld s.mod j.ctx = false ∧
    (∀ p ∈ jobEngines s.mod j, stoppedFor j.forcedAt.isSome (s.mod.eng p.1 p.2) = true) ∧
    (∀ c ∈ bitsOf j.mask, (s.mod.core c).mover = [])) ∧
    (∃ (s : State) (id : Nat) (j : Job) (t0 : Nat), s.mod.host.gState = 3 ∧ findJob s.mod id = some j ∧ j.parkAt = some t0 ∧
     j.state = .dispatched ∧ t0 + (s.mod.ctx j.ctx).yieldWait * usUnit ≤ s.mod.time.elapsed ∧
    (∃ p ∈ jobEngines s.mod j, slotRun (s.mod.eng p.1 p.2) = true)) ∧
    (∃ (s : State) (c : Fin 32) (e : Fin 64) (obj : Nat) (thr : Nat) (since : Nat) (id : Nat) (j : Job) (h : Nat) (g : Job),
    s.mod.host.gState = 3 ∧ (s.mod.eng c e).hold = .sync obj thr since false ∧ (s.mod.core c).job = some id ∧
    findJob s.mod id = some j ∧ j.state = .dispatched ∧ since + 20 * usUnit ≤ s.mod.time.elapsed ∧
    holderOf s.mod j.ctx obj = some h ∧ h ≠ j.ctx ∧ (s.mod.sched.jobs.map (·.id)).Nodup ∧ admittedOf s.mod h = some g ∧
     (g.state = .ready ∨ g.state = .parked) ∧ effPrio s.mod g < effPrio s.mod j) ∧
    (∃ (s : State) (id : Nat) (j : Job), s.mod.host.gState = 3 ∧ findJob s.mod id = some j ∧ inSlice j = true ∧
    waitHeld s.mod j = false) ∧
    (∃ (s : State) (id : Nat) (j : Job), s.mod.host.gState = 3 ∧ findJob s.mod id = some j ∧ inSlice j = true ∧
    waitHeld s.mod j = true ∧ (s.mod.ctx j.ctx).inheritSlice * usUnit ≤ dispatchedTime s.mod j - j.sliceStart) ∧
    (∃ (s : State) (id : Nat) (j : Job), s.mod.host.gState = 3 ∧ findJob s.mod id = some j ∧ j.state = .dispatched ∧
    ctxHeld s.mod j.ctx = false ∧ (∀ p ∈ jobEngines s.mod j, (s.mod.eng p.1 p.2).run = .halted)) ∧
    (∃ (s : State) (id : Nat) (j : Job), s.mod.host.gState = 3 ∧ findJob s.mod id = some j ∧ j.state ≠ .queued ∧
    ctxHeld s.mod j.ctx = false ∧ j.runLimit ≠ 0 ∧ j.runLimit * usUnit ≤ dispatchedTime s.mod j) ∧
    (∃ (s : State) (id : Nat) (j : Job), s.mod.host.gState = 3 ∧ findJob s.mod id = some j ∧ j.state ≠ .queued ∧
    ctxHeld s.mod j.ctx = false ∧ ((s.mod.ctx j.ctx).hwFault ≠ 0 ∨ faultsOf s.mod j ≠ []) ∧
    (∃ p ∈ jobEngines (stopEngines j s.mod) j, atRest ((stopEngines j s.mod).eng p.1 p.2) = false)) ∧
    (∃ (s : State) (id : Nat) (j : Job) (c : Nat) (e : Nat) (f : EFault) (rest : List (Nat × Nat × EFault)), s.mod.host.gState
    = 3 ∧ findJob s.mod id = some j ∧ j.state ≠ .queued ∧ ctxHeld s.mod j.ctx = false ∧
    ((s.mod.ctx j.ctx).hwFault ≠ 0 ∨ faultsOf s.mod j ≠ []) ∧
    (∀ p ∈ jobEngines (stopEngines j s.mod) j, atRest ((stopEngines j s.mod).eng p.1 p.2) = true) ∧
    (s.mod.ctx j.ctx).hwFault = 0 ∧ (s.mod.ctx j.ctx).state = 1 ∧ faultsOf (stopEngines j s.mod) j = (c, e, f) :: rest) ∧
    (∃ (m : Module) (j : Job) (c : Nat), findJob m j.id = some j ∧ c < 32 ∧ (m.core c).job = some j.id) ∧
    (∃ (m : Module) (j : Job) (d : Deferred), findJob m j.id = some j ∧ findDeferred m 0x0404 j.id = some d) ∧
    (∃ (m : Module) (j : Job), findJob m j.id = some j) :=
  ⟨⟨st (fun m =>  (sUp (fun j => { j with parkAt := some 0 }) { run := .parked } [] m)), 9, sJob (fun j => { j with parkAt := some 0 }),
    0, by decide +kernel⟩,
   ⟨st (fun m =>  (sUp (fun j => { j with parkAt := some 0 }) { run := .issuing } [] m)), 9, sJob (fun j => { j with parkAt := some 0 }),
    0, first4 (by decide +kernel)
    ⟨by decide +kernel, ⟨(1, 3),
    by decide +kernel⟩⟩⟩,
   ⟨st (fun m =>  (sUp (fun j => { j with admitted := 1 }) { run := .issuing, hold := .sync 9 5 0 false } [sJob (fun j => { j with id := 10, ctx := 6, mask := 4, prio := 1, state := .ready })]
    m)), 1, 3, 9, 5, 0, 9, sJob (fun j => { j with admitted := 1 }), 6, sJob (fun j => { j with id := 10, ctx := 6, mask := 4, prio := 1, state := .ready }),
    by decide +kernel⟩,
   ⟨st (fun m =>  (sUp (fun j => { j with sliceFor := some (8, 9, 5), inherited := 6, waitDone := true }) {} [] m)), 9, sJob
    (fun j => { j with sliceFor := some (8, 9, 5), inherited := 6, waitDone := true }), by decide +kernel⟩,
   ⟨st (fun m =>  (sUp (fun j => { j with sliceFor := some (9, 9, 5), inherited := 6 }) {} [] m)), 9, sJob (fun j => { j with sliceFor := some (9, 9, 5), inherited := 6 }),
    by decide +kernel⟩,
   ⟨st (fun m =>  (sUp (fun j => { j with admitted := 1 }) { run := .halted } [] m)), 9, sJob (fun j => { j with admitted := 1 }),
    by decide +kernel⟩,
   ⟨st (fun m =>  (sUp (fun j => { j with state := .parked, runLimit := 30, dispatched := 30 * usUnit }) { run := .issuing }
    [] m)), 9, sJob (fun j => { j with state := .parked, runLimit := 30, dispatched := 30 * usUnit }), by decide +kernel⟩,
   ⟨st (fun m =>  (sUp (fun j => { j with admitted := 1 }) { run := .faulted, inflight := 1, fault := some { kind := 3, pc := 7 } }
    [] m)), 9, sJob (fun j => { j with admitted := 1 }), by decide +kernel⟩,
   ⟨st (fun m =>  (sUp (fun j => { j with admitted := 1 }) { run := .faulted, fault := some { kind := 3, pc := 7 } } [] m)),
    9, sJob (fun j => { j with admitted := 1 }), 1, 3, { kind := 3, pc := 7 }, [(1, 4, { kind := 3, pc := 7 })],
    by decide +kernel⟩,
   ⟨sUp id {} [] up, sJob (fun j => { j with admitted := 1 }), 1, by decide +kernel⟩,
   ⟨sUp id {} [] up, sJob (fun j => { j with admitted := 1 }), ⟨2, 0x77, 0x0404, 9⟩, by decide +kernel⟩,
   ⟨sUp id {} [] up, sJob (fun j => { j with admitted := 1 }), by decide +kernel⟩⟩

set_option maxRecDepth 100000 in
/-- Obligations.ContextCommands: its clauses in order. -/
theorem witness_ContextCommands :
    (∃ (s : State) (n : Nat) (ps : List Byte), Asked s.mod n 0x0400 ps ∧ ps.length = 32 ∧ (leAt ps 0 1) < 64 ∧
    leAt ps 1 1 ≤ 15 ∧ leAt ps 2 1 ≤ 7 ∧ zeros ((ps.drop 3).take 1) = true ∧ zeros ((ps.drop 12).take 4) = true ∧
    10 ≤ leAt ps 4 4 ∧ leAt ps 4 4 ≤ 500 ∧ 25 ≤ leAt ps 8 4 ∧ leAt ps 8 4 ≤ 10000 ∧ (leAt ps 16 8) % mib = 0 ∧
    (leAt ps 24 8) % mib = 0 ∧ (nCores s.mod + 1) * mib ≤ (leAt ps 24 8) ∧ (leAt ps 1 1 = 15 → n = 14) ∧
    (s.mod.ctx (leAt ps 0 1)).state = 0 ∧ (leAt ps 16 8) + (leAt ps 24 8) ≤ 0xE00000000 ∧
    (∀ i, i < 64 → i ≠ (leAt ps 0 1) → (s.mod.ctx i).state ≠ 0 → overlaps (leAt ps 16 8) (leAt ps 24 8) (s.mod.ctx i).saveBase
    (s.mod.ctx i).saveBytes = false) ∧ (∀ p, p < 32 → (s.mod.pool p).live = true → ∀ r ∈ poolRegions (s.mod.pool p), overlaps
    (leAt ps 16 8) (leAt ps 24 8) r.1 r.2 = false)) ∧
    (∃ (s : State) (n : Nat) (ps : List Byte), Asked s.mod n 0x0401 ps ∧ Room s.mod n ∧ ps.length = 8 ∧
    zeros ((ps.drop 1).take 7) = true ∧ (leAt ps 0 1) < 64 ∧
    ((s.mod.ctx (leAt ps 0 1)).state = 1 ∨ (s.mod.ctx (leAt ps 0 1)).state = 2) ∧ (s.mod.ctx (leAt ps 0 1)).client = n ∧
     (s.mod.ctx (leAt ps 0 1)).destroying = false ∧ (∀ p ∈ s.mod.fab.windows, p.2.ctx = (leAt ps 0 1) → p.2.state = 0)) ∧
    (∃ (s : State) (n : Nat) (ps : List Byte), Asked s.mod n 0x0401 ps ∧ Room s.mod n ∧ ps.length = 8 ∧
    zeros ((ps.drop 1).take 7) = true ∧ (leAt ps 0 1) < 64 ∧
    ((s.mod.ctx (leAt ps 0 1)).state = 1 ∨ (s.mod.ctx (leAt ps 0 1)).state = 2) ∧ (s.mod.ctx (leAt ps 0 1)).client = n ∧
     (s.mod.ctx (leAt ps 0 1)).destroying = false ∧ (∃ p ∈ s.mod.fab.windows, p.2.ctx = (leAt ps 0 1) ∧ p.2.state ≠ 0)) ∧
    (∃ (s : State) (n : Nat) (ps : List Byte), Asked s.mod n 0x0402 ps ∧ Room s.mod n ∧ ps.length = 24 ∧ (leAt ps 0 1) < 64 ∧
     (leAt ps 1 1) ≤ 15 ∧ leAt ps 16 4 % 16 = 0 ∧ zeros ((ps.drop 2).take 6) = true ∧ zeros ((ps.drop 20).take 4) = true ∧
     (s.mod.ctx (leAt ps 0 1)).client = n ∧ (s.mod.ctx (leAt ps 0 1)).state = 1 ∧
    imageOf s.mod (leAt ps 0 1) (leAt ps 1 1) = none ∧
    (leAt ps 8 8 < 0x10000000000 → asleepAt s.mod (leAt ps 8 8) (leAt ps 16 4) = false) ∧
    sourceHeld s.mod (leAt ps 0 1) (leAt ps 8 8) (leAt ps 16 4) = true) ∧
    (∃ (s : State) (k : Nat) (slot : Nat) (i : Image) (a : Nat) (ep : List Nat) (ws : List (W64 × Bool)) (d : Deferred),
    s.mod.host.gState = 3 ∧ imageOf s.mod k slot = some i ∧ i.loaded = false ∧ placeImage s.mod k i.bytes = some a ∧
     imageSource s.mod i true ep = some ws ∧ Outstanding s.mod 0x0402 (16 * k + slot) d) ∧
    (∃ (s : State) (n : Nat) (ps : List Byte), Asked s.mod n 0x0403 ps ∧ ps.length = 8 ∧ leAt ps 1 1 ≤ 15 ∧
    zeros ((ps.drop 2).take 6) = true ∧ (leAt ps 0 1) < 64 ∧ (s.mod.ctx (leAt ps 0 1)).state ≠ 0 ∧
    (s.mod.ctx (leAt ps 0 1)).client = n ∧ slotLoaded s.mod (leAt ps 0 1) (leAt ps 1 1) = true ∧
    slotNamed s.mod (leAt ps 0 1) (leAt ps 1 1) = false) ∧
    (∃ (s : State) (n : Nat) (ps : List Byte), Asked s.mod n 0x0406 ps ∧ ps.length = 8 ∧ zeros ((ps.drop 1).take 7) = true ∧
     (leAt ps 0 1) < 64 ∧ (s.mod.ctx (leAt ps 0 1)).state ≠ 0 ∧ (s.mod.ctx (leAt ps 0 1)).client = n) :=
  ⟨⟨cmd 2 0x0400 (pk [(1, 63), (1, 14), (1, 7), (1, 0), (4, 10), (4, 10000), (4, 0), (8, 0x100000), (8, 33 * 0x100000)]) id,
    2, pk [(1, 63), (1, 14), (1, 7), (1, 0), (4, 10), (4, 10000), (4, 0), (8, 0x100000), (8, 33 * 0x100000)],
    by decide +kernel⟩,
   ⟨cmd 2 0x0401 (5 :: zs 7) (sUp id {} []), 2, 5 :: zs 7, by decide +kernel⟩,
   ⟨cmd 2 0x0401 (5 :: zs 7) (fun m => (sUp id {} [] m).setWindow 7 { state := 1, ctx := 5 }), 2, 5 :: zs 7,
    by decide +kernel⟩,
   ⟨cmd 2 0x0402 (pk [(1, 5), (1, 15), (6, 0), (8, 0x3000008), (4, 80), (4, 0)]) (sLoad true), 2, pk [(1, 5), (1, 15), (6,
    0), (8, 0x3000008), (4, 80), (4, 0)], by decide +kernel⟩,
   ⟨st (sLoad false), 5, 0, { base := 0x2000000, bytes := 80, crc := 0, loaded := false, srcAddr := 0x3000000 }, 0x2000000,
    [], readAny (sLoad false up).mem 0x3000000 10, ⟨2, 0x55, 0x0402, 80⟩, by decide +kernel⟩,
   ⟨cmd 2 0x0403 (5 :: 0 :: zs 6) (sLoad true), 2, 5 :: 0 :: zs 6, by decide +kernel⟩,
   ⟨cmd 2 0x0406 (5 :: zs 7) (sLoad true), 2, 5 :: zs 7, by decide +kernel⟩⟩

/-- Obligations.JobCommands: its clauses in order. -/
theorem witness_JobCommands :
    (∃ (s : State) (n : Nat) (ps : List Byte), Asked s.mod n 0x0404 ps ∧ ps.length = 80 ∧ zeros ((ps.drop 2).take 2) = true ∧
     zeros ((ps.drop 12).take 4) = true ∧ jobBad ps s.mod = false ∧ (s.mod.ctx (leAt ps 0 1)).state = 1 ∧
    (s.mod.ctx (leAt ps 0 1)).client = n ∧ (∀ c ∈ (bitsOf (BitVec.ofNat 32 (leAt ps 4 4))), slotLoaded s.mod (leAt ps 0 1)
    (leAt ps (48 + c) 1) = true) ∧ (∀ c ∈ (bitsOf (BitVec.ofNat 32 (leAt ps 4 4))), coreRefused s.mod c = false) ∧
    outstanding s.mod n < (s.mod.client n).qb ∧ Room s.mod n) ∧
    (∃ (s : State) (n : Nat) (ps : List Byte), Asked s.mod n 0x0404 ps ∧ ps.length = 80 ∧ zeros ((ps.drop 2).take 2) = true ∧
     zeros ((ps.drop 12).take 4) = true ∧ jobBad ps s.mod = false ∧ (s.mod.ctx (leAt ps 0 1)).state = 1 ∧
    (s.mod.ctx (leAt ps 0 1)).client = n ∧ (∀ c ∈ (bitsOf (BitVec.ofNat 32 (leAt ps 4 4))), slotLoaded s.mod (leAt ps 0 1)
    (leAt ps (48 + c) 1) = true) ∧ (∀ c ∈ (bitsOf (BitVec.ofNat 32 (leAt ps 4 4))), coreRefused s.mod c = false) ∧
     ((s.mod.client n).qb ≤ outstanding s.mod n ∨ ¬ Room s.mod n)) ∧
    (∃ (s : State) (n : Nat) (ps : List Byte) (j : Job), Asked s.mod n 0x0405 ps ∧ ps.length = 8 ∧ (leAt ps 0 1) < 64 ∧
    leAt ps 1 1 ≤ 1 ∧ (s.mod.ctx (leAt ps 0 1)).state ≠ 0 ∧ (s.mod.ctx (leAt ps 0 1)).client = n ∧
    abortTarget ps s.mod = some j) ∧
    (∃ (s : State) (n : Nat) (ps : List Byte) (r : JobRecord), Asked s.mod n 0x0405 ps ∧ ps.length = 8 ∧ (leAt ps 0 1) < 64 ∧
     leAt ps 1 1 ≤ 1 ∧ (s.mod.ctx (leAt ps 0 1)).state ≠ 0 ∧ (s.mod.ctx (leAt ps 0 1)).client = n ∧
    abortTarget ps s.mod = none ∧ abortRecord ps s.mod = some r) ∧
    (∃ (s : State) (n : Nat) (ps : List Byte), Asked s.mod n 0x0407 ps ∧ ps.length = 8 ∧ (leAt ps 0 1) < 15 ∧
    (leAt ps 1 1) ≤ 3 ∧ zeros ((ps.drop 6).take 2) = true ∧ ((leAt ps 1 1) % 2 = 1 → 1 ≤ leAt ps 2 2 ∧ leAt ps 2 2 ≤ 64 ∧
    (n = 14 ∨ (leAt ps 0 1) = n)) ∧ ((leAt ps 1 1) / 2 = 1 → leAt ps 4 2 ≤ 800 ∧ n = 14 ∧
    shareSum s.mod (leAt ps 0 1) (leAt ps 4 2) ≤ 800)) ∧
    (∃ (s : State) (n : Nat) (ps : List Byte), Asked s.mod n 0x0408 ps ∧ ps.length = 8 ∧ (leAt ps 0 1) < 15 ∧
    leAt ps 1 1 ≤ 1 ∧ zeros ((ps.drop 2).take 6) = true ∧ (n = 14 ∨ (leAt ps 0 1) = n)) ∧
    (∃ (s : State) (n : Nat) (ps : List Byte), Asked s.mod n 0x0409 ps ∧ ps.length = 8 ∧ (leAt ps 0 1) < 64 ∧
    (leAt ps 4 4) + (leAt ps 2 2) ≤ 65536 ∧ rangeOwned s.mod (leAt ps 0 1) (leAt ps 4 4) (leAt ps 2 2) = true ∧
    (s.mod.ctx (leAt ps 0 1)).state ≠ 0 ∧ (s.mod.ctx (leAt ps 0 1)).client = n ∧ (leAt ps 1 1) < 64 ∧
    (s.mod.ctx (leAt ps 1 1)).state ≠ 0 ∧ (s.mod.ctx (leAt ps 1 1)).client = n ∧ (s.mod.ctx (leAt ps 0 1)).binds.length < 16) ∧
    (∃ (s : State) (n : Nat) (ps : List Byte), Asked s.mod n 0x0409 ps ∧ ps.length = 8 ∧ (leAt ps 0 1) < 64 ∧
    (leAt ps 4 4) + (leAt ps 2 2) ≤ 65536 ∧ rangeOwned s.mod (leAt ps 0 1) (leAt ps 4 4) (leAt ps 2 2) = true ∧
    (s.mod.ctx (leAt ps 0 1)).state ≠ 0 ∧ (s.mod.ctx (leAt ps 0 1)).client = n ∧ (leAt ps 1 1) = 0xFF ∧
    hasBind s.mod (leAt ps 0 1) (leAt ps 4 4) (leAt ps 2 2) = true) :=
  ⟨⟨cmd 2 0x0404 (pk [(1, 5), (1, 7), (2, 0), (4, 0x80000000), (4, 10000000), (4, 0)] ++ zs 64) (sLoad true), 2, pk [(1, 5),
    (1, 7), (2, 0), (4, 0x80000000), (4, 10000000), (4, 0)] ++ zs 64, by decide +kernel⟩,
   ⟨cmd 2 0x0404 (pk [(1, 5), (1, 7), (2, 0), (4, 0x80000000), (4, 10000000), (4, 0)] ++ zs 64) (fun m => (sLoad true
    m).setClient 2 { qb := 0 }), 2, pk [(1, 5), (1, 7), (2, 0), (4, 0x80000000), (4, 10000000), (4, 0)] ++ zs 64,
    by decide +kernel⟩,
   ⟨cmd 2 0x0405 (pk [(1, 5), (1, 0), (2, 0x77), (4, 0)]) (fun m => { (sLoad true m) with sched := { (sLoad true m).sched with jobs := [sJob id] } }),
    2, pk [(1, 5), (1, 0), (2, 0x77), (4, 0)], sJob id, by decide +kernel⟩,
   ⟨cmd 2 0x0405 (pk [(1, 5), (1, 1), (2, 0), (4, 7)]) (fun m => { (sLoad true m) with sched := { (sLoad true m).sched with jobs := [sJob id] } }),
    2, pk [(1, 5), (1, 1), (2, 0), (4, 7)], ⟨7, 0x66, 5, 2, 0, 0, 0, 0, 0, [], 0, 0, 0⟩, by decide +kernel⟩,
   ⟨cmd 14 0x0407 (pk [(1, 14), (1, 3), (2, 64), (2, 800), (2, 0)]) id, 14, pk [(1, 14), (1, 3), (2, 64), (2, 800), (2, 0)],
    by decide +kernel⟩,
   ⟨cmd 14 0x0408 (pk [(1, 2), (1, 1), (6, 0)]) (fun m => { (sLoad true m) with sched := { (sLoad true m).sched with jobs := [sJob id] } }),
    14, pk [(1, 2), (1, 1), (6, 0)], by decide +kernel⟩,
   ⟨cmd 2 0x0409 (pk [(1, 5), (1, 5), (2, 2), (4, 9)]) (sLoad true), 2, pk [(1, 5), (1, 5), (2, 2), (4, 9)],
    by decide +kernel⟩,
   ⟨cmd 2 0x0409 (pk [(1, 5), (1, 0xFF), (2, 4), (4, 8)]) (sLoad true), 2, pk [(1, 5), (1, 0xFF), (2, 4), (4, 8)],
    by decide +kernel⟩⟩

end Sys2Proof.Tests
end

