-- ==== Sys2Proof/Tests/WitnessStreams.lean ====
section
/-!
SUPPORT. Witnesses: for every statement that has hypotheses, concrete states and operands that meet them together, clause by clause.
-/

namespace Sys2Proof.Tests

set_option Elab.async false

open Sys2Proof Sys2Proof.Machine

/-- Queue 9 between stream 2 and context 5, and stream 2 RUNNING on port 1. -/
def iStream (f : Stream → Stream) (m : Machine.Module) : Machine.Module :=
  let m := ctxUp 5 2 m
  (m.setQueue 9 { state := 1, auto := true, log2 := 12, owner := 5, prodKind := 1, prodId := 2, consId := 5 }).setStream 2 (f
    { state := 2, cfg := { port := 1, vc := 15, dtype := 0x2A, wIn := 16, hIn := 16, outW := 8, outH := 8, queue := 9, batch := 1
                           frameUs := 100, lowWater := 1, missMax := 2, refAge := 1, rangeX := 1 } })

/-- Context 5 reads and writes 64 KiB of DDR4. -/
def iRegions : Tab Region := [(0, { base := 0, pages := 16, cloche := 2, ctx := 5, rights := 7 })]

/-- A policy binding: queue 9 belongs to Trellis. -/
def tQueue (head : List SqWord) (n : Nat) (m : Machine.Module) : Machine.Module :=
  let m := ctxUp 5 2 m
  let m := m.setQueue 9 { state := 1, auto := true, log2 := 12, owner := 5, prodId := 5, consKind := 2, head := head
                          main := ⟨n, 0, 0, 0⟩, shadow := ⟨n, 0, 0, 0⟩ }
  { m with trl := { m.trl with policyQ := some 9 } }

/-- Loop 2 of client 2: one stage on signal 4, every 100 µs. -/
def tLoop (f : Loop → Loop) (m : Machine.Module) : Machine.Module :=
  m.setLoop 2 (f { client := some 2, cfg := { stages := 1, periodUs := 100, launchUs := 20, measMiss := 3, rcLen := 8
                                              stage := [{ meas := 4, kp := 0x3F800000, umax := 0x3F800000 }] } })

/-- A tick at which loop 2 is due, 100 µs of network time; signal 4 is fresh there. -/
def tSnap (v : W32) : Snapshot := { us := 100, signals := [(4, ⟨v, 5⟩)], due := [2] }

/-- Obligations.FramesAndStreams: its clauses in order. -/
theorem witness_FramesAndStreams :
    (∃ (s : State) (i : Nat), (s.mod.stream i).state = 2 ∧ (s.mod.stream i).frame = none ∧ (s.mod.stream i).stopping = false) ∧
    (∃ (s : State) (i : Nat) (f : Frame), (s.mod.stream i).state = 2 ∧ (s.mod.stream i).frame = some f ∧
    f.startAt + (s.mod.stream i).cfg.frameUs * 3 * usUnit / 2 ≤ s.mod.time.elapsed) ∧
    (∃ (s : State) (i : Nat) (f : Frame), (s.mod.stream i).state = 2 ∧ (s.mod.stream i).frame = some f) ∧
    (∃ (m : Module) (i : Nat) (f : Frame), (m.stream i).frame = some f) ∧
    (∃ (s : State) (i : Nat) (d : Nat), (s.mod.stream i).state = 2 ∧ (s.mod.stream i).stopping = false ∧
    (s.mod.stream i).stalled = false ∧ (s.mod.stream i).deadline = some d ∧ d ≤ s.mod.time.elapsed ∧
    1 ≤ (s.mod.stream i).cfg.missMax ∧ (s.mod.stream i).frame = none ∧
    ((missingSample i s.mod).stream i).cfg.missMax ≤ ((missingSample i s.mod).stream i).missing) ∧
    (∃ (s : State) (i : Nat) (d : Nat), (s.mod.stream i).state = 2 ∧ (s.mod.stream i).stopping = false ∧
    (s.mod.stream i).stalled = false ∧ (s.mod.stream i).deadline = some d ∧ d ≤ s.mod.time.elapsed ∧
    1 ≤ (s.mod.stream i).cfg.missMax ∧ (s.mod.stream i).frame = none ∧
    ((missingSample i s.mod).stream i).missing < ((missingSample i s.mod).stream i).cfg.missMax) ∧
    (∃ (m : Module) (i : Nat), sampleWords i (m.stream i).cfg + (m.stream i).remainder.length ≤ freeCount (m.queue (m.stream
    i).cfg.queue)) ∧
    (∃ (s : State) (i : Nat), (s.mod.stream i).state = 2 ∧ (s.mod.stream i).lowAt + 10 * usUnit ≤ s.mod.time.elapsed ∧
    ({ (s.mod.stream i) with lowAt := s.mod.time.elapsed }).cfg.lowWater = 0) ∧
    (∃ (s : State) (i : Nat), (s.mod.stream i).state = 2 ∧ (s.mod.stream i).lowAt + 10 * usUnit ≤ s.mod.time.elapsed ∧
    ({ (s.mod.stream i) with lowAt := s.mod.time.elapsed }).cfg.lowWater ≠ 0 ∧
    ({ (s.mod.stream i) with lowAt := s.mod.time.elapsed }).cfg.lowWater ≤ (occupancy (s.mod.queue ({ (s.mod.stream i) with lowAt := s.mod.time.elapsed }).cfg.queue)
    / (sampleWords i ({ (s.mod.stream i) with lowAt := s.mod.time.elapsed }).cfg * ({ (s.mod.stream i) with lowAt := s.mod.time.elapsed }).cfg.batch))) ∧
    (∃ (s : State) (i : Nat), (s.mod.stream i).state = 2 ∧ (s.mod.stream i).lowAt + 10 * usUnit ≤ s.mod.time.elapsed ∧
    ({ (s.mod.stream i) with lowAt := s.mod.time.elapsed }).cfg.lowWater ≠ 0 ∧
    (occupancy (s.mod.queue ({ (s.mod.stream i) with lowAt := s.mod.time.elapsed }).cfg.queue) / (sampleWords i ({ (s.mod.stream i) with lowAt := s.mod.time.elapsed }).cfg
    * ({ (s.mod.stream i) with lowAt := s.mod.time.elapsed }).cfg.batch)) < ({ (s.mod.stream i) with lowAt := s.mod.time.elapsed }).cfg.lowWater
    ∧ ({ (s.mod.stream i) with lowAt := s.mod.time.elapsed }).armed = true) ∧
    (∃ (s : State) (i : Nat), (s.mod.stream i).state = 2 ∧ (s.mod.stream i).lowAt + 10 * usUnit ≤ s.mod.time.elapsed ∧
    ({ (s.mod.stream i) with lowAt := s.mod.time.elapsed }).cfg.lowWater ≠ 0 ∧
    (occupancy (s.mod.queue ({ (s.mod.stream i) with lowAt := s.mod.time.elapsed }).cfg.queue) / (sampleWords i ({ (s.mod.stream i) with lowAt := s.mod.time.elapsed }).cfg
    * ({ (s.mod.stream i) with lowAt := s.mod.time.elapsed }).cfg.batch)) < ({ (s.mod.stream i) with lowAt := s.mod.time.elapsed }).cfg.lowWater
    ∧ ({ (s.mod.stream i) with lowAt := s.mod.time.elapsed }).armed = false) ∧
    (∃ (s : State) (i : Nat), (s.mod.stream i).remainder ≠ [] ∧ (s.mod.queue (s.mod.stream i).cfg.queue).state ≠ 2) ∧
    (∃ (s : State) (i : Nat) (d : Deferred), (s.mod.stream i).state = 2 ∧ (s.mod.stream i).stopping = true ∧
    (s.mod.stream i).remainder = [] ∧ (∀ f, (s.mod.stream i).frame = some f → f.admitted = false) ∧
    Outstanding s.mod 0x0704 i d) :=
  ⟨⟨st (iStream (fun v => { v with stalled := true })), 2, by decide +kernel⟩,
   ⟨st (fun m => (fun m => { m with time := { m.time with elapsed := 1000000 * 2 ^ 64 } }) (iStream (fun v => { v with frame := some ⟨7, true, [none], [], 0⟩ })
    m)), 2, ⟨7, true, [none], [], 0⟩, by decide +kernel⟩,
   ⟨st (iStream (fun v => { v with frame := some ⟨7, true, [none], [], 0⟩ })), 2, ⟨7, true, [none], [], 0⟩,
    by decide +kernel⟩,
   ⟨iStream (fun v => { v with frame := some ⟨7, true, [none], [], 0⟩ }) up, 2, ⟨7, true, [none], [], 0⟩, by decide +kernel⟩,
   ⟨st (fun m => (fun m => { m with time := { m.time with elapsed := 1000000 * 2 ^ 64 } }) (iStream (fun v => { v with missing := 2, deadline := some 5 })
    m)), 2, 5, by decide +kernel⟩,
   ⟨st (fun m => (fun m => { m with time := { m.time with elapsed := 1000000 * 2 ^ 64 } }) (iStream (fun v => { v with missing := 0, deadline := some 5 })
    m)), 2, 5, by decide +kernel⟩,
   ⟨iStream id up, 2, by decide +kernel⟩,
   ⟨st (fun m => (fun m => { m with time := { m.time with elapsed := 1000000 * 2 ^ 64 } }) (iStream (fun v => { v with cfg := { v.cfg with lowWater := 0 } })
    m)), 2, by decide +kernel⟩,
   ⟨st (fun m => let m := iStream id ((fun m => { m with time := { m.time with elapsed := 1000000 * 2 ^ 64 } }) m);
    m.setQueue 9 { (m.queue 9) with main := ⟨19, 0, 0, 0⟩, shadow := ⟨19, 0, 0, 0⟩ }), 2, by decide +kernel⟩,
   ⟨st (fun m => (fun m => { m with time := { m.time with elapsed := 1000000 * 2 ^ 64 } }) (iStream (fun v => { v with armed := true })
    m)), 2, by decide +kernel⟩,
   ⟨st (fun m => (fun m => { m with time := { m.time with elapsed := 1000000 * 2 ^ 64 } }) (iStream (fun v => { v with armed := false })
    m)), 2, by decide +kernel⟩,
   ⟨st (iStream (fun v => { v with remainder := [⟨5, 0x31, false⟩] })), 2, by decide +kernel⟩,
   ⟨st (fun m => let m := iStream (fun v => { v with stopping := true }) m; { m with host := { m.host with deferred := [⟨2, 0x55, 0x0704, 2⟩] } }),
    2, ⟨2, 0x55, 0x0704, 2⟩, by decide +kernel, by decide +kernel, by decide +kernel, (fun _ h => nomatch h),
    by decide +kernel⟩⟩

/-- Obligations.IntakeCommands: its clauses in order. -/
theorem witness_IntakeCommands :
    (∃ (s : State) (n : Nat) (ps : List Byte), Asked s.mod n 0x0700 ps ∧ ps.length = 8 ∧ (leAt ps 0 1) ≤ 3 ∧
    phyBad (leAt ps 1 1) (leAt ps 2 1) (leAt ps 4 4) = false ∧ zeros ((ps.drop 3).take 1) = true ∧
    (∀ i, i < 16 → ¬ ((s.mod.stream i).state = 2 ∧ (s.mod.stream i).cfg.port = (leAt ps 0 1)))) ∧
    (∃ (s : State) (n : Nat) (ps : List Byte), Asked s.mod n 0x0701 ps ∧ ps.length = 48 ∧
    streamBad (leAt ps 0 1) ps (streamCfgOf ps) = false ∧
    ((streamCfgOf ps).mode = 2 → (s.mod.stream (leAt ps 0 1)).lut ≠ none) ∧
    sampleWords (leAt ps 0 1) (streamCfgOf ps) ≤ capacity (s.mod.queue (streamCfgOf ps).queue) ∧
    streamForeign s.mod n (leAt ps 0 1) = false ∧ foreign s.mod n (s.mod.queue (streamCfgOf ps).queue).owner = false ∧
     (s.mod.stream (leAt ps 0 1)).state ≠ 2 ∧ (s.mod.queue (streamCfgOf ps).queue).state ≠ 0 ∧
    (s.mod.queue (streamCfgOf ps).queue).prodKind = 1 ∧ (s.mod.queue (streamCfgOf ps).queue).prodId = (leAt ps 0 1) ∧
    (∀ j, j < 16 → j ≠ (leAt ps 0 1) → (s.mod.stream j).state ≠ 0 → ¬ ((s.mod.stream j).cfg.port = (streamCfgOf ps).port ∧
     (s.mod.stream j).cfg.vc = (streamCfgOf ps).vc ∧ (s.mod.stream j).cfg.dtype = (streamCfgOf ps).dtype)) ∧
    ((streamCfgOf ps).conceal = 2 → regionHeld s.mod (s.mod.queue (streamCfgOf ps).queue).owner (streamCfgOf ps).refBase
    ((streamCfgOf ps).wIn * (streamCfgOf ps).hIn * channelsOf (leAt ps 0 1) (streamCfgOf ps)) = true) ∧
    ((streamCfgOf ps).format = 5 → jpegLoad (streamCfgOf ps) + decoderLoad s.mod (leAt ps 0 1) (decoderFor s.mod (leAt ps 0
    1)) ≤ 500)) ∧
    (∃ (s : State) (n : Nat) (ps : List Byte), Asked s.mod n 0x0702 ps ∧ ps.length = 136 ∧ zeros ((ps.drop 1).take 7) = true ∧
     (leAt ps 0 1) < 16 ∧ streamForeign s.mod n (leAt ps 0 1) = false ∧ (s.mod.stream (leAt ps 0 1)).state ≠ 2) ∧
    (∃ (s : State) (n : Nat) (ps : List Byte), Asked s.mod n 0x0703 ps ∧ ps.length = 32 ∧ zeros ((ps.drop 1).take 7) = true ∧
     (leAt ps 0 1) < 16 ∧ streamForeign s.mod n (leAt ps 0 1) = false ∧ (s.mod.stream (leAt ps 0 1)).state = 1 ∧
    (s.mod.rxPort (s.mod.stream (leAt ps 0 1)).cfg.port).live = true ∧ s.mod.power.entry = none) ∧
    (∃ (s : State) (n : Nat) (ps : List Byte), Asked s.mod n 0x0704 ps ∧ Room s.mod n ∧ ps.length = 8 ∧
    zeros ((ps.drop 1).take 7) = true ∧ (leAt ps 0 1) < 16 ∧ streamForeign s.mod n (leAt ps 0 1) = false ∧
    (s.mod.stream (leAt ps 0 1)).state = 2 ∧ (s.mod.stream (leAt ps 0 1)).stopping = false) ∧
    (∃ (s : State) (n : Nat) (ps : List Byte), Asked s.mod n 0x0705 ps ∧ ps.length = 8 ∧ leAt ps 1 1 ≤ 1 ∧
    zeros ((ps.drop 2).take 6) = true ∧ (leAt ps 0 1) < 16 ∧ streamForeign s.mod n (leAt ps 0 1) = false) :=
  ⟨⟨cmd 2 0x0700 (pk [(1, 3), (1, 1), (1, 3), (1, 0), (4, 6000)]) id, 2, pk [(1, 3), (1, 1), (1, 3), (1, 0), (4, 6000)],
    by decide +kernel⟩,
   ⟨cmd 2 0x0701 (pk [(1, 2), (1, 1), (1, 15), (1, 0x2A), (1, 0), (1, 0), (1, 2), (1, 7), (2, 16), (2, 16), (2, 8), (2, 8),
    (2, 0), (2, 0), (2, 8), (2, 8), (2, 31), (1, 127), (1, 1), (2, 9), (2, 1024), (4, 100), (2, 1), (1, 15), (1, 0), (8, 0)])
    (fun m => let m := iStream (fun v => { v with state := 1 }) m; { m with rx := [(1, { live := true })], safety := { m.safety with regions := iRegions, regionsB := iRegions } }),
    2, pk [(1, 2), (1, 1), (1, 15), (1, 0x2A), (1, 0), (1, 0), (1, 2), (1, 7), (2, 16), (2, 16), (2, 8), (2, 8), (2, 0), (2,
    0), (2, 8), (2, 8), (2, 31), (1, 127), (1, 1), (2, 9), (2, 1024), (4, 100), (2, 1), (1, 15), (1, 0), (8, 0)],
    by decide +kernel⟩,
   ⟨cmd 2 0x0702 (2 :: zs 7 ++ List.replicate 128 5) (fun m => let m := iStream (fun v => { v with state := 1 }) m; { m with rx := [(1, { live := true })], safety := { m.safety with regions := iRegions, regionsB := iRegions } }),
    2, 2 :: zs 7 ++ List.replicate 128 5, by decide +kernel⟩,
   ⟨cmd 2 0x0703 (pk [(8, 2), (8, 7), (8, 8), (8, 9)]) (fun m => let m := iStream (fun v => { v with state := 1 }) m; { m with rx := [(1, { live := true })], safety := { m.safety with regions := iRegions, regionsB := iRegions } }),
    2, pk [(8, 2), (8, 7), (8, 8), (8, 9)], by decide +kernel⟩,
   ⟨cmd 2 0x0704 (2 :: zs 7) (iStream id), 2, 2 :: zs 7, by decide +kernel⟩,
   ⟨cmd 2 0x0705 (pk [(1, 2), (1, 1), (6, 0)]) (iStream id), 2, pk [(1, 2), (1, 1), (6, 0)], by decide +kernel⟩⟩

/-- Obligations.ControlLoops: its clauses in order. -/
theorem witness_ControlLoops :
    (∃ (s : State) (q : Nat) (d : SqWord) (ds : List SqWord), s.mod.trl.policyQ = some q ∧ domOn s.mod 38 = true ∧
    domOn s.mod 40 = true ∧ (s.mod.queue q).state = 1 ∧ (s.mod.queue q).consKind = 2 ∧ (s.mod.queue q).consId = 0 ∧
    0 < occupancy (s.mod.queue q) ∧ (s.mod.queue q).head = d :: ds) ∧
    (∃ (m : Module) (w : SqWord) (i : Nat), w.tag.getLsbD 5 = true ∧ w.tag.getLsbD 4 = true ∧ w.tag.getLsbD 6 = false ∧
     w.tag.toNat % 16 < 8 ∧ m.trl.packet = none ∧ i ≠ 64 * (w.tag.toNat % 16) ∧ i ≠ 64 * (w.tag.toNat % 16) + 1) ∧
    (∃ (m : Module) (w : SqWord), w.tag.getLsbD 5 = true ∧ w.tag.getLsbD 4 = true ∧ w.tag.getLsbD 6 = false ∧
    w.tag.toNat % 16 < 8 ∧ m.trl.packet = none) ∧
    (∃ (m : Module) (w : SqWord) (p : OpenPacket), m.trl.packet = some p ∧ w.tag.getLsbD 5 = false ∧ w.tag.getLsbD 4 = true ∧
     (p.bad = true ∨ w.tag.getLsbD 6 = true ∨ w.tag.toNat % 16 ≠ p.kind ∨ 8 ≤ w.tag.toNat % 16 ∨ 32 ≤ p.words.length)) ∧
    (∃ (m : Module) (w : SqWord), m.trl.packet = none ∧ w.tag.getLsbD 5 = false) ∧
    (∃ (m : Module) (w : SqWord) (p : OpenPacket), m.trl.packet = some p ∧ w.tag.getLsbD 5 = true ∧ w.tag.getLsbD 4 = false) ∧
    (∃ (s : State), allOff s.mod = false ∧ s.mod.trl.lastUs < nowUs s.mod) ∧
    (∃ (s : State) (i : Nat) (k : Nat) (sn : Snapshot) (x : Snapshot) (j : Nat), nextDue s.mod = some (i, k) ∧
     s.mod.trl.snaps[k]? = some sn ∧ x ∈ s.mod.trl.snaps ∧ j ∈ x.due) ∧
    (∃ (s : State) (i : Nat) (k : Nat) (sn : Snapshot), nextDue s.mod = some (i, k) ∧ s.mod.trl.snaps[k]? = some sn) ∧
    (∃ (m : Module) (i : Nat) (sn : Snapshot), (m.loop i).state = .armed ∧ measFresh (m.loop i) sn = false ∧
    (m.loop i).missCnt + 1 < (m.loop i).cfg.measMiss) ∧
    (∃ (m : Module) (i : Nat) (sn : Snapshot), ((stagesFrom (if (m.loop i).first then { (m.loop i) with holdVal := some (measOf (m.loop i) sn 0).val }
    else (m.loop i)) sn (m.loop i).cfg.stages 0 (if (m.loop i).state = .ramp then (rampOf (if (m.loop i).first then { (m.loop i) with holdVal := some (measOf (m.loop i) sn 0).val }
    else (m.loop i)) sn).1 else refOf (if (m.loop i).first then { (m.loop i) with holdVal := some (measOf (m.loop i) sn 0).val }
    else (m.loop i)) sn)).2 = false)) ∧
    (∃ (m : Module) (i : Nat) (sn : Snapshot) (outs : List StageOut), (m.loop i).state = .run ∧
    ((m.loop i).cfg).flags.getLsbD 3 = false ∧ 1 ≤ ((m.loop i).cfg).stages ∧ outs.length = ((m.loop i).cfg).stages ∧
    (∀ s o, outs[s]? = some o → let g := ((m.loop i).cfg).stage.getD s {}; let st := (m.loop i).stage.getD s {}; o.r = (if s =
    0 then (if ((m.loop i).cfg).refIndex = 0xFFFF then ((m.loop i).cfg).refConst else if (m.loop i).startAt + 1 < sn.banks.get
    0 (((m.loop i).cfg).refIndex / 64) then sn.policy.get 0 ((m.loop i).cfg).refIndex else (if (m.loop i).first then
    (sn.signals.get {} (((m.loop i).cfg).stage.getD 0 {}).meas).val else (m.loop i).holdVal.getD (sn.signals.get {} (((m.loop
    i).cfg).stage.getD 0 {}).meas).val)) else ((outs[s - 1]?).map (·.u)).getD 0) ∧ o.y = (sn.signals.get {} g.meas).val ∧
    o.e = flSub o.r o.y ∧ o.i = (if (st.sat = 1 ∧ flLt 0 o.e = true) ∨ (st.sat = -1 ∧
    flLt o.e 0 = true) then st.i else flMin (flMax (flAdd st.i (flMul g.kit o.e)) g.imin) g.imax) ∧ o.p = flMul g.kp o.e ∧
    o.d = (if (m.loop i).first then 0 else flMul g.kdt (flSub st.yprev o.y)) ∧
    o.f = (if g.ffIndex = 0xFFFF then 0 else flMul g.kff (sn.policy.get 0 g.ffIndex)) ∧
    o.c = (if s = ((m.loop i).cfg).rcStage then (m.loop i).table.get 0 ((((sn.us - ((m.loop i).cfg).phaseUs) / ((m.loop
    i).cfg).periodUs) + ((m.loop i).cfg).rcLead) % ((m.loop i).cfg).rcLen) else 0) ∧
    o.v = flAdd (flAdd (flAdd (flAdd o.p o.i) o.d) o.f) o.c ∧ isNan o.v = false ∧
    o.sat = (if flLt g.umax o.v then 1 else if flLt o.v g.umin then -1 else 0) ∧ o.u = flMin (flMax o.v g.umin) g.umax)) :=
  ⟨⟨st (tQueue [⟨0x3F80000040000000, 0xB7, false⟩] 1), 9, ⟨0x3F80000040000000, 0xB7, false⟩, [], by decide +kernel⟩,
   ⟨up, ⟨0x3F80000040000000, 0xB7, false⟩, 450, by decide +kernel⟩,
   ⟨up, ⟨0x3F80000040000000, 0xB7, false⟩, by decide +kernel⟩,
   ⟨{ up with trl := { up.trl with packet := some ⟨1, [5], false⟩ } }, ⟨1, 0x18, false⟩, ⟨1, [5], false⟩, by decide +kernel⟩,
   ⟨up, ⟨1, 0x18, false⟩, by decide +kernel⟩,
   ⟨{ up with trl := { up.trl with packet := some ⟨1, [5], false⟩ } }, ⟨1, 0x23, false⟩, ⟨1, [5], false⟩, by decide +kernel⟩,
   ⟨st (fun m => (fun m => { m with time := { m.time with elapsed := 100000 * 2 ^ 64, now := 100000 * 2 ^ 64 } }) (tLoop (fun
    l => { l with state := .armed }) { m with trl := { m.trl with lastUs := 99 } })), by decide +kernel⟩,
   ⟨st (fun m => tLoop (fun l => { l with state := .armed }) { m with trl := { m.trl with snaps := [{ us := 90, due := [] }, tSnap 0] } }),
    2, 1, tSnap 0, tSnap 0, 2, by decide +kernel⟩,
   ⟨st (fun m => tLoop (fun l => { l with state := .armed }) { m with trl := { m.trl with snaps := [tSnap 0] } }), 2, 0,
    tSnap 0, by decide +kernel⟩,
   ⟨tLoop (fun l => { l with state := .armed, missCnt := 1, prevAt := 5 }) up, 2, tSnap 0, by decide +kernel⟩,
   ⟨tLoop (fun l => { l with state := .run, first := false }) up, 2, tSnap 0x7FC00000, by decide +kernel⟩,
   ⟨tLoop (fun l => { l with state := .run, first := false, holdVal := some 0x3F800000 }) up, 2, tSnap 0x3F000000,
    [⟨0x3F800000, 0x3F000000, 0x3F000000, 0, 0x3F000000, 0x80000000, 0, 0, 0x3F000000, 0, 0x3F000000⟩], by decide +kernel,
    by decide +kernel, by decide +kernel, by decide +kernel,
    by (intro s o h; rcases s with _ | s <;> simp at h; subst h; decide +kernel)⟩⟩

/-- Obligations.TrellisCommands: its clauses in order. -/
theorem witness_TrellisCommands :
    (∃ (s : State) (n : Nat) (ps : List Byte), Asked s.mod n 0x0800 ps ∧ ps.length = 8 ∧ leAt ps 0 2 < 512 ∧
    (leAt ps 2 2 < 512 ∨ leAt ps 2 2 = 0xFFFF) ∧ zeros ((ps.drop 4).take 4) = true ∧ allOff s.mod = true ∧
    (s.mod.queue (leAt ps 0 2)).state ≠ 0 ∧ (s.mod.queue (leAt ps 0 2)).auto = true ∧
    (s.mod.queue (leAt ps 0 2)).consKind = 2 ∧ (s.mod.queue (leAt ps 0 2)).consId = 0 ∧
    (leAt ps 2 2 ≠ 0xFFFF → (s.mod.queue (leAt ps 2 2)).state ≠ 0 ∧ (s.mod.queue (leAt ps 2 2)).prodKind = 2)) ∧
    (∃ (s : State) (n : Nat) (ps : List Byte), Asked s.mod n 0x0801 ps ∧ ps.length = 16 ∧ (leAt ps 0 1) ≤ 127 ∧
    leAt ps 1 1 ≤ 1 ∧ (inMapOf ps).controller ≤ 3 ∧ (inMapOf ps).object ≤ 127 ∧ (inMapOf ps).byte ≤ 60 ∧
    (inMapOf ps).format ≤ 3 ∧ (inMapOf ps).signal ≤ 255 ∧ (inMapOf ps).byte + mapBytes (inMapOf ps).format ≤ 64 ∧
    mapNames s.mod (leAt ps 0 1) (inMapOf ps).signal = false ∧ signalRead s.mod (inMapOf ps).signal = false) ∧
    (∃ (s : State) (n : Nat) (ps : List Byte), Asked s.mod n 0x0802 ps ∧ ps.length = 224 ∧ loopBad ps (loopCfgOf ps) = false ∧
     ((s.mod.loop (leAt ps 0 1)).client = none ∨ (s.mod.loop (leAt ps 0 1)).client = some n) ∧
    (s.mod.loop (leAt ps 0 1)).state = .off) ∧
    (∃ (s : State) (n : Nat) (ps : List Byte), Asked s.mod n 0x0803 ps ∧ ps.length = 8 ∧ zeros ((ps.drop 1).take 7) = true ∧
     (leAt ps 0 1) < 64 ∧ startBad s.mod (leAt ps 0 1) = false ∧ (s.mod.loop (leAt ps 0 1)).client = some n ∧
    ((s.mod.loop (leAt ps 0 1)).state = .off ∨ (s.mod.loop (leAt ps 0 1)).state = .fault) ∧ s.mod.time.stepClosed = true ∧
     groupBad s.mod (leAt ps 0 1) = false ∧ s.mod.power.entry = none) ∧
    (∃ (s : State) (n : Nat) (ps : List Byte), Asked s.mod n 0x0804 ps ∧ ps.length = 8 ∧ zeros ((ps.drop 1).take 7) = true ∧
     (leAt ps 0 1) < 64 ∧ (s.mod.loop (leAt ps 0 1)).client = some n ∧ s.mod.trl.snaps = [] ∧ nowUs s.mod ≤ s.mod.trl.lastUs) ∧
    (∃ (s : State) (n : Nat) (ps : List Byte), Asked s.mod n 0x0804 ps ∧ ps.length = 8 ∧ zeros ((ps.drop 1).take 7) = true ∧
     (leAt ps 0 1) < 64 ∧ (s.mod.loop (leAt ps 0 1)).client = some n) ∧
    (∃ (s : State) (n : Nat) (ps : List Byte), Asked s.mod n 0x0805 ps ∧ ps.length = 8 + 4 * (leAt ps 4 2) ∧ leAt ps 1 1 = 0 ∧
     leAt ps 6 2 = 0 ∧ 1 ≤ (leAt ps 4 2) ∧ (leAt ps 4 2) ≤ 64 ∧ (leAt ps 2 2) + (leAt ps 4 2) ≤ 4096 ∧ (leAt ps 0 1) < 64 ∧
     (s.mod.loop (leAt ps 0 1)).client = some n ∧
    ((s.mod.loop (leAt ps 0 1)).state = .off ∨ (s.mod.loop (leAt ps 0 1)).state = .fault)) ∧
    (∃ (s : State) (n : Nat) (ps : List Byte), Asked s.mod n 0x0806 ps ∧ ps.length = 8 ∧ leAt ps 1 1 = 0 ∧ leAt ps 6 2 = 0 ∧
    1 ≤ (leAt ps 4 2) ∧ (leAt ps 4 2) ≤ 64 ∧ leAt ps 2 2 + (leAt ps 4 2) ≤ 4096 ∧ (leAt ps 0 1) < 64 ∧
    (s.mod.loop (leAt ps 0 1)).client = some n) ∧
    (∃ (s : State) (n : Nat) (ps : List Byte), Asked s.mod n 0x0807 ps ∧ ps.length = 8 ∧ leAt ps 0 2 ≤ 255 ∧
    zeros ((ps.drop 2).take 2) = true ∧ mapNames s.mod 128 (leAt ps 0 2) = false) ∧
    (∃ (s : State) (n : Nat) (ps : List Byte), Asked s.mod n 0x0808 ps ∧ ps.length = 8 + leAt ps 1 1 ∧ (leAt ps 0 1) ≤ 63 ∧
    60 ≤ leAt ps 1 1 ∧ leAt ps 1 1 ≤ 128 ∧ zeros ((ps.drop 2).take 6) = true ∧
    (∀ i, i < 64 → (s.mod.loop i).state ≠ .off → ¬ ((s.mod.loop i).cfg.outKind = 1 ∧
    (s.mod.loop i).cfg.outTemplate = (leAt ps 0 1)))) ∧
    (∃ (s : State) (n : Nat) (ps : List Byte), Asked s.mod n 0x0809 ps ∧ ps.length = 80 ∧ traceBad ps = false ∧
    leAt ps 5 1 = 0) ∧
    (∃ (s : State) (n : Nat) (ps : List Byte), Asked s.mod n 0x0809 ps ∧ ps.length = 80 ∧ traceBad ps = false ∧
    leAt ps 5 1 = 2 ∧ (s.mod.trl.trace).armed = true ∧ (s.mod.trl.trace).frozen = false ∧ (s.mod.trl.trace).trig = none) ∧
    (∃ (s : State) (n : Nat) (ps : List Byte), Asked s.mod n 0x0809 ps ∧ ps.length = 80 ∧ traceBad ps = false ∧
    leAt ps 5 1 = 1) ∧
    (∃ (s : State) (n : Nat) (ps : List Byte), Asked s.mod n 0x080A ps ∧ ps.length = 8 ∧ leAt ps 0 2 < 16384 ∧
    zeros ((ps.drop 2).take 6) = true) ∧
    (∃ (s : State) (n : Nat) (ps : List Byte), Asked s.mod n 0x080B ps ∧ ps.length = 8 ∧ leAt ps 0 1 ≤ 63 ∧ leAt ps 1 1 ≤ 1 ∧
     zeros ((ps.drop 2).take 6) = true ∧ leAt ps 1 1 = 0) ∧
    (∃ (s : State) (n : Nat) (ps : List Byte), Asked s.mod n 0x080B ps ∧ ps.length = 8 ∧ leAt ps 0 1 ≤ 63 ∧ leAt ps 1 1 ≤ 1 ∧
     zeros ((ps.drop 2).take 6) = true ∧ leAt ps 1 1 = 1) :=
  ⟨⟨cmd 2 0x0800 (pk [(2, 9), (2, 0xFFFF), (4, 0)]) (tQueue [] 0), 2, pk [(2, 9), (2, 0xFFFF), (4, 0)], by decide +kernel⟩,
   ⟨cmd 2 0x0801 (pk [(1, 127), (1, 1), (1, 3), (1, 127), (1, 60), (1, 3), (2, 255), (4, 0), (4, 0)]) id, 2, pk [(1, 127),
    (1, 1), (1, 3), (1, 127), (1, 60), (1, 3), (2, 255), (4, 0), (4, 0)], by decide +kernel⟩,
   ⟨cmd 2 0x0802 (pk [(1, 2), (1, 1), (1, 0), (1, 15), (4, 25), (4, 24), (4, 25), (2, 511), (2, 1), (4, 0x3F800000), (4,
    0x7F800000), (4, 0x3F800000), (1, 2), (1, 1), (1, 1), (1, 0), (4, 0), (4, 0), (4, 0), (4, 0), (2, 4096), (2, 4095), (4,
    0), (4, 0), (4, 0), (1, 0), (1, 3), (1, 127), (1, 2), (1, 60), (1, 0), (2, 0), (4, 0x3F800000), (2, 255), (2, 511), (4,
    0), (4, 0), (4, 0), (4, 0), (4, 0), (4, 0x3F800000), (4, 0), (4, 0x3F800000), (4, 0), (8, 0)] ++ zs 96) id, 2, pk [(1, 2),
    (1, 1), (1, 0), (1, 15), (4, 25), (4, 24), (4, 25), (2, 511), (2, 1), (4, 0x3F800000), (4, 0x7F800000), (4, 0x3F800000),
    (1, 2), (1, 1), (1, 1), (1, 0), (4, 0), (4, 0), (4, 0), (4, 0), (2, 4096), (2, 4095), (4, 0), (4, 0), (4, 0), (1, 0), (1,
    3), (1, 127), (1, 2), (1, 60), (1, 0), (2, 0), (4, 0x3F800000), (2, 255), (2, 511), (4, 0), (4, 0), (4, 0), (4, 0), (4,
    0), (4, 0x3F800000), (4, 0), (4, 0x3F800000), (4, 0), (8, 0)] ++ zs 96, by decide +kernel⟩,
   ⟨cmd 2 0x0803 (2 :: zs 7) (fun m => tLoop id { m with time := { m.time with stepClosed := true } }), 2, 2 :: zs 7,
    by decide +kernel⟩,
   ⟨cmd 2 0x0804 (2 :: zs 7) (tLoop (fun l => { l with state := .run })), 2, 2 :: zs 7, by decide +kernel⟩,
   ⟨cmd 2 0x0804 (2 :: zs 7) (fun m => tLoop (fun l => { l with state := .armed }) { m with trl := { m.trl with snaps := [tSnap 0] } }),
    2, 2 :: zs 7, by decide +kernel⟩,
   ⟨cmd 2 0x0805 (pk [(1, 2), (1, 0), (2, 4095), (2, 1), (2, 0), (4, 77)]) (tLoop (fun l => { l with state := .fault })), 2,
    pk [(1, 2), (1, 0), (2, 4095), (2, 1), (2, 0), (4, 77)], by decide +kernel⟩,
   ⟨cmd 2 0x0806 (pk [(1, 2), (1, 0), (2, 4032), (2, 64), (2, 0)]) (tLoop (fun l => { l with state := .run })), 2, pk [(1,
    2), (1, 0), (2, 4032), (2, 64), (2, 0)], by decide +kernel⟩,
   ⟨cmd 2 0x0807 (pk [(2, 255), (2, 0), (4, 0x3F800000)]) id, 2, pk [(2, 255), (2, 0), (4, 0x3F800000)], by decide +kernel⟩,
   ⟨cmd 2 0x0808 ([63, 60] ++ zs 6 ++ List.replicate 60 7) id, 2, [63, 60] ++ zs 6 ++ List.replicate 60 7, by decide +kernel⟩,
   ⟨cmd 2 0x0809 (pk [(2, 1), (1, 15), (1, 4), (1, 63), (1, 0), (2, 7), (4, 0), (4, 0)] ++ [63, 2, 10, 0] ++ zs 60) id, 2, pk
    [(2, 1), (1, 15), (1, 4), (1, 63), (1, 0), (2, 7), (4, 0), (4, 0)] ++ [63, 2, 10, 0] ++ zs 60, by decide +kernel⟩,
   ⟨cmd 2 0x0809 (pk [(2, 1), (1, 15), (1, 4), (1, 63), (1, 2), (2, 7), (4, 0), (4, 0)] ++ [63, 2, 10, 0] ++ zs 60) (fun m =>
    { m with trl := { m.trl with trace := { m.trl.trace with armed := true } } }), 2, pk [(2, 1), (1, 15), (1, 4), (1, 63),
    (1, 2), (2, 7), (4, 0), (4, 0)] ++ [63, 2, 10, 0] ++ zs 60, by decide +kernel⟩,
   ⟨cmd 2 0x0809 (pk [(2, 1), (1, 15), (1, 4), (1, 63), (1, 1), (2, 7), (4, 0), (4, 0)] ++ [63, 2, 10, 0] ++ zs 60) id, 2, pk
    [(2, 1), (1, 15), (1, 4), (1, 63), (1, 1), (2, 7), (4, 0), (4, 0)] ++ [63, 2, 10, 0] ++ zs 60, by decide +kernel⟩,
   ⟨cmd 2 0x080A (pk [(2, 16383), (6, 0)]) id, 2, pk [(2, 16383), (6, 0)], by decide +kernel⟩,
   ⟨cmd 2 0x080B (pk [(1, 63), (1, 0), (6, 0)]) id, 2, pk [(1, 63), (1, 0), (6, 0)], by decide +kernel⟩,
   ⟨cmd 2 0x080B (pk [(1, 2), (1, 1), (6, 0)]) (tLoop id), 2, pk [(1, 2), (1, 1), (6, 0)], by decide +kernel⟩⟩

end Sys2Proof.Tests
end

