-- ==== Sys2Proof/Tests/WitnessTime.lean ====
section
/-!
SUPPORT. Witnesses: for every statement that has hypotheses, concrete states and operands that meet them together, clause by clause.
-/

namespace Sys2Proof.Tests

set_option Elab.async false

open Sys2Proof Sys2Proof.Machine

/-- The time block as given. -/
def hTime (f : Time → Time) (m : Machine.Module) : Machine.Module := { m with time := f m.time }

/-- Port 1 enabled and linked, in the timing instance, with the filter, queue 3 and timing frames as given. -/
def hPort (v : Option EthFilter) (q : LaunchQueue) (timing : List (List Byte)) (m : Machine.Module) : Machine.Module :=
  let rs : Tab Region := [(0, { base := 0, pages := 4096, cloche := 2, ctx := 5, rights := 3 })]
  let m := (ctxUp 5 2 m).updCtx 5 (fun c => { c with ranges := [(8, 4)] })
  let m := m.setPort 1 { enable := true, link := true, queues := [(3, q)], timing := timing, filters := [(2, v)] }
  { m with
    time := { m.time with ptp := [0, 0, 2], mode := 1, now := 5000 * 2 ^ 64, elapsed := 5000 * 2 ^ 64 }
    safety := { m.safety with regions := rs, regionsB := rs } }

/-- A ring of 16 slots at 0x100000, n frames delivered. -/
def hRing (n : Nat) : EthFilter := { ctx := 5, ethertype := 0x0800, mac := [0, 0, 0, 0, 0, 0], slots := 16, base := 0x100000, sync := 8, n := n }

/-- A frame with its check sequence, received 1 µs ago. -/
def hOf (bs : List Byte) : EthFrame := { bytes := bs, fcs := crc32 bs, age := 2000 }

/-- A frame of an EtherType. -/
def hFrame (hi lo : Byte) (n : Nat) : EthFrame := hOf (zs 12 ++ [hi, lo] ++ List.replicate n 5)

/-- A Sync message of a domain. -/
def hSync (domain : Byte) : EthFrame := hOf (zs 12 ++ [0x88, 0xF7, 0, 2, 0, 44, domain] ++ zs 41)

/-- What the profile makes of a message. -/
def hOut (offset : Option (Int × Nat)) : PtpOutcome :=
  { offset := offset, roles := [0, 1, 2, 0], gm := 7, send := [(1, (hSync 0).bytes)] }

/-- Nothing is claimed of a value that is not there. -/
theorem hNone {α : Type} {a : Option α} {P : α → Prop} (h : a = none) : ∀ o, a = some o → P o := fun _ e => by
  rw [h] at e; cases e

/-- No filter stands before the one at 2. -/
theorem hBefore {m : Machine.Module} {P : EthFilter → Prop} (h : ∀ k, k < 2 → m.filter 1 k = none) :
    ∀ k u, k < 2 → m.filter 1 k = some u → P u := fun k u hk hu => by
  rw [h k hk] at hu; cases hu

/-- The filter at 2 is the only one. -/
theorem hOnly {m : Machine.Module} {P : EthFilter → Prop} {f : EthFilter} (h : ∀ i, i < 16 → i ≠ 2 → m.filter 1 i = none)
    (e : m.filter 1 2 = some f) (hp : P f) : ∀ i v, i < 16 → m.filter 1 i = some v → P v := fun i v hi hv => by
  by_cases hx : i = 2
  · rw [hx, e] at hv; cases hv; exact hp
  · rw [h i hi hx] at hv; cases hv

/-- Controller 1 in NORMAL, integrated, with object 3 as given. -/
def nCan (f : CanCtl → CanCtl) (o : CanObj) (m : Machine.Module) : Machine.Module :=
  { (m.setCan 1 (f { mode := 1, integrated := true, configured := true, cfg := zs 22, objs := [(3, o)] })) with
    time := { m.time with now := 5000 * 2 ^ 64 } }

/-- A transmit object of client 2 with what is pending and on the bus. -/
def nTx (pending onBus newer : Option CanPend) : CanObj :=
  { dir := 2, owner := 2, len := 2, id := 0x123, pending := pending, onBus := onBus, newer := newer }

/-- A received frame of ID 0x123. -/
def nRx : CanFrame := { id := 0x123, ide := false, fdf := true, brs := false, esi := false, remote := false, data := [1, 2, 3], age := 9 }

/-- A filter that matches it. -/
def nFilter (action : Nat) : Tab CanFilter := [(4, { action := action, id := 0x123, mask := 0x7FF })]

/-- Obligations.TimeCommands: its clauses in order. -/
theorem witness_TimeCommands :
    (∃ (s : State) (n : Nat) (ps : List Byte), Asked s.mod n 0x0900 ps ∧ ps.length = 8 ∧ zeros ps = true) ∧
    (∃ (s : State) (n : Nat) (ps : List Byte), Asked s.mod n 0x0901 ps ∧ ps.length = 24 ∧ leAt ps 0 1 ≤ 1 ∧
    zeros ((ps.drop 1).take 7) = true ∧ zeros ((ps.drop 20).take 4) = true ∧ stepNsBad ps = false ∧ 0 ≤ stepTarget ps s.mod ∧
     (n = 0 ∨ n = 14) ∧ s.mod.time.stepClosed = false ∧ launchHeld s.mod = false ∧ canLaunchHeld s.mod = false ∧
    loopOn s.mod = false) ∧
    (∃ (s : State) (n : Nat) (ps : List Byte), Asked s.mod n 0x0902 ps ∧ ps.length = 8 ∧ zeros ps = true ∧ (n = 0 ∨ n = 14) ∧
     s.mod.time.stepClosed = false) ∧
    (∃ (s : State) (n : Nat) (ps : List Byte), Asked s.mod n 0x0903 ps ∧ ps.length = 8 ∧ (leIntAt ps 0 8).natAbs ≤ 140737488 ∧
     (n = 0 ∨ n = 14) ∧ s.mod.time.mode = 0) ∧
    (∃ (s : State) (n : Nat) (ps : List Byte), Asked s.mod n 0x0904 ps ∧ ps.length = 24 ∧ leAt ps 0 1 ≤ 2 ∧ leAt ps 1 1 ≤ 1 ∧
     zeros ((ps.drop 2).take 2) = true ∧ zeros ((ps.drop 20).take 4) = true ∧
    gainBad (BitVec.ofNat 32 (leAt ps 12 4)) = false ∧ gainBad (BitVec.ofNat 32 (leAt ps 16 4)) = false ∧ (n = 0 ∨ n = 14)) ∧
    (∃ (s : State) (n : Nat) (ps : List Byte), Asked s.mod n 0x0905 ps ∧ ps.length = 12 ∧ leAt ps 0 1 ≤ 2 ∧
    (leAt ps 1 1 ≤ (if leAt ps 0 1 = 2 then 0 else 127)) ∧ leAt ps 2 1 ≤ 15 ∧ 6 ≤ leAt ps 5 1 ∧ leAt ps 6 1 ≤ 1 ∧
    zeros ((ps.drop 7).take 1) = true ∧ logBad ps 8 (-7) 0 = false ∧ logBad ps 9 (-7) 0 = false ∧ logBad ps 10 0 3 = false ∧
     logBad ps 11 2 10 = false ∧ (n = 0 ∨ n = 14) ∧ s.mod.time.mode = 0) ∧
    (∃ (s : State) (n : Nat) (ps : List Byte), Asked s.mod n 0x0906 ps ∧ ps.length = 8 ∧ leAt ps 0 1 ≤ 1 ∧ leAt ps 1 1 ≤ 2 ∧
    1 ≤ leAt ps 2 2 ∧ leAt ps 2 2 ≤ 500 ∧ leAt ps 4 4 < 1000000000 ∧ (n = 0 ∨ n = 14)) :=
  ⟨⟨cmd 2 0x0900 (zs 8) id, 2, zs 8, by decide +kernel⟩,
   ⟨cmd 0 0x0901 (pk [(1, 1), (7, 0), (8, 2), (4, 0xFFFFFFFF), (4, 0)]) id, 0, pk [(1, 1), (7, 0), (8, 2), (4, 0xFFFFFFFF),
    (4, 0)], by decide +kernel⟩,
   ⟨cmd 14 0x0902 (zs 8) id, 14, zs 8, by decide +kernel⟩,
   ⟨cmd 0 0x0903 (leInt 8 (-140737488)) id, 0, leInt 8 (-140737488), by decide +kernel⟩,
   ⟨cmd 14 0x0904 (pk [(1, 2), (1, 1), (2, 0), (4, 100), (4, 1000), (4, 0x3F000000), (4, 0x3F800000), (4, 0)]) id, 14, pk
    [(1, 2), (1, 1), (2, 0), (4, 100), (4, 1000), (4, 0x3F000000), (4, 0x3F800000), (4, 0)], by decide +kernel⟩,
   ⟨cmd 0 0x0905 ([0, 127, 15, 1, 1, 6, 1, 0, 0xF9, 0, 3, 10]) id, 0, [0, 127, 15, 1, 1, 6, 1, 0, 0xF9, 0, 3, 10],
    by decide +kernel⟩,
   ⟨cmd 0 0x0906 (pk [(1, 1), (1, 2), (2, 500), (4, 999999999)]) id, 0, pk [(1, 1), (1, 2), (2, 500), (4, 999999999)],
    by decide +kernel⟩⟩

/-- Obligations.ServoAndPps: its clauses in order. -/
theorem witness_ServoAndPps :
    (∃ (s : State) (rising : Bool) (age : Nat), (s.mod.time.ppsInEdge = (if rising then 1 else 2)) ∧ s.mod.time.mode = 2 ∧
    (∀ e, s.mod.time.ppsLastEdge = some e → e + secUnit / 2 ≤ s.mod.time.elapsed - age * 2 ^ 63)) ∧
    (∃ (s : State) (rising : Bool) (age : Nat), (s.mod.time.ppsInEdge = (if rising then 1 else 2)) ∧
    (s.mod.time.mode ≠ 2 ∨ ∃ e, s.mod.time.ppsLastEdge = some e ∧ s.mod.time.elapsed - age * 2 ^ 63 < e + secUnit / 2)) ∧
    (∃ (s : State) (rising : Bool), (s.mod.time.ppsInEdge ≠ (if rising then 1 else 2))) ∧
    (∃ (m : Module) (o : Int), deferCond o m ≠ 0) ∧
    (∃ (m : Module) (o : Int), deferCond o m = 0 ∧ m.time.stepMinNs * 2 ^ 64 ≤ o.natAbs) ∧
    (∃ (m : Module) (o : Int), deferCond o m = 0 ∧ o.natAbs < m.time.stepMinNs * 2 ^ 64) ∧
    (∃ (m : Module) (o : Int), deferCond o m = 0) ∧
    (∃ (s : State) (tm : Nat), s.mod.time.lastMeas = some tm ∧ s.mod.time.mode ≠ 0 ∧ s.mod.time.servo ≠ 0 ∧
    tm + 3 * secUnit ≤ s.mod.time.elapsed) ∧
    (∃ (s : State) (n : Nat), s.mod.time.ppsOutEn = true ∧ s.mod.time.ppsOut = false ∧ s.mod.time.ppsLastSec ≠ some n ∧
    n * secUnit + s.mod.time.ppsOffsetNs * nsUnit ≤ s.mod.time.now ∧
    s.mod.time.now < (n + 1) * secUnit + s.mod.time.ppsOffsetNs * nsUnit) ∧
    (∃ (s : State), s.mod.time.ppsOutEn = true ∧ s.mod.time.ppsOut = true ∧ s.mod.time.ppsFallAt ≤ s.mod.time.elapsed) :=
  ⟨⟨st (hTime (fun t => { t with ppsInEdge := 1, mode := 2, lastMeas := some 0, gp := 0x3F000000, gi := 0x3F000000, elapsed := secUnit })),
    true, 7, by decide +kernel, by decide +kernel, hNone (by decide +kernel)⟩,
   ⟨st (hTime (fun t => { t with ppsInEdge := 2 })), false, 7, by decide +kernel, Or.inl (by decide +kernel)⟩,
   ⟨st (hTime (fun t => { t with ppsInEdge := 2 })), true, by decide +kernel⟩,
   ⟨hPort none { frames := [⟨[1], 9, false⟩] } [] up, 7, by decide +kernel⟩,
   ⟨hTime (fun t => { t with now := 9000 * 2 ^ 64, stepMinNs := 1 }) up, 5 * 2 ^ 64, by decide +kernel⟩,
   ⟨hTime (fun t => { t with stepMinNs := 1 }) up, -7, by decide +kernel⟩,
   ⟨hTime (fun t => { t with stepMinNs := 1 }) up, -7, by decide +kernel⟩,
   ⟨st (hTime (fun t => { t with lastMeas := some 0, mode := 1, servo := 2, elapsed := 3 * secUnit })), 0, by decide +kernel⟩,
   ⟨st (hTime (fun t => { t with ppsOutEn := true, ppsOffsetNs := 5, now := secUnit + 5 * nsUnit })), 1, by decide +kernel⟩,
   ⟨st (hTime (fun t => { t with ppsOutEn := true, ppsOut := true, ppsFallAt := 3, elapsed := 3 })), by decide +kernel⟩⟩

/-- Obligations.EthernetFrames: its clauses in order. -/
theorem witness_EthernetFrames :
    (∃ (s : State) (n : Nat) (ps : List Byte), Asked s.mod n 0x0907 ps ∧ ps.length = 24 ∧ leAt ps 0 1 ≤ 3 ∧ leAt ps 1 1 ≤ 1 ∧
     zeros ((ps.drop 20).take 4) = true ∧ (n = 0 ∨ n = 14) ∧ (s.mod.port (leAt ps 0 1)).timing = [] ∧
    (∀ q, q < 8 → (s.mod.lq (leAt ps 0 1) q).frames = [])) ∧
    (∃ (s : State) (n : Nat) (ps : List Byte), Asked s.mod n 0x0908 ps ∧ ps.length = 8 ∧ leAt ps 0 1 ≤ 3 ∧ leAt ps 1 1 ≤ 7 ∧
     leAt ps 2 1 ≤ 1 ∧ zeros ((ps.drop 3).take 1) = true ∧ leAt ps 4 4 ≤ 1000000 ∧ (n = 0 ∨ n = 14) ∧
    (s.mod.lq (leAt ps 0 1) (leAt ps 1 1)).frames = []) ∧
    (∃ (s : State) (n : Nat) (ps : List Byte), Asked s.mod n 0x090A ps ∧ ps.length = 8 ∧ leAt ps 0 1 ≤ 3 ∧ leAt ps 1 1 ≤ 1 ∧
     zeros ((ps.drop 2).take 6) = true) ∧
    (∃ (s : State) (p : Nat) (q : Nat) (f : LaunchFrame), ethWorks s.mod p = true ∧ lineFree s.mod p = true ∧
    dueQueue s.mod p = some (q, f)) ∧
    (∃ (s : State) (p : Nat) (bs : List Byte) (rest : List (List Byte)), ethWorks s.mod p = true ∧ lineFree s.mod p = true ∧
     dueQueue s.mod p = none ∧ (s.mod.port p).timing = bs :: rest) ∧
    (∃ (s : State) (p : Nat), (ethWorks s.mod p = false ∨ lineFree s.mod p = false)) ∧
    (∃ (m : Module) (p : Nat) (q : Nat) (k : Nat) (g : LaunchFrame), q < k ∧ k < 8 ∧ (m.lq p k).frames.head? = some g) ∧
    (∃ (s : State) (p : Nat) (q : Nat), p < 4 ∧ q < 8 ∧ (∃ f ∈ (s.mod.lq p q).frames, f.late = false ∧
    lateNow s.mod p q f = true) ∧ (s.mod.lq p q).policy = 0) ∧
    (∃ (s : State) (p : Nat) (q : Nat), p < 4 ∧ q < 8 ∧ (∃ f ∈ (s.mod.lq p q).frames, f.late = false ∧
    lateNow s.mod p q f = true) ∧ (s.mod.lq p q).policy = 1) ∧
    (∃ (s : State) (p : Nat) (speed : Nat), p < 4 ∧ ((s.mod.port p).link ≠ (speed = (if p < 2 then 10000 else 1000) : Bool)) ∧
     ((speed = (if p < 2 then 10000 else 1000) : Bool) = false ∨ domOn s.mod 45 = true)) ∧
    (∃ (s : State) (p : Nat) (speed : Nat), p < 4 ∧ ((s.mod.port p).link = (speed = (if p < 2 then 10000 else 1000) : Bool))) ∧
    (∃ (s : State) (n : Nat) (ps : List Byte), Asked s.mod n 0x0909 ps ∧ ps.length = 32 ∧ leAt ps 0 1 ≤ 3 ∧ leAt ps 1 1 ≤ 15 ∧
     (leAt ps 2 1) < 64 ∧ zeros ((ps.drop 3).take 1) = true ∧ zeros ((ps.drop 26).take 6) = true ∧ 16 ≤ (leAt ps 12 4) ∧
    (leAt ps 12 4) ≤ 4096 ∧ (leAt ps 12 4) = 2 ^ (leAt ps 12 4).log2 ∧ leAt ps 16 8 % 64 = 0 ∧
    (s.mod.ctx (leAt ps 2 1)).state ≠ 0 ∧ (s.mod.ctx (leAt ps 2 1)).client = n ∧
    asleepAt s.mod (leAt ps 16 8) (64 + (leAt ps 12 4) * 2048) = false ∧
    ringHeld s.mod (leAt ps 2 1) (leAt ps 16 8) (64 + (leAt ps 12 4) * 2048) = true ∧
    syncOwned s.mod (leAt ps 2 1) (leAt ps 24 2) = true) ∧
    (∃ (s : State) (n : Nat) (ps : List Byte), Asked s.mod n 0x0909 ps ∧ ps.length = 32 ∧ leAt ps 0 1 ≤ 3 ∧ leAt ps 1 1 ≤ 15 ∧
     leAt ps 2 1 = 0xFF ∧ 16 ≤ (leAt ps 12 4) ∧ (leAt ps 12 4) ≤ 4096 ∧ (leAt ps 12 4) = 2 ^ (leAt ps 12 4).log2 ∧
    leAt ps 16 8 % 64 = 0 ∧ zeros ((ps.drop 3).take 1) = true ∧ zeros ((ps.drop 26).take 6) = true ∧
    (∀ v, s.mod.filter (leAt ps 0 1) (leAt ps 1 1) = some v → (s.mod.ctx v.ctx).state ≠ 0 → (s.mod.ctx v.ctx).client = n)) ∧
    (∃ (s : State) (p : Nat) (f : EthFrame), ethWorks s.mod p = true ∧
    (f.fcs ≠ crc32 f.bytes ∨ isPause f.bytes = true ∨ f.bytes.length < 60 ∨ 1518 < f.bytes.length)) ∧
    (∃ (s : State) (p : Nat) (f : EthFrame), ethWorks s.mod p = true ∧ frameBad f = false ∧ etherType f.bytes ≠ 0x88F7 ∧
    (∀ i v, i < 16 → s.mod.filter p i = some v → filterMatches v f.bytes = false)) ∧
    (∃ (s : State) (p : Nat) (f : EthFrame) (i : Nat) (v : EthFilter), ethWorks s.mod p = true ∧ frameBad f = false ∧
     etherType f.bytes ≠ 0x88F7 ∧ i < 16 ∧ s.mod.filter p i = some v ∧ filterMatches v f.bytes = true ∧
    (∀ k u, k < i → s.mod.filter p k = some u → filterMatches u f.bytes = false) ∧
    fwAllows s.mod (sidOf s.mod v.ctx 0x26) .read v.base 8 = true ∧
    fwAllows s.mod (sidOf s.mod v.ctx 0x26) .write (v.base + 64 + v.n % v.slots * 2048) (slotBytes s.mod p f).length = true ∧
     syncOwned s.mod v.ctx v.sync = true ∧ v.n < leNat (memBytes s.mod.mem v.base 8) + v.slots) ∧
    (∃ (s : State) (p : Nat) (f : EthFrame) (i : Nat) (v : EthFilter), ethWorks s.mod p = true ∧ frameBad f = false ∧
     etherType f.bytes ≠ 0x88F7 ∧ i < 16 ∧ s.mod.filter p i = some v ∧ filterMatches v f.bytes = true ∧
    (∀ k u, k < i → s.mod.filter p k = some u → filterMatches u f.bytes = false) ∧
    fwAllows s.mod (sidOf s.mod v.ctx 0x26) .read v.base 8 = true ∧
    fwAllows s.mod (sidOf s.mod v.ctx 0x26) .write (v.base + 64 + v.n % v.slots * 2048) (slotBytes s.mod p f).length = true ∧
     syncOwned s.mod v.ctx v.sync = true ∧ leNat (memBytes s.mod.mem v.base 8) + v.slots ≤ v.n) ∧
    (∃ (s : State) (p : Nat) (f : EthFrame) (o : PtpOutcome), ethWorks s.mod p = true ∧ frameBad f = false ∧
    etherType f.bytes = 0x88F7 ∧ (s.mod.host.gState = 3 ∧ ptpPort s.mod p = true ∧
    ptpInSubset s.mod.time.ptp f.bytes = true) ∧ (o.offset = none ∨ s.mod.time.mode ≠ 1)) ∧
    (∃ (s : State) (p : Nat) (f : EthFrame) (o : PtpOutcome) (x : Int) (dt : Nat), ethWorks s.mod p = true ∧
    frameBad f = false ∧ etherType f.bytes = 0x88F7 ∧ (s.mod.host.gState = 3 ∧ ptpPort s.mod p = true ∧
    ptpInSubset s.mod.time.ptp f.bytes = true) ∧ o.offset = some (x, dt) ∧ s.mod.time.mode = 1) ∧
    (∃ (s : State) (p : Nat) (f : EthFrame), ethWorks s.mod p = true ∧ frameBad f = false ∧ etherType f.bytes = 0x88F7 ∧
    (¬ (s.mod.host.gState = 3 ∧ ptpPort s.mod p = true ∧ ptpInSubset s.mod.time.ptp f.bytes = true))) ∧
    (∃ (s : State) (p : Nat) (f : EthFrame), ethWorks s.mod p = true ∧ frameBad f = false ∧ etherType f.bytes = 0x88F7) ∧
    (∃ (s : State) (p : Nat), ptpPort s.mod p = true ∧ s.mod.host.gState = 3 ∧
    ptpTimer s.mod p 3 + ptpInterval s.mod 3 ≤ s.mod.time.elapsed) ∧
    (∃ (s : State) (p : Nat), ptpPort s.mod p = true ∧ s.mod.host.gState = 3) ∧
    (∃ (m : Module) (p : Nat), p < 4 ∧ leAt m.time.ptp 6 1 = 1) ∧
    (∃ (p : Nat), p < 4) ∧
    (∃ (m : Module) (k : Nat), ptpPort m k = true) ∧
    (∃ (c : List Byte) (bs : List Byte), ptpSendable c bs = true) :=
  ⟨⟨cmd 0 0x0907 (pk [(1, 3), (1, 1), (6, 0x112233445566), (4, 5), (4, 6), (4, 0xFFFFFFFF), (4, 0)]) id, 0, pk [(1, 3), (1,
    1), (6, 0x112233445566), (4, 5), (4, 6), (4, 0xFFFFFFFF), (4, 0)], by decide +kernel⟩,
   ⟨cmd 14 0x0908 (pk [(1, 3), (1, 7), (1, 1), (1, 0), (4, 1000000)]) id, 14, pk [(1, 3), (1, 7), (1, 1), (1, 0), (4,
    1000000)], by decide +kernel⟩,
   ⟨cmd 2 0x090A (3 :: 1 :: zs 6) id, 2, 3 :: 1 :: zs 6, by decide +kernel⟩,
   ⟨st (hPort none { frames := [⟨[1, 2], 5000 * 2 ^ 64, false⟩], lateNs := 1000 } []), 1, 3, ⟨[1, 2], 5000 * 2 ^ 64, false⟩,
    by decide +kernel⟩,
   ⟨st (hPort none {} [[1, 2], [3]]), 1, [1, 2], [[3]], by decide +kernel⟩,
   ⟨st id, 1, by decide +kernel⟩,
   ⟨hPort none { frames := [⟨[1], 99999 * 2 ^ 64, false⟩] } [] up, 1, 2, 3, ⟨[1], 99999 * 2 ^ 64, false⟩, by decide +kernel⟩,
   ⟨st (hPort none { frames := [⟨[1, 2], 0, false⟩] } []), 1, 3, by decide +kernel, by decide +kernel, ⟨⟨[1, 2], 0, false⟩,
    by decide +kernel⟩, by decide +kernel⟩,
   ⟨st (hPort none { frames := [⟨[1, 2], 0, false⟩], policy := 1 } []), 1, 3, by decide +kernel, by decide +kernel, ⟨⟨[1, 2],
    0, false⟩, by decide +kernel⟩, by decide +kernel⟩,
   ⟨st (hPort none {} []), 1, 1000, by decide +kernel⟩,
   ⟨st (hPort none {} []), 1, 10000, by decide +kernel⟩,
   ⟨cmd 2 0x0909 (pk [(1, 3), (1, 15), (1, 5), (1, 0), (2, 0x0800), (6, 0), (4, 16), (8, 0x100000), (2, 8), (6, 0)]) (hPort
    none {} []), 2, pk [(1, 3), (1, 15), (1, 5), (1, 0), (2, 0x0800), (6, 0), (4, 16), (8, 0x100000), (2, 8), (6, 0)],
    by decide +kernel⟩,
   ⟨cmd 2 0x0909 (pk [(1, 1), (1, 2), (1, 0xFF), (1, 0), (2, 0), (6, 0), (4, 4096), (8, 64), (8, 0)]) (hPort (some (hRing 0))
    {} []), 2, pk [(1, 1), (1, 2), (1, 0xFF), (1, 0), (2, 0), (6, 0), (4, 4096), (8, 64), (8, 0)], first4 (by decide +kernel)
    (first4 (by decide +kernel)
    ⟨by decide +kernel, by decide +kernel, by decide +kernel, (by intro v h _; cases h; decide +kernel)⟩)⟩,
   ⟨st (hPort none {} []), 1, hFrame 8 0 45, by decide +kernel⟩,
   ⟨st (hPort (some (hRing 0)) {} []), 1, hFrame 8 6 46, by decide +kernel, by decide +kernel, by decide +kernel, hOnly
    (by decide +kernel) (by decide +kernel : _ = some (hRing 0)) (by decide +kernel)⟩,
   ⟨st (hPort (some (hRing 15)) {} []), 1, hFrame 8 0 46, 2, hRing 15, first4 (by decide +kernel)
    ⟨by decide +kernel, by decide +kernel, hBefore (by decide +kernel),
    by decide +kernel, by decide +kernel, by decide +kernel, by decide +kernel⟩⟩,
   ⟨st (hPort (some (hRing 16)) {} []), 1, hFrame 8 0 46, 2, hRing 16, first4 (by decide +kernel)
    ⟨by decide +kernel, by decide +kernel, hBefore (by decide +kernel),
    by decide +kernel, by decide +kernel, by decide +kernel, by decide +kernel⟩⟩,
   ⟨st (hPort none {} []), 1, hSync 0, hOut none, by decide +kernel⟩,
   ⟨st (hPort none {} []), 1, hSync 0, hOut (some (-5, 1000)), -5, 1000, by decide +kernel⟩,
   ⟨st (hPort none {} []), 1, hSync 1, by decide +kernel⟩,
   ⟨st (hPort none {} []), 1, hSync 0, by decide +kernel⟩,
   ⟨st (fun m => hTime (fun t => { t with elapsed := 5000 * secUnit }) (hPort none {} [] m)), 1, by decide +kernel⟩,
   ⟨st (hPort none {} []), 1, by decide +kernel⟩,
   ⟨hTime (fun t => { t with ptp := [0, 0, 2, 0, 0, 6, 1] }) up, 2, by decide +kernel⟩,
   ⟨1, by decide +kernel⟩,
   ⟨hTime (fun t => { t with roles := [0, 1] }) (hPort none {} [[9]] up), 1, by decide +kernel⟩,
   ⟨[0, 0, 2], (zs 12 ++ [0x88, 0xF7, 8, 2, 0, 44, 0] ++ zs 41), by decide +kernel⟩⟩

/-- Obligations.CanCommands: its clauses in order. -/
theorem witness_CanCommands :
    (∃ (s : State) (n : Nat) (ps : List Byte), Asked s.mod n 0x0A00 ps ∧ ps.length = 24 ∧ canCfgBad ps = false ∧
    canRateBad ps = false ∧ zeros ((ps.drop 22).take 2) = true ∧ (n = 0 ∨ n = 14) ∧ (s.mod.canCtl (leAt ps 0 1)).mode = 0) ∧
    (∃ (s : State) (n : Nat) (ps : List Byte), Asked s.mod n 0x0A01 ps ∧ Room s.mod n ∧ ps.length = 8 ∧ (leAt ps 0 1) ≤ 3 ∧
     leAt ps 1 1 ≤ 3 ∧ zeros ((ps.drop 2).take 6) = true ∧ (n = 0 ∨ n = 14) ∧ (s.mod.canCtl (leAt ps 0 1)).configured = true) ∧
    (∃ (s : State) (n : Nat) (ps : List Byte), Asked s.mod n 0x0A02 ps ∧ ps.length = 88 ∧ canObjBad ps = false ∧
    (n = 0 ∨ n = 14) ∧ (s.mod.canObj (leAt ps 0 1) (leAt ps 1 1)).pending = none ∧
    (s.mod.canObj (leAt ps 0 1) (leAt ps 1 1)).onBus = none ∧ mapsOf s.mod (leAt ps 0 1) (leAt ps 1 1) = [] ∧
    loopNames s.mod (leAt ps 0 1) (leAt ps 1 1) = false) ∧
    (∃ (s : State) (n : Nat) (ps : List Byte), Asked s.mod n 0x0A03 ps ∧ ps.length = 88 ∧ (leAt ps 0 1) ≤ 3 ∧
    (leAt ps 1 1) ≤ 127 ∧ leAt ps 2 1 ≤ 1 ∧ zeros ((ps.drop 3).take 5) = true ∧ zeros ((ps.drop 20).take 4) = true ∧
    ((leAt ps 2 1 = 1) → leAt ps 16 4 < 1000000000) ∧ (¬ (leAt ps 2 1 = 1) → leAt ps 8 8 = 0 ∧ leAt ps 16 4 = 0) ∧
    (n = (s.mod.canObj (leAt ps 0 1) (leAt ps 1 1)).owner ∨ n = 14) ∧ (s.mod.canObj (leAt ps 0 1) (leAt ps 1 1)).dir = 2 ∧
     (s.mod.canObj (leAt ps 0 1) (leAt ps 1 1)).owner ≠ 15 ∧ (s.mod.canObj (leAt ps 0 1) (leAt ps 1 1)).onBus = none) ∧
    (∃ (s : State) (n : Nat) (ps : List Byte), Asked s.mod n 0x0A03 ps ∧ ps.length = 88 ∧ (leAt ps 0 1) ≤ 3 ∧
    (leAt ps 1 1) ≤ 127 ∧ leAt ps 2 1 ≤ 1 ∧ zeros ((ps.drop 3).take 5) = true ∧ zeros ((ps.drop 20).take 4) = true ∧
    ((leAt ps 2 1 = 1) → leAt ps 16 4 < 1000000000) ∧ (¬ (leAt ps 2 1 = 1) → leAt ps 8 8 = 0 ∧ leAt ps 16 4 = 0) ∧
    (n = (s.mod.canObj (leAt ps 0 1) (leAt ps 1 1)).owner ∨ n = 14) ∧ (s.mod.canObj (leAt ps 0 1) (leAt ps 1 1)).dir = 2 ∧
     (s.mod.canObj (leAt ps 0 1) (leAt ps 1 1)).owner ≠ 15 ∧ (s.mod.canObj (leAt ps 0 1) (leAt ps 1 1)).onBus.isSome = true) ∧
    (∃ (s : State) (n : Nat) (ps : List Byte), Asked s.mod n 0x0A04 ps ∧ ps.length = 8 ∧ (leAt ps 0 1) ≤ 3 ∧
    (leAt ps 1 1) ≤ 127 ∧ zeros ((ps.drop 2).take 6) = true ∧ (((s.mod.canObj (leAt ps 0 1) (leAt ps 1 1)).dir = 2 ∧
    n = (s.mod.canObj (leAt ps 0 1) (leAt ps 1 1)).owner) ∨ n = 0 ∨ n = 14)) ∧
    (∃ (s : State) (n : Nat) (ps : List Byte), Asked s.mod n 0x0A05 ps ∧ ps.length = 12 ∧ (leAt ps 0 1) ≤ 3 ∧
    leAt ps 1 1 ≤ 63 ∧ leAt ps 2 1 ≤ 3 ∧ leAt ps 3 1 ≤ 1 ∧ (n = 0 ∨ n = 14) ∧
    (leAt ps 4 4 < (if leAt ps 3 1 = 1 then 2 ^ 29 else 2 ^ 11)) ∧
    (leAt ps 8 4 < (if leAt ps 3 1 = 1 then 2 ^ 29 else 2 ^ 11))) ∧
    (∃ (s : State) (n : Nat) (ps : List Byte), Asked s.mod n 0x0A06 ps ∧ ps.length = 8 ∧ (leAt ps 0 1) ≤ 3 ∧ leAt ps 1 1 ≤ 1 ∧
     1 ≤ (leAt ps 2 1) ∧ (leAt ps 2 1) ≤ 6 ∧ zeros ((ps.drop 3).take 5) = true ∧
    (n = canReader (s.mod.canCtl (leAt ps 0 1)) (leAt ps 1 1) ∨ n = 14) ∧ leAt ps 1 1 = 0) ∧
    (∃ (s : State) (n : Nat) (ps : List Byte), Asked s.mod n 0x0A06 ps ∧ ps.length = 8 ∧ (leAt ps 0 1) ≤ 3 ∧ leAt ps 1 1 ≤ 1 ∧
     1 ≤ (leAt ps 2 1) ∧ (leAt ps 2 1) ≤ 6 ∧ zeros ((ps.drop 3).take 5) = true ∧
    (n = canReader (s.mod.canCtl (leAt ps 0 1)) (leAt ps 1 1) ∨ n = 14) ∧ leAt ps 1 1 = 1) ∧
    (∃ (s : State) (n : Nat) (ps : List Byte), Asked s.mod n 0x0A07 ps ∧ ps.length = 8 ∧ (leAt ps 0 1) ≤ 3 ∧
    zeros ((ps.drop 1).take 7) = true ∧ (n = 0 ∨ n = 14) ∧ (s.mod.canCtl (leAt ps 0 1)).err = 2 ∧
    canAutoRecover (s.mod.canCtl (leAt ps 0 1)) = false) ∧
    (∃ (s : State) (n : Nat) (ps : List Byte), Asked s.mod n 0x0A08 ps ∧ ps.length = 8 ∧ (leAt ps 0 1) ≤ 3 ∧ leAt ps 1 1 ≤ 1 ∧
     zeros ((ps.drop 2).take 6) = true) :=
  ⟨⟨cmd 0 0x0A00 (pk [(1, 3), (1, 7), (1, 2), (1, 1), (2, 255), (1, 64), (1, 64), (1, 31), (1, 8), (1, 8), (1, 127), (4, 9),
    (4, 9), (1, 14), (1, 14), (2, 0)]) id, 0, pk [(1, 3), (1, 7), (1, 2), (1, 1), (2, 255), (1, 64), (1, 64), (1, 31), (1, 8),
    (1, 8), (1, 127), (4, 9), (4, 9), (1, 14), (1, 14), (2, 0)], by decide +kernel⟩,
   ⟨cmd 14 0x0A01 (1 :: 3 :: zs 6) (nCan id {}), 14, 1 :: 3 :: zs 6, by decide +kernel⟩,
   ⟨cmd 0 0x0A02 (pk [(1, 1), (1, 3), (1, 2), (1, 15), (1, 31), (1, 64), (2, 0), (4, 0x1FFFFFFF), (4, 0), (4, 10000000), (4,
    0)] ++ List.replicate 64 7) (nCan id {}), 0, pk [(1, 1), (1, 3), (1, 2), (1, 15), (1, 31), (1, 64), (2, 0), (4,
    0x1FFFFFFF), (4, 0), (4, 10000000), (4, 0)] ++ List.replicate 64 7, by decide +kernel⟩,
   ⟨cmd 2 0x0A03 (pk [(1, 1), (1, 3), (1, 1), (5, 0), (8, 2), (4, 999999999), (4, 0)] ++ List.replicate 64 7) (nCan id (nTx
    (some ⟨5000 * 2 ^ 64, [1, 2], false, false⟩) none none)), 2, pk [(1, 1), (1, 3), (1, 1), (5, 0), (8, 2), (4, 999999999),
    (4, 0)] ++ List.replicate 64 7, by decide +kernel⟩,
   ⟨cmd 2 0x0A03 (pk [(1, 1), (1, 3), (1, 1), (5, 0), (8, 2), (4, 999999999), (4, 0)] ++ List.replicate 64 7) (nCan id (nTx
    none (some ⟨5000 * 2 ^ 64, [1, 2], false, false⟩) (some ⟨5000 * 2 ^ 64, [1, 2], false, false⟩))), 2, pk [(1, 1), (1, 3),
    (1, 1), (5, 0), (8, 2), (4, 999999999), (4, 0)] ++ List.replicate 64 7, by decide +kernel⟩,
   ⟨cmd 0 0x0A04 (1 :: 3 :: zs 6) (nCan id { dir := 1, last := 1 }), 0, 1 :: 3 :: zs 6, by decide +kernel⟩,
   ⟨cmd 0 0x0A05 (pk [(1, 3), (1, 63), (1, 3), (1, 1), (4, 0x1FFFFFFF), (4, 0x1FFFFFFF)]) id, 0, pk [(1, 3), (1, 63), (1, 3),
    (1, 1), (4, 0x1FFFFFFF), (4, 0x1FFFFFFF)], by decide +kernel⟩,
   ⟨cmd 0 0x0A06 (pk [(1, 1), (1, 0), (1, 6), (5, 0)]) (nCan (fun v => { v with q0 := [rxRecord v 9 nRx] }) {}), 0, pk [(1,
    1), (1, 0), (1, 6), (5, 0)], by decide +kernel⟩,
   ⟨cmd 0 0x0A06 (pk [(1, 1), (1, 1), (1, 1), (5, 0)]) (nCan (fun v => { v with q1 := [rxRecord v 9 nRx, rxRecord v 9 nRx] })
    {}), 0, pk [(1, 1), (1, 1), (1, 1), (5, 0)], by decide +kernel⟩,
   ⟨cmd 14 0x0A07 (1 :: zs 7) (nCan (fun v => { v with err := 2 }) {}), 14, 1 :: zs 7, by decide +kernel⟩,
   ⟨cmd 2 0x0A08 (1 :: 1 :: zs 6) (nCan id {}), 2, 1 :: 1 :: zs 6, by decide +kernel⟩⟩

/-- Obligations.CanFrames: its clauses in order. -/
theorem witness_CanFrames :
    (∃ (s : State) (k : Nat) (mode : Nat) (rest : List Nat) (d : Deferred), k < 4 ∧ domOn s.mod 47 = true ∧
    (s.mod.canCtl k).modeReq = mode :: rest ∧ canBusy s.mod k = false ∧ Outstanding s.mod 0x0A01 k d) ∧
    (∃ (s : State) (k : Nat), k < 4 ∧ domOn s.mod 47 = true ∧ (s.mod.canCtl k).mode ≠ 0 ∧ (s.mod.canCtl k).integrated = false) ∧
    (∃ (s : State) (k : Nat), k < 4 ∧ domOn s.mod 47 = true ∧ (s.mod.canCtl k).mode ≠ 0 ∧ (s.mod.canCtl k).err = 2 ∧
     (canAutoRecover (s.mod.canCtl k) = true ∨ (s.mod.canCtl k).recovering = true)) ∧
    (∃ (s : State) (k : Nat), canLive s.mod k = true ∧ canBusy s.mod k = false ∧ (s.mod.canCtl k).mode = 1) ∧
    (∃ (s : State) (k : Nat), canLive s.mod k = true ∧ canBusy s.mod k = false ∧ (s.mod.canCtl k).mode ≠ 1) ∧
    (∃ (s : State) (k : Nat), canLive s.mod k = true ∧ canBusy s.mod k = false) ∧
    (∃ (s : State) (k : Nat) (f : CanFrame), canLive s.mod k = true ∧ canBusy s.mod k = false ∧ canFrameOk f = true) ∧
    (∃ (s : State) (k : Nat) (f : CanFrame) (o : Nat), canLive s.mod k = true ∧ canBusy s.mod k = false ∧
    canFrameOk f = true ∧ f.remote = false ∧ rxObject (s.mod.canCtl k) f = some o) ∧
    (∃ (s : State) (k : Nat) (f : CanFrame) (i : Nat), canLive s.mod k = true ∧ canBusy s.mod k = false ∧
    canFrameOk f = true ∧ f.remote = false ∧ (∀ o, rxObject (s.mod.canCtl k) f = some o → (s.mod.canObj k o).copy = true) ∧
    i < 64 ∧ ((fun i => (((s.mod.canCtl k).filters.get {} i).action ≠ 0 ∧
    idMatches ((s.mod.canCtl k).filters.get {} i).ide ((s.mod.canCtl k).filters.get {} i).id ((s.mod.canCtl k).filters.get {}
    i).mask f = true)) i) ∧ (∀ j, j < i → ¬ (fun i => (((s.mod.canCtl k).filters.get {} i).action ≠ 0 ∧
    idMatches ((s.mod.canCtl k).filters.get {} i).ide ((s.mod.canCtl k).filters.get {} i).id ((s.mod.canCtl k).filters.get {}
    i).mask f = true)) j) ∧ ((s.mod.canCtl k).filters.get {} i).action = 1 ∧ (s.mod.canCtl k).q0.length < 32) ∧
    (∃ (s : State) (k : Nat) (f : CanFrame) (i : Nat), canLive s.mod k = true ∧ canBusy s.mod k = false ∧
    canFrameOk f = true ∧ f.remote = false ∧ (∀ o, rxObject (s.mod.canCtl k) f = some o → (s.mod.canObj k o).copy = true) ∧
    i < 64 ∧ ((fun i => (((s.mod.canCtl k).filters.get {} i).action ≠ 0 ∧
    idMatches ((s.mod.canCtl k).filters.get {} i).ide ((s.mod.canCtl k).filters.get {} i).id ((s.mod.canCtl k).filters.get {}
    i).mask f = true)) i) ∧ (∀ j, j < i → ¬ (fun i => (((s.mod.canCtl k).filters.get {} i).action ≠ 0 ∧
    idMatches ((s.mod.canCtl k).filters.get {} i).ide ((s.mod.canCtl k).filters.get {} i).id ((s.mod.canCtl k).filters.get {}
    i).mask f = true)) j) ∧ ((s.mod.canCtl k).filters.get {} i).action = 1 ∧ 32 ≤ (s.mod.canCtl k).q0.length) ∧
    (∃ (s : State) (k : Nat) (f : CanFrame) (i : Nat), canLive s.mod k = true ∧ canBusy s.mod k = false ∧
    canFrameOk f = true ∧ f.remote = false ∧ (∀ o, rxObject (s.mod.canCtl k) f = some o → (s.mod.canObj k o).copy = true) ∧
    i < 64 ∧ ((fun i => (((s.mod.canCtl k).filters.get {} i).action ≠ 0 ∧
    idMatches ((s.mod.canCtl k).filters.get {} i).ide ((s.mod.canCtl k).filters.get {} i).id ((s.mod.canCtl k).filters.get {}
    i).mask f = true)) i) ∧ (∀ j, j < i → ¬ (fun i => (((s.mod.canCtl k).filters.get {} i).action ≠ 0 ∧
    idMatches ((s.mod.canCtl k).filters.get {} i).ide ((s.mod.canCtl k).filters.get {} i).id ((s.mod.canCtl k).filters.get {}
    i).mask f = true)) j) ∧ ((s.mod.canCtl k).filters.get {} i).action = 2 ∧ (s.mod.canCtl k).q1.length < 32) ∧
    (∃ (s : State) (k : Nat) (f : CanFrame) (i : Nat), canLive s.mod k = true ∧ canBusy s.mod k = false ∧
    canFrameOk f = true ∧ f.remote = false ∧ (∀ o, rxObject (s.mod.canCtl k) f = some o → (s.mod.canObj k o).copy = true) ∧
    i < 64 ∧ ((fun i => (((s.mod.canCtl k).filters.get {} i).action ≠ 0 ∧
    idMatches ((s.mod.canCtl k).filters.get {} i).ide ((s.mod.canCtl k).filters.get {} i).id ((s.mod.canCtl k).filters.get {}
    i).mask f = true)) i) ∧ (∀ j, j < i → ¬ (fun i => (((s.mod.canCtl k).filters.get {} i).action ≠ 0 ∧
    idMatches ((s.mod.canCtl k).filters.get {} i).ide ((s.mod.canCtl k).filters.get {} i).id ((s.mod.canCtl k).filters.get {}
    i).mask f = true)) j) ∧ ((s.mod.canCtl k).filters.get {} i).action = 2 ∧ 32 ≤ (s.mod.canCtl k).q1.length) ∧
    (∃ (s : State) (k : Nat) (f : CanFrame) (i : Nat), canLive s.mod k = true ∧ canBusy s.mod k = false ∧
    canFrameOk f = true ∧ f.remote = false ∧ (∀ o, rxObject (s.mod.canCtl k) f = some o → (s.mod.canObj k o).copy = true) ∧
    i < 64 ∧ ((fun i => (((s.mod.canCtl k).filters.get {} i).action ≠ 0 ∧
    idMatches ((s.mod.canCtl k).filters.get {} i).ide ((s.mod.canCtl k).filters.get {} i).id ((s.mod.canCtl k).filters.get {}
    i).mask f = true)) i) ∧ (∀ j, j < i → ¬ (fun i => (((s.mod.canCtl k).filters.get {} i).action ≠ 0 ∧
    idMatches ((s.mod.canCtl k).filters.get {} i).ide ((s.mod.canCtl k).filters.get {} i).id ((s.mod.canCtl k).filters.get {}
    i).mask f = true)) j) ∧ ((s.mod.canCtl k).filters.get {} i).action = 3) ∧
    (∃ (s : State) (k : Nat) (f : CanFrame), canLive s.mod k = true ∧ canBusy s.mod k = false ∧ canFrameOk f = true ∧
    f.remote = false ∧ (∀ o, rxObject (s.mod.canCtl k) f = some o → (s.mod.canObj k o).copy = true) ∧
    (∀ i, i < 64 → ¬ (fun i => (((s.mod.canCtl k).filters.get {} i).action ≠ 0 ∧
    idMatches ((s.mod.canCtl k).filters.get {} i).ide ((s.mod.canCtl k).filters.get {} i).id ((s.mod.canCtl k).filters.get {}
    i).mask f = true)) i)) ∧
    (∃ (s : State) (k : Nat) (o : Nat) (p : CanPend), canLive s.mod k = true ∧ (s.mod.canCtl k).mode = 1 ∧
    canBusy s.mod k = false ∧ lowestKey (canDue s.mod k) = some o ∧ (s.mod.canObj k o).pending = some p) ∧
    (∃ (l : List (Nat × Nat)) (o : Nat), lowestKey l = some o) ∧
    (∃ (s : State), domOn s.mod 47 = false) ∧
    (∃ (s : State) (k : Nat) (o : Nat) (p : CanPend) (out : Nat), o < 128 ∧ domOn s.mod 47 = true ∧
    (s.mod.canObj k o).onBus = some p ∧ (∀ q, q < o → (s.mod.canObj k q).onBus = none) ∧ 1 ≤ out ∧ out ≤ 3) ∧
    (∃ (s : State) (k : Nat) (o : Nat) (p : CanPend), o < 128 ∧ domOn s.mod 47 = true ∧ (s.mod.canObj k o).onBus = some p ∧
    (∀ q, q < o → (s.mod.canObj k q).onBus = none)) ∧
    (∃ (s : State) (k : Nat) (o : Nat) (p : CanPend), (s.mod.canObj k o).pending = some p ∧ p.late = false ∧
    canLateAt s.mod (s.mod.canObj k o) p = true ∧ (s.mod.canObj k o).lateSend = false) ∧
    (∃ (s : State) (k : Nat) (o : Nat) (p : CanPend), (s.mod.canObj k o).pending = some p ∧ p.late = false ∧
    canLateAt s.mod (s.mod.canObj k o) p = true ∧ (s.mod.canObj k o).lateSend = true) :=
  ⟨⟨st (fun m => let m := nCan (fun v => { v with modeReq := [0, 2] }) {} m; { m with host := { m.host with deferred := [⟨14, 0x55, 0x0A01, 1⟩] } }),
    1, 0, [2], ⟨14, 0x55, 0x0A01, 1⟩, by decide +kernel⟩,
   ⟨st (nCan (fun v => { v with integrated := false }) {}), 1, by decide +kernel⟩,
   ⟨st (nCan (fun v => { v with err := 2, recovering := true }) {}), 1, by decide +kernel⟩,
   ⟨st (nCan id {}), 1, by decide +kernel⟩,
   ⟨st (nCan (fun v => { v with mode := 2 }) {}), 1, by decide +kernel⟩,
   ⟨st (nCan id {}), 1, by decide +kernel⟩,
   ⟨st (nCan id {}), 1, nRx, by decide +kernel⟩,
   ⟨st (nCan id { dir := 1, id := 0x123, mask := 0x7FF }), 1, nRx, 3, by decide +kernel⟩,
   ⟨st (nCan (fun v => { v with filters := nFilter 1 }) {}), 1, nRx, 4, by decide +kernel, by decide +kernel,
    by decide +kernel, by decide +kernel, hNone (by decide +kernel), first4 (by decide +kernel)
    (by decide +kernel)⟩,
   ⟨st (nCan (fun v => { v with filters := nFilter 1, q0 := List.replicate 32 (rxRecord {} 0 nRx) }) {}), 1, nRx, 4,
    by decide +kernel, by decide +kernel, by decide +kernel, by decide +kernel, hNone (by decide +kernel), first4 (by decide +kernel)
    (by decide +kernel)⟩,
   ⟨st (nCan (fun v => { v with filters := nFilter 2 }) {}), 1, nRx, 4, by decide +kernel, by decide +kernel,
    by decide +kernel, by decide +kernel, hNone (by decide +kernel), first4 (by decide +kernel)
    (by decide +kernel)⟩,
   ⟨st (nCan (fun v => { v with filters := nFilter 2, q1 := List.replicate 32 (rxRecord {} 0 nRx) }) {}), 1, nRx, 4,
    by decide +kernel, by decide +kernel, by decide +kernel, by decide +kernel, hNone (by decide +kernel), first4 (by decide +kernel)
    (by decide +kernel)⟩,
   ⟨st (nCan (fun v => { v with filters := nFilter 3 }) {}), 1, nRx, 4, by decide +kernel, by decide +kernel,
    by decide +kernel, by decide +kernel, hNone (by decide +kernel), by decide +kernel, by decide +kernel, by decide +kernel,
    by decide +kernel⟩,
   ⟨st (nCan (fun v => { v with filters := nFilter 0 }) {}), 1, nRx, by decide +kernel, by decide +kernel, by decide +kernel,
    by decide +kernel, hNone (by decide +kernel), by decide +kernel⟩,
   ⟨st (nCan id (nTx (some ⟨5000 * 2 ^ 64, [1, 2], false, false⟩) none none)), 1, 3, ⟨5000 * 2 ^ 64, [1, 2], false, false⟩,
    by decide +kernel⟩,
   ⟨[(3, 9), (4, 5)], 4, by decide +kernel⟩,
   ⟨st (fun m => { m with power := { m.power with on := 0 } }), by decide +kernel⟩,
   ⟨st (nCan id (nTx none (some ⟨5000 * 2 ^ 64, [1, 2], false, false⟩) none)), 1, 3, ⟨5000 * 2 ^ 64, [1, 2], false, false⟩,
    2, by decide +kernel⟩,
   ⟨st (nCan id (nTx none (some ⟨5000 * 2 ^ 64, [1, 2], false, false⟩) none)), 1, 3, ⟨5000 * 2 ^ 64, [1, 2], false, false⟩,
    by decide +kernel⟩,
   ⟨st (nCan id (nTx (some ⟨0, [1, 2], false, false⟩) none none)), 1, 3, ⟨0, [1, 2], false, false⟩, by decide +kernel⟩,
   ⟨st (nCan id { (nTx (some ⟨0, [1, 2], false, false⟩) none none) with lateSend := true }), 1, 3, ⟨0, [1, 2], false, false⟩,
    by decide +kernel⟩⟩

end Sys2Proof.Tests
end

section
/-!
PROOF. The MAC slot (R89 to R91): what closing a bundle leaves of the engine whose last word has issued, what a MAC word that presents
does by the answer of its operation, and the blocks that the four words write, element by element.
-/

namespace Sys2Proof.Machine

/-! ### A MAC word that presents -/

/-- Of two writes of one engine the later stands. -/
theorem Module.setEng_setEng (m : Module) (c e : Nat) (v w : Engine) : (m.setEng c e v).setEng c e w = m.setEng c e w := by
  simp [Module.setEng]

/-- A bundle closes on its engine alone: its registers and what is left of it stay, and it goes on as R81 and R122 say. -/
theorem closeBundle_setEng (c e : Nat) (m : Module) {v : Engine} (hrun : slotRun v = true) :
    ∃ u, closeBundle c e (m.setEng c e v) = m.setEng c e u ∧
      u = { v with offEnd := u.offEnd, run := u.run, fault := u.fault } ∧ GoesOn v u := by
  by_cases hleft : anyLeft v = true
  · exact ⟨v, by simp [closeBundle, hleft], rfl, by simp [GoesOn, hleft]⟩
  cases hfault : v.fault with
  | some f =>
    refine ⟨{ v with run := .faulted }, ?_, rfl, ?_⟩
    · simp [closeBundle, hleft, hrun, hfault, Module.setEng_setEng]
    · simp_all [GoesOn, anyLeft]
  | none =>
    by_cases hend : v.offEnd = true ∧ v.run = .issuing
    · refine ⟨{ faultWith { kind := 7, pc := v.bpc.toNat } v with offEnd := false }, ?_, rfl, ?_⟩
      · simp [closeBundle, hleft, hrun, hfault, hend, engFault, Module.updEng, Module.setEng_setEng]
      · simp_all [GoesOn, anyLeft, faultWith]
    · refine ⟨v, ?_, rfl, by simp_all [GoesOn]⟩
      simp_all [closeBundle]

/-- A MAC word presents while its engine's slots run. -/
theorem slotRun_of_macPresents {m : Module} {c e : Nat} {w : W32} (h : macPresents m c e w = true) : slotRun (m.eng c e) = true := by
  simp only [macPresents, Bool.and_eq_true] at h
  exact h.1.1.1

/-- A MAC word whose operation answers an engine issues on that engine. -/
theorem execMacSlot_ok {c e : Nat} {w : W32} {op : Engine → Except Nat Engine} {m : Module} {u : Engine} {regs : Regs}
    (h : macPresents m c e w = true) (hop : op (m.eng c e) = .ok { u with nxt := regs }) (hrun : u.run = (m.eng c e).run) :
    ∃ v, execMacSlot c e w op m = m.setEng c e v ∧ MacIssued u v regs := by
  have hslot : slotRun { u with nxt := regs, mcLeft := false } = true := by
    simpa [slotRun, hrun] using slotRun_of_macPresents h
  obtain ⟨v, hclose, hv, hgoes⟩ := closeBundle_setEng c e m hslot
  exact ⟨v, by simp [execMacSlot, h, hop, hclose], hv, hgoes⟩

/-- A MAC word whose operation answers a fault stops its engine with that kind at its bundle (R101). -/
theorem execMacSlot_error {c e : Nat} {w : W32} {op : Engine → Except Nat Engine} {m : Module} {k : Nat} (h : macPresents m c e w = true)
    (hop : op (m.eng c e) = .error k) (hfault : (m.eng c e).fault = none) :
    execMacSlot c e w op m =
      m.setEng c e { (m.eng c e) with run := .faulted, fault := some { kind := k, pc := (m.eng c e).bpc.toNat } } := by
  simp [execMacSlot, h, hop, engFault, Module.updEng, faultWith, hfault]

/-- A well-formed slot word whose effect is on one engine. -/
theorem onEngine_of_execSlot {i : Instr} {s : State} {c e : Nat} {f : Module → Module} {P : Engine → Prop}
    (hexec : exec i s = execSlot i f s) (hwf : i.wf = true) (h : ∃ v, f s.mod = s.mod.setEng c e v ∧ P v) : OnEngine i s c e P := by
  obtain ⟨v, hf, hP⟩ := h
  exact ⟨v, by simp [hexec, execSlot, hwf, State.act, hf], hP⟩

/-! ### Blocks by element -/

/-- A block is its 16 elements. -/
theorem Regs.block_eq_map_elem (r : Regs) (k : Nat) : r.block k = (List.range 16).map (r.elem k) := rfl

/-- Mapping a block with the numbers of its elements. -/
theorem Regs.map_zipIdx_block {β : Type} (r : Regs) (k : Nat) (f : Acc × Nat → β) :
    (r.block k).zipIdx.map f = (List.range 16).map (fun n => f (r.elem k n, n)) := rfl

/-- Combining two blocks element by element. -/
theorem Regs.zipWith_block {β : Type} (r : Regs) (k l : Nat) (f : Acc → Acc → β) :
    List.zipWith f (r.block k) (r.block l) = (List.range 16).map (fun n => f (r.elem k n) (r.elem l n)) := rfl

/-- The overflow of R36 and R39 in the words of the statements. -/
theorem outside32_eq (v : Int) : outside32 v = decide (v < -2147483648 ∨ 2147483647 < v) := by
  simp [outside32]

/-! ### The four words -/

/-- MAC with a table that its form may name writes its block, element by element (R35 to R37, R90). -/
theorem mac_issues {s : State} {c : Fin 32} {e : Fin 64} {w : W32} (hwf : (Instr.mac c e w).wf = true)
    (hpres : macPresents s.mod c e w = true)
    (htab : decide (fld w 14 14 = 1) = false ∨ (((s.mod.eng c e).src.ptab (fld w 15 15)).flags.getLsbD 2 = true ∧
      ((s.mod.eng c e).src.ptab (fld w 15 15)).flags.getLsbD 3 = true)) :
    let old := s.mod.eng c e
    OnEngine (.mac c e w) s c e (fun v => MacIssued old v (old.nxt.setBlock (fld w 25 24) ((List.range 16).map (fun n =>
      macElem (old.src.ptab (fld w 15 15)) (decide (fld w 14 14 = 1)) (decide (fld w 13 13 = 1)) (old.src.tile (fld w 23 20))
        (old.src.tile (fld w 19 16)) (old.src.elem (fld w 25 24) n) (n / 4) (n % 4))))) := by
  have hnot : ¬ ((decide (fld w 14 14 = 1) && !(((s.mod.eng c e).src.ptab (fld w 15 15)).flags.getLsbD 2 &&
      ((s.mod.eng c e).src.ptab (fld w 15 15)).flags.getLsbD 3)) = true) := by
    rcases htab with h | ⟨h2, h3⟩
    · simp [h]
    · simp [h2, h3]
  exact onEngine_of_execSlot rfl hwf (execMacSlot_ok hpres (u := s.mod.eng c e) (by simp only [if_neg hnot, Regs.map_zipIdx_block]) rfl)

/-- MAC in the split form with another table faults (R35). -/
theorem mac_split_faults {s : State} {c : Fin 32} {e : Fin 64} {w : W32} (hwf : (Instr.mac c e w).wf = true)
    (hpres : macPresents s.mod c e w = true) (hsplit : decide (fld w 14 14 = 1) = true)
    (htab : ¬ (((s.mod.eng c e).src.ptab (fld w 15 15)).flags.getLsbD 2 = true ∧
      ((s.mod.eng c e).src.ptab (fld w 15 15)).flags.getLsbD 3 = true)) (hfault : (s.mod.eng c e).fault = none) :
    OnEngine (.mac c e w) s c e (fun v =>
      v = { (s.mod.eng c e) with run := .faulted, fault := some { kind := 1, pc := (s.mod.eng c e).bpc.toNat } }) := by
  have hbad : (decide (fld w 14 14 = 1) && !(((s.mod.eng c e).src.ptab (fld w 15 15)).flags.getLsbD 2 &&
      ((s.mod.eng c e).src.ptab (fld w 15 15)).flags.getLsbD 3)) = true := by
    rw [← Bool.and_eq_true, Bool.not_eq_true] at htab
    rw [hsplit, htab]; rfl
  exact onEngine_of_execSlot rfl hwf ⟨_, execMacSlot_error hpres (if_pos hbad) hfault, rfl⟩

/-- Settles O9: each of the four words issues through the MAC slot, and what it writes is the model's block element by element. -/
theorem macWords : Obligations.MacWords := by
  unfold Obligations.MacWords
  refine ⟨fun s c e w hwf hpres => ⟨fun htab => ?_, mac_split_faults hwf hpres⟩, fun s c e w hwf hpres => ?_, fun s c e w hwf hpres => ?_,
    fun s c e w hwf hpres => ?_⟩
  · simpa only [macElem, outside32_eq, decide_eq_true_eq] using mac_issues hwf hpres htab
  · exact onEngine_of_execSlot rfl hwf (execMacSlot_ok hpres (u := s.mod.eng c e) rfl rfl)
  · refine onEngine_of_execSlot rfl hwf (execMacSlot_ok hpres (u := s.mod.eng c e) ?_ rfl)
    simp only [Regs.zipWith_block, combine, outside32_eq]
  · refine onEngine_of_execSlot rfl hwf (execMacSlot_ok hpres ?_ rfl)
    simp only [Regs.map_zipIdx_block, stickyConv]

end Sys2Proof.Machine
end

section
/-!
PROOF. Rounding once (R42, R44): an integer nearest to a number, of two as near the even one; that the significand `flRound` takes is
such an integer; and that the pattern it packs is the number rounded once to binary32.
-/

namespace Sys2Proof.Machine

/-! ### The nearest integer, ties to even -/

/-- q is an integer nearest to s, and is even where another is as near. -/
def NearestEven (s : ℝ) (q : ℕ) : Prop := |(q : ℝ) - s| ≤ 1 / 2 ∧ (|(q : ℝ) - s| = 1 / 2 → q % 2 = 0)

theorem nearestEven_self (q : ℕ) : NearestEven q q := by norm_num [NearestEven]

theorem nearestEven_of_le_half {q : ℕ} {s x : ℝ} (hs : s = q + x) (h0 : 0 ≤ x) (hx : x ≤ 1 / 2) (htie : x = 1 / 2 → q % 2 = 0) :
    NearestEven s q := by
  have habs : |(q : ℝ) - s| = x := by rw [hs, sub_add_cancel_left, abs_neg, abs_of_nonneg h0]
  exact ⟨habs ▸ hx, habs ▸ htie⟩

theorem nearestEven_succ_of_half_le {q : ℕ} {s x : ℝ} (hs : s = q + x) (hx : 1 / 2 ≤ x) (h1 : x ≤ 1)
    (htie : x = 1 / 2 → q % 2 = 1) : NearestEven s (q + 1) := by
  have habs : |((q + 1 : ℕ) : ℝ) - s| = 1 - x := by
    rw [hs, Nat.cast_succ, add_sub_add_left_eq_sub, abs_of_nonneg (by linarith)]
  refine ⟨by linarith, fun h => ?_⟩
  have := htie (by linarith)
  omega

/-- No integer is nearer, and where another is as near q is even. -/
theorem NearestEven.le_int {s : ℝ} {q : ℕ} (h : NearestEven s q) (j : ℤ) :
    |(q : ℝ) - s| ≤ |(j : ℝ) - s| ∧ ((j : ℝ) ≠ q → |(j : ℝ) - s| = |(q : ℝ) - s| → q % 2 = 0) := by
  obtain ⟨hhalf, heven⟩ := h
  by_cases hj : j = q
  · subst hj; simp
  have hone : (1 : ℝ) ≤ |(j : ℝ) - q| := by exact_mod_cast Int.one_le_abs (sub_ne_zero.mpr hj)
  have htri : |(j : ℝ) - q| ≤ |(j : ℝ) - s| + |(q : ℝ) - s| := by
    rw [abs_sub_comm (q : ℝ) s]; exact abs_sub_le _ _ _
  exact ⟨by linarith, fun _ htie => heven (by linarith)⟩

/-- A number of 2^23 or more stays so, and one below 2^24 is rounded to at most 2^24. -/
theorem NearestEven.mem_range {s : ℝ} {q : ℕ} (h : NearestEven s q) (hlo : 2 ^ 23 ≤ s) (hhi : s < 2 ^ 24) :
    2 ^ 23 ≤ q ∧ q ≤ 2 ^ 24 := by
  obtain ⟨hl, hr⟩ := abs_le.mp h.1
  constructor
  · have : ((2 ^ 23 : ℕ) : ℝ) < ((q + 1 : ℕ) : ℝ) := by push_cast; linarith
    exact Nat.lt_succ_iff.mp (by exact_mod_cast this)
  · have : (q : ℝ) < ((2 ^ 24 + 1 : ℕ) : ℝ) := by push_cast; linarith
    exact Nat.lt_succ_iff.mp (by exact_mod_cast this)

/-- Among all numbers k × 2^E' with |k| < 2^24, the significand q ≥ 2^23 at the exponent E is nearest to s × 2^E: the others lie on
the lattice of 2^E or below 2^23 × 2^E. -/
theorem NearestEven.le_scaled {s : ℝ} {q : ℕ} (h : NearestEven s q) (hlo : 2 ^ 23 ≤ s) (E E' : ℤ) {k : ℤ} (hk : |k| < 2 ^ 24) :
    |q * (2 : ℝ) ^ E - s * 2 ^ E| ≤ |k * (2 : ℝ) ^ E' - s * 2 ^ E| ∧
      (k * (2 : ℝ) ^ E' ≠ q * 2 ^ E → |k * (2 : ℝ) ^ E' - s * 2 ^ E| = |q * (2 : ℝ) ^ E - s * 2 ^ E| → q % 2 = 0) := by
  have hpos : (0 : ℝ) < 2 ^ E := by positivity
  have hscale : ∀ y : ℝ, |y * 2 ^ E - s * 2 ^ E| = |y - s| * 2 ^ E := fun y => by rw [← sub_mul, abs_mul, abs_of_pos hpos]
  by_cases hE : E ≤ E'
  · have hj : k * (2 : ℝ) ^ E' = ((k * 2 ^ (E' - E).toNat : ℤ) : ℝ) * 2 ^ E := by
      push_cast
      rw [mul_assoc, ← zpow_natCast, ← zpow_add₀ two_ne_zero, Int.toNat_of_nonneg (by omega), sub_add_cancel]
    obtain ⟨hle, htie⟩ := h.le_int (k * 2 ^ (E' - E).toNat)
    rw [hj, hscale, hscale]
    exact ⟨mul_le_mul_of_nonneg_right hle hpos.le,
      fun hne heq => htie (fun hq => hne (by rw [hq])) (mul_right_cancel₀ hpos.ne' heq)⟩
  · have hsmall : k * (2 : ℝ) ^ E' < 2 ^ 23 * 2 ^ E := by
      have hk' : (k : ℝ) < 2 ^ 24 := by exact_mod_cast (le_abs_self k).trans_lt hk
      calc k * (2 : ℝ) ^ E' < 2 ^ 24 * 2 ^ E' := mul_lt_mul_of_pos_right hk' (by positivity)
        _ = 2 ^ 23 * 2 ^ (E' + 1) := by rw [zpow_add_one₀ two_ne_zero]; ring
        _ ≤ 2 ^ 23 * 2 ^ E := by gcongr; exacts [one_le_two, by omega]
    have hlt : |q * (2 : ℝ) ^ E - s * 2 ^ E| < |k * (2 : ℝ) ^ E' - s * 2 ^ E| := by
      have hfar : |q * (2 : ℝ) ^ E - s * 2 ^ E| ≤ s * 2 ^ E - 2 ^ 23 * 2 ^ E := by
        have h23 : ((8388608 : ℤ) : ℝ) = 2 ^ 23 := by norm_num
        have hnear : |(q : ℝ) - s| ≤ |2 ^ 23 - s| := h23 ▸ (h.le_int 8388608).1
        rw [abs_sub_comm (2 ^ 23) s, abs_of_nonneg (sub_nonneg.mpr hlo)] at hnear
        rw [hscale, ← sub_mul]
        exact mul_le_mul_of_nonneg_right hnear hpos.le
      have hs : 2 ^ 23 * (2 : ℝ) ^ E ≤ s * 2 ^ E := mul_le_mul_of_nonneg_right hlo hpos.le
      have habs := le_abs_self (s * 2 ^ E - k * (2 : ℝ) ^ E')
      rw [abs_sub_comm] at habs
      linarith
    exact ⟨hlt.le, fun _ heq => absurd heq hlt.ne'⟩

/-! ### The significand of `flRound` -/

/-- Dropping k bits of n, with sticky for a number above n and below n + 1: the nearest, ties to even. -/
theorem nearestEven_roundSig {n k : ℕ} {sticky : Bool} {u : ℝ} (hk : k ≠ 0) (hlo : n ≤ u) (hhi : u < n + 1)
    (hsticky : sticky = true ↔ (n : ℝ) < u) : NearestEven (u / 2 ^ k) (roundSig n k sticky) := by
  obtain ⟨j, rfl⟩ := Nat.exists_eq_succ_of_ne_zero hk
  have hhalf : 2 ^ (j + 1) = 2 * 2 ^ j := by ring
  have hHpos : 0 < 2 ^ j := by positivity
  have hdiv : n = 2 ^ (j + 1) * (n / 2 ^ (j + 1)) + n % 2 ^ (j + 1) := (Nat.div_add_mod _ _).symm
  have hr : n % 2 ^ (j + 1) < 2 ^ (j + 1) := Nat.mod_lt _ (by positivity)
  simp only [roundSig, Nat.succ_eq_add_one, Nat.add_one_ne_zero, if_false, Nat.add_sub_cancel]
  generalize n / 2 ^ (j + 1) = q at *
  generalize n % 2 ^ (j + 1) = r at *
  rw [hhalf] at hr hdiv
  generalize hH : 2 ^ j = H at *
  have hHR : (0 : ℝ) < H := by exact_mod_cast hHpos
  have hnR : (n : ℝ) = 2 * H * q + r := by exact_mod_cast hdiv
  have hs : u / 2 ^ (j + 1) = q + (r + (u - n)) / (2 * H) := by
    have : (2 : ℝ) ^ (j + 1) = 2 * H := by rw [← hH]; push_cast; ring
    rw [this, hnR]; field_simp; ring
  have hx : (r + (u - n)) / (2 * H) = 1 / 2 ↔ (r : ℝ) + (u - n) = H := by
    rw [div_eq_iff (by positivity)]; constructor <;> intro h <;> linarith
  split
  · next hup =>
    have hHr : H ≤ r := by
      simp only [Bool.or_eq_true, Bool.and_eq_true, decide_eq_true_eq] at hup; omega
    have hHrR : (H : ℝ) ≤ r := by exact_mod_cast hHr
    have hrR : (r : ℝ) + 1 ≤ 2 * H := by exact_mod_cast hr
    refine nearestEven_succ_of_half_le hs ?_ ?_ (fun htie => ?_)
    · rw [div_le_div_iff₀ (by norm_num) (by positivity)]; linarith
    · rw [div_le_one (by positivity)]; linarith
    · rw [hx] at htie
      have hnot : sticky ≠ true := fun h => by linarith [hsticky.mp h]
      have hrH : ¬ H < r := fun h => by
        have : (H : ℝ) < r := by exact_mod_cast h
        linarith
      simp only [Bool.or_eq_true, Bool.and_eq_true, decide_eq_true_eq] at hup
      tauto
  · next hdown =>
    simp only [Bool.or_eq_true, Bool.and_eq_true, decide_eq_true_eq, not_or, not_and, not_lt, gt_iff_lt] at hdown
    obtain ⟨hrH, htie⟩ := hdown
    have hcase : (r : ℝ) + (u - n) ≤ H ∧ ((r : ℝ) + (u - n) = H → r = H) := by
      rcases hrH.lt_or_eq with h | h
      · have : (r : ℝ) + 1 ≤ H := by exact_mod_cast h
        exact ⟨by linarith, fun h' => by linarith⟩
      · have hu : u ≤ n := le_of_not_gt (fun h' => (htie h).1 (hsticky.mpr h'))
        have : (r : ℝ) = H := by exact_mod_cast h
        exact ⟨by linarith, fun _ => h⟩
    refine nearestEven_of_le_half hs (by apply div_nonneg <;> linarith [(r.cast_nonneg : (0 : ℝ) ≤ r)]) ?_ (fun h => ?_)
    · rw [div_le_div_iff₀ (by positivity) (by norm_num)]; linarith
    · have := (htie (hcase.2 (hx.mp h))).2
      omega

/-- The significand that `flRound` takes of n, brought to 24 bits: between 2^23 and 2^24. -/
def flSig (n : ℕ) (sticky : Bool) : ℕ := if n.log2 ≤ 23 then n * 2 ^ (23 - n.log2) else roundSig n (n.log2 - 23) sticky

/-- u is the number that `flRound` is given as n and sticky: n itself, or a number above n and below n + 1. -/
def Stands (n : ℕ) (sticky : Bool) (u : ℝ) : Prop := if sticky then 2 ^ 24 ≤ n ∧ (n : ℝ) < u ∧ u < n + 1 else u = n

theorem Stands.bounds {n : ℕ} {sticky : Bool} {u : ℝ} (h : Stands n sticky u) :
    (n : ℝ) ≤ u ∧ u < n + 1 ∧ (sticky = true ↔ (n : ℝ) < u) := by
  cases sticky <;> simp_all [Stands, le_of_lt]

/-- The number brought to its binade. -/
theorem Stands.mem_binade {n : ℕ} {sticky : Bool} {u : ℝ} (h : Stands n sticky u) (hn : n ≠ 0) :
    2 ^ 23 ≤ u / (2 : ℝ) ^ ((n.log2 : ℤ) - 23) ∧ u / (2 : ℝ) ^ ((n.log2 : ℤ) - 23) < 2 ^ 24 := by
  obtain ⟨hlo, hhi, -⟩ := h.bounds
  obtain ⟨hL, hL'⟩ := (Nat.log2_eq_iff hn).mp rfl
  have hLR : (2 : ℝ) ^ n.log2 ≤ n := by exact_mod_cast hL
  have hLR' : (n : ℝ) + 1 ≤ 2 ^ (n.log2 + 1) := by exact_mod_cast hL'
  have hpow : (2 : ℝ) ^ n.log2 = 2 ^ 23 * 2 ^ ((n.log2 : ℤ) - 23) := by
    rw [← zpow_natCast, ← zpow_natCast, ← zpow_add₀ two_ne_zero]; congr 1; push_cast; ring
  rw [pow_succ, hpow] at hLR'
  rw [hpow] at hLR
  have hpos : (0 : ℝ) < 2 ^ ((n.log2 : ℤ) - 23) := by positivity
  exact ⟨by rw [le_div_iff₀ hpos]; linarith, by rw [div_lt_iff₀ hpos]; linarith⟩

/-- The significand taken is the nearest, ties to even. -/
theorem Stands.nearestEven {n : ℕ} {sticky : Bool} {u : ℝ} (h : Stands n sticky u) (hn : n ≠ 0) :
    NearestEven (u / (2 : ℝ) ^ ((n.log2 : ℤ) - 23)) (flSig n sticky) := by
  obtain ⟨hlo, hhi, hsticky⟩ := h.bounds
  unfold flSig
  split
  · next hL =>
    have hun : u = n := by
      cases sticky with
      | false => exact h
      | true =>
        have := (Nat.log2_lt hn).mp (Nat.lt_succ_of_le hL)
        exact absurd h.1 (by omega)
    have : u / (2 : ℝ) ^ ((n.log2 : ℤ) - 23) = ((n * 2 ^ (23 - n.log2) : ℕ) : ℝ) := by
      rw [hun, div_eq_mul_inv, ← zpow_neg]
      push_cast
      rw [← zpow_natCast, Nat.cast_sub hL]; norm_num
    rw [this]
    exact nearestEven_self _
  · next hL =>
    have : (2 : ℝ) ^ ((n.log2 : ℤ) - 23) = 2 ^ (n.log2 - 23) := by
      rw [← zpow_natCast, Nat.cast_sub (by omega)]; rfl
    rw [this]
    exact nearestEven_roundSig (by omega) hlo hhi hsticky

end Sys2Proof.Machine
end

section
/-!
PROOF. The pattern that `flRound` packs: its sign, significand and exponent, the two thresholds, and that it is the number rounded once
(RoundsTo).
-/

namespace Sys2Proof.Machine

/-! ### Patterns by sign, exponent field and fraction -/

/-- A number with its sign turned where asked. -/
def withSign (neg : Bool) (t : ℝ) : ℝ := if neg then -t else t

theorem abs_withSign (neg : Bool) (t : ℝ) : |withSign neg t| = |t| := by cases neg <;> simp [withSign]

theorem withSign_lt_zero {neg : Bool} {t : ℝ} (ht : 0 < t) : withSign neg t < 0 ↔ neg = true := by
  cases neg <;> simp [withSign, ht, ht.le]

theorem abs_sub_withSign (neg : Bool) (y t : ℝ) : |y - withSign neg t| = |withSign neg y - t| := by
  cases neg
  · rfl
  · simp only [withSign, if_true, sub_neg_eq_add]
    rw [← abs_neg, neg_add']

theorem withSign_withSign (neg : Bool) (t : ℝ) : withSign neg (withSign neg t) = t := by cases neg <;> simp [withSign]

theorem isNeg_eq (w : W32) : isNeg w = decide (2 ^ 31 ≤ w.toNat) := BitVec.msb_eq_decide w

@[simp] theorem isNeg_flZero (neg : Bool) : isNeg (flZero neg) = neg := by cases neg <;> decide
@[simp] theorem isNeg_flInf (neg : Bool) : isNeg (flInf neg) = neg := by cases neg <;> decide

/-- The number of a pattern is its signed significand at its exponent. -/
theorem flVal_cast (w : W32) : ((flVal w : ℚ) : ℝ) = flInt w * (2 : ℝ) ^ flExp w := by simp [flVal]

theorem flVal_eq_withSign (w : W32) : ((flVal w : ℚ) : ℝ) = withSign (isNeg w) (flMant w * (2 : ℝ) ^ flExp w) := by
  rw [flVal_cast, flInt]
  cases isNeg w <;> simp [withSign]

theorem flMant_lt (w : W32) : flMant w < 2 ^ 24 := by
  unfold flMant
  split <;> omega

theorem abs_flInt (w : W32) : |flInt w| = flMant w := by
  unfold flInt
  split <;> simp

/-- Turned or not, the number of a pattern is an integer at its exponent. -/
theorem withSign_flVal (neg : Bool) (w : W32) :
    withSign neg (flVal w : ℚ) = ((if neg then -flInt w else flInt w : ℤ) : ℝ) * 2 ^ flExp w := by
  rw [flVal_cast]
  cases neg <;> simp [withSign]

theorem signedInt_lt (neg : Bool) (w : W32) : |if neg then -flInt w else flInt w| < 2 ^ 24 := by
  have habs : |if neg then -flInt w else flInt w| = flMant w := by cases neg <;> simp [abs_flInt]
  rw [habs]
  exact_mod_cast flMant_lt w

/-- The pattern of a sign, a significand f of 24 bits and an exponent E. -/
def flPattern (neg : Bool) (f : ℕ) (E : ℤ) : W32 := flZero neg ||| BitVec.ofNat 32 ((E + 150).toNat * 2 ^ 23 + (f - 2 ^ 23))

theorem toNat_flZero_or (neg : Bool) {n : ℕ} (hn : n < 2 ^ 31) :
    (flZero neg ||| BitVec.ofNat 32 n).toNat = (if neg then 2 ^ 31 else 0) + n := by
  rw [BitVec.toNat_or, BitVec.toNat_ofNat, Nat.mod_eq_of_lt (by omega)]
  cases neg
  · simp [flZero]
  · simpa [flZero] using (Nat.two_pow_add_eq_or_of_lt hn 1).symm

/-- A pattern of the normal range reads back as what it was made of. -/
theorem flPattern_fields (neg : Bool) {f : ℕ} {E : ℤ} (hf : 2 ^ 23 ≤ f) (hf' : f < 2 ^ 24) (hE : -149 ≤ E) (hE' : E ≤ 104) :
    isNeg (flPattern neg f E) = neg ∧ isFin (flPattern neg f E) = true ∧ isZero (flPattern neg f E) = false ∧
      flMant (flPattern neg f E) = f ∧ flExp (flPattern neg f E) = E := by
  obtain ⟨b, hb⟩ : ∃ b : ℕ, E + 150 = b := ⟨(E + 150).toNat, by omega⟩
  have hnat : (flPattern neg f E).toNat = (if neg then 2 ^ 31 else 0) + (b * 2 ^ 23 + (f - 2 ^ 23)) := by
    unfold flPattern
    rw [hb, Int.toNat_natCast]
    exact toNat_flZero_or neg (by omega)
  have hexp : (flPattern neg f E).toNat / 2 ^ 23 % 256 = b := by rw [hnat]; split <;> omega
  have hfrac : (flPattern neg f E).toNat % 2 ^ 23 = f - 2 ^ 23 := by rw [hnat]; split <;> omega
  have hzero : isZero (flPattern neg f E) = false := by simp only [isZero, hexp]; exact decide_eq_false (by omega)
  refine ⟨?_, ?_, hzero, ?_, ?_⟩
  · rw [isNeg_eq, hnat]
    cases neg
    · exact decide_eq_false (by simp; omega)
    · exact decide_eq_true (by simp)
  · simp only [isFin, hexp]; exact bne_iff_ne.mpr (by omega)
  · rw [flMant, hzero, hfrac]; simp; omega
  · rw [flExp, hexp]; omega

theorem flVal_flPattern (neg : Bool) {f : ℕ} {E : ℤ} (hf : 2 ^ 23 ≤ f) (hf' : f < 2 ^ 24) (hE : -149 ≤ E) (hE' : E ≤ 104) :
    ((flVal (flPattern neg f E) : ℚ) : ℝ) = withSign neg (f * 2 ^ E) := by
  obtain ⟨hneg, -, -, hmant, hexp⟩ := flPattern_fields neg hf hf' hE hE'
  rw [flVal_eq_withSign, hneg, hmant, hexp]

/-! ### Tiny and overflowing numbers -/

/-- A significand f of 24 bits at the exponent E as binary32, a tiny one flushed and one of 2^128 or more an infinity. -/
def flPack (neg : Bool) (f : ℕ) (E : ℤ) : W32 :=
  if E + 23 < -126 then flZero neg else if E + 23 ≥ 128 then flInf neg else flPattern neg f E

/-- A significand of at most 2^24 as binary32: 2^24 counts as 2^23 at the next exponent. -/
def flCarry (neg : Bool) (q : ℕ) (E : ℤ) : W32 := if q = 2 ^ 24 then flPack neg (2 ^ 23) (E + 1) else flPack neg q E

/-- The rounded significand reaches 2^K exactly from half a unit in the last place below it. -/
theorem NearestEven.reaches_iff {s : ℝ} {q : ℕ} (h : NearestEven s q) (hlo : 2 ^ 23 ≤ s) (hhi : s < 2 ^ 24) (E K : ℤ) :
    (K ≤ E + 23 ∨ q = 2 ^ 24 ∧ K = E + 24) ↔ (2 : ℝ) ^ K - 2 ^ (K - 25) ≤ s * 2 ^ E := by
  have hpos : (0 : ℝ) < 2 ^ E := by positivity
  have hshift : ∀ n : ℤ, (2 : ℝ) ^ (E + n) = 2 ^ n * 2 ^ E := fun n => by rw [zpow_add₀ two_ne_zero, mul_comm]
  rcases lt_trichotomy K (E + 24) with hK | rfl | hK
  · have : (2 : ℝ) ^ K ≤ 2 ^ (E + 23) := zpow_le_zpow_right₀ one_le_two (by omega)
    have hsub : (0 : ℝ) < 2 ^ (K - 25) := by positivity
    have hs : (2 : ℝ) ^ (23 : ℤ) * 2 ^ E ≤ s * 2 ^ E := mul_le_mul_of_nonneg_right (by exact_mod_cast hlo) hpos.le
    rw [hshift] at this
    exact ⟨fun _ => by linarith, fun _ => Or.inl (by omega)⟩
  · have hthr : (2 : ℝ) ^ (E + 24) - 2 ^ (E + 24 - 25) = (2 ^ 24 - 1 / 2) * 2 ^ E := by
      rw [hshift, show E + 24 - 25 = E + (-1) by ring, hshift]; norm_num; ring
    rw [hthr, mul_le_mul_iff_left₀ hpos]
    obtain ⟨hl, hr⟩ := abs_le.mp h.1
    refine ⟨fun hq => ?_, fun hs => Or.inr ⟨?_, rfl⟩⟩
    · obtain hq | ⟨hq, -⟩ := hq
      · omega
      · rw [hq] at hr; push_cast at hr; linarith
    · by_contra hne
      have hle := (h.mem_range hlo hhi).2
      have hq : q ≤ 2 ^ 24 - 1 := by omega
      have hqR : (q : ℝ) ≤ 2 ^ 24 - 1 := by
        have : (q : ℝ) ≤ ((2 ^ 24 - 1 : ℕ) : ℝ) := by exact_mod_cast hq
        norm_num at this ⊢; linarith
      have heq : (q : ℝ) = 2 ^ 24 - 1 := by linarith
      have heven := h.2 (by rw [abs_of_nonpos (by linarith)]; linarith)
      have : q = 2 ^ 24 - 1 := by
        have : ((q + 1 : ℕ) : ℝ) = ((2 ^ 24 : ℕ) : ℝ) := by push_cast; linarith
        have : q + 1 = 2 ^ 24 := by exact_mod_cast this
        omega
      omega
  · have h1 : (2 : ℝ) ^ (E + 24) ≤ 2 ^ (K - 1) := zpow_le_zpow_right₀ one_le_two (by omega)
    have h2 : (2 : ℝ) ^ (K - 25) ≤ 2 ^ (K - 1) := zpow_le_zpow_right₀ one_le_two (by omega)
    have h3 : (2 : ℝ) ^ K = 2 ^ (K - 1) + 2 ^ (K - 1) := by
      rw [← two_mul, ← zpow_one_add₀ two_ne_zero]; congr 1; ring
    have hs : s * 2 ^ E < 2 ^ 24 * 2 ^ E := mul_lt_mul_of_pos_right hhi hpos
    have h4 : (2 : ℝ) ^ (E + 24) = 2 ^ 24 * 2 ^ E := by rw [hshift]; norm_num
    exact ⟨fun hq => by omega, fun hs' => by linarith⟩

/-- The significand and exponent that are packed. -/
theorem NearestEven.exists_pack {s : ℝ} {q : ℕ} (h : NearestEven s q) (hlo : 2 ^ 23 ≤ s) (hhi : s < 2 ^ 24) (neg : Bool) (E : ℤ) :
    ∃ f X, flCarry neg q E = flPack neg f X ∧ 2 ^ 23 ≤ f ∧ f < 2 ^ 24 ∧ (f : ℝ) * 2 ^ X = q * 2 ^ E ∧ (q % 2 = 0 → f % 2 = 0) ∧
      ∀ K : ℤ, K ≤ X + 23 ↔ (2 : ℝ) ^ K - 2 ^ (K - 25) ≤ s * 2 ^ E := by
  obtain ⟨hq, hq'⟩ := h.mem_range hlo hhi
  unfold flCarry
  split
  · next heq =>
    refine ⟨2 ^ 23, E + 1, rfl, le_rfl, by norm_num, ?_, fun _ => by norm_num, fun K => ?_⟩
    · rw [heq, zpow_add_one₀ two_ne_zero]; push_cast; ring
    · rw [← h.reaches_iff hlo hhi]; omega
  · next hne =>
    refine ⟨q, E, rfl, hq, by omega, rfl, id, fun K => ?_⟩
    rw [← h.reaches_iff hlo hhi]; omega

/-! ### The rounded number -/

theorem isNeg_flPack (neg : Bool) {f : ℕ} {X : ℤ} (hf : 2 ^ 23 ≤ f) (hf' : f < 2 ^ 24) : isNeg (flPack neg f X) = neg := by
  unfold flPack
  split
  · exact isNeg_flZero neg
  split
  · exact isNeg_flInf neg
  · exact (flPattern_fields neg hf hf' (by omega) (by omega)).1

/-- The number s × 2^E, its significand rounded to nearest even and packed, is that number rounded once. -/
theorem NearestEven.roundsTo {s : ℝ} {q : ℕ} (h : NearestEven s q) (hlo : 2 ^ 23 ≤ s) (hhi : s < 2 ^ 24) (neg : Bool) (E : ℤ) :
    RoundsTo (withSign neg (s * 2 ^ E)) (flCarry neg q E) := by
  obtain ⟨f, X, hw, hf, hf', hval, heven, hreach⟩ := h.exists_pack hlo hhi neg E
  have hpos : 0 < s * (2 : ℝ) ^ E := mul_pos (by linarith) (by positivity)
  have htiny : -126 ≤ X + 23 ↔ (2 : ℝ) ^ (-126 : ℤ) - 2 ^ (-151 : ℤ) ≤ s * 2 ^ E := hreach (-126)
  have hover : 128 ≤ X + 23 ↔ (2 : ℝ) ^ 128 - 2 ^ 103 ≤ s * 2 ^ E := by
    simpa only [show (128 : ℤ) - 25 = 103 from rfl, zpow_ofNat] using hreach 128
  rw [hw]
  unfold RoundsTo
  rw [isNeg_flPack neg hf hf', withSign_lt_zero hpos, abs_withSign, abs_of_pos hpos]
  refine ⟨Iff.rfl, fun ht => ?_, fun ht => ?_, fun ht ht' => ?_⟩
  · have : ¬ -126 ≤ X + 23 := fun hX => (htiny.mp hX).not_gt ht
    exact if_pos (by omega)
  · have := hover.mpr ht
    rw [flPack, if_neg (by omega), if_pos this]
  · have hX : -126 ≤ X + 23 := htiny.mpr ht
    have hX' : ¬ 128 ≤ X + 23 := fun hX => (hover.mp hX).not_gt ht'
    have hpack : flPack neg f X = flPattern neg f X := by rw [flPack, if_neg (by omega), if_neg hX']
    obtain ⟨-, hfin, hzero, hmant, -⟩ := flPattern_fields (E := X) neg hf hf' (by omega) (by omega)
    rw [hpack, hmant, flVal_flPattern neg hf hf' (by omega) (by omega), hval]
    refine ⟨hfin, hzero, fun v _ => ?_⟩
    obtain ⟨hle, htie⟩ := h.le_scaled hlo E (flExp v) (signedInt_lt neg v)
    rw [abs_sub_withSign, withSign_withSign, abs_sub_withSign neg (flVal v : ℝ), withSign_flVal]
    refine ⟨hle, fun hne heq => heven (htie (fun hv => hne ?_) heq)⟩
    have hcast : ((flVal v : ℚ) : ℝ) = (flVal (flPattern neg f X) : ℚ) := by
      rw [flVal_flPattern neg hf hf' (by omega) (by omega), hval, ← hv, ← withSign_flVal, withSign_withSign]
    exact_mod_cast hcast

end Sys2Proof.Machine
end

section
/-!
PROOF. `flRound`, and `flRoundInt` on an exact integer, round the number they are given once (R42, R44).
-/

namespace Sys2Proof.Machine

/-! ### `flRound` packs its significand -/

/-- Dropping bits until 24 are left gives a significand from 2^23 to 2^24. -/
theorem roundSig_mem_range {n : ℕ} (sticky : Bool) (hn : 23 < n.log2) :
    2 ^ 23 ≤ roundSig n (n.log2 - 23) sticky ∧ roundSig n (n.log2 - 23) sticky ≤ 2 ^ 24 := by
  have hn0 : n ≠ 0 := fun h => by simp [h] at hn
  obtain ⟨hL, hL'⟩ := (Nat.log2_eq_iff hn0).mp rfl
  obtain ⟨k, hk⟩ : ∃ k, n.log2 = k + 23 := ⟨n.log2 - 23, by omega⟩
  rw [hk, pow_add] at hL
  rw [hk, add_assoc, pow_add] at hL'
  have hlo : 2 ^ 23 ≤ n / 2 ^ k := (Nat.le_div_iff_mul_le (by positivity)).mpr (by linarith)
  have hhi : n / 2 ^ k < 2 ^ 24 := Nat.div_lt_of_lt_mul hL'
  simp only [roundSig, hk, Nat.add_sub_cancel]
  rw [if_neg (by omega)]
  split <;> omega

/-- The fraction field of a significand below 2^24. -/
theorem fraction_of_log2_le {n : ℕ} (hn : n.log2 ≤ 23) : n * 2 ^ 24 / 2 ^ n.log2 / 2 = n * 2 ^ (23 - n.log2) := by
  have hpow : n * 2 ^ 24 = n * 2 ^ (23 - n.log2) * (2 ^ n.log2 * 2) := by
    rw [mul_assoc, ← pow_succ, ← pow_add]; congr 2; omega
  rw [Nat.div_div_eq_div_mul, hpow, Nat.mul_div_cancel _ (by positivity)]

/-- What `flRound` does with a significand q, in the terms of `flPack`. -/
theorem flRound_eq_flPack (neg : Bool) {n q f : ℕ} {e X : ℤ} {sticky : Bool} (hn : n ≠ 0) (hq : roundSig n (n.log2 + 1 - 24) sticky = q)
    (hex : e + ((n.log2 + 1 - 24 : ℕ) : ℤ) + q.log2 = X + 23) (hfrac : q * 2 ^ 24 / 2 ^ q.log2 / 2 = f) :
    flRound neg n e sticky = flPack neg f X := by
  have hfield : X + 23 + 127 = X + 150 := by ring
  simp only [flRound, if_neg hn, hq, hex, hfrac, hfield, flPack, flPattern]

/-- `flRound` packs the significand it takes. -/
theorem flRound_eq_flCarry (neg : Bool) {n : ℕ} (e : ℤ) (sticky : Bool) (hn : n ≠ 0) :
    flRound neg n e sticky = flCarry neg (flSig n sticky) (e + ((n.log2 : ℤ) - 23)) := by
  by_cases hL : n.log2 ≤ 23
  · have hlt : n * 2 ^ (23 - n.log2) < 2 ^ 24 := by
      calc n * 2 ^ (23 - n.log2) < 2 ^ (n.log2 + 1) * 2 ^ (23 - n.log2) :=
            Nat.mul_lt_mul_of_pos_right Nat.lt_log2_self (by positivity)
        _ = 2 ^ 24 := by rw [← pow_add]; congr 1; omega
    have hshift : n.log2 + 1 - 24 = 0 := by omega
    rw [flSig, if_pos hL, flCarry, if_neg hlt.ne]
    exact flRound_eq_flPack neg hn (by rw [hshift]; rfl) (by omega) (fraction_of_log2_le hL)
  · obtain ⟨hlo, hhi⟩ := roundSig_mem_range sticky (not_le.mp hL)
    have hshift : n.log2 + 1 - 24 = n.log2 - 23 := by omega
    rw [flSig, if_neg hL, flCarry]
    split
    · next hq =>
      have hlog : (2 ^ 24).log2 = 24 := Nat.log2_two_pow
      exact flRound_eq_flPack neg hn ((congrArg (roundSig n · sticky) hshift).trans hq) (by omega) (by rw [hlog]; norm_num)
    · next hq =>
      have hlog : (roundSig n (n.log2 - 23) sticky).log2 = 23 := (Nat.log2_eq_iff (by omega)).mpr ⟨hlo, by omega⟩
      refine flRound_eq_flPack neg hn (congrArg (roundSig n · sticky) hshift) (by omega) ?_
      rw [fraction_of_log2_le hlog.le, hlog, Nat.sub_self, pow_zero, mul_one]

/-- `flRound` rounds the number that n and sticky stand for, at the exponent e, once. -/
theorem roundsTo_flRound (neg : Bool) {n : ℕ} (e : ℤ) {sticky : Bool} {u : ℝ} (hn : n ≠ 0) (h : Stands n sticky u) :
    RoundsTo (withSign neg (u * 2 ^ e)) (flRound neg n e sticky) := by
  obtain ⟨hlo, hhi⟩ := h.mem_binade hn
  have hr := (h.nearestEven hn).roundsTo hlo hhi neg (e + ((n.log2 : ℤ) - 23))
  have hu : u / (2 : ℝ) ^ ((n.log2 : ℤ) - 23) * 2 ^ (e + ((n.log2 : ℤ) - 23)) = u * 2 ^ e := by
    rw [add_comm e, zpow_add₀ two_ne_zero, ← mul_assoc, div_mul_cancel₀ _ (by positivity)]
  rwa [hu, ← flRound_eq_flCarry neg e sticky hn] at hr

/-! ### Exact integers -/

/-- An exact integer at an exponent is rounded once. -/
theorem roundsTo_flRoundInt {v : ℤ} (e : ℤ) (negZero : Bool) (hv : v ≠ 0) :
    RoundsTo ((v : ℝ) * 2 ^ e) (flRoundInt v e negZero) := by
  have hr := roundsTo_flRound (decide (v < 0)) e (sticky := false) (u := (v.natAbs : ℝ)) (Int.natAbs_ne_zero.mpr hv) rfl
  have habs : withSign (decide (v < 0)) ((v.natAbs : ℝ) * 2 ^ e) = (v : ℝ) * 2 ^ e := by
    rw [Nat.cast_natAbs, withSign]
    by_cases h : v < 0
    · simp [h, abs_of_neg]
    · simp [h, abs_of_nonneg (not_lt.mp h)]
  rw [habs] at hr
  simpa only [flRoundInt, hv, if_false] using hr

@[simp] theorem flRoundInt_zero (e : ℤ) (negZero : Bool) : flRoundInt 0 e negZero = flZero negZero := rfl

/-- An exact number that is an integer at an exponent: rounded once, and an exact zero takes the sign given. -/
theorem flRoundInt_spec {q : ℚ} {v e : ℤ} (negZero : Bool) (hq : q = v * 2 ^ e) :
    (q ≠ 0 → RoundsTo q (flRoundInt v e negZero)) ∧ (q = 0 → flRoundInt v e negZero = flZero negZero) := by
  have hzero : q = 0 ↔ v = 0 := by simp [hq, zpow_ne_zero]
  refine ⟨fun h => ?_, fun h => by rw [hzero.mp h]; rfl⟩
  have hqR : (q : ℝ) = v * 2 ^ e := by rw [hq]; push_cast; rfl
  rw [hqR]
  exact roundsTo_flRoundInt e negZero (hzero.not.mp h)

/-- The sum of two integers at their exponents. -/
theorem flSum_spec (u eu v ev : ℤ) : (u * 2 ^ eu + v * 2 ^ ev : ℚ) = (flSum u eu v ev).1 * 2 ^ (flSum u eu v ev).2 := by
  have key : ∀ a : ℤ, min eu ev ≤ a → (2 : ℚ) ^ (a - min eu ev).toNat * 2 ^ min eu ev = 2 ^ a := fun a ha => by
    rw [← zpow_natCast, Int.toNat_of_nonneg (by omega), ← zpow_add₀ two_ne_zero, sub_add_cancel]
  simp only [flSum]
  push_cast
  rw [add_mul, mul_assoc, mul_assoc, key eu (min_le_left _ _), key ev (min_le_right _ _)]

end Sys2Proof.Machine
end

section
/-!
PROOF. Binary32 patterns: finite ones, infinities and zeros, the two sign operations and the order of R94.
-/

namespace Sys2Proof.Machine

/-! ### Kinds of patterns -/

theorem isFin_iff (x : W32) : isFin x = true ↔ x.toNat / 2 ^ 23 % 256 ≠ 255 := bne_iff_ne

theorem isZero_iff (x : W32) : isZero x = true ↔ x.toNat / 2 ^ 23 % 256 = 0 := decide_eq_true_iff

theorem isNan_iff (x : W32) : isNan x = true ↔ x.toNat / 2 ^ 23 % 256 = 255 ∧ x.toNat % 2 ^ 23 ≠ 0 := by
  simp only [isNan, Bool.and_eq_true, decide_eq_true_eq, bne_iff_ne]

theorem isInf_iff (x : W32) : isInf x = true ↔ x.toNat / 2 ^ 23 % 256 = 255 ∧ x.toNat % 2 ^ 23 = 0 := by
  simp only [isInf, Bool.and_eq_true, decide_eq_true_eq]

theorem isNan_of_isFin {x : W32} (h : isFin x = true) : isNan x = false := by
  rw [isFin_iff] at h
  rw [Bool.eq_false_iff, ne_eq, isNan_iff]; omega

theorem isInf_of_isFin {x : W32} (h : isFin x = true) : isInf x = false := by
  rw [isFin_iff] at h
  rw [Bool.eq_false_iff, ne_eq, isInf_iff]; omega

theorem isFin_of_isZero {x : W32} (h : isZero x = true) : isFin x = true := by
  rw [isZero_iff] at h
  rw [isFin_iff]; omega

/-- What is not a NaN is an infinity or finite. -/
theorem isInf_or_isFin {x : W32} (h : isNan x = false) : isInf x = true ∨ isFin x = true := by
  rw [Bool.eq_false_iff, ne_eq, isNan_iff] at h
  rw [isInf_iff, isFin_iff]; omega

/-- There is one infinity of each sign. -/
theorem eq_flInf_of_isInf {x : W32} (h : isInf x = true) : x = flInf (isNeg x) := by
  obtain ⟨hexp, hfrac⟩ := (isInf_iff x).mp h
  have hx := x.isLt
  apply BitVec.eq_of_toNat_eq
  rw [isNeg_eq]
  by_cases hneg : 2 ^ 31 ≤ x.toNat
  · rw [decide_eq_true hneg]; show x.toNat = 0xFF800000; omega
  · rw [decide_eq_false hneg]; show x.toNat = 0x7F800000; omega

@[simp] theorem isInf_flInf (neg : Bool) : isInf (flInf neg) = true := by cases neg <;> decide
@[simp] theorem isNan_flInf (neg : Bool) : isNan (flInf neg) = false := by cases neg <;> decide
@[simp] theorem isZero_flInf (neg : Bool) : isZero (flInf neg) = false := by cases neg <;> decide
@[simp] theorem flush_flInf (neg : Bool) : flush (flInf neg) = flInf neg := by cases neg <;> decide

/-- The significand of a number that does not count as zero. -/
theorem flMant_ge {x : W32} (h : isZero x = false) : 2 ^ 23 ≤ flMant x := by simp [flMant, h]

theorem flMant_eq_zero_iff (x : W32) : flMant x = 0 ↔ isZero x = true := by
  cases h : isZero x
  · have := flMant_ge h
    simp only [Bool.false_eq_true, iff_false]; omega
  · simp [flMant, h]

theorem flInt_eq_zero_iff (x : W32) : flInt x = 0 ↔ isZero x = true := by
  rw [← flMant_eq_zero_iff, ← abs_eq_zero, abs_flInt, Nat.cast_eq_zero]

theorem flVal_eq_zero_iff (x : W32) : flVal x = 0 ↔ isZero x = true := by
  simp [flVal, flInt_eq_zero_iff, zpow_ne_zero]

/-! ### Flushing and turning the sign -/

/-- Patterns that differ in their sign alone have one exponent field and one fraction. -/
theorem fields_of_mod_eq {x y : W32} (h : x.toNat % 2 ^ 31 = y.toNat % 2 ^ 31) :
    x.toNat / 2 ^ 23 % 256 = y.toNat / 2 ^ 23 % 256 ∧ x.toNat % 2 ^ 23 = y.toNat % 2 ^ 23 := by omega

theorem xor_sign_mod (x : W32) : (x ^^^ 0x80000000).toNat % 2 ^ 31 = x.toNat % 2 ^ 31 := by
  rw [BitVec.toNat_xor, Nat.xor_mod_two_pow]
  simp

theorem isNeg_xor_sign (x : W32) : isNeg (x ^^^ 0x80000000) = !isNeg x := by
  rw [isNeg, BitVec.msb_xor, show (0x80000000 : W32).msb = true from rfl, Bool.xor_true]; rfl

/-- A flushed pattern is the pattern itself, or both count as zero. -/
theorem flush_cases (x : W32) : flush x = x ∨ isZero x = true ∧ flush x = flZero (isNeg x) := by
  by_cases h : isSub x = true
  · refine Or.inr ⟨?_, if_pos h⟩
    simp only [isSub, Bool.and_eq_true] at h
    exact h.1
  · exact Or.inl (if_neg h)

theorem isZero_flZero (neg : Bool) : isZero (flZero neg) = true := by cases neg <;> decide
theorem isNan_flZero (neg : Bool) : isNan (flZero neg) = false := by cases neg <;> decide

@[simp] theorem isNeg_flush (x : W32) : isNeg (flush x) = isNeg x := by
  obtain h | ⟨-, h⟩ := flush_cases x <;> simp [h]

@[simp] theorem isZero_flush (x : W32) : isZero (flush x) = isZero x := by
  obtain h | ⟨hz, h⟩ := flush_cases x
  · rw [h]
  · rw [h, hz, isZero_flZero]

@[simp] theorem isNan_flush (x : W32) : isNan (flush x) = isNan x := by
  obtain h | ⟨hz, h⟩ := flush_cases x
  · rw [h]
  · rw [h, isNan_flZero, isNan_of_isFin (isFin_of_isZero hz)]

@[simp] theorem isFin_flush (x : W32) : isFin (flush x) = isFin x := by
  obtain h | ⟨hz, h⟩ := flush_cases x
  · rw [h]
  · rw [h, isFin_of_isZero hz, isFin_of_isZero (isZero_flZero _)]

@[simp] theorem flVal_flush (x : W32) : flVal (flush x) = flVal x := by
  obtain h | ⟨hz, h⟩ := flush_cases x
  · rw [h]
  · rw [(flVal_eq_zero_iff x).mpr hz, flVal_eq_zero_iff, isZero_flush, hz]

/-- Turning the sign bit turns the sign of the number. -/
theorem flVal_xor_sign (x : W32) : flVal (x ^^^ 0x80000000) = -flVal x := by
  obtain ⟨hexp, hfrac⟩ := fields_of_mod_eq (xor_sign_mod x)
  have hzero : isZero (x ^^^ 0x80000000) = isZero x := by rw [Bool.eq_iff_iff, isZero_iff, isZero_iff, hexp]
  have hmant : flMant (x ^^^ 0x80000000) = flMant x := by simp only [flMant, hzero, hfrac]
  have hexp' : flExp (x ^^^ 0x80000000) = flExp x := by simp only [flExp, hexp]
  simp only [flVal, flInt, hmant, hexp', isNeg_xor_sign]
  cases isNeg x <;> simp

theorem flNeg_eq {x : W32} (h : isNan x = false) : flNeg x = flush x ^^^ 0x80000000 := by simp [flNeg, h]

theorem isNeg_flNeg {x : W32} (h : isNan x = false) : isNeg (flNeg x) = !isNeg x := by
  rw [flNeg_eq h, isNeg_xor_sign, isNeg_flush]

theorem flVal_flNeg {x : W32} (h : isNan x = false) : flVal (flNeg x) = -flVal x := by
  rw [flNeg_eq h, flVal_xor_sign, flVal_flush]

theorem isZero_flNeg {x : W32} (h : isNan x = false) : isZero (flNeg x) = isZero x := by
  rw [Bool.eq_iff_iff, ← flVal_eq_zero_iff, flVal_flNeg h, neg_eq_zero, flVal_eq_zero_iff]

theorem isFin_flNeg {x : W32} (h : isFin x = true) : isFin (flNeg x) = true := by
  obtain ⟨hexp, -⟩ := fields_of_mod_eq (xor_sign_mod (flush x))
  rw [flNeg_eq (isNan_of_isFin h), isFin_iff, hexp, ← isFin_iff, isFin_flush, h]

theorem flNeg_flInf (neg : Bool) : flNeg (flInf neg) = flInf !neg := by cases neg <;> decide

/-! ### The order of R94 -/

/-- The integer by which `flLt` orders a pattern. -/
def flKey (w : W32) : ℤ := if isNeg w then -((w.toNat % 2 ^ 31 : ℕ) : ℤ) - 1 else (w.toNat % 2 ^ 31 : ℕ)

theorem flLt_eq (x y : W32) : flLt x y = decide (flKey (flush x) < flKey (flush y)) := rfl

/-- Without their signs, patterns stand in the order of their magnitudes. -/
theorem magnitude_mono {x y : W32} (h : x.toNat % 2 ^ 31 ≤ y.toNat % 2 ^ 31) :
    (flMant x : ℚ) * 2 ^ flExp x ≤ flMant y * 2 ^ flExp y := by
  by_cases hx : isZero x = true
  · rw [(flMant_eq_zero_iff x).mpr hx, Nat.cast_zero, zero_mul]; positivity
  have hexpx := (isZero_iff x).not.mp hx
  have hy : isZero y = false := by rw [Bool.eq_false_iff, ne_eq, isZero_iff]; omega
  rcases eq_or_ne (x.toNat / 2 ^ 23 % 256) (y.toNat / 2 ^ 23 % 256) with heq | hne
  · have hmant : flMant x ≤ flMant y := by
      simp only [flMant, hx, hy, if_false, Bool.false_eq_true]; omega
    have hexp : flExp x = flExp y := by simp only [flExp, heq]
    rw [hexp]
    gcongr
  · have hexp : flExp x + 1 ≤ flExp y := by simp only [flExp]; omega
    calc (flMant x : ℚ) * 2 ^ flExp x ≤ 2 ^ 24 * 2 ^ flExp x := by
          gcongr; exact_mod_cast (flMant_lt x).le
      _ = 2 ^ 23 * 2 ^ (flExp x + 1) := by rw [zpow_add_one₀ two_ne_zero]; ring
      _ ≤ 2 ^ 23 * 2 ^ flExp y := by gcongr; exact one_le_two
      _ ≤ flMant y * 2 ^ flExp y := by gcongr; exact_mod_cast flMant_ge hy

/-- The order of the patterns is that of the numbers. -/
theorem flVal_mono_of_flKey_le {x y : W32} (h : flKey x ≤ flKey y) : flVal x ≤ flVal y := by
  have hx : (0 : ℚ) ≤ flMant x * 2 ^ flExp x := by positivity
  have hy : (0 : ℚ) ≤ flMant y * 2 ^ flExp y := by positivity
  cases hnx : isNeg x <;> cases hny : isNeg y <;>
    simp only [flKey, hnx, hny, if_true, if_false, Bool.false_eq_true] at h <;>
    simp only [flVal, flInt, hnx, hny, if_true, if_false, Bool.false_eq_true, Int.cast_neg, Int.cast_natCast, neg_mul]
  · exact magnitude_mono (by omega)
  · omega
  · linarith
  · exact neg_le_neg (magnitude_mono (by omega))

theorem flVal_le_of_flLt {x y : W32} (h : flLt x y = true) : flVal x ≤ flVal y := by
  rw [flLt_eq, decide_eq_true_iff] at h
  simpa using flVal_mono_of_flKey_le h.le

theorem flVal_le_of_not_flLt {x y : W32} (h : flLt x y = false) : flVal y ≤ flVal x := by
  rw [flLt_eq, decide_eq_false_iff_not, not_lt] at h
  simpa using flVal_mono_of_flKey_le h

/-- No number lies above +∞ or below −∞. -/
theorem flKey_flInf_false_le {x : W32} (h : isNan x = false) (hle : flKey (flInf false) ≤ flKey x) : x = flInf false := by
  have hkey : flKey (flInf false) = 0x7F800000 := by decide
  have hx := x.isLt
  rw [Bool.eq_false_iff, ne_eq, isNan_iff] at h
  rw [hkey, flKey, isNeg_eq] at hle
  apply BitVec.eq_of_toNat_eq
  show x.toNat = 0x7F800000
  split at hle
  · omega
  · next hneg => simp only [decide_eq_true_eq] at hneg; omega

theorem flKey_le_flInf_true {x : W32} (h : isNan x = false) (hle : flKey x ≤ flKey (flInf true)) : x = flInf true := by
  have hkey : flKey (flInf true) = -0x7F800001 := by decide
  have hx := x.isLt
  rw [Bool.eq_false_iff, ne_eq, isNan_iff] at h
  rw [hkey, flKey, isNeg_eq] at hle
  apply BitVec.eq_of_toNat_eq
  show x.toNat = 0xFF800000
  split at hle
  · next hneg => simp only [decide_eq_true_eq] at hneg; omega
  · omega

end Sys2Proof.Machine
end

section
/-!
PROOF. Addition, subtraction, multiplication, the fused form, and the lesser and the greater of two operands (R44, R94).
-/

namespace Sys2Proof.Machine

/-! ### Finite operands -/

theorem flAdd_of_isFin {x y : W32} (hx : isFin x = true) (hy : isFin y = true) :
    flAdd x y = flRoundInt (flSum (flInt x) (flExp x) (flInt y) (flExp y)).1 (flSum (flInt x) (flExp x) (flInt y) (flExp y)).2
      (isNeg x && isNeg y && isZero x && isZero y) := by
  simp [flAdd, isNan_of_isFin, isInf_of_isFin, hx, hy]

/-- A finite sum is rounded once; an exact zero is −0 only of two negative zeros. -/
theorem flAdd_spec {x y : W32} (hx : isFin x = true) (hy : isFin y = true) :
    (flVal x + flVal y ≠ 0 → RoundsTo (flVal x + flVal y : ℚ) (flAdd x y)) ∧
      (flVal x + flVal y = 0 → flAdd x y = flZero (isNeg x && isNeg y && isZero x && isZero y)) := by
  rw [flAdd_of_isFin hx hy]
  exact flRoundInt_spec _ (flSum_spec _ _ _ _)

theorem flSub_spec {x y : W32} (hx : isFin x = true) (hy : isFin y = true) :
    (flVal x - flVal y ≠ 0 → RoundsTo (flVal x - flVal y : ℚ) (flSub x y)) ∧
      (flVal x - flVal y = 0 → flSub x y = flZero (isNeg x && !isNeg y && isZero x && isZero y)) := by
  have hnan := isNan_of_isFin hy
  have h := flAdd_spec hx (isFin_flNeg hy)
  rwa [flVal_flNeg hnan, isNeg_flNeg hnan, isZero_flNeg hnan, ← sub_eq_add_neg] at h

theorem withSign_mul_withSign (a b : Bool) (s t : ℝ) : withSign a s * withSign b t = withSign (a != b) (s * t) := by
  cases a <;> cases b <;> simp [withSign]

/-- A finite product is rounded once; a zero has the sign of the product. -/
theorem flMul_spec {x y : W32} (hx : isFin x = true) (hy : isFin y = true) :
    (flVal x * flVal y ≠ 0 → RoundsTo (flVal x * flVal y : ℚ) (flMul x y)) ∧
      (flVal x * flVal y = 0 → flMul x y = flZero (isNeg x != isNeg y)) := by
  have hmul : flMul x y = flRound (isNeg x != isNeg y) (flMant x * flMant y) (flExp x + flExp y) false := by
    simp [flMul, isNan_of_isFin, isInf_of_isFin, hx, hy]
  have hzero : flVal x * flVal y = 0 ↔ flMant x * flMant y = 0 := by
    rw [mul_eq_zero, mul_eq_zero, flVal_eq_zero_iff, flVal_eq_zero_iff, flMant_eq_zero_iff, flMant_eq_zero_iff]
  rw [hmul]
  refine ⟨fun h => ?_, fun h => by simp [flRound, hzero.mp h]⟩
  have hval : ((flVal x * flVal y : ℚ) : ℝ) =
      withSign (isNeg x != isNeg y) (((flMant x * flMant y : ℕ) : ℝ) * 2 ^ (flExp x + flExp y)) := by
    push_cast
    rw [flVal_eq_withSign, flVal_eq_withSign, withSign_mul_withSign, zpow_add₀ two_ne_zero, mul_mul_mul_comm]
  rw [hval]
  exact roundsTo_flRound _ _ (hzero.not.mp h) rfl

/-- The fused form rounds the exact number once. -/
theorem flFma_spec {x y z : W32} (hx : isFin x = true) (hy : isFin y = true) (hz : isFin z = true) :
    (flVal x * flVal y + flVal z ≠ 0 → RoundsTo (flVal x * flVal y + flVal z : ℚ) (flFma x y z)) ∧
      (flVal x * flVal y + flVal z = 0 → flFma x y z =
        flZero ((isNeg x != isNeg y) && isNeg z && flVal x * flVal y = 0 && isZero z)) := by
  have hprod : decide (flVal x * flVal y = 0) = (isZero x || isZero y) := by
    rw [Bool.eq_iff_iff, decide_eq_true_iff, Bool.or_eq_true, mul_eq_zero, flVal_eq_zero_iff, flVal_eq_zero_iff]
  have hfma : flFma x y z = flRoundInt (flSum (flInt x * flInt y) (flExp x + flExp y) (flInt z) (flExp z)).1
      (flSum (flInt x * flInt y) (flExp x + flExp y) (flInt z) (flExp z)).2
      ((isNeg x != isNeg y) && isNeg z && (isZero x || isZero y) && isZero z) := by
    simp [flFma, isNan_of_isFin, isInf_of_isFin, hx, hy, hz]
  rw [hfma, hprod]
  refine flRoundInt_spec _ ?_
  rw [← flSum_spec, zpow_add₀ two_ne_zero]
  simp only [flVal]
  push_cast
  ring

theorem flVal_flMin {x y : W32} (hx : isNan x = false) (hy : isNan y = false) : flVal (flMin x y) = min (flVal x) (flVal y) := by
  cases h : flLt y x
  · simp [flMin, hx, hy, h, min_eq_left (flVal_le_of_not_flLt h)]
  · simp [flMin, hx, hy, h, min_eq_right (flVal_le_of_flLt h)]

theorem flVal_flMax {x y : W32} (hx : isNan x = false) (hy : isNan y = false) : flVal (flMax x y) = max (flVal x) (flVal y) := by
  cases h : flLt x y
  · simp [flMax, hx, hy, h, max_eq_left (flVal_le_of_not_flLt h)]
  · simp [flMax, hx, hy, h, max_eq_right (flVal_le_of_flLt h)]

/-! ### Infinite operands -/

theorem flAdd_flInf_left {y : W32} (b : Bool) (hy : isNan y = false) :
    flAdd (flInf b) y = if isInf y && b != isNeg y then qnan else flInf b := by
  simp [flAdd, hy]

theorem flAdd_flInf_right {y : W32} (b : Bool) (hy : isNan y = false) :
    flAdd y (flInf b) = if isInf y && b != isNeg y then qnan else flInf b := by
  cases hinf : isInf y
  · simp [flAdd, hy, hinf]
  · rw [eq_flInf_of_isInf hinf]
    generalize isNeg y = c
    cases b <;> cases c <;> rfl

theorem flSub_flInf {y : W32} (b : Bool) (hy : isNan y = false) :
    flSub (flInf b) y = if isInf y && b = isNeg y then qnan else flInf b := by
  obtain hinf | hfin := isInf_or_isFin hy
  · rw [eq_flInf_of_isInf hinf]
    generalize isNeg y = c
    cases b <;> cases c <;> rfl
  · have hfin' := isFin_flNeg hfin
    rw [flSub, flAdd_flInf_left b (isNan_of_isFin hfin'), isInf_of_isFin hfin', isInf_of_isFin hfin]
    rfl

theorem flMul_flInf {y : W32} (b : Bool) (hy : isNan y = false) :
    flMul (flInf b) y = (if isZero y then qnan else flInf (b != isNeg y)) ∧
      flMul y (flInf b) = (if isZero y then qnan else flInf (b != isNeg y)) := by
  have hcomm : (isNeg y != b) = (b != isNeg y) := bne_comm
  simp [flMul, hy, hcomm]

theorem flMin_flInf {y : W32} (b : Bool) (hy : isNan y = false) : flMin (flInf b) y = if b then flInf b else flush y := by
  have hy' : isNan (flush y) = false := by simpa using hy
  cases b
  · by_cases h : flKey (flush y) < flKey (flInf false)
    · simp [flMin, hy, flLt_eq, h]
    · simp [flMin, hy, flLt_eq, flKey_flInf_false_le hy' (not_lt.mp h)]
  · by_cases h : flKey (flush y) < flKey (flInf true)
    · rw [flKey_le_flInf_true hy' h.le] at h
      exact absurd h (lt_irrefl _)
    · simp [flMin, hy, flLt_eq, h]

theorem flMax_flInf {y : W32} (b : Bool) (hy : isNan y = false) : flMax (flInf b) y = if b then flush y else flInf b := by
  have hy' : isNan (flush y) = false := by simpa using hy
  cases b
  · by_cases h : flKey (flInf false) < flKey (flush y)
    · rw [flKey_flInf_false_le hy' h.le] at h
      exact absurd h (lt_irrefl _)
    · simp [flMax, hy, flLt_eq, h]
  · by_cases h : flKey (flInf true) < flKey (flush y)
    · simp [flMax, hy, flLt_eq, h]
    · simp [flMax, hy, flLt_eq, flKey_le_flInf_true hy' (not_lt.mp h)]

theorem flFma_flInf {y z : W32} (b : Bool) (hy : isNan y = false) (hz : isNan z = false) :
    flFma (flInf b) y z = (if isZero y || (isInf z && isNeg z != (b != isNeg y)) then qnan else flInf (b != isNeg y)) ∧
      flFma y (flInf b) z = flFma (flInf b) y z := by
  have hcomm : (isNeg y != b) = (b != isNeg y) := bne_comm
  constructor
  · cases hzero : isZero y <;> simp [flFma, hy, hz, hzero]
  · simp [flFma, hy, hz, hcomm]

theorem flFma_flInf_addend {y z : W32} (b : Bool) (hy : isFin y = true) (hz : isFin z = true) : flFma y z (flInf b) = flInf b := by
  simp [flFma, isNan_of_isFin, isInf_of_isFin, hy, hz]

end Sys2Proof.Machine
end

section
/-!
PROOF. The reciprocal and the reciprocal square root (R94), and conversions from and to integers (R42, R43, R94).
-/

namespace Sys2Proof.Machine

/-! ### The integer square root -/

theorem isqrtFrom_spec (n i r : ℕ) (hlo : r * r ≤ n) (hhi : n < (r + 2 ^ (i + 1)) * (r + 2 ^ (i + 1))) :
    isqrtFrom n i r * isqrtFrom n i r ≤ n ∧ n < (isqrtFrom n i r + 1) * (isqrtFrom n i r + 1) := by
  induction i generalizing r with
  | zero =>
    unfold isqrtFrom
    split
    · next h => exact ⟨h, hhi⟩
    · next h => exact ⟨hlo, not_le.mp h⟩
  | succ i ih =>
    unfold isqrtFrom
    split
    · next h =>
      refine ih _ h ?_
      rwa [add_assoc, ← two_mul, ← pow_succ']
    · next h => exact ih r hlo (not_le.mp h)

/-- `isqrt` is the integer square root. -/
theorem isqrt_spec (n : ℕ) : isqrt n * isqrt n ≤ n ∧ n < (isqrt n + 1) * (isqrt n + 1) := by
  refine isqrtFrom_spec n _ 0 (by omega) ?_
  calc n < 2 ^ (n.log2 + 1) := Nat.lt_log2_self
    _ ≤ 2 ^ ((n.log2 / 2 + 2) + (n.log2 / 2 + 2)) := Nat.pow_le_pow_right two_pos (by omega)
    _ = (0 + 2 ^ (n.log2 / 2 + 1 + 1)) * (0 + 2 ^ (n.log2 / 2 + 1 + 1)) := by rw [zero_add, pow_add]

/-! ### Reciprocals -/

/-- A quotient by the integer below it, with sticky where it is not whole. -/
theorem stands_div {a m : ℕ} (hm : 0 < m) (h : 2 ^ 24 ≤ a / m) : Stands (a / m) (a % m != 0) ((a : ℝ) / m) := by
  have hmR : (0 : ℝ) < m := by exact_mod_cast hm
  have hdiv := Nat.div_add_mod a m
  unfold Stands
  split
  · next hrem =>
    have hpos : 0 < a % m := Nat.pos_of_ne_zero (bne_iff_ne.mp hrem)
    have hlt := Nat.mod_lt a hm
    refine ⟨h, ?_, ?_⟩
    · rw [lt_div_iff₀ hmR]
      exact_mod_cast (by linarith : a / m * m < a)
    · rw [div_lt_iff₀ hmR]
      exact_mod_cast (by linarith : a < (a / m + 1) * m)
  · next hrem =>
    have hzero : a % m = 0 := by simpa using hrem
    exact (Nat.cast_div (Nat.dvd_of_mod_eq_zero hzero) hmR.ne').symm

theorem withSign_inv (neg : Bool) (t : ℝ) : (withSign neg t)⁻¹ = withSign neg t⁻¹ := by
  cases neg <;> simp [withSign, inv_neg]

/-- The reciprocal of a number that does not count as zero is rounded once. -/
theorem roundsTo_flRcp {x : W32} (hx : isFin x = true) (hz : isZero x = false) : RoundsTo ((flVal x : ℝ)⁻¹) (flRcp x) := by
  have hm := flMant_ge hz
  have hm' := flMant_lt x
  have hq : 2 ^ 24 ≤ 2 ^ 60 / flMant x := (Nat.le_div_iff_mul_le (by omega)).mpr (by omega)
  have hr := roundsTo_flRound (isNeg x) (-60 - flExp x) (by omega) (stands_div (by omega) hq)
  have hval : withSign (isNeg x) (((2 ^ 60 : ℕ) : ℝ) / flMant x * 2 ^ (-60 - flExp x)) = (flVal x : ℝ)⁻¹ := by
    have hpow : ((2 ^ 60 : ℕ) : ℝ) = 2 ^ (60 : ℤ) := by norm_num
    rw [flVal_eq_withSign, withSign_inv, hpow, zpow_sub₀ two_ne_zero, zpow_neg]
    congr 1
    field_simp
  rw [hval] at hr
  simpa only [flRcp, isNan_of_isFin hx, isInf_of_isFin hx, hz, if_false, Bool.false_eq_true] using hr

/-- A square root by the integer below it, with sticky where it is not whole. -/
theorem stands_isqrt {a m : ℕ} (hm : 0 < m) (h : 2 ^ 24 ≤ isqrt (a / m)) :
    Stands (isqrt (a / m)) (isqrt (a / m) * isqrt (a / m) * m != a) √((a : ℝ) / m) := by
  obtain ⟨hlo, hhi⟩ := isqrt_spec (a / m)
  rw [Nat.le_div_iff_mul_le hm] at hlo
  rw [Nat.div_lt_iff_lt_mul hm] at hhi
  generalize isqrt (a / m) = r at *
  have hmR : (0 : ℝ) < m := by exact_mod_cast hm
  unfold Stands
  split
  · next hne =>
    have hlt : r * r * m < a := lt_of_le_of_ne hlo (bne_iff_ne.mp hne)
    refine ⟨h, ?_, ?_⟩
    · rw [Real.lt_sqrt (by positivity), lt_div_iff₀ hmR, sq]
      exact_mod_cast hlt
    · rw [Real.sqrt_lt' (by positivity), div_lt_iff₀ hmR, sq]
      exact_mod_cast hhi
  · next heq =>
    have heq' : r * r * m = a := by simpa using heq
    rw [← heq']
    push_cast
    rw [mul_div_cancel_right₀ _ hmR.ne', Real.sqrt_mul_self (by positivity)]

/-- A number as an integer at an even exponent, as `flRsqrt` takes it. -/
theorem exists_even_exponent (x : W32) : ∃ m : ℕ, ∃ h : ℤ,
    (if flExp x % 2 = 1 then flMant x * 2 else flMant x) = m ∧ (if flExp x % 2 = 1 then flExp x - 1 else flExp x) = 2 * h ∧
      (flMant x : ℝ) * 2 ^ flExp x = m * 2 ^ (2 * h) ∧ flMant x ≤ m ∧ m ≤ flMant x * 2 := by
  split
  · next hodd =>
    refine ⟨_, (flExp x - 1) / 2, rfl, by omega, ?_, by omega, le_rfl⟩
    rw [show 2 * ((flExp x - 1) / 2) = flExp x - 1 by omega, zpow_sub_one₀ two_ne_zero]
    push_cast
    ring
  · next heven =>
    exact ⟨_, flExp x / 2, rfl, by omega, by rw [show 2 * (flExp x / 2) = flExp x by omega], le_rfl, by omega⟩

/-- The reciprocal square root of a positive number is rounded once. -/
theorem roundsTo_flRsqrt {x : W32} (hx : isFin x = true) (hz : isZero x = false) (hneg : isNeg x = false) :
    RoundsTo (√(flVal x : ℝ))⁻¹ (flRsqrt x) := by
  obtain ⟨m, h, hmant, hexp, hval, hlo, hhi⟩ := exists_even_exponent x
  have hm := flMant_ge hz
  have hm' := flMant_lt x
  have hq : 2 ^ 95 ≤ 2 ^ 120 / m := (Nat.le_div_iff_mul_le (by omega)).mpr (by omega)
  have hr : 2 ^ 24 ≤ isqrt (2 ^ 120 / m) := by
    by_contra hlt
    have : (isqrt (2 ^ 120 / m) + 1) * (isqrt (2 ^ 120 / m) + 1) ≤ 2 ^ 24 * 2 ^ 24 := Nat.mul_le_mul (by omega) (by omega)
    have := (isqrt_spec (2 ^ 120 / m)).2
    omega
  have hround := roundsTo_flRound false (-60 - h) (by omega) (stands_isqrt (by omega) hr)
  have hroot : withSign false (√(((2 ^ 120 : ℕ) : ℝ) / m) * 2 ^ (-60 - h)) = (√(flVal x : ℝ))⁻¹ := by
    have hpow : (2 : ℝ) ^ (2 * h) = (2 ^ h) ^ 2 := by rw [mul_comm, zpow_mul]; rfl
    have hnum : ((2 ^ 120 : ℕ) : ℝ) = (2 ^ 60) ^ 2 := by norm_num
    have hmR : √(m : ℝ) ≠ 0 := Real.sqrt_ne_zero'.mpr (by exact_mod_cast (by omega : 0 < m))
    rw [flVal_eq_withSign, hneg, hval, hpow]
    simp only [withSign, if_false, Bool.false_eq_true]
    rw [hnum, Real.sqrt_div (by positivity), Real.sqrt_sq (by positivity), Real.sqrt_mul (by positivity),
      Real.sqrt_sq (by positivity), zpow_sub₀ two_ne_zero, zpow_neg]
    field_simp
  rw [hroot] at hround
  have hhalf : 2 * h / 2 = h := by omega
  simpa only [flRsqrt, isNan_of_isFin hx, isInf_of_isFin hx, hz, hneg, if_false, Bool.false_eq_true, decide_eq_true_eq, hmant, hexp, hhalf]
    using hround

/-! ### Conversions -/

theorem toInt_ne_zero {n : W32} (hn : n ≠ 0) : n.toInt ≠ 0 := fun h => hn ((BitVec.toInt_inj (y := (0 : W32))).mp h)

/-- int32 to binary32 is rounded once. -/
theorem roundsTo_flOfInt {n : W32} (hn : n ≠ 0) : RoundsTo n.toInt (flOfInt n) := by
  have h := roundsTo_flRoundInt 0 false (toInt_ne_zero hn)
  rwa [zpow_zero, mul_one] at h

/-- `natRound` gives the nearest integer, ties to even. -/
theorem nearestEven_natRound (m : ℕ) (e : ℤ) : NearestEven (m * 2 ^ e) (natRound m e) := by
  by_cases he : 0 ≤ e
  · have : (m : ℝ) * 2 ^ e = ((natRound m e : ℕ) : ℝ) := by
      rw [natRound, if_pos he]
      push_cast
      rw [← zpow_natCast, Int.toNat_of_nonneg he]
    rw [this]
    exact nearestEven_self _
  · obtain ⟨k, hk⟩ : ∃ k : ℕ, e = -k := ⟨(-e).toNat, by omega⟩
    have hk0 : k ≠ 0 := by omega
    have hround : natRound m e = roundSig m k false := by
      rw [natRound, if_neg he, hk]
      simp only [roundSig, if_neg hk0, neg_neg, Int.toNat_natCast, Bool.false_or]
    rw [hround, hk, zpow_neg, zpow_natCast, ← div_eq_mul_inv]
    exact nearestEven_roundSig hk0 le_rfl (by linarith) (by simp)

/-- A number below 2^31 that `flToInt` rounds stays below it: from 2^24 on it is an integer. -/
theorem natRound_lt {x : W32} (h : (flMant x : ℝ) * 2 ^ flExp x < 2 ^ 31) : natRound (flMant x) (flExp x) < 2 ^ 31 := by
  by_cases he : 0 ≤ flExp x
  · rw [natRound, if_pos he]
    have hcast : ((flMant x * 2 ^ (flExp x).toNat : ℕ) : ℝ) < 2 ^ 31 := by
      rwa [Nat.cast_mul, Nat.cast_pow, Nat.cast_ofNat, ← zpow_natCast, Int.toNat_of_nonneg he]
    exact_mod_cast hcast
  · have hsmall : (flMant x : ℝ) * 2 ^ flExp x ≤ 2 ^ 24 * 1 := by
      gcongr
      · exact_mod_cast (flMant_lt x).le
      · exact zpow_le_one_of_nonpos₀ one_le_two (by omega)
    have hr := (abs_le.mp (nearestEven_natRound (flMant x) (flExp x)).1).2
    have : ((natRound (flMant x) (flExp x) : ℕ) : ℝ) < ((2 ^ 31 : ℕ) : ℝ) := by push_cast; linarith
    exact_mod_cast this

/-- Of a finite number, `flToInt` saturates the signed nearest integer. -/
theorem flToInt_of_isFin {x : W32} (hx : isFin x = true) :
    flToInt x = if isNeg x then (if natRound (flMant x) (flExp x) ≥ 2 ^ 31 then 0x80000000
        else BitVec.ofInt 32 (-(natRound (flMant x) (flExp x) : ℤ)))
      else if natRound (flMant x) (flExp x) ≥ 2 ^ 31 then 0x7FFFFFFF else BitVec.ofNat 32 (natRound (flMant x) (flExp x)) := by
  simp [flToInt, isNan_of_isFin hx, isInf_of_isFin hx]

/-- The nearest integer of a magnitude of 2^31 or more is 2^31 or more. -/
theorem NearestEven.two_pow_31_le {s : ℝ} {q : ℕ} (h : NearestEven s q) (hs : 2 ^ 31 ≤ s) : 2 ^ 31 ≤ q := by
  have hr := (abs_le.mp h.1).1
  have : ((2 ^ 31 : ℕ) : ℝ) < ((q + 1 : ℕ) : ℝ) := by push_cast; linarith
  exact Nat.lt_succ_iff.mp (by exact_mod_cast this)

theorem NearestEven.le_two_pow_31 {s : ℝ} {q : ℕ} (h : NearestEven s q) (hs : s ≤ 2 ^ 31) : q ≤ 2 ^ 31 := by
  have hr := (abs_le.mp h.1).2
  have : (q : ℝ) < ((2 ^ 31 + 1 : ℕ) : ℝ) := by push_cast; linarith
  exact Nat.lt_succ_iff.mp (by exact_mod_cast this)

theorem flToInt_of_ge {x : W32} (hx : isFin x = true) (h : 2 ^ 31 ≤ flVal x) : flToInt x = 0x7FFFFFFF := by
  have hR : (2 : ℝ) ^ 31 ≤ (flVal x : ℚ) := by exact_mod_cast h
  have hpos : (0 : ℝ) ≤ flMant x * 2 ^ flExp x := by positivity
  rw [flVal_eq_withSign] at hR
  cases hneg : isNeg x <;> simp only [hneg, withSign, if_true, if_false, Bool.false_eq_true] at hR
  · rw [flToInt_of_isFin hx, hneg, if_neg Bool.false_ne_true, if_pos ((nearestEven_natRound _ _).two_pow_31_le hR)]
  · linarith

theorem flToInt_of_lt {x : W32} (hx : isFin x = true) (h : flVal x < -2 ^ 31) : flToInt x = 0x80000000 := by
  have hR : ((flVal x : ℚ) : ℝ) < -2 ^ 31 := by exact_mod_cast h
  have hpos : (0 : ℝ) ≤ flMant x * 2 ^ flExp x := by positivity
  rw [flVal_eq_withSign] at hR
  cases hneg : isNeg x <;> simp only [hneg, withSign, if_true, if_false, Bool.false_eq_true] at hR
  · linarith
  · rw [flToInt_of_isFin hx, hneg, if_pos rfl, if_pos ((nearestEven_natRound _ _).two_pow_31_le (by linarith))]

/-- Inside int32, `flToInt` gives the signed nearest integer. -/
theorem toInt_flToInt {x : W32} (hx : isFin x = true) (hlo : -2 ^ 31 ≤ flVal x) (hhi : flVal x < 2 ^ 31) :
    (flToInt x).toInt = if isNeg x then -(natRound (flMant x) (flExp x) : ℤ) else natRound (flMant x) (flExp x) := by
  have hloR : -(2 : ℝ) ^ 31 ≤ (flVal x : ℚ) := by exact_mod_cast hlo
  have hhiR : ((flVal x : ℚ) : ℝ) < 2 ^ 31 := by exact_mod_cast hhi
  rw [flVal_eq_withSign] at hloR hhiR
  rw [flToInt_of_isFin hx]
  cases hneg : isNeg x <;> simp only [hneg, withSign, if_true, if_false, Bool.false_eq_true] at hloR hhiR ⊢
  · have hlt := natRound_lt hhiR
    generalize natRound (flMant x) (flExp x) = n at *
    rw [if_neg (by omega), BitVec.toInt_eq_toNat_bmod, BitVec.toNat_ofNat, Int.bmod_def]
    omega
  · have hle := (nearestEven_natRound (flMant x) (flExp x)).le_two_pow_31 (by linarith)
    generalize natRound (flMant x) (flExp x) = n at *
    split
    · rw [show n = 2 ^ 31 by omega]; rfl
    · rw [BitVec.toInt_ofInt, Int.bmod_def]
      omega

/-- Inside int32, `flToInt` rounds to nearest, ties to even. -/
theorem flToInt_nearest {x : W32} (hx : isFin x = true) (hlo : -2 ^ 31 ≤ flVal x) (hhi : flVal x < 2 ^ 31) :
    |((flToInt x).toInt : ℚ) - flVal x| ≤ 1 / 2 ∧
      (|((flToInt x).toInt : ℚ) - flVal x| = 1 / 2 → (flToInt x).toInt % 2 = 0) := by
  obtain ⟨hhalf, heven⟩ := nearestEven_natRound (flMant x) (flExp x)
  have hdist : ((|((flToInt x).toInt : ℚ) - flVal x| : ℚ) : ℝ) =
      |(natRound (flMant x) (flExp x) : ℝ) - flMant x * 2 ^ flExp x| := by
    push_cast
    rw [toInt_flToInt hx hlo hhi, flVal_eq_withSign, abs_sub_withSign]
    cases isNeg x <;> simp [withSign]
  rw [← hdist] at hhalf heven
  refine ⟨Rat.cast_le.mp (by rwa [show ((1 / 2 : ℚ) : ℝ) = 1 / 2 by norm_num]), fun h => ?_⟩
  have := heven (by rw [h]; norm_num)
  rw [toInt_flToInt hx hlo hhi]
  split <;> omega

/-- An S16 scale is its significand at its exponent (R40). -/
theorem s16_value (s : W16) : ((if s.msb then -1 else 1 : ℝ) * (1 + fld (s.zeroExtend 32) 8 0 / 512) *
    2 ^ ((fld (s.zeroExtend 32) 14 9 : ℤ) - 31)) = s16Mant s * (2 : ℝ) ^ s16Exp s := by
  have hlt := s.isLt
  have hfrac : fld (s.zeroExtend 32) 8 0 = s.toNat % 512 := by
    rw [fld, BitVec.toNat_setWidth]; omega
  have hexp : fld (s.zeroExtend 32) 14 9 = s.toNat / 512 % 64 := by
    rw [fld, BitVec.toNat_setWidth]; omega
  have hpow : (2 : ℝ) ^ (((s.toNat / 512 % 64 : ℕ) : ℤ) - 31) = 2 ^ s16Exp s * 512 := by
    rw [show ((s.toNat / 512 % 64 : ℕ) : ℤ) - 31 = s16Exp s + 9 by unfold s16Exp; ring, zpow_add₀ two_ne_zero]
    norm_num
  rw [hfrac, hexp, hpow, s16Mant]
  generalize s.toNat % 512 = f
  cases s.msb <;> simp only [if_true, if_false, Bool.false_eq_true] <;> push_cast <;> ring

theorem s16Mant_ne_zero (s : W16) : s16Mant s ≠ 0 := by
  unfold s16Mant
  dsimp only
  split <;> omega

/-- A conversion of an element with both flags clear rounds the exact number once (R42). -/
theorem roundsTo_convert {a : Acc} (texp : BitVec 8) (s : W16) (hovf : a.ovf = false) (hpoi : a.poi = false) (hval : a.val ≠ 0) :
    RoundsTo (a.val.toInt * 2 ^ (texp.toInt - 14) * ((if s.msb then -1 else 1) * (1 + fld (s.zeroExtend 32) 8 0 / 512) *
      2 ^ ((fld (s.zeroExtend 32) 14 9 : ℤ) - 31))) (convert a texp s) := by
  have h := roundsTo_flRoundInt (texp.toInt - 14 + s16Exp s) s.msb (mul_ne_zero (toInt_ne_zero hval) (s16Mant_ne_zero s))
  have hexact : ((a.val.toInt * s16Mant s : ℤ) : ℝ) * 2 ^ (texp.toInt - 14 + s16Exp s) =
      a.val.toInt * 2 ^ (texp.toInt - 14) * (s16Mant s * 2 ^ s16Exp s) := by
    rw [zpow_add₀ two_ne_zero]
    push_cast
    ring
  rw [hexact] at h
  rw [s16_value, convert, hovf, hpoi]
  exact h

/-- Settles O12: finite results by the one rounding lemma of each operation, infinite operands by their tables. -/
theorem binaryValues : Obligations.BinaryValues := by
  unfold Obligations.BinaryValues
  refine ⟨fun x y hx hy => ⟨(flAdd_spec hx hy).1, (flAdd_spec hx hy).2, (flSub_spec hx hy).1, (flSub_spec hx hy).2, (flMul_spec hx hy).1,
      (flMul_spec hx hy).2, fun z hz => flFma_spec hx hy hz, flVal_flMin (isNan_of_isFin hx) (isNan_of_isFin hy),
      flVal_flMax (isNan_of_isFin hx) (isNan_of_isFin hy)⟩,
    fun x y hx hy => ?_, fun x hx hz => ⟨roundsTo_flRcp hx hz, roundsTo_flRsqrt hx hz, fun hneg => ?_⟩, fun x hz => ?_, fun x hx => ?_,
    ⟨rfl, fun n hn => roundsTo_flOfInt hn⟩, fun x hx => ?_,
    fun x hx => ⟨flToInt_of_ge hx, flToInt_of_lt hx, flToInt_nearest hx⟩, fun a texp s h => ?_,
    fun a texp s hovf hpoi => ⟨fun hval => ?_, roundsTo_convert texp s hovf hpoi⟩⟩
  · generalize hb : isNeg x = b
    obtain rfl : x = flInf b := hb ▸ eq_flInf_of_isInf hx
    exact ⟨flAdd_flInf_left b hy, flAdd_flInf_right b hy, flSub_flInf b hy, (flMul_flInf b hy).1, (flMul_flInf b hy).2, flMin_flInf b hy,
      flMax_flInf b hy, fun z hz => ⟨(flFma_flInf b hy hz).1, (flFma_flInf b hy hz).2, flFma_flInf_addend b⟩⟩
  · simp [flRsqrt, isNan_of_isFin hx, hz, hneg]
  · have hfin := isFin_of_isZero hz
    simp [flRcp, flRsqrt, isNan_of_isFin hfin, isInf_of_isFin hfin, hz]
  · rw [eq_flInf_of_isInf hx]
    cases isNeg x <;> decide
  · rw [eq_flInf_of_isInf hx]
    cases isNeg x <;> decide
  · rw [convert, if_pos (by simpa using h)]
  · simp [convert, hovf, hpoi, hval]

end Sys2Proof.Machine
end
